-- ==== Sys2Proof/Word.lean ====
section
/-! DEFINITION. The word types of the block and their plainest names. -/

namespace Sys2Proof

/-- A byte of the window, of a record or of a packet (00 R9). -/
abbrev Byte := BitVec 8

/-- A 32-bit register word (05 R108). -/
abbrev Word := BitVec 32

/-- The 64 bits of an IEEE 754 binary64 value, or of an 8-byte encoding (00 R10, 13 R359). -/
abbrev F64 := BitVec 64

/-- One bit as a number. -/
def b2n (b : Bool) : Nat := if b then 1 else 0

end Sys2Proof
end

