-- ==== Sys2Proof/Machine/Table.lean ====
section
/-! DEFINITION. Sparse tables in ONE canonical form: keys strictly rising, and no entry equal to what an
unlisted key reads as, so that equal tables are equal data. Every per-item piece of State and every
memory is such a table. -/

namespace Sys2Proof.Machine

/-- A sparse table from item numbers to values. -/
abbrev Tab (α : Type) := List (Nat × α)

/-- What item `k` holds; an unlisted item holds `d`. -/
def Tab.get {α : Type} (t : Tab α) (d : α) (k : Nat) : α :=
  match t with
  | [] => d
  | (j, v) :: r => if j = k then v else Tab.get r d k

/-- The table without item `k`. -/
def Tab.del {α : Type} (t : Tab α) (k : Nat) : Tab α :=
  match t with
  | [] => []
  | (j, v) :: r => if j = k then Tab.del r k else (j, v) :: Tab.del r k

/-- The table with item `k` listed as `v`. -/
def Tab.ins {α : Type} (t : Tab α) (k : Nat) (v : α) : Tab α :=
  match t with
  | [] => [(k, v)]
  | (j, w) :: r => if j = k then (k, v) :: r else if k < j then (k, v) :: (j, w) :: r else (j, w) :: Tab.ins r k v

/-- Writes `v` to item `k`; writing what an unlisted item holds removes the entry. -/
def Tab.set {α : Type} [DecidableEq α] (t : Tab α) (d : α) (k : Nat) (v : α) : Tab α :=
  if v = d then Tab.del t k else Tab.ins t k v

/-- Changes item `k` by `f`. -/
def Tab.upd {α : Type} [DecidableEq α] (t : Tab α) (d : α) (k : Nat) (f : α → α) : Tab α :=
  Tab.set t d k (f (Tab.get t d k))

/-- Changes every listed item by `f`. -/
def Tab.mapAll {α : Type} [DecidableEq α] (t : Tab α) (d : α) (f : Nat → α → α) : Tab α :=
  t.foldr (fun kv acc => Tab.set acc d kv.1 (f kv.1 kv.2)) []

/-- Changes the items of a list of numbers, in that order. -/
def Tab.updMany {α : Type} [DecidableEq α] (t : Tab α) (d : α) (ks : List Nat) (f : Nat → α → α) : Tab α :=
  ks.foldl (fun acc k => Tab.set acc d k (f k (Tab.get acc d k))) t

/-- The canonical form: keys strictly above `lo` and rising, no entry equal to `d`. -/
def Tab.wfFrom {α : Type} [DecidableEq α] (d : α) : Option Nat → Tab α → Bool
  | _, [] => true
  | lo, (j, v) :: r => (match lo with | none => true | some l => decide (l < j)) && decide (v ≠ d) && Tab.wfFrom d (some j) r

/-- The table is in canonical form. -/
def Tab.wf {α : Type} [DecidableEq α] (d : α) (t : Tab α) : Bool := Tab.wfFrom d none t

end Sys2Proof.Machine
end

