-- ==== Sys2Proof/Machine/Types.lean ====
section
/-! DEFINITION. The plain data types of the block's items: what one channel, one stage, one instance, one
point, one object or one peer holds. State.lean gathers them; Syntax.lean uses some as operands. -/

namespace Sys2Proof.Machine

/-- The twelve modes (03 R58), in the order of their numbers. -/
inductive Mode where
  | reset | boot | unconfigured | configured | checking | active | standby | handover | degraded | safeHold | service | lockout
deriving DecidableEq, Repr

/-- The number of a mode (03 R58). -/
def Mode.num : Mode → Nat
  | .reset => 0 | .boot => 1 | .unconfigured => 2 | .configured => 3 | .checking => 4 | .active => 5
  | .standby => 6 | .handover => 7 | .degraded => 8 | .safeHold => 9 | .service => 10 | .lockout => 11

/-- What started a check (04 R93, R105 ORIGIN). -/
inductive Origin where
  | none | enable | autostart | restart | safeHoldLeave | progStage
deriving DecidableEq, Repr

def Origin.num : Origin → Nat
  | .none => 0 | .enable => 1 | .autostart => 2 | .restart => 3 | .safeHoldLeave => 4 | .progStage => 5

/-- Quality of a value, with the codes of 14 R392. -/
inductive Qual where
  | good | uncertain | bad | forced | stale
deriving DecidableEq, Repr

def Qual.num : Qual → Nat
  | .good => 0 | .uncertain => 1 | .bad => 2 | .forced => 3 | .stale => 4

/-- BAD above STALE above UNCERTAIN above GOOD, FORCED counted as GOOD (11 R286, 08 R197). -/
def Qual.rank : Qual → Nat
  | .good => 0 | .forced => 0 | .uncertain => 1 | .stale => 2 | .bad => 3

/-- The higher-ranked of two qualities; the first when they rank alike. -/
def Qual.worst (a b : Qual) : Qual := if a.rank < b.rank then b else a

/-- A quality as a block's output carries it: FORCED counts as GOOD (13 R365). -/
def Qual.plain (q : Qual) : Qual := if q = .forced then .good else q

/-- The latched straps (03 R71): levels as latched on leaving RESET; `coldN` is the pin COLD#. -/
structure Straps where
  almsel : Bool
  unitId : Nat
  hostsel : Bool
  bootsel : Bool
  coldN : Bool
deriving DecidableEq, Repr

/-- One configuration record (04 R86): header fields, offset of the header in the image, body. -/
structure Rec where
  ty : Nat
  idx : Nat
  flags : Nat
  off : Nat
  len : Nat
  body : List Byte
deriving DecidableEq, Repr

/-- One directory word (05 R122). -/
structure Dir where
  dev : Bool
  kind : Nat
  gen : Nat
deriving DecidableEq, Repr

/-- One result slot (06 R134). STATE 0 EMPTY, 1 PENDING, 2 READY. -/
structure Slot where
  tag : Nat
  st : Nat
  status : Nat
  detail : Nat
  mode : Nat
  frameNo : Nat
  result : List Byte
deriving DecidableEq, Repr

def Slot.empty : Slot := { tag := 0, st := 0, status := 0, detail := 0, mode := 0, frameNo := 0, result := [] }

/-- The host commands, in the order of their opcodes (06 R146). -/
inductive Op where
  | nop | identify | getMode | cfgOpen | cfgLoad | cfgClose | cfgReadback | enable | disable | restart
  | safeHoldEnter | safeHoldLeave | serviceEnter | serviceLeave
  | pointRead | pointWrite | pointSubscribe | pointUnsubscribe | alarmAck | trendRead
  | forceSet | forceClear | forceList | valueChange | progStage | handoverRequest | groupStatus
  | captureArm | captureRead | injectStart | injectStop | learnControl | loopMode | stopQueueEdit | pfArm
  | testReport | faultLogRead | calReport | fwStage | fwActivate | busPortCtrl | nodeTableRead
  | safetyStatus | safetyReset
deriving DecidableEq, Repr

/-- How far a command past acceptance has come. `due`: waits for the tick (kind T); `wait`: waits for its
copy; `copying`: its copy runs; `long`: waits for the event the opcode names (06 R140). `work`: a kind-T
command whose effect goes on past its tick (14 R396 ALARM_ACK). -/
inductive Phase where
  | due | wait | copying | long | work
deriving DecidableEq, Repr

/-- A command in progress, past acceptance (06 R139, R127): its parameters from layout byte 8 on, whether
they stand in a segment, the segments it holds, the count `num` its effect keeps (records still to
acknowledge, bytes), and the answer gathered so far. -/
structure Cmd where
  op : Op
  tag : Nat
  target : Nat
  par : List Byte
  inSeg : Bool
  segs : List Nat
  ph : Phase
  num : Nat
  ans : Nat
deriving DecidableEq, Repr

/-- One force (06 R149): kind 1 DI, 2 AI, 3 variable, 4 DO, 5 AO. -/
structure Force where
  kind : Nat
  item : Nat
  value : F64
deriving DecidableEq, Repr

/-- One target of the host event controller (07 R170). `rank` holds the deliverable sources that the latest
arbitration found, best first, with their priorities, less those that changed since (R161); `best` is its
winner (HEC_BEST). -/
structure Target where
  claimedSrc : Nat
  claimedPrio : Nat
  seq : Nat
  threshold : Nat
  modUs : Nat
  sleep : Bool
  faultWritten : Nat
  faultTop : Nat
  faultCount : Nat
  stack : List (Nat × Nat)
  rank : List (Nat × Nat)
  best : Nat
  bestPrio : Nat
  req : Bool
  soft : BitVec 8
  pen : BitVec 8
  pprio : Word
  window : Option Nat
deriving DecidableEq, Repr

/-- A target at its reset values (07 R168, R170). -/
def Target.init : Target :=
  { claimedSrc := 0, claimedPrio := 0, seq := 0, threshold := 0, modUs := 0, sleep := false, faultWritten := 0,
    faultTop := 0, faultCount := 0, stack := [], rank := [], best := 0, bestPrio := 0, req := false,
    soft := 0, pen := 0, pprio := 0x33335260#32, window := none }

/-- A digital input filter (08 R174, R176). -/
structure Filt where
  count : Nat
  state : Bool
  stamp : Nat
deriving DecidableEq, Repr

def Filt.init : Filt := { count := 0, state := false, stamp := 0 }

/-- The test of one input fed by a generator (08 R178, R179): a standing failure with the passes since, and
the run and the longest run of raw 0 samples in the pulse now running. -/
structure TpTest where
  failing : Bool
  passes : Nat
  run : Nat
  best : Nat
deriving DecidableEq, Repr

def TpTest.init : TpTest := { failing := false, passes := 0, run := 0, best := 0 }

/-- A test-pulse generator (08 R177-R180): running, output off in a pulse, start of the previous pulse, end
of the hold of its inputs' filters, output fault, its DIAG_TP_FAULT bit, and that the pulse running began before the
fault. -/
structure TpGen where
  on : Bool
  pulse : Bool
  prev : Option Nat
  from_ : Nat
  holdEnd : Nat
  fault : Bool
  faultPasses : Nat
  flag : Bool
  skip : Bool
deriving DecidableEq, Repr

def TpGen.init : TpGen :=
  { on := false, pulse := false, prev := none, from_ := 0, holdEnd := 0, fault := false, faultPasses := 0, flag := false, skip := false }

/-- One DO channel on the field side (08 R182-R189): the command in force (for PWM the duty, in binary64) with
the instant since when it is ON or OFF, the duty of the running PWM period, held off by an overload with the
retries done, latched-off release waiting (0 none, 1 for the tick, t + 2 since the tick at T10 count t), dark test running,
readback-low or EXT_FEED condition standing, last value applied in a driven mode (HOLD). -/
structure DoCh where
  cmd : F64
  since : Nat
  period : F64
  held : Bool
  retries : Nat
  latchOff : Bool
  release : Nat
  dark : Bool
  ext : Bool
  last : F64
deriving DecidableEq, Repr

def DoCh.init : DoCh :=
  { cmd := 0, since := 0, period := 0, held := false, retries := 0, latchOff := false, release := 0, dark := false,
    ext := false, last := 0 }

/-- The field supply of one DO group (08 R190-R192): LOW, MISSING, ACK_WAIT, an acknowledgement waiting for
the tick, gate drives off until the next apply (`off`), which may end from the instant `from_` on. -/
structure DoGroup where
  low : Bool
  missing : Bool
  ackWait : Bool
  ackReq : Bool
  off : Bool
  from_ : Nat
deriving DecidableEq, Repr

def DoGroup.init : DoGroup := { low := false, missing := false, ackWait := false, ackReq := false, off := false, from_ := 0 }

/-- One AI channel (09 R209-R212): latest result with its stamp, the results completed since the previous
tick, the latched value with its stamp, class 0 normal, 1 out of range, 2 loop fault, shunt path open,
UNCERTAIN during a decision (R217). -/
structure AiCh where
  value : F64
  stamp : Nat
  recent : List (F64 × Nat)
  latched : F64
  latchedStamp : Nat
  cls : Nat
  shuntOpen : Bool
  uncertain : Bool
deriving DecidableEq, Repr

def AiCh.init : AiCh :=
  { value := 0, stamp := 0, recent := [], latched := 0, latchedStamp := 0, cls := 0, shuntOpen := false, uncertain := false }

/-- Calibration of one converter or readback SAR (09 R215, 18 R538). -/
structure Cal where
  offset : Int
  z : Int
  h : Int
  u : Int
  i : Int
  passed : Bool
  iFailed : Bool
  iFails : Nat
  calFrame : Nat
  calCount : Nat
  retired : Bool
deriving DecidableEq, Repr

/-- A converter never calibrated: nominal codes (09 R215, worked example). -/
def Cal.init : Cal :=
  { offset := 0, z := 0, h := 3355443, u := 6710886, i := 3355443, passed := false, iFailed := false, iFails := 0,
    calFrame := 0, calCount := 0, retired := false }

/-- The step of a bank's rotation (09 R213-R218): none; comparing the spare with the working converter of a
position; waiting for the takeover tick; measuring references; deciding which converter is wrong;
reconnecting before the takeover of a wrong converter; waiting for the takeover tick of a wrong converter. -/
inductive RotPhase where
  | idle | compare | takeover | measure | decide | reconnect | retireOld
deriving DecidableEq, Repr

/-- One AI bank, or one AO bank's readback (09 R213, R226): converter of each position, the spare (the
Blotter), the step in progress, its position, conversions discarded and compared, the running sum of
differences, the latest result of each side with its stamp, converter under measurement, reference fault,
passes towards its end, next step number, steps completed since BOOT. -/
structure RotBank where
  assign : List Nat
  spare : Option Nat
  ph : RotPhase
  pos : Nat
  discard : Nat
  done : Nat
  sum : F64
  oldV : F64
  oldT : Nat
  newV : F64
  newT : Nat
  measuring : Option Nat
  restore : Option Nat
  step : Nat
  refFault : Bool
  refPass : Nat
  lastIFail : Bool
  count : Nat
deriving DecidableEq, Repr

/-- A new AI bank: Cp on position p, C8 as Blotter (09 R212). -/
def RotBank.ai : RotBank :=
  { assign := [0, 1, 2, 3, 4, 5, 6, 7], spare := some 8, ph := .idle, pos := 0, discard := 0, done := 0, sum := 0, oldV := 0,
    oldT := 0, newV := 0, newT := 0, measuring := none, restore := none, step := 0, refFault := false, refPass := 0, lastIFail := false, count := 0 }

/-- A new AO bank: SAR p on position p, SAR 4 spare (09 R226). -/
def RotBank.ao : RotBank := { RotBank.ai with assign := [0, 1, 2, 3], spare := some 4 }

/-- One AO channel (09 R221-R230): stored mode (true SINK), the level in force with its 18-bit setting and the instant since when,
cutoff open by MISMATCH and the tick from whose following apply it may close, live readback (mean of the
100 us before) and SAT, the readback latched at the tick, the run counts of counting ticks, COMPLIANCE and
MISMATCH with host writes that wait for the tick, spare SAR paralleled. -/
structure AoCh where
  sink : Bool
  level : F64
  setting : BitVec 18
  since : Nat
  cutOpen : Bool
  cutFrom : Nat
  rbLive : F64
  satLive : Bool
  readback : F64
  lowSatRun : Nat
  diffRun : Nat
  highRun : Nat
  nearRun : Nat
  compliance : Bool
  compClear : Bool
  mismatch : Bool
  misClear : Bool
  parallel : Bool
deriving DecidableEq, Repr

/-- A new channel stores SINK (09 R222); before an image it delivers its strap level. -/
def AoCh.init : AoCh :=
  { sink := true, level := 0, setting := 0, since := 0, cutOpen := false, cutFrom := 0, rbLive := 0, satLive := false, readback := 0,
    lowSatRun := 0, diffRun := 0, highRun := 0, nearRun := 0, compliance := false, compClear := false,
    mismatch := false, misClear := false, parallel := false }

/-- One FIFO entry (10 R255). -/
structure FifoEntry where
  stamp : Nat
  pos : BitVec 48
  kind : Nat
  dir : Bool
  sw : Nat
  rising : Bool
  seq : Nat
deriving DecidableEq, Repr

/-- What a decoder sample of a PF channel shows (10 R244, R253, R257, R265): the levels of A and B, or of Z, with the time in units
of 10 ns for which each has been stable; an edge of LATCH; the level of a switch since its sample before. -/
inductive PfHap where
  | quad (a b : Bool) (na nb : Nat)
  | index (z : Bool) (nz : Nat)
  | latch (rising : Bool)
  | switch (n : Nat) (level : Bool)
deriving DecidableEq, Repr

/-- One PF channel (10 R241-R271): the accepted levels of A, B and Z; decoded; raw count r, reported count c, DIR, stamp of the latest change;
REFERENCED; index arm; the steps of r since the last qualified index edge and whether they went one way;
the FIFO and SEQ; the pair and the speed latched at the tick with the reference pair; accumulator moved
since the tick; the filtered switch states with the counts of their filters and the T10 of their latest samples; the correction
waiting for the tick and the latest one; the compare unit with the T10 at which CMP goes off; the serial transaction, and a
word with its error bit since the tick; line and supply faults; error counters; quality and the FIFO entries of the latest
tick; the registers that change at a tick (R280). -/
structure PfCh where
  la : Bool
  lb : Bool
  lz : Bool
  decoded : Bool
  fresh : Bool
  r : BitVec 48
  c : BitVec 48
  dir : Bool
  stamp : Nat
  referenced : Bool
  armed : Bool
  idxSteps : Int
  idxUp : Bool
  idxDown : Bool
  idxSeen : Bool
  fifo : List FifoEntry
  seq : Nat
  lPos : BitVec 48
  lStamp : Nat
  v : F64
  refPos : BitVec 48
  refStamp : Nat
  moved : Bool
  sw : BitVec 4
  swCount : Tab Nat
  swAt : Tab Nat
  corr : Option Int
  lastCorr : Int
  cmpArmed : Bool
  compare : BitVec 48
  spacing : Nat
  left : Nat
  cmpOn : Bool
  cmpEnd : Nat
  serBusy : Bool
  serStart : Nat
  serPrev : Option Nat
  serNew : Bool
  serErr : Bool
  warn : Bool
  failRun : Nat
  bad : Bool
  lineFault : Bool
  supplyFault : Bool
  errIllegal : Nat
  errCrc : Nat
  errTimeout : Nat
  errFifo : Nat
  qual : Qual
  fifoLast : Nat
  regs : List Word
deriving DecidableEq, Repr

def PfCh.init : PfCh :=
  { la := false, lb := false, lz := false, decoded := false, fresh := false, r := 0, c := 0, dir := false, stamp := 0, referenced := false, armed := false,
    idxSteps := 0, idxUp := false, idxDown := false, idxSeen := false, fifo := [], seq := 0, lPos := 0, lStamp := 0, v := 0,
    refPos := 0, refStamp := 0, moved := false, sw := 0, swCount := [], swAt := [], corr := none, lastCorr := 0, cmpArmed := false, compare := 0,
    spacing := 0, left := 0, cmpOn := false, cmpEnd := 0, serBusy := false, serStart := 0, serPrev := none, serNew := false, serErr := false, warn := false,
    failRun := 0, bad := false, lineFault := false, supplyFault := false, errIllegal := 0, errCrc := 0, errTimeout := 0,
    errFifo := 0, qual := .bad, fifoLast := 0, regs := [] }

/-- The values of one PF channel in an input image (10 R274). -/
structure PfImg where
  pos : BitVec 48
  stamp : Nat
  v : F64
  dir : Bool
  referenced : Bool
  sw : BitVec 4
  qual : Qual
  fifo : List FifoEntry
deriving DecidableEq, Repr

def PfImg.init : PfImg :=
  { pos := 0, stamp := 0, v := 0, dir := false, referenced := false, sw := 0, qual := .bad, fifo := [] }

/-- A signal slot (11 R282, R284): binary64, or a 64-bit T10 count in a STAMP slot, with its quality. -/
structure Sig where
  v : F64
  q : Qual
deriving DecidableEq, Repr

/-- One stage of the control engine (11 R285-R300, 12 R314-R344): exponent; mantissas: integrator or
accumulator (PI, PID, PI_MOD), y1 (BIQUAD, LIMITER) in `m1`, derivative state or x1 in `m2`, x2 in `m3`, y2 in
`m4`, error in `err`; PV and e_x of the frame before; OUT0; no computed frame yet (`first`), the next dx
is 0 (`skipDx`), the first AUTO frame is still to come (`preset`), u_man; what the latest frame showed. -/
structure Stage where
  e : Int
  m1 : Int
  m2 : Int
  m3 : Int
  m4 : Int
  err : Int
  pvPrev : F64
  exPrev : F64
  out0 : F64
  first : Bool
  skipDx : Bool
  preset : Bool
  uMan : F64
  manual : Bool
  sat : Bool
  held : Bool
  atLimit : Bool
  /-- PROFILE and DOOR: state code, planner state of a DOOR, direction -1, reference in 2^-16 counts, mantissas
  of v and a, current target in counts, the target's queue entry was removed, stop queue, IN3 has been read. -/
  st : Nat
  plan : Nat
  down : Bool
  p : Int
  v : Int
  a : Int
  target : Option Int
  ghost : Bool
  queue : List Int
  ready : Bool
  scale : F64
  /-- DOOR: command in force is open, reversal count, run of lag frames, frames of reopen dwell left, LOCKED. -/
  cmdOpen : Bool
  revs : Nat
  lagRun : Nat
  dwell : Nat
  locked : Bool
  /-- INJECT: injection runs, k, PRBS register, FRAMES, factor of the amplitude. -/
  running : Bool
  k : Nat
  reg : Nat
  frames : Nat
  factor : F64
deriving DecidableEq, Repr

def Stage.init : Stage :=
  { e := 0, m1 := 0, m2 := 0, m3 := 0, m4 := 0, err := 0, pvPrev := 0, exPrev := 0, out0 := 0, first := true, skipDx := true,
    preset := false, uMan := 0, manual := false, sat := false, held := false, atLimit := false, st := 0, plan := 0, down := false,
    p := 0, v := 0, a := 0, target := none, ghost := false, queue := [], ready := false, scale := 0x3FF0000000000000#64,
    cmdOpen := false, revs := 0, lagRun := 0, dwell := 0, locked := false, running := false, k := 0, reg := 0, frames := 0,
    factor := 0x3FF0000000000000#64 }

/-- A learner (12 R338-R341): frozen, start frame, its bins as mantissas at the learner's exponent. -/
structure Learner where
  frozen : Bool
  n0 : Nat
  dirUp : Bool
  lastX : Option Int
  bins : Tab Int
deriving DecidableEq, Repr

def Learner.init : Learner := { frozen := false, n0 := 0, dirUp := true, lastX := none, bins := [] }

/-- A capture (12 R345-R347): state 0 IDLE, 1 ARMED, 2 TRIGGERED, 3 COMPLETE; FRAME_NO of the arming tick;
samples kept, oldest first, one value a channel; the previous sample of TRIG_SLOT; the trigger sample has been
taken; TRIGGER_FRAME, TRIGGER_SAMPLE; samples taken after the trigger sample. -/
structure Capture where
  st : Nat
  armFrame : Nat
  ring : List (List F64)
  prev : Option F64
  trigged : Bool
  trigFrame : Nat
  trigSample : Nat
  after : Nat
deriving DecidableEq, Repr

def Capture.init : Capture :=
  { st := 0, armFrame := 0, ring := [], prev := none, trigged := false, trigFrame := 0, trigSample := 0, after := 0 }

/-- A program value in its 8-byte encoding with its quality (13 R359, R360). -/
structure Val where
  v : F64
  q : Qual
deriving DecidableEq, Repr

def Val.init : Val := { v := 0, q := .good }

/-- What the snapshot of a tick holds for an object (15 R425-R427). -/
structure ObjSnap where
  stored : Bool
  data : List Byte
  rxT10 : Nat
  fresh : Bool
  lost : Bool
  qual : Qual
deriving DecidableEq, Repr

def ObjSnap.init : ObjSnap := { stored := false, data := [], rxT10 := 0, fresh := false, lost := false, qual := .bad }

/-- The state of one block instance (13 R368-R372): it has run; it was restored from the journal; its edge
memories are to be seeded at the first run; edge memories; Q or Q1; timing, START has been set, START, and el
as restored; CV; OUT; NOW of the previous run; STAT and OUTCOME of a request with the result that the next run
shows (0 none). -/
structure Inst where
  ran : Bool
  restored : Bool
  seed : Bool
  m1 : Bool
  m2 : Bool
  q : Bool
  timing : Bool
  begun : Bool
  start : Int
  elRest : Int
  cv : Int
  out : F64
  prevNow : Nat
  stat : Nat
  outcome : Int
  res : Nat
  resO : Int
deriving DecidableEq, Repr

def Inst.init : Inst :=
  { ran := false, restored := false, seed := false, m1 := false, m2 := false, q := false, timing := false, begun := false, start := 0,
    elRest := 0, cv := 0, out := 0, prevNow := 0, stat := 0, outcome := -1, res := 0, resO := -1 }

/-- The input image of a tick (02 R34): values and qualities the frame's phases read. -/
structure Image where
  tick : Nat
  frame : Nat
  di : BitVec 96
  diQ : Tab Qual
  diStamp : Tab Nat
  si : BitVec 32
  siQ : Tab Qual
  siStamp : Tab Nat
  ai : Tab Sig
  aiStamp : Tab Nat
  pf : Tab PfImg
  objs : Tab ObjSnap
  aoRb : Tab F64
  aoQ : Tab Qual
  doQ : Tab Qual
deriving DecidableEq, Repr

def Image.init : Image :=
  { tick := 0, frame := 0, di := 0, diQ := [], diStamp := [], si := 0, siQ := [], siStamp := [], ai := [], aiStamp := [], pf := [], objs := [],
    aoRb := [], aoQ := [], doQ := [] }

/-- One task (13 R364, R391, 02 R41, R42): next slice, in progress, peak, first run over; the input image a
sliced task keeps; its own writes of variables and slots that it has not published yet, its output writes by
reference, and whether they are due at the end of the program phase. -/
structure TaskSt where
  next : Nat
  busy : Bool
  peak : Nat
  scanned : Bool
  img : Image
  lvars : Tab Val
  lslots : Tab Sig
  outs : Tab Val
  due : Bool
deriving DecidableEq, Repr

def TaskSt.init : TaskSt :=
  { next := 0, busy := false, peak := 0, scanned := false, img := Image.init, lvars := [], lslots := [], outs := [], due := false }

/-- A request of a block, waiting for the next tick (13 R372): instance, opcode, its integer values and its
LREAL value. -/
structure Req where
  inst : Nat
  opc : Nat
  a : Int
  b : Int
  c : F64
  d : Int
deriving DecidableEq, Repr

/-- One journal buffer (13 R375): whether its CRC holds, the header's values and the retained items. The bytes of an instance are
not laid down, so the items are data and the CRC is the Bool (notes/assumptions/152.md). -/
structure Journal where
  valid : Bool
  magic : Nat
  imageCrc : Nat
  programId : Nat
  length : Nat
  nVars : Nat
  nInsts : Nat
  frame : Nat
  seq : Nat
  vars : List (Nat × Val)
  insts : List (Nat × Inst)
deriving DecidableEq, Repr

def Journal.init : Journal := { valid := false, magic := 0, imageCrc := 0, programId := 0, length := 0, nVars := 0, nInsts := 0, frame := 0, seq := 0, vars := [], insts := [] }

/-- The working fields of a point record (14 R392); `used` is DELAY less DELAY_LEFT. -/
structure Point where
  v : F64
  q : Qual
  alarm : Nat
  rateValid : Bool
  off : Int
  frame : Nat
  cond : BitVec 5
  used : Nat
  lastTrend : Nat
  prev : F64
  prevFrame : Nat
  ringHead : Nat
deriving DecidableEq, Repr

/-- A point as after a COLD restart (03 R78, 14 R393). -/
def Point.init : Point :=
  { v := 0, q := .bad, alarm := 0, rateValid := false, off := 0, frame := 0, cond := 0, used := 0, lastTrend := 0,
    prev := 0, prevFrame := 0, ringHead := 0 }

/-- A queued point update (14 R394): slot, value, quality, T10_OFFSET. -/
structure PtUpd where
  slot : Nat
  v : F64
  q : Qual
  off : Int
deriving DecidableEq, Repr

/-- The queue of one frame (14 R394-R396): frame, T10 of its tick, input kinds, output kinds, written values. -/
structure PtQueue where
  frame : Nat
  tick : Nat
  ins : List PtUpd
  outs : List PtUpd
  writes : List (Nat × F64)
deriving DecidableEq, Repr

/-- An acknowledgement in progress (14 R396): the command's tag (none for a block), next slot, records left,
records acknowledged, frame and T10 of the tick at which it took effect. -/
structure AckJob where
  tag : Option Nat
  slot : Nat
  left : Nat
  acked : Nat
  frame : Nat
  tick : Nat
deriving DecidableEq, Repr

/-- A subscription (14 R407-R409); `handled` is one more than the latest frame delivered or skipped. -/
structure Sub where
  first : Nat
  count : Nat
  decim : Nat
  segFirst : Nat
  segCount : Nat
  target : Nat
  n0 : Nat
  next : Nat
  seq : Nat
  missed : Nat
  handled : Nat
deriving DecidableEq, Repr

/-- A trend sample or an alarm journal entry: its two 8-byte halves (14 R403, R404). -/
structure Sample where
  a : F64
  b : F64
deriving DecidableEq, Repr

/-- One CAN port (15 R420-R440). -/
structure Port where
  st : Nat
  offCmd : Bool
  tecN : Nat
  recN : Nat
  alone : Bool
  ackRun : Nat
  lastRx : Nat
  joinRx : Nat
  joinFrom : Nat
  term : Bool
  rx : Nat
  tx : Nat
  errors : Nat
  dropped : Nat
  unmatched : Nat
  retxDrop : Nat
  overwrite : Nat
  offAt : Nat
  gate : Bool
  wasOpen : Bool
deriving DecidableEq, Repr

def Port.init : Port :=
  { st := 0, offCmd := false, tecN := 0, recN := 0, alone := false, ackRun := 0, lastRx := 0, joinRx := 0, joinFrom := 0,
    term := false, rx := 0, tx := 0, errors := 0, dropped := 0, unmatched := 0, retxDrop := 0, overwrite := 0, offAt := 0,
    gate := false, wasOpen := false }

/-- The key of a CAN frame (15 R435): PORT, IDE, identifier. -/
def canKey (port : Nat) (ide : Bool) (id : Nat) : Nat := port * 2 ^ 30 + b2n ide * 2 ^ 29 + id

/-- What a message object holds (15 R425): the stored frame, its reception time, NEW, LOST. -/
structure Obj where
  stored : Bool
  data : List Byte
  rxT10 : Nat
  isNew : Bool
  lost : Bool
deriving DecidableEq, Repr

def Obj.init : Obj := { stored := false, data := [], rxT10 := 0, isNew := false, lost := false }

/-- A dynamic object (15 R432): key, template, node entry, from the template's reserve, bucket (4,096 the table
of 64), data. -/
structure DynObj where
  key : Nat
  tmpl : Nat
  node : Nat
  reserved : Bool
  place : Nat
  o : Obj
deriving DecidableEq, Repr

/-- A node table entry (15 R441). STATE 0 free, 1 PRESENT, 2 LOST. -/
structure Node where
  port : Nat
  group : Nat
  st : Nat
  objects : Nat
  node : Nat
  firstT10 : Nat
  lastT10 : Nat
  frames : Nat
  lostCount : Nat
  lastId : Nat
  lastLen : Nat
  tmpl : Nat
  joins : Nat
  payload : List Byte
deriving DecidableEq, Repr

def Node.init : Node :=
  { port := 0, group := 0, st := 0, objects := 0, node := 0, firstT10 := 0, lastT10 := 0, frames := 0, lostCount := 0, lastId := 0,
    lastLen := 0, tmpl := 0, joins := 0, payload := [] }

/-- A queued CAN frame (15 R428-R439): order value, which object (or safe message copy) it is, payload,
errors so far, on the bus now. -/
structure TxFrame where
  order : Nat
  src : Nat
  isMsg : Bool
  data : List Byte
  fails : Nat
  onBus : Bool
deriving DecidableEq, Repr

/-- What the transmit side of a static object keeps (15 R428, R429): the payload last queued and in which
frame, and the payload last queued in a driven mode. -/
structure TxHist where
  queued : Bool
  data : List Byte
  frame : Nat
  driven : List Byte
deriving DecidableEq, Repr

def TxHist.init : TxHist := { queued := false, data := [], frame := 0, driven := [] }

/-- A safe message in one channel, SC or Attar (16 R464-R466). -/
structure MsgCh where
  valid : Bool
  needReset : Bool
  resetDone : Bool
  started : Bool
  seq : Nat
  time : Nat
  bits : Word
  next : Option Word
  acceptedAt : Nat
  waitPort : Option Nat
  waitBytes : List Byte
  waitAt : Nat
deriving DecidableEq, Repr

/-- FAULT at the exit from CHECKING (16 R466). -/
def MsgCh.init : MsgCh :=
  { valid := false, needReset := false, resetDone := false, started := false, seq := 0, time := 0, bits := 0, next := none,
    acceptedAt := 0, waitPort := none, waitBytes := [], waitAt := 0 }

/-- A DELAY block of SC (16 R453): since when its input has stood, and its output. -/
structure DelaySt where
  since : Option Nat
  out : Bool
deriving DecidableEq, Repr

def DelaySt.init : DelaySt := { since := none, out := false }

/-- An Attar timer (16 R455). -/
structure AtTimer where
  input : Bool
  since : Nat
  out : Bool
deriving DecidableEq, Repr

def AtTimer.init : AtTimer := { input := false, since := 0, out := false }

/-- What the sync ring shows of a peer (17 R501, R502): present, frames in a row without a section, its loss has
been reported, and what its latest section carries; `dwell` is its dwell left in seconds. -/
structure Peer where
  present : Bool
  missed : Nat
  lostSeen : Bool
  mode : Nat
  claim : Nat
  score : Nat
  synced : Bool
  staged : Bool
  capped : Bool
  programId : Nat
  agreeCrc : Nat
  proto : Nat
  dwell : Nat
deriving DecidableEq, Repr

def Peer.init : Peer :=
  { present := false, missed := 0, lostSeen := false, mode := 0, claim := 0, score := 0, synced := false, staged := false, capped := false,
    programId := 0, agreeCrc := 0, proto := 0, dwell := 0 }

/-- Per-test data of Drydown (18 R524, R532, R537): next item of the pass, T10 from which the next pass may start,
start of the pass in T10 and as a frame, a pass runs, failed items, items tested in the cycle (as a list, or
for the memories as a count from the first), items skipped in every pass of the cycle so far and of the last
completed one, passes, frame of the latest pass's end, item failures, a pass that started in the cycle has
finished. -/
structure TestSt where
  pos : Nat
  due : Nat
  passDue : Nat
  passStart : Nat
  passFirst : Nat
  inPass : Bool
  failed : List Nat
  tested : List Nat
  testedN : Nat
  skipped : List Nat
  lastNotCovered : Nat
  passes : Nat
  passFrame : Nat
  failCount : Nat
  cyclePass : Bool
deriving DecidableEq, Repr

def TestSt.init : TestSt :=
  { pos := 0, due := 0, passDue := 0, passStart := 0, passFirst := 0, inPass := false, failed := [], tested := [], testedN := 0, skipped := [],
    lastNotCovered := 0, passes := 0, passFrame := 0, failCount := 0, cyclePass := false }

/-- A field-side test that runs (18 R523, R531): test, item, step, what its item was commanded at the start. -/
structure RunTest where
  test : Nat
  item : Nat
  step : Nat
  cmd : F64
deriving DecidableEq, Repr

/-- A fault-log entry before its SEQ is known (18 R536). -/
structure LogEntry where
  code : Nat
  mode : Nat
  cause : Nat
  t10 : Nat
  frame : Nat
  item : Nat
  data : Nat
deriving DecidableEq, Repr

/-- An output page (01 output image): DO commands or duties, AO values in mA, point writes, payload bytes
of transmit objects, SO commands. -/
structure Page where
  dos : Tab F64
  aos : Tab F64
  pts : Tab Sig
  objs : Tab (List Byte)
deriving DecidableEq, Repr

def Page.init : Page := { dos := [], aos := [], pts := [], objs := [] }

/-- An output image on its way to the pins (01 R20, R21, 03 R68): its FRAME_NO, whether the mode that governs
the frame drives the outputs, strap state asked for, DO values, AO levels in mA. -/
structure OutImg where
  frame : Nat
  driven : Bool
  strap : Bool
  dos : Tab F64
  aos : Tab F64
deriving DecidableEq, Repr

/-- A frozen output page (02 R35, R37): its frame, the mode that governs it, T10 of its apply instant. -/
structure Frozen where
  frame : Nat
  mode : Mode
  page : Page
  at_ : Nat
deriving DecidableEq, Repr

/-- The tick part of a holder's section (17 R502): its input image of the tick, the host commands (opcode and
parameters), the block requests and the point writes that take effect at the tick, the digest of the frame
before, the transmit history and the SEQ values. -/
structure TickPart where
  img : Image
  cmds : List (Nat × List Byte)
  reqs : List Req
  writes : List (Nat × F64)
  digest : Nat
  hist : Tab TxHist
  seqs : Tab Nat
deriving DecidableEq, Repr

/-- A unit's section as it arrives on a sync port (17 R501, R502): FRAME_NO and T10 of the tick, what it says of the
unit, the handover target a holder announces with PROGRAM, and a holder's tick part. -/
structure Section where
  frame : Nat
  t10 : Nat
  mode : Nat
  claim : Nat
  score : Nat
  synced : Bool
  staged : Bool
  capped : Bool
  lockout : Bool
  programId : Nat
  agreeCrc : Nat
  proto : Nat
  dwell : Nat
  announce : Option (Nat × Bool)
  part : Option TickPart
deriving DecidableEq, Repr

/-- An event part of the holder (17 R502): a bus frame stored in an object, or an entry written to a PF FIFO. -/
inductive SyncEvent where
  | rxFrame (p : Fin 4) (t10 : Nat) (ide : Bool) (id : Nat) (fdf : Bool) (data : List Byte)
  | fifo (ch : Fin 8) (e : FifoEntry)
deriving DecidableEq, Repr

/-- The tracked state that a join copies (17 R503, R505), less the parts of the background copy. -/
structure Tracked where
  vars : Tab Val
  insts : Tab Inst
  tasks : Tab TaskSt
  slots : Tab Sig
  stages : Tab Stage
  learners : Tab Learner
  hist : Tab TxHist
  seqs : Tab Nat
deriving DecidableEq, Repr

/-- The background copy of a join (17 R505). -/
structure TrackedBg where
  recs : Tab Point
  rings : Tab (List Sample)
  journal : List Sample
deriving DecidableEq, Repr

end Sys2Proof.Machine
end

