-- ==== Sys2Proof/Syntax.lean ====
section
/-! DEFINITION. The commands of the block: one constructor per row of spec/opcode_table.json. An operand `dt`
is the number of T10 counts since the command before; a command without one falls at the instant the state
gives, or changes nothing that carries a stamp. -/

namespace Sys2Proof

open Sys2Proof.Machine

/-- A 64-byte ring entry less its OPCODE (06 R131), as the module reads it: its requesting target and ring
index (05 R119), TAG, LENGTH, FLAGS, byte 7, bytes 8-63. -/
structure Entry where
  target : Nat
  ring : Nat
  tag : Nat
  length : Nat
  flags : Nat
  rsv : Nat
  par : List Byte
deriving DecidableEq, Repr

/-- The answer of a peer in stage 10 (04 R99): the unit by its place on the sync ring, and what it reports. -/
structure PeerAns where
  unit : Fin 4
  fUs : Nat
  commit : Nat
  out : Nat
  agree : Nat
  program : Nat
  unitId : Nat
deriving DecidableEq, Repr

/-- What of the world a check meets (04 R98, R99): the SC copy differs; the Attar read-back differs, in the part of
the record of TYPE 0x0803 or 0x0804 with an INDEX or in no record's part; the peers that answer. -/
structure CheckIn where
  scDiff : Bool
  attarDiff : Option (Option (Nat × Nat))
  answers : List PeerAns
deriving DecidableEq, Repr

/-- What the cores make of a frame (02 R35, R45): the ends of gather, safety, engine and program relative to
the tick in T10; the input point updates that gather had queued and the safety blocks, the stages and the blocks of
each task that had run when a late phase was stopped; the run time of each task; and the bytes of PCI Express BAR2
reads and of copies still running that crossed the window in the frame that ends, in the share and in the tail (05 R129). -/
structure TickIn where
  gatherEnd : Nat
  safetyEnd : Nat
  engineEnd : Nat
  progEnd : Nat
  updates : Nat
  sblocks : Nat
  stages : Nat
  share : Nat
  tail : Nat
  blocks : List (Nat × Nat)
  runs : List (Nat × Nat)
deriving DecidableEq, Repr

/-- The links of the module (01 R19). -/
inductive Link where
  | field | attar | ab (b : Fin 6) | ob (g : Fin 8)
deriving DecidableEq, Repr

/-- What one input transfer brings to the logic side (01 R19): the FRAME_NO of its frame; DO readback over the field link;
the readbacks of the high-side and low-side SO switches, which the field controller reports over the field link and over
the Attar link (08 R196); readback in mA and SAT of the four channels over an AO bank link. The input states it carries are
those that the field side holds. -/
structure Payload where
  frame : Nat
  word : BitVec 64
  high : BitVec 8
  low : BitVec 8
  vals : List (F64 × Bool)
deriving DecidableEq, Repr

/-- What a unit saw of one claim line in a round (17 R492, R493): the winning word it read; the line was dominant
before the tick; it sampled recessive while it drove a 1. -/
structure LineObs where
  word : Nat
  dominant : Bool
  recessive : Bool
deriving DecidableEq, Repr

/-- An edge at SYNC_IN, rising or falling, `dt` after the row before it (02 R51, R54). -/
structure SyncEdge where
  dt : Nat
  rising : Bool
deriving DecidableEq, Repr

/-- The channel of a dark test; `peer`: a peer runs shadow closing on it in this frame (08 R189). -/
structure DarkItem where
  ch : Fin 64
  peer : Bool
deriving DecidableEq, Repr

/-- The levels of A and B at a decoder sample, and for how many samples of 10 ns each has been stable (10 R244). -/
structure QuadLevels where
  a : Bool
  b : Bool
  na : Nat
  nb : Nat
deriving DecidableEq, Repr

/-- An item of a field-side test; `peer`: a peer's test of this frame bars it (08 R189). -/
structure TestItem where
  item : Nat
  peer : Bool
deriving DecidableEq, Repr

/-- The commands of the block. -/
inductive Instr where
  | nop (e : Entry)
  | identify (e : Entry)
  | getMode (e : Entry)
  | cfgOpen (e : Entry)
  | cfgLoad (e : Entry)
  | cfgClose (e : Entry)
  | cfgReadback (e : Entry)
  | enable (e : Entry)
  | disable (e : Entry)
  | restart (e : Entry)
  | safeHoldEnter (e : Entry)
  | safeHoldLeave (e : Entry)
  | serviceEnter (e : Entry)
  | serviceLeave (e : Entry)
  | pointRead (e : Entry)
  | pointWrite (e : Entry)
  | pointSubscribe (e : Entry)
  | pointUnsubscribe (e : Entry)
  | alarmAck (e : Entry)
  | trendRead (e : Entry)
  | forceSet (e : Entry)
  | forceClear (e : Entry)
  | forceList (e : Entry)
  | valueChange (e : Entry)
  | progStage (e : Entry)
  | handoverRequest (e : Entry)
  | groupStatus (e : Entry)
  | captureArm (e : Entry)
  | captureRead (e : Entry)
  | injectStart (e : Entry)
  | injectStop (e : Entry)
  | learnControl (e : Entry)
  | loopMode (e : Entry)
  | stopQueueEdit (e : Entry)
  | pfArm (e : Entry)
  | testReport (e : Entry)
  | faultLogRead (e : Entry)
  | calReport (e : Entry)
  | fwStage (e : Entry)
  | fwActivate (e : Entry)
  | busPortCtrl (e : Entry)
  | nodeTableRead (e : Entry)
  | safetyStatus (e : Entry)
  | safetyReset (e : Entry)
  | badOpcode (opc : Nat) (e : Entry)
  | copyStart
  | copyComplete (share tail : Nat)
  | checkComplete (c : CheckIn)
  | fwChunkProgrammed (ok : Bool)
  | fwActivateReset
  | hifDoorbell (t : Fin 8) (v : Word)
  | ringEntryRead
  | hifRelease (v : Word)
  | winDirectoryWrite (seg : Fin 1024) (v : Word)
  | bar2Write (addr : Nat) (data : List (Option Byte))
  | winReclaim (v : Word)
  | diagTimeSnap (dt : Nat) (v : Word)
  | phasePeakClear (dt : Nat) (v : Word)
  | hecClaim (t : Fin 8) (v : Word)
  | hecComplete (t : Fin 8) (dt : Nat) (v : Word)
  | hecStackReset (v : Word)
  | hecSetpend (t : Fin 8) (v : Word)
  | hecClrpend (t : Fin 8) (v : Word)
  | hecSeten (w : Fin 8) (v : Word)
  | hecClren (w : Fin 8) (v : Word)
  | hecPseten (t : Fin 8) (v : Word)
  | hecPclren (t : Fin 8) (v : Word)
  | hecSleepWrite (t : Fin 8) (v : Word)
  | diagDoLatchedRelease (w : Fin 2) (v : Word)
  | diagDoGroupAck (v : Word)
  | complianceClear (v : Word)
  | mismatchClear (v : Word)
  | aiConverterRestore (w : Fin 2) (v : Word)
  | aoSarRestore (w : Fin 2) (v : Word)
  | diagPfSnap (v : Word)
  | diagStageSnap (v : Word)
  | diagProfileSnap (v : Word)
  | diagTaskPeakClr (v : Word)
  | diagGroupCapClr (v : Word)
  | registerWrite (dt : Nat) (off : Nat) (data : List (Option Byte))
  | qspiRead (addr : Nat) (words : Nat) (cut : Bool)
  | qspiWrite (dt : Nat) (addr : Nat) (data : List Word) (cut : Bool)
  | qspiReadId
  | qspiBadTransaction
  | perst
  | functionLevelReset
  | msixEnableChange (en fm : Bool)
  | msixUnmask (t : Fin 8)
  | pmeEnWrite (v : Bool)
  | pcieLinkDown
  | resetAssert
  | supplySupervisorReset
  | leaveReset (p : Straps)
  | almselChange (v : Bool)
  | bootComplete
  | bootStepFail
  | fcSupervisoryTimeout
  | tick (i : TickIn)
  | outputTransferSlot
  | overrunLimitReached
  | captureComplete (k : Fin 16)
  | commit (journalOk : Bool)
  | apply
  | clockFault (dt : Nat) (clock : Fin 6)
  | timebaseLockLost (err : Int)
  | timebaseLockRegained (err : Int)
  | syncInEdge (edge : SyncEdge) (ppm : Int) (step : Bool)
  | syncInLost
  | linkTransfer (l : Link) (out : Bool) (crcOk repeatOk : Bool) (p : Payload)
  | linkResetCode
  | fieldWatchdogTrip (bank : Option (Fin 8))
  | testPulseStart (k : Fin 8) (dt : Nat)
  | testPulseEnd (k : Fin 8)
  | tpGeneratorFault (k : Fin 8)
  | sensorSupplyFault (s : Fin 3)
  | sensorSupplySound (s : Fin 3)
  | doOverload (ch : Fin 64) (dt : Nat)
  | doRetry (ch : Fin 64) (dt : Nat)
  | doRetryCountReset (ch : Fin 64)
  | pwmPeriodStart (ch : Fin 64) (dt : Nat)
  | extFeed (ch : Fin 64) (dt : Nat)
  | darkTestStart (item : DarkItem) (dt : Nat)
  | darkTestEnd (ch : Fin 64) (low : Bool)
  | groupSupplyLow (g : Fin 8)
  | groupSupplyLowEnd (g : Fin 8)
  | groupSupplyMissing (g : Fin 8)
  | groupSupplyMissingEnd (g : Fin 8) (dt : Nat)
  | aiConversionResult (b : Fin 6) (c : Fin 9) (dt : Nat) (code : Int)
  | aiShuntOpen (ch : Fin 48)
  | aiShuntRetest (ch : Fin 48) (still : Bool)
  | rotationStepStart (b : Fin 6)
  | referenceMeasurementDone (ao : Bool) (b : Fin 8) (z h u i : Int)
  | disagreementRecheckDone (ao : Bool) (b : Fin 8) (z u : Int)
  | aiBankLinkTimeout (b : Fin 6)
  | aiBankLinkBad (b : Fin 6)
  | spareSarStep (g : Fin 8) (diff : F64)
  | complianceEnter (ch : Fin 32)
  | complianceEnd (ch : Fin 32)
  | mismatchDetect (ch : Fin 32)
  | spareParallelDone (ch : Fin 32) (spare : F64)
  | aoSupplyLow (g : Fin 8)
  | aoSupplyLowEnd (g : Fin 8)
  | pfQuadStep (ch : Fin 8) (dt : Nat) (ab : QuadLevels)
  | cmpWidthEnd (ch : Fin 8)
  | pfIndexEdge (ch : Fin 8) (dt : Nat) (z : Bool) (nz : Nat)
  | pfLatchEdge (ch : Fin 8) (dt : Nat) (rising : Bool)
  | pfSwitchEdge (ch : Fin 8) (dt : Nat) (sw : Fin 4) (level : Bool)
  | pfSerialStart (ch : Fin 8) (dt : Nat)
  | pfSerialWord (ch : Fin 8) (dt : Nat) (data crc : Nat)
  | pfSerialTimeout (ch : Fin 8) (dt : Nat)
  | pfSerialBad (ch : Fin 8)
  | pfLineFault (ch : Fin 8)
  | pfLineFaultEnd (ch : Fin 8)
  | pfEncoderSupplyFault (ch : Fin 8)
  | pfEncoderSupplySound (ch : Fin 8)
  | injectEnded (stage : Fin 512)
  | pointEngineQueue
  | pointQueueLate
  | subscriptionSnapshot (id : Fin 32)
  | canFrameReceived (p : Fin 4) (dt : Nat) (ide : Bool) (id : Nat) (fdf rtr : Bool) (data : List Byte)
  | canTxComplete (p : Fin 4) (dt : Nat)
  | canTxError (p : Fin 4) (dt : Nat) (ackErr dominant : Bool)
  | busOffRecoveryStart (p : Fin 4) (dt : Nat)
  | busOffRecoveryDone (p : Fin 4) (dt : Nat)
  | joinEnd (p : Fin 4) (dt : Nat)
  | nodeLost (n : Nat)
  | portAlone (p : Fin 4) (dt : Nat)
  | attarCycle (dt : Nat)
  | attarTimerExpiry (k : Fin 16) (dt : Nat)
  | discrepancyFault (so : Fin 8) (dt : Nat)
  | soSwitchFault (so : Fin 8) (high : Bool) (dt : Nat)
  | edmFault (k : Fin 8) (dt : Nat)
  | discWindowExpiry (m : Nat) (attar : Bool) (dt : Nat)
  | safeMsgMaxAge (m : Nat) (attar : Bool) (dt : Nat)
  | safeNetTimeout (p : Fin 4) (dt : Nat)
  | degradedTimerExpiry (dt : Nat)
  | attarCrcCheck (crc : Nat)
  | scImageCheck (ok : Bool)
  | claimLatch (l0 l1 : LineObs)
  | gateClose (rx : Option (Fin 8)) (arrived : Bool)
  | gateOpen (rx : Option (Fin 8)) (arrived : Bool)
  | syncSectionReceived (unit : Fin 4) (port : Fin 2) (crcOk : Bool) (sec : Section)
  | syncEventReceived (ev : SyncEvent)
  | trackingDeadline (digest : Nat)
  | peerLost (unit : Fin 4)
  | timeMasterFallback
  | joinCopyDone (ok : Bool) (mib all : Nat) (copy : Tracked)
  | dwellEnd (dt : Nat)
  | handoverAbandon
  | drydownUnit (test : Nat) (ok : Bool)
  | fieldTestStart (test : Nat) (item : TestItem)
  | soSwitchTestStep (so : Fin 8) (ok : Bool)
  | aoCrossCheckEnd (ch : Fin 32) (mA : F64)
  | shadowTestEnd (so : Bool) (item : Nat) (ok : Bool)
  | claimLoopback (line : Fin 2) (ok : Bool)
  | syncErrorWindow (port : Fin 2) (discarded : Nat)
  | dramScrubBurst
  | eccCorrected (dram : Bool) (addr : Nat)
  | eccUncorrectable (dram : Bool) (addr : Nat)
  | faultLogEntryWrite
  | hecArbitration
  | moderationWindowEnd (t : Fin 8)
  | sillageWake
  | wakeRelease
  | diSiSample (di : BitVec 96) (si : BitVec 32)
  | canRxError (p : Fin 4) (dt : Nat) (n : Nat)
  | pcieLinkUp (gen2 : Bool)
  | syncPortDown (port : Fin 2)
  | syncPortUp (port : Fin 2)
  | backgroundCopyDone (mib : Nat) (copy : TrackedBg)
  | pmPmeRepeat
  | pmeStatusClear
  | powerStateChange (d3 : Bool)
  | scSramMarchUnit (ok : Bool)
deriving DecidableEq, Repr

end Sys2Proof
end

