-- ==== Sys2Proof/Machine/State.lean ====
section
/-! DEFINITION. The state of the block: plain data, one sub-structure per part of the module, each field with
the rule of spec/ that gives it. Every field holds its reset value at entry into BOOT (00 R14). -/

namespace Sys2Proof.Machine

/-- No command of the block ends in a fault; the type is closed and has one constructor that nothing raises.
Safe: a stop never proves anything of a next state. -/
inductive Fault where
  /-- Never raised: the spec gives every row an effect. -/
  | unreachable
deriving DecidableEq, Repr

/-- Why the block gives a command no meaning. -/
inductive Refusal where
  /-- Raised only by an arm of exec whose command has no meaning in the model yet. Safe. -/
  | notModelled (mnemonic : String)
deriving DecidableEq, Repr

/-- Timebase and frame (02). -/
structure FrameSt where
  /-- T10, the count of 10 ns periods since leaving RESET (02 R32). -/
  t10 : Nat
  /-- T10 of the latest tick (02 R33). -/
  tick : Nat
  /-- T10 of the next tick (02 R33, R48). -/
  next : Nat
  /-- FRAME_NO, 48 bits (02 R32). -/
  frame : Nat
  /-- F_US in use; DIAG_FRAME_PERIOD (02 R571, R57). -/
  fUs : Nat
  /-- COMMIT_PHASE in use (02 R36, R571). -/
  commit : Nat
  /-- OUT_PHASE in use (02 R36, R571). -/
  out : Nat
  /-- OVERRUN_LIMIT in use (02 R46, R571). -/
  ovrLimit : Nat
  /-- SYNC_IN_MODE in use (02 R51, R571). -/
  syncIn : Nat
  /-- SYNC_OUT_MODE in use (02 R51, R571). -/
  syncOut : Nat
  /-- SYNC_MISS_LIMIT in use (02 R52). -/
  missLimit : Nat
  /-- SYNC_IN_OFFSET in use (02 R51). -/
  syncOff : Int
  /-- SYNC_IN_EDGE in use: falling (02 R54). -/
  syncFall : Bool
  /-- MARK_INTERVAL in use (02 R56, R571). -/
  mark : Nat
  /-- DIAG_FRAME_STATUS (02 R57). -/
  status : Word
  /-- DIAG_OVERRUN_COUNT (02 R57). -/
  ovrCount : Nat
  /-- DIAG_OVERRUN_RUN (02 R57). -/
  ovrRun : Nat
  /-- DIAG_BUDGET_WORST (02 R57). -/
  budgetW : Nat
  /-- DIAG_BUDGET_LIMIT (02 R57). -/
  budgetL : Nat
  /-- DIAG_PHASE_PEAK (02 R57). -/
  peak : Nat
  /-- DIAG_SYNC_ERR (02 R57). -/
  syncErr : Int
  /-- Snapshot T10 of DIAG_TIME_SNAP (02 R57). -/
  snapT10 : Nat
  /-- Snapshot FRAME_NO of DIAG_TIME_SNAP (02 R57). -/
  snapFrame : Nat
  /-- Frequency correction of the timebase in ppm, held when SYNC_IN is lost (02 R51, R52). -/
  ppm : Int
  /-- Expected SYNC_IN edges missed in a row, and one more than the frame whose tick the latest edge met (02 R52). -/
  syncMiss : Nat
  syncEdge : Nat
  /-- The timebase has stepped its tick phase in this CONFIGURED or CHECKING (02 R51). -/
  stepped : Bool
  /-- SYNC_OUT pulses emitted since leaving RESET, and T10 of the latest (02 R51). -/
  syncOutN : Nat
  syncOutAt : Nat
  /-- The phase of the frame that had not ended at the output transfer slot: 1 gather, 2 safety, 3 engine, 4 program;
  0 none (02 R35, R45). -/
  late : Nat
  /-- The output transfer slot of the frame has been held (02 R35). -/
  slotDone : Bool
  /-- The mode that governed the frame before, for R68 (03). -/
  prevGov : Mode
  /-- The input image of the latest tick that gathered (02 R34). -/
  img : Image
  /-- The working output page (01 R24, 02 R35). -/
  page : Page
  /-- The page frozen at the output transfer slot, until the commit (02 R35, R45), and the one that waits for its apply
  instant (02 R37). -/
  frozen : Option Frozen
  toApply : Option Frozen
  /-- The commit of the frame has been held (02 R36). -/
  commitDone : Bool
  /-- The output image of the frame, sent in the output transfer slot (01 R21). -/
  outImg : Option OutImg
  /-- The image that has arrived at, and the one that is pending in, the field controller (key 0) and OB bank g (key g + 1)
  (01 R20, R21). -/
  arrived : Tab (Option OutImg)
  pend : Tab (Option OutImg)
  /-- FRAME_NO that the latest valid input transfer of each link carried: field link 0, Attar link 1, ABn 2 + n, OBn 8 + n
  (01 R19). -/
  inFrame : Tab (Option Nat)
deriving DecidableEq, Repr

def FrameSt.init : FrameSt :=
  { t10 := 0, tick := 0, next := 100000, frame := 0, fUs := 1000, commit := 800, out := 1000, ovrLimit := 3, syncIn := 0,
    syncOut := 0, missLimit := 3, syncOff := 0, syncFall := false, mark := 0, status := 0x140#32, ovrCount := 0, ovrRun := 0, budgetW := 0,
    budgetL := 0, peak := 0, syncErr := 0, snapT10 := 0, snapFrame := 0, ppm := 0, syncMiss := 0, syncEdge := 0, stepped := false,
    syncOutN := 0, syncOutAt := 0, late := 0, slotDone := false, prevGov := .reset, img := Image.init,
    page := Page.init, frozen := none, toApply := none, commitDone := false, outImg := none, arrived := [], pend := [], inFrame := [] }

/-- Modes and start-up (03). -/
structure ModeSt where
  /-- DIAG_MODE.MODE (03 R58). -/
  mode : Mode
  /-- DIAG_MODE.PREV_MODE (03 R84). -/
  prev : Mode
  /-- DIAG_MODE.LAST_CAUSE (03 R82). -/
  cause : Nat
  /-- FRAME_NO of the latest mode change; DIAG_MODE_FRAME shows 32 bits of it (03 R84, 06 R147). -/
  frame : Nat
  /-- DIAG_MODE_STATUS (03 R84). -/
  status : BitVec 6
  /-- The latched straps (03 R71). -/
  straps : Straps
  /-- The ALMSEL pin, which the AO banks follow in RESET (03 R71). -/
  almPin : Bool
  /-- DIAG_BOOT.FALLBACK (03 R76). -/
  fallback : Bool
  /-- DIAG_BOOT.START_KIND (03 R79). -/
  startKind : Nat
  /-- The next BOOT records an internal reset (03 R75, 06 R154). -/
  internal : Bool
  /-- HIF_STATUS.READY (05 R118). -/
  ready : Bool
  /-- The boot recovery interpreter runs (03 R74). -/
  recovery : Bool
  /-- A trial bank has been confirmed, or none runs, since BOOT (03 R77). -/
  confirmed : Bool
  /-- ALARM_SOURCE of SERVICE: true CHANNEL (03 R69). -/
  alarmCh : Bool
  /-- CHECKING was entered from SAFE_HOLD or STANDBY (03 R66). -/
  fromHold : Bool
  /-- SAFE_HOLD was entered by a fault cause from UNCONFIGURED or CONFIGURED: the outputs keep the strap state (03 R65). -/
  strapHold : Bool
  /-- In this BOOT the boot record has been read, and the firmware set has been loaded (03 R73, 05 R118). -/
  bootRead : Bool
  fwLoaded : Bool
  /-- The last BOOT step has ended; BOOT ends at the next tick (03 R73). -/
  bootDue : Bool
  /-- An EDM fault waits for the next tick (03 R62). -/
  pendEdm : Bool
  /-- Fault causes of SAFE_HOLD that wait for the next tick, lowest code first (03 R62, R82). -/
  pendFault : List Nat
  /-- An internal reset is scheduled 100 ms after FW_ACTIVATE with ACTION 1 became READY (06 R154). -/
  fwReset : Bool
  /-- The bank whose firmware set runs, DIAG_BOOT.BANK (03 R84). -/
  bank : Bool
deriving DecidableEq, Repr

/-- Straps at their open-pin values (03 R71). -/
def Straps.open_ : Straps := { almsel := false, unitId := 0, hostsel := false, bootsel := false, coldN := true }

def ModeSt.init : ModeSt :=
  { mode := .boot, prev := .reset, cause := 0, frame := 0, status := 0, straps := Straps.open_, almPin := false,
    fallback := false, startKind := 0, internal := false, ready := false, recovery := false, confirmed := true,
    alarmCh := false, fromHold := false, strapHold := false, bootRead := false, fwLoaded := false, bootDue := false, pendEdm := false, pendFault := [], fwReset := false, bank := false }

/-- What a check found, until the tick at which it is reported (04 R94, R102). -/
structure CheckRes where
  reason : Nat
  stage : Nat
  idx : Nat
  ty : Nat
  elem : Nat
  off : Nat
  w : Nat
  lim : Nat
deriving DecidableEq, Repr

def CheckRes.none_ : CheckRes := { reason := 0, stage := 0, idx := 0, ty := 0, elem := 0, off := 0, w := 0, lim := 0 }

/-- Configuration and check (04). -/
structure CfgSt where
  /-- The records of the enabled configuration, from the end of BOOT on (03 R59, 04 R85). -/
  run : List Rec
  /-- The records of the configuration whose check passed last since BOOT; the parts of the module that R571 does not return
  to defaults keep it over DISABLE (08 R176, 10 R242). -/
  started : List Rec
  /-- CONFIG_ID, IMAGE_CRC and PROGRAM_ID of the enabled configuration (04 R105). -/
  ids : Nat × Nat × Nat
  /-- Staging state: 0 IDLE, 1 OPEN, 2 CLOSED (04 R105). -/
  stg : Nat
  /-- The bytes of the staging area (04 R90). -/
  bytes : List Byte
  /-- DIAG_CHECK_STATUS, WHERE, ELEMENT, OFFSET of the latest check (04 R105). -/
  last : CheckRes
  /-- DIAG_CHECK_STATUS.ORIGIN (04 R105). -/
  origin : Origin
  /-- What started the check that runs (04 R93). -/
  cur : Origin
  /-- DIAG_CHECK_FRAME (04 R105). -/
  frame : Nat
  /-- DIAG_CHECK_STATUS.RUNNING (04 R105). -/
  running : Bool
  /-- The frozen copy of the image being checked (04 R93). -/
  img : List Byte
  /-- A COLD restart initialises at the end of this check (03 R78). -/
  cold : Bool
  /-- The check has ended with this result, which takes effect at the next tick (04 R100). -/
  done : Option CheckRes
  /-- The store is being written: its marker is clear until the tick that leaves CHECKING (04 R100). -/
  storing : Bool
  /-- The staged program (06 R151, 17 R516). -/
  staged : Option (List Byte)
deriving DecidableEq, Repr

def CfgSt.init : CfgSt :=
  { run := [], started := [], ids := (0, 0, 0), stg := 0, bytes := [], last := CheckRes.none_, origin := .none, cur := .none, frame := 0, running := false,
    img := [], cold := false, done := none, storing := false, staged := none }

/-- Host port and shared window (05). -/
structure HostSt where
  /-- HIF_SCRATCH (05 R118). -/
  scratch : Word
  /-- HIF_CMD_HEAD (05 R118). -/
  head : Fin 1024
  /-- HIF_CMD_TAIL (05 R118). -/
  tail : Fin 1024
  /-- The requesting target of each ring entry (05 R119). -/
  reqTgt : Tab Nat
  /-- Accepted doorbells whose tail HEAD has not reached: target and tail (05 R119). -/
  bells : List (Nat × Nat)
  /-- HIF_CMD_ERROR (05 R118). -/
  cmdError : Word
  /-- HIF_CMD_ERROR_COUNT (05 R118). -/
  cmdErrCount : Nat
  /-- HIF_EVENT_STATUS (05 R118). -/
  event : BitVec 2
  /-- HIF_ACCESS_ERR (05 R118). -/
  accessErr : Nat
  /-- HIF_LINK_DOWN_COUNT (05 R118). -/
  linkDown : Nat
  /-- HIF_TGT_STATUS[0-7] (05 R118). -/
  tgt : Tab (BitVec 3)
  /-- The PCI Express link is up (05 R118). -/
  linkUp : Bool
  /-- HIF_STATUS.GEN2 (05 R118). -/
  gen2 : Bool
  /-- The endpoint is in D3hot (05 R109). -/
  d3 : Bool
  /-- MSI-X Enable and Function Mask of the configuration space (05 R111). -/
  msixEn : Bool
  msixFm : Bool
  /-- The words of the MSI-X table; a vector resets masked (05 R111, PCI Express Base 2.x). -/
  msix : Tab Word
  /-- The MSI-X pending-bit array (05 R111). -/
  pba : BitVec 8
  /-- MSI-X messages sent on each vector since leaving RESET (05 R111). -/
  sent : Tab Nat
  /-- PME_En and PME_Status (07 R166). -/
  pmeEn : Bool
  pmeStatus : Bool
  /-- Max Payload Size in bytes and ASPM L1 Control of the configuration space, and its Advanced Error Reporting status,
  uncorrectable and correctable (05 R106, R107); no command of the block changes them but a reset. -/
  mps : Nat
  aspmL1 : Bool
  aerUnc : Word
  aerCor : Word
  /-- PM_PME messages sent since leaving RESET (07 R166). -/
  pmeSent : Nat
  /-- The words the latest Quad-SPI read returned (05 R112). -/
  qspi : List Word
  /-- Directory words (05 R122). -/
  dir : Tab Dir
  /-- The bytes of the shared window, segment 1 excepted (05 R122). -/
  win : Tab Byte
  /-- WIN_VIOL (05 R128). -/
  viol : Nat
  /-- WIN_VIOL_LAST (05 R128). -/
  violLast : Word
  /-- A WIN_RECLAIM waits for the tick, with its return target (05 R128). -/
  reclaim : Option Nat
  /-- Bytes of host window traffic of the frame running, in the share and in the tail (05 R128). -/
  share : Nat
  tailB : Nat
  /-- WIN_BW_SHARE and WIN_BW_TAIL, of the last completed frame (05 R128). -/
  shareLast : Nat
  tailLast : Nat
deriving DecidableEq, Repr

/-- An unlisted directory word: host-owned, KIND 0, GEN 0 (05 R122). -/
def Dir.init : Dir := { dev := false, kind := 0, gen := 0 }

def HostSt.init : HostSt :=
  { scratch := 0, head := 0, tail := 0, reqTgt := [], bells := [], cmdError := 0, cmdErrCount := 0, event := 0, accessErr := 0,
    linkDown := 0, tgt := [], linkUp := false, gen2 := false, d3 := false, msixEn := false, msixFm := false, msix := [],
    pba := 0, sent := [], mps := 128, aspmL1 := false, aerUnc := 0, aerCor := 0, pmeEn := false, pmeStatus := false, pmeSent := 0, qspi := [],
    dir := [(0, { dev := false, kind := 1, gen := 0 }), (1, { dev := true, kind := 2, gen := 0 })], win := [],
    viol := 0, violLast := 0, reclaim := none, share := 0, tailB := 0, shareLast := 0, tailLast := 0 }

/-- Commands (06). -/
structure CmdSt where
  /-- The 256 result slots (06 R134). -/
  slots : Tab Slot
  /-- Commands past acceptance that have not completed, in acceptance order (06 R139). -/
  cmds : List Cmd
  /-- Forces in place, in the order set (06 R149). -/
  forces : List Force
  /-- Subscriptions 0-31 (06 R148, 14 R407). -/
  subs : Tab (Option Sub)
  /-- FW_STAGE: bytes staged, TOTAL_LENGTH and SET_CRC of the set, complete (06 R153). -/
  fwBytes : List Byte
  fwTotal : Nat
  fwCrc : Nat
  fwDone : Bool
deriving DecidableEq, Repr

def CmdSt.init : CmdSt :=
  { slots := [], cmds := [], forces := [], subs := [], fwBytes := [], fwTotal := 0, fwCrc := 0, fwDone := false }

/-- Host event controller and Sillage (07). -/
structure HecSt where
  /-- HEC_EVENT_STATUS.ORDER_FAULT (07 R169). -/
  order : BitVec 8
  /-- HEC_EVENT_STATUS.WAKE_SEEN (07 R169). -/
  wakeSeen : Bool
  /-- HEC_EN (07 R169). -/
  en : BitVec 256
  /-- HEC_WAKESET (07 R169). -/
  wakeset : BitVec 256
  /-- HEC_ROUTE: priority and target of each shared source not at its default (07 R169). -/
  route : Tab (Option (Nat × Nat))
  /-- The eight targets (07 R170). -/
  tgt : Tab Target
  /-- WAKE# is driven low (07 R166). -/
  wake : Bool
  /-- The T10 count of the latest arbitration (07 R160). -/
  lastArb : Nat
deriving DecidableEq, Repr

def HecSt.init : HecSt :=
  { order := 0, wakeSeen := false, en := 0, wakeset := 0, route := [], tgt := [], wake := false, lastArb := 0 }

/-- Digital inputs and outputs (08). -/
structure DioSt where
  /-- Counter filters of DI and SI (08 R174). -/
  di : Tab Filt
  si : Tab Filt
  /-- Tests of the inputs fed by generators (08 R178, R179). -/
  diT : Tab TpTest
  siT : Tab TpTest
  /-- Generators TP0-TP7 (08 R177). -/
  tp : Tab TpGen
  /-- SS0-SS2 faulty; DIAG_SENSOR_SUPPLY (08 R181). -/
  ss : BitVec 3
  /-- DIAG_DI_STATE, the filtered states at the latest tick (08 R207). -/
  diTick : BitVec 96
  /-- DO channels and groups (08 R182-R192). -/
  ch : Tab DoCh
  grp : Tab DoGroup
  /-- DIAG_DO_CMD (08 R207). -/
  cmdReg : BitVec 64
  /-- The pins' readback as the field controller last sent it, and DIAG_DO_READBACK (08 R207). -/
  rb : BitVec 64
  rbTick : BitVec 64
  /-- DIAG_DO_OVERLOAD, LATCHED, EXT_FEED, DARK_FAIL (08 R207). -/
  ovl : BitVec 64
  latched : BitVec 64
  ext : BitVec 64
  dark : BitVec 64
  /-- DIAG_DIO_EVENT (08 R207). -/
  event : BitVec 30
  /-- Tripped watchdogs, by the same bits; TRIPPED of DIAG_FWD_STATE is bit 0 (08 R194, 09 R233). -/
  trip : BitVec 9
  /-- Trips of which the logic side has not learned yet, by the same bits (08 R194). -/
  tripNews : BitVec 9
  /-- DIAG_FWD_TRIPS (08 R207). -/
  trips : Nat
  /-- T10 at which the field controller (key 0) and OB bank g (key g + 1) last moved a valid image (08 R194). -/
  lastImg : Tab Nat
  /-- The watchdog of the field controller (bit 0) and of OB bank g (bit g + 1) runs: a valid image has been
  moved since the strap state was taken (08 R193, R194); ARMED of DIAG_FWD_STATE is bit 0. -/
  arm : BitVec 9
  /-- DIAG_FIELD_LINK_ERR (08 R207). -/
  linkErr : Nat
  /-- Transfers of the Attar link discarded under 01 R20. -/
  attarErr : Nat
  /-- The field link, and the Attar link, discarded an input transfer of this frame (01 R20). -/
  stale : Bool
  attarStale : Bool
  /-- T10 from which the next sample of DI and SI is due (08 R174). -/
  smp : Nat
  /-- T10 of the tick at which the PWM periods restarted (08 R185). -/
  pwmAt : Nat
deriving DecidableEq, Repr

def DioSt.init : DioSt :=
  { di := [], si := [], diT := [], siT := [], tp := [], ss := 0, diTick := 0, ch := [], grp := [], cmdReg := 0, rb := 0,
    rbTick := 0, ovl := 0, latched := 0, ext := 0, dark := 0, event := 0, trip := 0,
    tripNews := 0, trips := 0, lastImg := [], arm := 0, linkErr := 0, attarErr := 0, stale := false, attarStale := false, smp := 0, pwmAt := 0 }

/-- Analogue inputs and current-loop outputs (09). -/
structure AnSt where
  /-- AI channels (09 R209-R211). -/
  ai : Tab AiCh
  /-- AI banks: assignment, Blotter, step (09 R212-R218). -/
  ab : Tab RotBank
  /-- Calibration of AI converter 9b + c (09 R215). -/
  aiCal : Tab Cal
  /-- DIAG_AI_RANGE and DIAG_AI_LOOP_FAULT (09 R240). -/
  range : BitVec 48
  loopF : BitVec 48
  /-- DIAG_AN_EVENT (09 R240). -/
  event : BitVec 29
  /-- T10 at the end of BOOT, from which rotation steps are scheduled (09 R213). -/
  bootEnd : Nat
  /-- AO channels (09 R221-R230). -/
  ao : Tab AoCh
  /-- AO banks' readback SARs (09 R226). -/
  ob : Tab RotBank
  /-- Calibration of AO SAR 5g + c (09 R226). -/
  aoCal : Tab Cal
  /-- DIAG_AO_COMPLIANCE and DIAG_AO_MISMATCH (09 R240). -/
  compl : BitVec 32
  mism : BitVec 32
  /-- DIAG_AO_SUPPLY_SEEN, and SUPPLY_LOW of each bank (09 R231). -/
  supSeen : BitVec 8
  supLow : BitVec 8
  /-- DIAG_AI_STEPS (09 R240). -/
  steps : Nat
  /-- DIAG_BANK_LINK_ERR (09 R240). -/
  linkErr : Nat
  /-- Banks (AB0-AB5 bits 0-5, OB0-OB7 bits 6-13) whose input transfer of this frame was discarded (01 R20), at the tick also
  the AI banks without one (09 R232). -/
  stale : BitVec 14
  /-- Frames in a row without a valid transfer of each AI bank, and banks at BAD for 8 of them (09 R232). -/
  miss : Tab Nat
  linkBad : BitVec 6
  /-- Banks, numbered as in `stale`, whose input transfer of this frame was valid (09 R229, R232). -/
  fresh : BitVec 14
  /-- AI banks that have received no valid transfer for 1 ms and start no step (09 R232). -/
  noLink : BitVec 6
  /-- The AO banks have had their supply since the logic supply came (09 R224, 19 R543). -/
  supplied : Bool
  /-- AO banks that have applied an image since they took the strap state; the others hold their alarm level (03 R64,
  R68, 08 R193). -/
  drv : BitVec 8
deriving DecidableEq, Repr

def AnSt.init : AnSt :=
  { ai := [], ab := [], aiCal := [], range := 0, loopF := 0, event := 0, bootEnd := 0, ao := [], ob := [], aoCal := [], compl := 0, mism := 0,
    supSeen := 0, supLow := 0, steps := 0, linkErr := 0, stale := 0, miss := [], linkBad := 0, fresh := 0, noLink := 0, supplied := false, drv := 0 }

/-- Position feedback (10). -/
structure PfSt where
  /-- The eight channels (10 R245-R271). -/
  ch : Tab PfCh
  /-- DIAG_PF_EVENT0 to DIAG_PF_EVENT2 as one word, bit 8k + c for field k of channel c (10 R280). -/
  event : BitVec 72
  /-- What the decoder sample of the next tick shows, each with its channel, in the order it came (10 R253). -/
  held : List (Nat × PfHap)
  /-- Events of R280 that wait for the tick at which the registers change. -/
  evNew : BitVec 72
  /-- DIAG_PF_REFERENCED, DIAG_PF_ARMED, DIAG_PF_SW_STATE (10 R280). -/
  refReg : Word
  armReg : Word
  swReg : Word
  /-- DIAG_PF_SNAP_FRAME (10 R280). -/
  snapFrame : Nat
  /-- Snapshot registers of each channel: POSITION, STAMP, speed (10 R280). -/
  snap : Tab (Nat × Nat × Nat)
deriving DecidableEq, Repr

def PfSt.init : PfSt :=
  { ch := [], event := 0, held := [], evNew := 0, refReg := 0, armReg := 0, swReg := 0, snapFrame := 0, snap := [] }

/-- A slot nothing has written yet (11 R285). -/
def Sig.init : Sig := { v := 0, q := .stale }

/-- Control engine (11, 12). -/
structure CeSt where
  /-- The 4,096 signal slots (11 R282), and as they stood at the end of the latest engine phase (14 R393). -/
  slots : Tab Sig
  endSlots : Tab Sig
  /-- The stages as they stood at the end of the latest engine phase, and the registers that change there and have no field of
  their own (11 R313, 12 R357). -/
  endStages : Tab Stage
  shown : List Nat
  /-- The stages (11 R281). -/
  stages : Tab Stage
  /-- DIAG_LOOP_AUTO (11 R313). -/
  auto : BitVec 64
  /-- DIAG_LOOP_SAT (11 R289, R313). -/
  sat : BitVec 64
  /-- DIAG_LOOP_MODE_EVT (11 R296, R313). -/
  modeEvt : BitVec 64
  /-- Changes of loop mode that the register shows from the end of the next engine phase on (11 R313). -/
  modeNew : BitVec 64
  /-- DIAG_LOOP_AT_LIMIT (11 R292, R313). -/
  atLimit : BitVec 64
  /-- DIAG_LOOP_HELD (11 R286, R313). -/
  held : BitVec 64
  /-- DIAG_ENGINE_PEAK (11 R313). -/
  peak : Nat
  /-- FRAME_NO of the latest engine phase (11 R313). -/
  frame : Nat
  /-- DIAG_STAGE_INFO, OUT, STATE0, STATE1 and FRAME of the stage window (11 R313). -/
  winInfo : Word
  winOut : F64
  winS0 : Word
  winS1 : Word
  winFrame : Word
  /-- The learners (12 R338). -/
  learners : Tab Learner
  /-- The captures (12 R345). -/
  caps : Tab Capture
  /-- DIAG_DOOR_OBS, DOOR_NUDGE, STOP_DEFERRED, STOP_REACHED, LEARNER_LIMIT, CAPTURE_DONE, INJECT_ENDED
  (12 R357). -/
  doorObs : BitVec 16
  doorNudge : BitVec 16
  stopDef : BitVec 16
  stopReach : BitVec 16
  learnLim : BitVec 16
  capDone : BitVec 16
  injEnd : BitVec 16
  /-- DIAG_PROFILE_TARGET and DIAG_PROFILE_STOPDIST (12 R357). -/
  snapTarget : BitVec 48
  snapDist : Word
deriving DecidableEq, Repr

def CeSt.init : CeSt :=
  { slots := [], endSlots := [], endStages := [], shown := [], stages := [], auto := 0, sat := 0, modeEvt := 0, modeNew := 0, atLimit := 0, held := 0, peak := 0, frame := 0, winInfo := 0,
    winOut := 0, winS0 := 0, winS1 := 0, winFrame := 0, learners := [], caps := [], doorObs := 0, doorNudge := 0, stopDef := 0,
    stopReach := 0, learnLim := 0, capDone := 0, injEnd := 0, snapTarget := 0, snapDist := 0 }

/-- Cyclic program engine (13). -/
structure PgSt where
  /-- Published values of the variables; of a forced variable, its shadow (13 R360, R364, R382). -/
  vars : Tab Val
  /-- The block instances by their position in image order (13 R358). -/
  insts : Tab Inst
  /-- The tasks (13 R391). -/
  tasks : Tab TaskSt
  /-- Requests made in the frame running, due at the next tick (13 R372). -/
  reqs : List Req
  /-- DIAG_PROG_EVENT (13 R391). -/
  event : BitVec 10
  /-- PROG_EVENT bits that EVENT blocks set at the commit of the frame (13 R372). -/
  evPend : BitVec 8
  /-- Retained instances of sliced tasks as they stood at the end of their latest completed run (13 R374). -/
  doneInsts : Tab Inst
  /-- DIAG_RETAIN_STATUS.RESTORED (13 R378). -/
  restored : Bool
  /-- DIAG_RETAIN_FAILS (13 R376). -/
  fails : Nat
  /-- DIAG_EXCH_KEPT, DIAG_EXCH_NEW, DIAG_EXCH_DROPPED (13 R391). -/
  kept : Nat
  fresh : Nat
  dropped : Nat
  /-- SYS START (13 R362). -/
  start : Nat
  /-- The program phase of the frame has run to its end (13 R374). -/
  phaseRan : Bool
deriving DecidableEq, Repr

def PgSt.init : PgSt :=
  { vars := [], insts := [], tasks := [], reqs := [], event := 0, evPend := 0, doneInsts := [], restored := false, fails := 0,
    kept := 0, fresh := 0, dropped := 0, start := 0, phaseRan := false }

/-- Point space (14). -/
structure PtSt where
  /-- The working fields of the points; an unlisted slot is as after a COLD restart (14 R392). -/
  recs : Tab Point
  /-- The trend rings by slot, oldest sample first (14 R404). -/
  rings : Tab (List Sample)
  /-- The alarm journal, oldest first, and the entries written since BOOT (14 R403, R416). -/
  journal : List Sample
  journalN : Nat
  /-- Queues not yet applied, oldest first (14 R394, R395). -/
  queues : List PtQueue
  /-- Acknowledgements in progress, in order (14 R396). -/
  acks : List AckJob
  /-- The latest frame whose queue has been applied, none before one (14 R407). -/
  applied : Option Nat
  /-- The frame whose prefetched points are STALE because a queue was late (14 R400). -/
  lateFor : Option Nat
  /-- The queue applied last was late, and its snapshots are skipped (14 R400). -/
  appliedLate : Bool
  /-- DIAG_POINT_EVENT (14 R416). -/
  event : BitVec 4
  /-- DIAG_SUB_OVERRUN (14 R416). -/
  subOvr : BitVec 32
  /-- DIAG_SUB_ACTIVE, DIAG_POINT_HOST, DIAG_ACK_PENDING as they read until the next queue is finished (14 R416). -/
  subReg : BitVec 32
  hostN : Nat
  ackReg : Nat
  /-- DIAG_POINT_CONFIGURED, UNITS, LIMIT, ALARM_JOURNAL and POINT_LATE, and DIAG_ALARM_ACTIVE and UNACK, as they read until the
  next queue is finished; 0 before the first (14 R416). -/
  shown : List Nat
  counts : List Nat
  /-- DIAG_POINT_LATE (14 R416). -/
  late : Nat
deriving DecidableEq, Repr

def PtSt.init : PtSt :=
  { recs := [], rings := [], journal := [], journalN := 0, queues := [], acks := [], applied := none, lateFor := none, appliedLate := false, event := 0,
    subOvr := 0, subReg := 0, hostN := 0, ackReg := 0, shown := [], counts := [], late := 0 }

/-- Bus ports (15). -/
structure BusSt where
  /-- The four ports (15 R420). -/
  ports : Tab Port
  /-- Static receive objects by number (15 R423). -/
  objs : Tab Obj
  /-- Dynamic objects (15 R432). -/
  dyns : List DynObj
  /-- The node table of 4,096 entries (15 R432, R441). -/
  nodes : Tab Node
  /-- The transmit queue of each port (15 R430). -/
  txq : Tab (List TxFrame)
  /-- What the transmit side of static objects keeps (15 R428, R429). -/
  hist : Tab TxHist
  /-- DIAG_BUS_EVENT0 (15 R448). -/
  event : Word
  /-- DIAG_DYN_REFUSED (15 R448). -/
  refused : Nat
deriving DecidableEq, Repr

def BusSt.init : BusSt := { ports := [], objs := [], dyns := [], nodes := [], txq := [], hist := [], event := 0, refused := 0 }

/-- Safety functions (16). -/
structure SafetySt where
  /-- Safety bits B0-B511 of SC (16 R451). -/
  bits : BitVec 512
  /-- L_SC of the latest safety phase that ran (16 R449). -/
  lsc : BitVec 8
  /-- SC's result of the frame running has been formed (16 R451, R457). -/
  scDone : Bool
  /-- L_AT in the tick snapshot, and the snapshot has been taken at a cycle start (16 R456). -/
  lat : BitVec 8
  latTaken : Bool
  /-- The safety image that SC has loaded: the records of TYPE 0x08xx (04 R98, 16 R472). -/
  copy : List Rec
  /-- Attar's own configuration memory: the ATTAR_TERM and ATTAR_TIMER records it has loaded (01 R18, 04 R98). -/
  table : List Rec
  /-- L_AT of the latest Attar cycle (16 R454). -/
  latLive : BitVec 8
  /-- SI states of the tick's sample on the Attar link (16 R456). -/
  latSi : BitVec 32
  /-- The safe messages that Attar accepted before the tick (16 R456). -/
  latMsgs : Tab MsgCh
  /-- Internal flags F0-F7 and the timers of Attar (16 R455). -/
  flags : BitVec 8
  timers : Tab AtTimer
  /-- high(k) as SC, and low(k) as Attar, last sent it (16 R449, R451, R454). -/
  high : BitVec 8
  low : BitVec 8
  /-- The commands that the field controller applies to the high-side and low-side switches: those that last arrived over
  the field link and the Attar link (08 R196, 01 R20). -/
  swHigh : BitVec 8
  swLow : BitVec 8
  /-- Fault latches of SC and of Attar (16 R459). -/
  latchSc : BitVec 8
  latchAt : BitVec 8
  /-- Both channels hold every switch open after an EDM fault, an image mismatch or a clock fault, until a reset
  or a reload (16 R461, R472, 01 R22). -/
  hold : Bool
  /-- The safety image is agreed (16 R472). -/
  agreed : Bool
  /-- A safety demand stands (16 R450). -/
  demand : Bool
  /-- DELAY blocks by their position among the elements (16 R453). -/
  delays : Tab DelaySt
  /-- Receive safe messages in SC and in Attar (16 R464-R466). -/
  msgs : Tab MsgCh
  msgsAt : Tab MsgCh
  /-- Ports BP0-BP3 LOST (16 R467), T10 of the latest valid copy on each, and T10 of the load of the image. -/
  lost : BitVec 4
  lastCopy : Tab (Option Nat)
  loadAt : Nat
  /-- Discrepancies standing, and since which tick (16 R457). -/
  disc : BitVec 8
  discSince : Tab (Option Nat)
  /-- DIAG_SO_FAULT: discrepancy, switch and EDM faults (16 R486). -/
  fltDisc : BitVec 8
  fltSwitch : BitVec 8
  fltEdm : BitVec 8
  /-- DIAG_SAFETY_EVENT (16 R486). -/
  event : BitVec 8
  /-- T10 of the tick at which the degraded cause began (16 R470). -/
  degFrom : Option Nat
  /-- EDM feedback wrong since, in SC and in Attar (16 R460); DIAG_EDM_STATE (16 R486). -/
  edmSc : Tab (Option Nat)
  edmAt : Tab (Option Nat)
  edmReg : BitVec 8
  /-- DIAG_ATTAR_CRC, DIAG_MSG_REJECTS, DIAG_SAFETY_PEAK (16 R486). -/
  attarCrc : Nat
  rejects : Nat
  peak : Nat
  /-- Readbacks of the high-side and low-side switches, 1 closed (08 R196). -/
  rbHigh : BitVec 8
  rbLow : BitVec 8
  /-- SEQ last sent and DATA of each transmit safe message (16 R468). -/
  txSeq : Tab Nat
  txBits : Tab Word
  /-- The registers of the safety page and the fields of SAFETY_STATUS as the end of the latest safety phase
  left them (16 R486, 06 R152). -/
  shown : List Nat
deriving DecidableEq, Repr

def SafetySt.init : SafetySt :=
  { bits := 0, lsc := 0, scDone := false, lat := 0, latTaken := false, latLive := 0, latSi := 0, latMsgs := [], flags := 0, timers := [], high := 0, low := 0, swHigh := 0, swLow := 0, copy := [], table := [],
    latchSc := 0, latchAt := 0, hold := false, agreed := false, demand := false, delays := [], msgs := [], msgsAt := [], lost := 0,
    lastCopy := [], loadAt := 0, disc := 0, discSince := [], fltDisc := 0, fltSwitch := 0, fltEdm := 0, event := 0, degFrom := none,
    edmSc := [], edmAt := [], edmReg := 0, attarCrc := 0, rejects := 0, peak := 0, rbHigh := 0, rbLow := 0, txSeq := [], txBits := [],
    shown := [] }

/-- What keeps its value over RESET: MRAM and flash (01 R27, 03 R76). -/
structure MramSt where
  /-- Boot record: ACTIVE_BANK (true B), TRIAL, TRIAL_LEFT (03 R76). -/
  bank : Bool
  trial : Bool
  trialLeft : Nat
  /-- Flash banks A and B pass their CRC (03 R76). -/
  okA : Bool
  okB : Bool
  /-- SET_CRC of the set in each bank, 0 for the set the module was built with (06 R153). -/
  setA : Nat
  setB : Nat
  /-- LOCKOUT latch (03 R80). -/
  lockout : Bool
  /-- ENABLED marker and image of the configuration store (03 R59, 04 R100). -/
  enabled : Bool
  image : List Byte
  /-- Retentive journal buffers (13 R375). -/
  jA : Journal
  jB : Journal
  /-- Fault log, entry k at SEQ k, oldest dropped; SEQ of the next entry (18 R535, R536). -/
  log : Tab (Option LogEntry)
  logSeq : Nat
  /-- GROUPED of the field controller's and the AO banks' settings memory (17 R489). -/
  grouped : Bool
deriving DecidableEq, Repr

def MramSt.init : MramSt :=
  { bank := false, trial := false, trialLeft := 0, okA := true, okB := false, setA := 0, setB := 0, lockout := false, enabled := false, image := [],
    jA := Journal.init, jB := Journal.init, log := [], logSeq := 0, grouped := false }

/-- Drydown and health (18). -/
structure HealthSt where
  /-- The queue of fault-log entries, at most 64, and entries written in the frame running (18 R535). -/
  queue : List LogEntry
  written : Nat
  /-- DIAG_FAULT_LOG_DROPPED (18 R540). -/
  dropped : Nat
  /-- The fourteen tests (18 R526). -/
  tests : Tab TestSt
  /-- The field-side tests that run (18 R523). -/
  running : List RunTest
  /-- DIAG_HEALTH: SCORE and CLASSES (18 R533, R540). -/
  score : Nat
  classes : BitVec 9
  /-- DIAG_HEALTH_EVENT (18 R540). -/
  event : BitVec 6
  /-- The cycle: cycles completed, T10 and FRAME_NO at its start, duration of the last in seconds, tests that may
  run in the modes the module has been in (18 R532). -/
  cycles : Nat
  cycleAt : Nat
  cycleFrame : Nat
  cycleLast : Nat
  may : BitVec 14
  /-- DIAG_ECC_CORR_SRAM, DIAG_ECC_CORR_DRAM, DIAG_ECC_ADDR, DIAG_SCRUB_PASSES (18 R540), T10 of the latest 17 corrections (18 R533). -/
  eccSram : Nat
  eccDram : Nat
  eccAddr : Nat
  scrubs : Nat
  eccAt : List Nat
  /-- T10 of the latest 11 field-link and bank-link transfers discarded (18 R533). -/
  discards : List Nat
  /-- Logic-side units of the second running and of the latest completed second, and that second's number (18 R540). -/
  units : Nat
  unitsLast : Nat
  unitsSec : Nat
  /-- The registers 0x5304-0x5334 as the latest tick left them; nothing listed before the first (18 R540). -/
  shown : List Nat
deriving DecidableEq, Repr

def HealthSt.init : HealthSt :=
  { queue := [], written := 0, dropped := 0, tests := [], running := [], score := 15, classes := 0, event := 0, cycles := 0, cycleAt := 0,
    cycleFrame := 0, cycleLast := 0, may := 0, eccSram := 0, eccDram := 0, eccAddr := 0, scrubs := 0, eccAt := [], discards := [], units := 0,
    unitsLast := 0, unitsSec := 0, shown := [] }

/-- Redundancy group (17). -/
structure GroupSt where
  /-- The claim latch: 0 VACANT, 1 CONTROL, 2 PEER; rounds in a row with VACANT; the frame whose round formed it
  (17 R494). -/
  latch : Nat
  vacant : Nat
  round : Option Nat
  /-- Output gates closed: the field controller's bit 0, OB bank g's bit g + 1 (17 R496). -/
  gate : BitVec 9
  /-- The latch has shown CONTROL and has not lost since (17 R494). -/
  claimed : Bool
  /-- The claim word written for the round of the frame running (17 R491). -/
  word : Option Nat
  /-- DIAG_CLAIM_OWN, the winning words, results of FX0 and FX1, DIAG_CLAIM_STATUS, FAULTY rounds (17 R521). -/
  own : Nat
  word0 : Nat
  word1 : Nat
  claimStatus : Nat
  faults0 : Nat
  faults1 : Nat
  /-- INCUMBENT as sent, HEALTH as sent (17 R521). -/
  incumbent : Bool
  healthSent : Nat
  /-- DIAG_GROUP_EVENT (17 R521). -/
  event : BitVec 9
  /-- The frame of the latest round won after one without CONTROL (17 R512, R521). -/
  gained : Nat
  /-- The holder as the latest round shows it, and the frame of the round from which it has held (06 R151). -/
  holder : Option Nat
  holderFrame : Nat
  /-- The peers, and the units whose section has arrived in the frame running, through SL0 and through SL1, and in the
  frame before (17 R501). -/
  peers : Tab Peer
  reach0 : BitVec 4
  reach1 : BitVec 4
  last0 : BitVec 4
  last1 : BitVec 4
  /-- SL0 and SL1 up (17 R521). -/
  slUp : BitVec 2
  /-- DIAG_SYNC_ERRORS, DIAG_STATE_DIFF_COUNT (17 R521). -/
  syncErrors : Nat
  diffs : Nat
  /-- Frames in a row without a tick comparison from the time master (17 R499). -/
  masterMiss : Nat
  /-- T10 and FRAME_NO of the master's latest tick as its section shows them, and that the comparison with them found this
  unit's own the same (02 R49, R50). -/
  masterAt : Option (Nat × Nat)
  agrees : Bool
  /-- The master's T10 and FRAME_NO that the next tick takes (02 R49), and a step has been made since BOOT. -/
  stepTo : Option (Nat × Nat)
  stepped : Bool
  /-- Tracking, joining, a join copy that has completed and waits for the tick, the background copy is done
  (17 R503, R505). -/
  tracking : Bool
  joining : Bool
  joined : Bool
  bgDone : Bool
  /-- T10 from which the dwell counts, and the dwell has ended (17 R508); SYNCED at the latest tick. -/
  dwellFrom : Option Nat
  dwellDone : Bool
  synced : Bool
  /-- DIAG_GROUP_JOIN (17 R521). -/
  joinMib : Nat
  joinAll : Nat
  /-- The holder's tick part of the frame running, and the phases of the frame have still to run (17 R503, R504). -/
  part : Option TickPart
  waiting : Bool
  /-- What TICK will run the phases with once the deadline has come (02 R35). -/
  tickIn : Option TickIn
  /-- PF FIFO entries of the holder since the tick (17 R502). -/
  fifo : Tab (List FifoEntry)
  /-- The announced handover: the target with PROGRAM, and the frame j of this unit's own request (17 R514). -/
  target : Option (Nat × Bool)
  reqFrame : Option Nat
  /-- HEALTH is capped, and a DIAG_GROUP_CAP_CLR waits for the tick (17 R513). -/
  capped : Bool
  capClr : Bool
  /-- DIAG_GROUP_TAKEOVER less the cap (17 R521). -/
  takeover : Nat
  /-- DIAG_GROUP_PF_OFFSET, and REFERENCED of the holder's channels with it (17 R507). -/
  pfOff : Tab Int
  pfRef : Option (BitVec 8)
  /-- The registers that change at the end of a claim round, as the latest one left them (17 R521). -/
  shown : List Nat
deriving DecidableEq, Repr

def GroupSt.init : GroupSt :=
  { latch := 0, vacant := 0, round := none, gate := 0, claimed := false, word := none, own := 0, word0 := 0, word1 := 0, claimStatus := 0, faults0 := 0, faults1 := 0,
    incumbent := false, healthSent := 0, event := 0, gained := 0, holder := none, holderFrame := 0, peers := [], reach0 := 0, reach1 := 0,
    last0 := 0, last1 := 0, slUp := 0, syncErrors := 0, diffs := 0, masterMiss := 0, masterAt := none, agrees := false, stepTo := none, stepped := false, tracking := false,
    joining := false, joined := false, bgDone := false, dwellFrom := none, dwellDone := false, synced := false, joinMib := 0, joinAll := 0,
    part := none, waiting := false, tickIn := none, fifo := [], target := none, reqFrame := none, capped := false, capClr := false, takeover := 0,
    pfOff := [], pfRef := none, shown := [] }

/-- The block. -/
structure State where
  fr : FrameSt
  md : ModeSt
  cfg : CfgSt
  hp : HostSt
  cm : CmdSt
  hec : HecSt
  dio : DioSt
  an : AnSt
  pf : PfSt
  ce : CeSt
  pg : PgSt
  pt : PtSt
  bus : BusSt
  sf : SafetySt
  gr : GroupSt
  hl : HealthSt
  mram : MramSt
  /-- The commands that are waiting, first in, first out. -/
  pending : List Instr
  /-- The model's own counter: the number of free values drawn. -/
  free : Nat
deriving DecidableEq, Repr

/-- Entry into BOOT of a new module with its straps open (00 R14). -/
def State.reset : State :=
  { fr := FrameSt.init, md := ModeSt.init, cfg := CfgSt.init, hp := HostSt.init, cm := CmdSt.init, hec := HecSt.init,
    dio := DioSt.init, an := AnSt.init, pf := PfSt.init, ce := CeSt.init, pg := PgSt.init, pt := PtSt.init, bus := BusSt.init,
    sf := SafetySt.init, gr := GroupSt.init, hl := HealthSt.init, mram := MramSt.init, pending := [], free := 0 }

end Sys2Proof.Machine
end

