-- ==== Sys2Proof/Config.lean ====
section
/-! DEFINITION. What one module fixes and the spec leaves open: opaque constants without a body, so that no
proof can see a value (notes/assumptions/2.md, 3.md), and the free values the model draws. -/

namespace Sys2Proof.Config

/-- What SERIAL of IDENTIFY is more than 1 (05 R570): unique to each module. -/
opaque serialLess : Fin 18446744073709551615

/-- SERIAL of IDENTIFY: a 64-bit number that is never 0 (05 R570). -/
def serial : Nat := serialLess.val + 1

/-- VARIANT of IDENTIFY (06 R147): 0 -M, 1 -B. -/
opaque variant : Bool

/-- The version word of the firmware set in a bank, true bank B, by its SET_CRC: HIF_FW_VERSION (05 R118). -/
opaque fwVersion : Bool → Nat → Word

/-- The corrected I reading's nominal value of a bank, 10.000 mA x R_REF, in nV (09 R215): production data. -/
opaque refNanoVolt : Nat → Nat

/-- The bytes of the point update queue region that n compiled POINT_RANGE elements take (01 R24, 14 R414): not stated. -/
opaque compiledBytes : Nat → Nat

/-- A change of A or B in which A leads B counts up (10 R245): which phase order does is not stated. -/
opaque aLeadsUp : Bool

/-- The 18-bit setting by which an AO channel regulates a current in mA (09 R221): its scale and rounding are not stated. -/
opaque aoSetting : BitVec 64 → BitVec 18

/-- Whether a duty that falls between two microseconds of its period is resolved upwards (08 R185): not stated. -/
opaque dutyUp : BitVec 64 → Nat → Bool

/-- The sync protocol number of the firmware set that runs (17 R506). -/
opaque syncProto : Nat

/-- The k-th free value the model draws where the spec states no result. -/
opaque freeValue : Nat → Nat

end Sys2Proof.Config
end

