-- ==== Sys2Proof/Machine/Bytes.lean ====
section
/-! DEFINITION. Byte order and bit fields: every multi-byte field is little-endian and bit 0 is the
least significant bit of its field (00 R9). -/

namespace Sys2Proof.Machine

/-- The little-endian number that `n` bytes at offset `o` of a byte list spell; bytes beyond the list read 0. -/
def leAt (b : List Byte) (o : Nat) : Nat → Nat
  | 0 => 0
  | n + 1 => (b.getD o 0).toNat + 256 * leAt b (o + 1) n

def u8 (b : List Byte) (o : Nat) : Nat := (b.getD o 0).toNat
def u16 (b : List Byte) (o : Nat) : Nat := leAt b o 2
def u32 (b : List Byte) (o : Nat) : Nat := leAt b o 4
def u48 (b : List Byte) (o : Nat) : Nat := leAt b o 6
def u64 (b : List Byte) (o : Nat) : Nat := leAt b o 8

/-- The two's-complement value of the `w` low bits of `n`. -/
def signed (w n : Nat) : Int :=
  let m := n % 2 ^ w
  if m < 2 ^ (w - 1) then (m : Int) else (m : Int) - (2 ^ w : Nat)

def i8 (b : List Byte) (o : Nat) : Int := signed 8 (u8 b o)
def i16 (b : List Byte) (o : Nat) : Int := signed 16 (u16 b o)
def i32 (b : List Byte) (o : Nat) : Int := signed 32 (u32 b o)
def i64 (b : List Byte) (o : Nat) : Int := signed 64 (u64 b o)
def f64 (b : List Byte) (o : Nat) : F64 := BitVec.ofNat 64 (u64 b o)

/-- The `n` little-endian bytes of a number, taken modulo 256^n. -/
def leBytes : Nat → Nat → List Byte
  | 0, _ => []
  | n + 1, v => BitVec.ofNat 8 v :: leBytes n (v / 256)

/-- The bits of an integer as an unsigned number of `w` bits. -/
def unsigned (w : Nat) (z : Int) : Nat := (z % (2 ^ w : Nat)).toNat

/-- The field of `w` bits that starts at bit `lo`. -/
def bits (n lo w : Nat) : Nat := n / 2 ^ lo % 2 ^ w

/-- `w` with bit `i` set. -/
def bset {n : Nat} (w : BitVec n) (i : Nat) : BitVec n := w ||| BitVec.twoPow n i

/-- `w` with bit `i` cleared. -/
def bclr {n : Nat} (w : BitVec n) (i : Nat) : BitVec n := w &&& ~~~ BitVec.twoPow n i

/-- `w` with bit `i` as given. -/
def bput {n : Nat} (w : BitVec n) (i : Nat) (v : Bool) : BitVec n := if v then bset w i else bclr w i

/-- The word of bits `f 0` to `f (n - 1)`. -/
def ofBits (n : Nat) (f : Nat → Bool) : BitVec n :=
  (List.range n).foldl (fun w i => if f i then bset w i else w) 0#n

/-- 32 bits of a longer register, word `k` of it. -/
def wordOf {n : Nat} (w : BitVec n) (k : Nat) : Word := BitVec.ofNat 32 (w.toNat / 2 ^ (32 * k))

/-- A 32-bit write of ones into word `k` of a longer register. -/
def spread (n k : Nat) (v : Word) : BitVec n := BitVec.ofNat n (v.toNat * 2 ^ (32 * k))

/-- Bit `i` of a number. -/
def bitOf (n i : Nat) : Bool := n.testBit i

/-- `n` with bit `i` set to `v`. -/
def putBit (n i : Nat) (v : Bool) : Nat :=
  if v then n ||| 2 ^ i else if n.testBit i then n - 2 ^ i else n

/-- `n` with the bits of `m` cleared (a W1C write, 00 R11). -/
def clearBits (n m : Nat) : Nat := n - (n &&& m)

/-- Sets bit `i` of a number. -/
def orBit (n i : Nat) : Nat := n ||| 2 ^ i

/-- The positions below `k` at which a number has a 1, ascending. -/
def bitsSet (n k : Nat) : List Nat := (List.range k).filter (fun i => n.testBit i)

/-- `n + 1`, saturating at `m` (the diagnostic counters). -/
def satInc (m n : Nat) : Nat := if n < m then n + 1 else m

/-- A 32-bit saturating counter. -/
def satInc32 (n : Nat) : Nat := satInc 0xFFFFFFFF n

/-- Clamp of an integer between two limits, the upper governing. -/
def clampI (x lo hi : Int) : Int := min (max x lo) hi

/-- A value for a signed 32-bit register field, saturating at plus and minus 2^31 - 1. -/
def sat31 (z : Int) : Nat := unsigned 32 (clampI z (-2147483647) 2147483647)

/-- `k` zero bytes. -/
def zeros (k : Nat) : List Byte := List.replicate k 0

/-- A byte list cut or filled with zeros to `n` bytes. -/
def fit (n : Nat) (b : List Byte) : List Byte := b.take n ++ zeros (n - b.length)

/-- A byte list with `v` written over it from offset `o` on. -/
def overlay (b : List Byte) (o : Nat) (v : List Byte) : List Byte :=
  b.take o ++ zeros (o - b.length) ++ v ++ b.drop (o + v.length)

end Sys2Proof.Machine
end

