-- ==== Sys2Proof/Machine/Crc.lean ====
section
/-! DEFINITION. The two CRC-32 of the manual, bit by bit in their reflected form. -/

namespace Sys2Proof.Machine

/-- Eight shift steps of a reflected 32-bit CRC with reflected polynomial `p`. -/
def crcShift (p : Nat) : Nat → Nat → Nat
  | 0, c => c
  | n + 1, c => crcShift p n (if c % 2 = 1 then (c / 2) ^^^ p else c / 2)

/-- The register after one byte. -/
def crcByte (p c : Nat) (b : Byte) : Nat := crcShift p 8 (c ^^^ b.toNat)

/-- A reflected CRC-32 with initial value and final XOR 0xFFFF_FFFF. -/
def crc32Of (p : Nat) (b : List Byte) : Nat := (b.foldl (crcByte p) 0xFFFFFFFF) ^^^ 0xFFFFFFFF

/-- CRC-32 with polynomial 0x04C1_1DB7 (04 R89); the reflected polynomial is 0xEDB8_8320. -/
def crc32 (b : List Byte) : Nat := crc32Of 0xEDB88320 b

/-- CRC-32C with polynomial 0x1EDC_6F41 (16 R463); the reflected polynomial is 0x82F6_3B78. -/
def crc32c (b : List Byte) : Nat := crc32Of 0x82F63B78 b

/-- One step of the serial encoder's CRC, most significant bit first, initial value 0 (10 R250). -/
def serCrcBit (poly k : Nat) (c : Nat) (b : Bool) : Nat :=
  let c' := 2 * c + b2n b
  if c'.testBit k then c' ^^^ poly else c'

/-- The CRC of `k` bits over `n` data bits of `w`, with the leading term in `poly` (10 R250). -/
def serCrc (poly k w n : Nat) : Nat :=
  let ds := (List.range n).map (fun i => w.testBit (n - 1 - i))
  (ds ++ List.replicate k false).foldl (serCrcBit poly k) 0

end Sys2Proof.Machine
end

