-- ==== Sys2Proof/Machine/Flags.lean ====
section
/-! DEFINITION. The status bits behind each shared event source (07 R157, R158) and its default priority. -/

namespace Sys2Proof.Machine

/-- The default priority of source n (07 R158). -/
def defaultPrio (n : Nat) : Nat :=
  if n < 16 then ([0, 6, 2, 5, 3, 3, 3, 3].getD n 0)
  else if n < 32 then ([12, 4, 8, 3, 10, 15, 5, 13, 14, 9, 7, 9, 9, 8, 9, 4].getD (n - 16) 0)
  else if n < 48 then ([8, 10, 10, 9, 6, 11, 7, 14, 9, 10, 9].getD (n - 32) 0)
  else if n < 64 then ([7, 10, 9, 11, 9, 11, 11, 9].getD (n - 48) 0)
  else if n < 80 then ([9, 9, 10, 10, 5, 7, 8, 10, 4].getD (n - 64) 0)
  else if n < 96 then ([5, 3, 0, 0, 0, 0, 0, 0, 10, 9, 4, 5, 5, 4, 3].getD (n - 80) 0)
  else if n < 112 then ([4, 4, 4, 4, 4, 4, 4, 4, 10, 3].getD (n - 96) 0)
  else if n < 128 then ([7, 4, 2, 7, 11].getD (n - 112) 0)
  else if n < 160 then ([4, 8, 9, 8, 7, 11, 3, 6].getD (n - 128) 0)
  else if n < 176 then ([12, 15, 15, 13, 11, 12, 15, 14].getD (n - 160) 0)
  else if n < 192 then ([11, 12, 10, 5, 8, 11, 10, 4, 13].getD (n - 176) 0)
  else ([10, 6, 3, 15, 2, 2].getD (n - 192) 0)

/-- Field of `w` bits from bit `lo` of a status register. -/
def field {n : Nat} (r : BitVec n) (lo w : Nat) : Nat := bits r.toNat lo w

/-- The status bits of shared source n; the source is asserted while one of them is 1 (07 R157). -/
def srcBits (s : State) (n : Nat) : Nat :=
  if n < 16 then 0
  else if n < 22 then
    field s.fr.status ([0, 2, 4, 5, 7, 9].getD (n - 16) 31) 1
  else if n < 28 then field s.md.status (n - 22) 1
  else if n < 30 then field s.hp.event (n - 28) 1
  else if n = 30 then s.hec.order.toNat
  else if n = 31 then b2n s.hec.wakeSeen
  else if n = 32 then s.dio.ovl.toNat
  else if n = 33 then s.dio.latched.toNat
  else if n = 34 then s.dio.ext.toNat
  else if n = 35 then s.dio.dark.toNat
  else if n = 36 then field s.dio.event 0 8
  else if n = 37 then field s.dio.event 8 8
  else if n = 38 then field s.dio.event 16 8
  else if n = 39 then field s.dio.event 24 1
  else if n = 40 then field s.dio.event 25 3
  else if n = 41 then field s.dio.event 28 1
  else if n = 42 then field s.dio.event 29 1
  else if n = 48 then s.an.range.toNat
  else if n = 49 then s.an.loopF.toNat
  else if n = 50 then field s.an.event 0 14
  else if n = 51 then field s.an.event 14 14
  else if n = 52 then s.an.compl.toNat
  else if n = 53 then s.an.mism.toNat
  else if n = 54 then s.an.supSeen.toNat
  else if n = 55 then field s.an.event 28 1
  else if 64 ≤ n ∧ n < 73 then field s.pf.event (8 * (n - 64)) 8
  else if n = 80 then s.ce.sat.toNat
  else if n = 81 then s.ce.modeEvt.toNat
  else if n = 88 then s.ce.doorObs.toNat
  else if n = 89 then s.ce.doorNudge.toNat
  else if n = 90 then s.ce.stopDef.toNat
  else if n = 91 then s.ce.stopReach.toNat
  else if n = 92 then s.ce.learnLim.toNat
  else if n = 93 then s.ce.capDone.toNat
  else if n = 94 then s.ce.injEnd.toNat
  else if 96 ≤ n ∧ n < 106 then field s.pg.event (n - 96) 1
  else if 112 ≤ n ∧ n < 115 then field s.pt.event (n - 112) 1
  else if n = 115 then s.pt.subOvr.toNat
  else if n = 116 then field s.pt.event 3 1
  else if 128 ≤ n ∧ n < 136 then field s.bus.event (4 * (n - 128)) 4
  else if 160 ≤ n ∧ n < 168 then field s.sf.event (n - 160) 1
  else if 176 ≤ n ∧ n < 185 then field s.gr.event (n - 176) 1
  else if 192 ≤ n ∧ n < 198 then field s.hl.event (n - 192) 1
  else 0

/-- Shared source n is asserted (07 R157). -/
def asserted (s : State) (n : Nat) : Bool := srcBits s n != 0

/-- The shared sources whose rises the fault log records: default priority 8 or more (18 R535). -/
def loggedSources : List Nat :=
  [16, 18, 20, 21, 23, 24, 25, 27, 28, 29, 30, 32, 33, 34, 35, 37, 39, 40, 41, 42, 49, 50, 51, 52,
   53, 54, 55, 64, 65, 66, 67, 70, 71, 88, 89, 104, 116, 129, 130, 131, 133, 160, 161, 162, 163, 164, 165, 166, 167, 176, 177, 178, 180, 181, 182, 184, 192, 195]

end Sys2Proof.Machine
end

