-- ==== Sys2Proof/Machine/Float64.lean ====
section
/-! DEFINITION. IEEE 754 binary64 arithmetic on bits, rounding to nearest with ties to even
(00 R10, 13 R365). A finite value is an exact dyadic number m * 2^e; every operation computes exactly
and rounds once. A NaN result is the quiet NaN `F64.nan`. -/

namespace Sys2Proof.Machine

/-- An exact dyadic number `m * 2^e`. -/
structure Dy where
  m : Int
  e : Int
deriving DecidableEq, Repr

namespace F64

def nan : F64 := 0x7FF8000000000000#64
def inf (neg : Bool) : F64 := if neg then 0xFFF0000000000000#64 else 0x7FF0000000000000#64
def zero (neg : Bool) : F64 := if neg then 0x8000000000000000#64 else 0#64
def one : F64 := 0x3FF0000000000000#64

def sign (x : F64) : Bool := x.toNat.testBit 63
def expo (x : F64) : Nat := bits x.toNat 52 11
def frac (x : F64) : Nat := x.toNat % 2 ^ 52

def isNaN (x : F64) : Bool := expo x == 2047 && frac x != 0
def isInf (x : F64) : Bool := expo x == 2047 && frac x == 0
def isFinite (x : F64) : Bool := expo x != 2047
def isZero (x : F64) : Bool := x.toNat % 2 ^ 63 == 0

/-- The exact value of a finite number (0 for the others). -/
def toDy (x : F64) : Dy :=
  if expo x == 2047 then { m := 0, e := 0 }
  else
    let m : Nat := if expo x = 0 then frac x else 2 ^ 52 + frac x
    let e : Int := if expo x = 0 then -1074 else (expo x : Int) - 1075
    { m := if sign x then -(m : Int) else m, e := e }

/-- `m / 2^d` rounded to nearest, ties to even; `sticky` says that a nonzero part was cut off before. -/
def roundShift (m d : Nat) (sticky : Bool) : Nat :=
  let q := m / 2 ^ d
  let r := m % 2 ^ d
  let half := 2 ^ d / 2
  if d = 0 then q
  else if r > half || (r == half && (sticky || q % 2 == 1)) then q + 1 else q

/-- The binary64 nearest to `(-1)^neg * m * 2^e`; with `sticky`, a little more than that magnitude
(the caller then gives `m` at least 55 bits). -/
def roundMag (neg : Bool) (m : Nat) (e : Int) (sticky : Bool) : F64 :=
  if m = 0 then zero neg
  else
    let q : Int := max (e + (Nat.log2 m : Int) - 52) (-1074)
    let mant : Nat := if q ≤ e then m * 2 ^ (e - q).toNat else roundShift m (q - e).toNat sticky
    -- the exponent field and the fraction add up, so that a carry moves the exponent
    let body : Nat := if mant < 2 ^ 52 then mant else (q + 1074).toNat * 2 ^ 52 + mant
    if body ≥ 2047 * 2 ^ 52 then inf neg
    else BitVec.ofNat 64 (b2n neg * 2 ^ 63 + body)

/-- The binary64 nearest to an exact dyadic number; `neg0` is the sign of a zero. -/
def ofDyS (neg0 : Bool) (d : Dy) : F64 :=
  if d.m = 0 then zero neg0 else roundMag (decide (d.m < 0)) d.m.natAbs d.e false

def ofDy (d : Dy) : F64 := ofDyS false d
def ofInt (z : Int) : F64 := ofDy { m := z, e := 0 }
def ofNat (n : Nat) : F64 := ofInt (n : Int)
def ofBool (b : Bool) : F64 := if b then one else zero false

def neg (x : F64) : F64 := x ^^^ 0x8000000000000000#64
def abs (x : F64) : F64 := x &&& 0x7FFFFFFFFFFFFFFF#64

/-- Exact sum of two dyadic numbers. -/
def dyAdd (a b : Dy) : Dy :=
  let e := min a.e b.e
  { m := a.m * (2 ^ (a.e - e).toNat : Nat) + b.m * (2 ^ (b.e - e).toNat : Nat), e := e }

def dyMul (a b : Dy) : Dy := { m := a.m * b.m, e := a.e + b.e }

/-- Comparison of two exact numbers. -/
def dyLt (a b : Dy) : Bool := decide ((dyAdd a { m := -b.m, e := b.e }).m < 0)

def add (x y : F64) : F64 :=
  if isNaN x || isNaN y then nan
  else if isInf x then (if isInf y && sign x != sign y then nan else x)
  else if isInf y then y
  else ofDyS (sign x && sign y) (dyAdd (toDy x) (toDy y))

def sub (x y : F64) : F64 := if isNaN y then nan else add x (neg y)

def mul (x y : F64) : F64 :=
  let s := sign x != sign y
  if isNaN x || isNaN y then nan
  else if isInf x || isInf y then (if isZero x || isZero y then nan else inf s)
  else ofDyS s (dyMul (toDy x) (toDy y))

def div (x y : F64) : F64 :=
  let s := sign x != sign y
  if isNaN x || isNaN y then nan
  else if isInf x then (if isInf y then nan else inf s)
  else if isInf y then zero s
  else if isZero y then (if isZero x then nan else inf s)
  else if isZero x then zero s
  else
    let a := toDy x
    let b := toDy y
    -- 120 further bits leave the quotient more than 55 bits
    let n := a.m.natAbs * 2 ^ 120
    let d := b.m.natAbs
    roundMag s (n / d) (a.e - b.e - 120) (n % d != 0)

/-- Integer square root, one result bit a step. -/
def isqrtFrom (n : Nat) : Nat → Nat → Nat
  | 0, r => r
  | k + 1, r => let c := r + 2 ^ k; isqrtFrom n k (if c * c ≤ n then c else r)

def sqrt (x : F64) : F64 :=
  if isNaN x then nan
  else if isZero x then x
  else if sign x then nan
  else if isInf x then x
  else
    let a := toDy x
    let odd : Nat := (a.e % 2).toNat
    let n := a.m.natAbs * 2 ^ (120 + odd)
    let r := isqrtFrom n 90 0
    roundMag false r ((a.e - odd - 120) / 2) (r * r != n)

/-- `x < y`; false when one of them is a NaN. -/
def lt (x y : F64) : Bool :=
  if isNaN x || isNaN y then false
  else if isInf x then sign x && !(isInf y && sign y)
  else if isInf y then !sign y
  else dyLt (toDy x) (toDy y)

/-- Equality of values: +0 = -0, a NaN equals nothing. -/
def eq (x y : F64) : Bool := !(isNaN x) && !(isNaN y) && (x == y || (isZero x && isZero y))

def le (x y : F64) : Bool := lt x y || eq x y
def gt (x y : F64) : Bool := lt y x
def ge (x y : F64) : Bool := le y x
def min2 (x y : F64) : F64 := if lt y x then y else x
def max2 (x y : F64) : F64 := if lt x y then y else x

/-- min(max(x, lo), hi). -/
def clamp (x lo hi : F64) : F64 := min2 (max2 x lo) hi

/-- An exact number rounded to an integer, ties to even. -/
def dyRound (d : Dy) : Int :=
  if 0 ≤ d.e then d.m * (2 ^ d.e.toNat : Nat)
  else
    let k := (-d.e).toNat
    let q := roundShift d.m.natAbs k false
    if d.m < 0 then -(q : Int) else q

/-- The greatest integer not above an exact number. -/
def dyFloor (d : Dy) : Int :=
  if 0 ≤ d.e then d.m * (2 ^ d.e.toNat : Nat) else d.m / (2 ^ (-d.e).toNat : Nat)

/-- An exact number cut toward 0. -/
def dyTrunc (d : Dy) : Int := if d.m < 0 then -(dyFloor { d with m := -d.m }) else dyFloor d

/-- A finite value rounded to the nearest integer, ties to even; 0 for the others. -/
def toInt (x : F64) : Int := dyRound (toDy x)
def floorInt (x : F64) : Int := dyFloor (toDy x)
def truncInt (x : F64) : Int := dyTrunc (toDy x)

/-- `x` rounded to an integer, saturating at the given limits; an infinity gives its limit, a NaN `0`. -/
def toIntSat (x : F64) (lo hi : Int) : Int :=
  if isNaN x then 0
  else if isInf x then (if sign x then lo else hi)
  else clampI (toInt x) lo hi

/-- The value of a binary32 of the same number, and back (15 OBJ fields FLOAT32): rounding to 24 bits. -/
def toF32 (x : F64) : Nat :=
  let s := b2n (sign x) * 2 ^ 31
  if isNaN x then 0x7FC00000
  else if isInf x then s + 0x7F800000
  else
    let d := toDy x
    let m := d.m.natAbs
    if m = 0 then s
    else
      let q : Int := max (d.e + (Nat.log2 m : Int) - 23) (-149)
      let mant := if q ≤ d.e then m * 2 ^ (d.e - q).toNat else roundShift m (q - d.e).toNat false
      let body := if mant < 2 ^ 23 then mant else (q + 149).toNat * 2 ^ 23 + mant
      s + min body 0x7F800000

def ofF32 (n : Nat) : F64 :=
  let s := n.testBit 31
  let e := bits n 23 8
  let f := n % 2 ^ 23
  if e = 255 then (if f = 0 then inf s else nan)
  else
    let m : Nat := if e = 0 then f else 2 ^ 23 + f
    let q : Int := if e = 0 then -149 else (e : Int) - 150
    if m = 0 then zero s else roundMag s m q false

end F64
end Sys2Proof.Machine
end

