-- ==== Sys2Proof/Machine/Ops.lean ====
section
/-! DEFINITION. Operations the meanings share: time, the fault log's queue, and what every command settles
when its effect is done. -/

namespace Sys2Proof.Machine

/-- Moves T10 on by `dt` counts, never to the next tick: what falls in its T10 cycle follows TICK (02 R39;
notes/assumptions/5.md). -/
def advance (s : State) (dt : Nat) : State :=
  { s with fr := { s.fr with t10 := min (s.fr.t10 + dt) (max s.fr.t10 (s.fr.next - 1)) } }

/-- Moves T10 on to `t` when that lies ahead, never to the next tick. -/
def advanceTo (s : State) (t : Nat) : State := advance s (t - s.fr.t10)

/-- Queues fault-log entries; the ones that find 64 in the queue are dropped and counted (18 R535). -/
def queueLog (h : HealthSt) (es : List LogEntry) : HealthSt :=
  { h with queue := (h.queue ++ es).take 64, dropped := satInc32N (h.dropped) ((h.queue ++ es).length - 64) }
where
  /-- A 32-bit saturating counter raised by `k`. -/
  satInc32N (n k : Nat) : Nat := min (n + k) 0xFFFFFFFF

/-- One happening of the code table of 18 R536, now; CAUSE is LAST_CAUSE for the codes 0x01cc. -/
def pushLog (s : State) (code item data : Nat) : State :=
  { s with hl := queueLog s.hl [{ code := code, mode := 0, cause := if code / 256 = 1 then code % 256 else 0, t10 := s.fr.t10, frame := s.fr.frame, item := item, data := data }] }

/-- The lowest SO that a fault register gained, 0xFFFF for none. -/
def newSo (a b : BitVec 8) : Nat := (bitsSet (clearBits b.toNat a.toNat) 8).headD 0xFFFF

/-- The item of the latest Drydown failure that waits in the queue of the fault log. -/
def lastFailItem (h : HealthSt) : Nat :=
  ((h.queue.filter (fun e => decide (0x0200 ≤ e.code) && decide (e.code ≤ 0x020D))).getLast?.map (·.item)).getD 0xFFFF

/-- ITEM of the entry for bit i of source n (18 R536): the bit's place where the bits stand for channels, SOs, groups, banks
or supplies; of a source with one bit what its registers name, else none. -/
def logItem (a b : State) (n i : Nat) : Nat :=
  if n = 28 then bits b.hp.cmdError.toNat 16 10
  else if n = 29 then bits b.hp.violLast.toNat 16 10
  else if n = 161 then newSo a.sf.fltDisc b.sf.fltDisc
  else if n = 162 then newSo a.sf.fltEdm b.sf.fltEdm
  else if n = 166 then newSo a.sf.fltSwitch b.sf.fltSwitch
  else if n = 184 then bits b.gr.takeover 8 8
  else if n = 192 then lastFailItem b.hl
  else if n < 30 ∨ [39, 41, 42, 55].contains n = true ∨ 96 ≤ n then (if 128 ≤ n ∧ n < 136 then i else 0xFFFF)
  else i

/-- The fault-log entries for the status bits of logged sources that rose from 0 to 1 (18 R535). -/
def risenLog (a b : State) : List LogEntry :=
  loggedSources.flatMap (fun n =>
    let w := srcBits b n
    if w = 0 then []
    else
      let new := clearBits w (srcBits a n)
      if new = 0 then []
      else (bitsSet new 96).map (fun i =>
        { code := n, mode := 0, cause := 0, t10 := b.fr.t10, frame := b.fr.frame, item := logItem a b n i, data := w }))

/-- HEC_ROUTE of shared source n: priority and target (07 R158, R169). -/
def route (s : State) (n : Nat) : Nat × Nat := (Tab.get s.hec.route none n).getD (defaultPrio n, 0)

/-- What target `t` of the host event controller holds. -/
def hecTgt (s : State) (t : Nat) : Target := Tab.get s.hec.tgt Target.init t

/-- HIF_TGT_STATUS of target t (05 R118). -/
def tgtStatus (s : State) (t : Nat) : BitVec 3 := Tab.get s.hp.tgt 0 t

/-- The priority at which source n is pending at target t; 0 when it is not (07 R159). -/
def pendingPrio (s : State) (t n : Nat) : Nat :=
  if n = 0 then 0
  else if n < 8 then
    let T := hecTgt s t
    let on := if n < 4 then (tgtStatus s t).toNat.testBit (n - 1) else T.soft.toNat.testBit n
    if on && T.pen.toNat.testBit n then bits T.pprio.toNat (4 * n) 4 else 0
  else if n < 16 then 0
  else
    let r := route s n
    if r.2 = t && s.hec.en.toNat.testBit n && asserted s n then r.1 else 0

/-- The sources of a target's latest arbitration less those whose assertion, enable, route or priority, and
less its winner when the THRESHOLD or HEC_SLEEP of the target, has changed (07 R161). -/
def staleRank (a b : State) (t : Nat) (T : Target) : Target :=
  if T.rank = [] then T
  else
    let A := hecTgt a t
    let kept := T.rank.filter (fun np => decide (pendingPrio a t np.1 = pendingPrio b t np.1))
    if A.threshold = T.threshold && A.sleep = T.sleep then { T with rank := kept }
    else { T with rank := kept.filter (fun np => decide (np.1 ≠ T.best)) }

/-- The items of Drydown tests 1 (DI), 2 (SI) and 13 (converters, SARs from 54 on) that have failed (08 R178, R179,
09 R215). -/
def collected (s : State) (t : Nat) : List Nat :=
  if t = 1 then (s.dio.diT.filter (fun kv => kv.2.failing)).map (·.1)
  else if t = 2 then (s.dio.siT.filter (fun kv => kv.2.failing)).map (·.1)
  else (s.an.aiCal.filter (fun kv => kv.2.retired)).map (·.1) ++ (s.an.aoCal.filter (fun kv => kv.2.retired)).map (fun kv => 54 + kv.1)

/-- One more failed item of a Drydown test (18 R535, R537, R539). -/
def countFail (t10 frame t item : Nat) (h : HealthSt) : HealthSt :=
  queueLog { h with
      tests := Tab.upd h.tests TestSt.init t (fun x => { x with failCount := satInc32 x.failCount })
      event := bset h.event 0 }
    [{ code := 0x0200 + t, mode := 0, cause := 0, t10 := t10, frame := frame, item := item, data := 0 }]

/-- The items that a command made fail in the collected tests (18 R526, R539). -/
def riseFails (a b : State) : HealthSt :=
  [1, 2, 13].foldl (fun h t =>
    ((collected b t).filter (fun i => !(collected a t).contains i)).foldl (fun h i => countFail b.fr.t10 b.fr.frame t i h) h) b.hl

/-- What every command settles once its effect is done: fault-log entries for the status bits that rose, and
the candidates of a claim that changed. -/
def settle (a b : State) : State :=
  { b with
    hl := queueLog (riseFails a b) (risenLog a { b with hl := riseFails a b })
    hec := { b.hec with tgt := Tab.mapAll b.hec.tgt Target.init (staleRank a b) } }

/-- The outcome of a command: the settled next state. -/
def done (a b : State) : Host.Outcome State Fault Refusal := .next (settle a b)

end Sys2Proof.Machine
end

