-- ==== Sys2Proof/Machine/Operands.lean ====
section
/-! DEFINITION. What the records of the enabled configuration say of each item, and what a mode is. -/

namespace Sys2Proof.Machine

/-- The record of a TYPE and INDEX (04 R86). -/
def findRec (l : List Rec) (ty idx : Nat) : Option Rec := l.find? (fun r => decide (r.ty = ty ∧ r.idx = idx))

/-- The record of a TYPE and INDEX in the configuration that runs. -/
def cfgRec (s : State) (ty idx : Nat) : Option Rec := findRec s.cfg.run ty idx

/-- The record of a TYPE and INDEX in the configuration that was started last (08 R176, 10 R242). -/
def startRec (s : State) (ty idx : Nat) : Option Rec := findRec s.cfg.started ty idx

/-- The body of a record, empty where it is absent. -/
def cfgBody (s : State) (ty idx : Nat) : List Byte := ((cfgRec s ty idx).map (·.body)).getD []

/-- The records of a TYPE, in image order. -/
def recsOf (l : List Rec) (ty : Nat) : List Rec := l.filter (fun r => decide (r.ty = ty))

/-- The elements of a list TYPE with `size` bytes each, in image order: record, position, bytes (04 R86). -/
def elemsOf (l : List Rec) (ty size : Nat) : List (Rec × Nat × List Byte) :=
  (recsOf l ty).flatMap (fun r => (List.range (r.body.length / size)).map (fun k => (r, k, (r.body.drop (size * k)).take size)))

/-- A configuration is enabled and runs (03 R59). -/
def hasCfg (s : State) : Bool := !s.cfg.run.isEmpty

/-- ACTIVE, DEGRADED, HANDOVER: the modes whose outputs are driven (03 R66). -/
def Mode.driven : Mode → Bool
  | .active => true | .degraded => true | .handover => true | _ => false

/-- The modes in which all phases run (03 R58). -/
def Mode.allPhases : Mode → Bool
  | .active => true | .standby => true | .handover => true | .degraded => true | _ => false

/-- The modes in which gather and safety run, the enabled configuration standing (03 R58). -/
def Mode.gathers : Mode → Bool
  | .checking => true | .active => true | .standby => true | .handover => true | .degraded => true
  | .safeHold => true | .service => true | .lockout => true | _ => false

/-- The outputs are in the strap state of 03 R64, R66. -/
def strapMode (s : State) : Bool :=
  match s.md.mode with
  | .reset => true | .boot => true | .unconfigured => true | .configured => true
  | .checking => !s.md.fromHold
  | .safeHold => !hasCfg s || s.md.strapHold
  | _ => !hasCfg s

/-- The modes in which the test-pulse generators run (08 R177). -/
def tpMode (s : State) : Bool :=
  hasCfg s && (match s.md.mode with
  | .checking => s.md.fromHold
  | .active => true | .standby => true | .handover => true | .degraded => true
  | .safeHold => !s.md.strapHold
  | .service => true | .lockout => true
  | _ => false)

/-- The unit's latched UNITID (03 R71). -/
def unitId (s : State) : Nat := s.md.straps.unitId

/-- FILT_N of an input channel (TYPE 0x0201 DI, 0x0202 SI); 3 without a record (08 R176). -/
def filtN (s : State) (ty c : Nat) : Nat := ((startRec s ty c).map (fun r => u16 r.body 0)).getD 3

/-- TP_SOURCE of an input channel, none without one (08 R199). -/
def tpSource (s : State) (ty c : Nat) : Option Nat :=
  (cfgRec s ty c).bind (fun r => if u8 r.body 4 < 8 then some (u8 r.body 4) else none)

/-- SUPPLY_DEP of an input channel (08 R199). -/
def supplyDep (s : State) (ty c : Nat) : Bool := ((cfgRec s ty c).map (fun r => decide (u8 r.body 5 = 1))).getD false

/-- The sensor supply of an input channel's connector: SS0, SS1 for DI, SS2 for SI (08 R181). -/
def supplyOf (ty c : Nat) : Nat := if ty = 0x0202 then 2 else if c < 48 then 0 else 1

/-- DO c is configured: its record and its group's stand (08 R202). -/
def doCfg (s : State) (c : Nat) : Bool := (cfgRec s 0x0204 c).isSome && (cfgRec s 0x0205 (c / 8)).isSome

/-- FLAGS of a DO: PWM, PARALLEL, DARK_TEST (08 R202). -/
def doFlag (s : State) (c i : Nat) : Bool := doCfg s c && (u8 (cfgBody s 0x0204 c) 0).testBit i

/-- SAFE_STATE of a DO: 0 OFF, 1 ON, 2 HOLD (08 R202). -/
def doSafe (s : State) (c : Nat) : Nat := u8 (cfgBody s 0x0204 c) 1

/-- FWD_TIMEOUT in T10; 100 ms without an enabled configuration or record (08 R194). -/
def fwdTimeout (s : State) : Nat := ((cfgRec s 0x0206 0).map (fun r => 100 * u32 r.body 0)).getD 10000000

/-- PWM period of a DO in microseconds (08 R202). -/
def pwmUs (s : State) (c : Nat) : Nat :=
  [1000, 2000, 5000, 10000, 20000, 50000, 100000, 200000].getD (u8 (cfgBody s 0x0204 c) 3 % 8) 1000

/-- WIDTH of a test pulse in T10 (08 R201). -/
def tpWidth (s : State) (k : Nat) : Nat := [20000, 50000, 100000, 200000].getD (u8 (cfgBody s 0x0203 k) 0 % 4) 50000

/-- PERIOD of a generator in T10 (08 R201). -/
def tpPeriod (s : State) (k : Nat) : Nat :=
  [2000000, 5000000, 10000000, 20000000, 50000000, 100000000, 200000000, 500000000].getD (u8 (cfgBody s 0x0203 k) 1 % 8) 100000000

/-- An AI channel in service: its record and its bank's stand (09 R212). -/
def aiCfg (s : State) (c : Nat) : Bool := (cfgRec s 0x0302 c).isSome && (cfgRec s 0x0301 (c / 8)).isSome

/-- MODE of an AI channel is VOLTAGE; CURRENT without a record (09 R208, R212). -/
def aiVolt (s : State) (c : Nat) : Bool := aiCfg s c && u8 (cfgBody s 0x0302 c) 0 = 1

/-- The conversion window of an AI channel in T10; 1,000 S/s without a record (09 R209, R212). -/
def aiWindow (s : State) (c : Nat) : Nat :=
  if aiCfg s c then [10000, 20000, 50000, 100000, 200000, 500000, 1000000, 2000000].getD (u8 (cfgBody s 0x0302 c) 1) 100000 else 100000

/-- ROT_PERIOD in s, CAL_TOL in 0.001 %, OVERLAP of an AI bank (09 R213, R235). -/
def rotPeriod (s : State) (b : Nat) : Nat := ((cfgRec s 0x0301 b).map (fun r => u16 r.body 0)).getD 60
def calTol (s : State) (b : Nat) : Nat := ((cfgRec s 0x0301 b).map (fun r => u16 r.body 2)).getD 20
def overlapN (s : State) (b : Nat) : Nat := ((cfgRec s 0x0301 b).map (fun r => u8 r.body 4)).getD 16

/-- An AO channel in service (09 R224). -/
def aoCfg (s : State) (c : Nat) : Bool := (cfgRec s 0x0304 c).isSome && (cfgRec s 0x0303 (c / 4)).isSome

/-- Constants in binary64: 3.5, 21.5, 24.0, 0.2, 0.1, 0.05. -/
def c3_5 : F64 := F64.div (F64.ofNat 7) (F64.ofNat 2)
def c21_5 : F64 := F64.div (F64.ofNat 43) (F64.ofNat 2)
def c24 : F64 := F64.ofNat 24
/-- A decimal fraction m / d rounded to binary64. -/
def frac64 (m : Int) (d : Nat) : F64 := F64.div (F64.ofInt m) (F64.ofNat d)

/-- The ALMSEL alarm level; in RESET the AO banks follow the pin (03 R64, R71). -/
def almLevel (s : State) : F64 := if (if s.md.mode = .reset then s.md.almPin else s.md.straps.almsel) then c21_5 else c3_5

/-- SAFE_STATE level of an AO channel (09 R238). -/
def aoSafeLevel (s : State) (c : Nat) : F64 :=
  let b := cfgBody s 0x0304 c
  if u8 b 1 = 0 then F64.div (F64.ofNat (u32 b 4)) (F64.ofNat 1000) else if u8 b 1 = 1 then c3_5 else c21_5

/-- ALARM_CHOICE level of an AO channel (09 R223). -/
def aoAlarmLevel (s : State) (c : Nat) : F64 := if u8 (cfgBody s 0x0304 c) 2 = 1 then c21_5 else c3_5

/-- A force on an item (06 R149). -/
def forceOf (s : State) (kind item : Nat) : Option F64 :=
  (s.cm.forces.find? (fun f => decide (f.kind = kind ∧ f.item = item))).map (·.value)

/-- The unit knows whether it has a group: a configuration is enabled and its parts run (17 R487, R488). -/
def groupKnown (s : State) : Bool := hasCfg s && !s.cfg.started.isEmpty

/-- UNIT_MASK of the enabled configuration, once a check has passed since BOOT (17 R488, R518). -/
def groupMask (s : State) : Nat := if groupKnown s then u8 (cfgBody s 0x0901 0) 0 else 0

/-- The group has two or more units (17 R487). -/
def grouped (s : State) : Bool := decide (2 ≤ (bitsSet (groupMask s) 4).length)

/-- The claim latch of the unit shows control; a lone unit always has it (03 R67). -/
def hasControl (s : State) : Bool := !grouped s || decide (s.gr.latch = 1)

/-- The output gate of a receiver is closed: the field controller's 0, OB bank g's g + 1 (17 R496). -/
def gateShut (s : State) (k : Nat) : Bool := s.gr.gate.toNat.testBit k

end Sys2Proof.Machine
end

