-- ==== Sys2Proof/Machine/Opcode.lean ====
section
/-! DEFINITION. The opcodes of the host commands: code, modes that permit them, kind of completion (06 R146). -/

namespace Sys2Proof.Machine

/-- The OPCODE of a command (06 R146). -/
def Op.code : Op → Nat
  | .nop => 0x0001
  | .identify => 0x0002
  | .getMode => 0x0003
  | .cfgOpen => 0x0010
  | .cfgLoad => 0x0011
  | .cfgClose => 0x0012
  | .cfgReadback => 0x0013
  | .enable => 0x0020
  | .disable => 0x0021
  | .restart => 0x0022
  | .safeHoldEnter => 0x0023
  | .safeHoldLeave => 0x0024
  | .serviceEnter => 0x0025
  | .serviceLeave => 0x0026
  | .pointRead => 0x0030
  | .pointWrite => 0x0031
  | .pointSubscribe => 0x0032
  | .pointUnsubscribe => 0x0033
  | .alarmAck => 0x0034
  | .trendRead => 0x0035
  | .forceSet => 0x0040
  | .forceClear => 0x0041
  | .forceList => 0x0042
  | .valueChange => 0x0043
  | .progStage => 0x0050
  | .handoverRequest => 0x0051
  | .groupStatus => 0x0052
  | .captureArm => 0x0060
  | .captureRead => 0x0061
  | .injectStart => 0x0062
  | .injectStop => 0x0063
  | .learnControl => 0x0064
  | .loopMode => 0x0065
  | .stopQueueEdit => 0x0066
  | .pfArm => 0x0067
  | .testReport => 0x0070
  | .faultLogRead => 0x0071
  | .calReport => 0x0072
  | .fwStage => 0x0080
  | .fwActivate => 0x0081
  | .busPortCtrl => 0x0090
  | .nodeTableRead => 0x0091
  | .safetyStatus => 0x00A0
  | .safetyReset => 0x00A1

/-- How a command completes (06 R140): in the row, at the tick, with its copy, long. -/
inductive Kind where
  | i | t | c | l
deriving DecidableEq, Repr

def Op.kind : Op → Kind
  | .nop => .i
  | .identify => .i
  | .getMode => .i
  | .cfgOpen => .t
  | .cfgLoad => .c
  | .cfgClose => .t
  | .cfgReadback => .c
  | .enable => .l
  | .disable => .t
  | .restart => .l
  | .safeHoldEnter => .t
  | .safeHoldLeave => .t
  | .serviceEnter => .t
  | .serviceLeave => .t
  | .pointRead => .c
  | .pointWrite => .t
  | .pointSubscribe => .t
  | .pointUnsubscribe => .t
  | .alarmAck => .t
  | .trendRead => .c
  | .forceSet => .t
  | .forceClear => .t
  | .forceList => .c
  | .valueChange => .t
  | .progStage => .l
  | .handoverRequest => .l
  | .groupStatus => .i
  | .captureArm => .t
  | .captureRead => .c
  | .injectStart => .t
  | .injectStop => .t
  | .learnControl => .t
  | .loopMode => .t
  | .stopQueueEdit => .t
  | .pfArm => .t
  | .testReport => .c
  | .faultLogRead => .c
  | .calReport => .c
  | .fwStage => .l
  | .fwActivate => .i
  | .busPortCtrl => .t
  | .nodeTableRead => .c
  | .safetyStatus => .i
  | .safetyReset => .t

/-- The mode numbers 1-11 marked Y of a command, and R as mode 1 while the recovery interpreter runs (06 R146). -/
def Op.modeList : Op → List Nat × Bool
  | .nop => ([1, 2, 3, 4, 5, 6, 7, 8, 9, 10, 11], false)
  | .identify => ([1, 2, 3, 4, 5, 6, 7, 8, 9, 10, 11], false)
  | .getMode => ([1, 2, 3, 4, 5, 6, 7, 8, 9, 10, 11], false)
  | .cfgOpen => ([2, 3, 6], false)
  | .cfgLoad => ([2, 6], false)
  | .cfgClose => ([2], false)
  | .cfgReadback => ([2, 3, 4, 5, 6, 7, 8, 9, 10, 11], false)
  | .enable => ([3], false)
  | .disable => ([2, 3, 6, 9], false)
  | .restart => ([6, 9], false)
  | .safeHoldEnter => ([5, 6, 7, 8], false)
  | .safeHoldLeave => ([9], false)
  | .serviceEnter => ([2, 9], false)
  | .serviceLeave => ([10], false)
  | .pointRead => ([5, 6, 7, 8, 9, 10, 11], false)
  | .pointWrite => ([5, 7, 8, 9, 10, 11], false)
  | .pointSubscribe => ([5, 6, 7, 8, 9, 10, 11], false)
  | .pointUnsubscribe => ([5, 6, 7, 8, 9, 10, 11], false)
  | .alarmAck => ([5, 7, 8, 9, 10, 11], false)
  | .trendRead => ([5, 6, 7, 8, 9, 10, 11], false)
  | .forceSet => ([5, 8, 10], false)
  | .forceClear => ([5, 7, 8, 9, 10, 11], false)
  | .forceList => ([5, 6, 7, 8, 9, 10, 11], false)
  | .valueChange => ([5, 8], false)
  | .progStage => ([6], false)
  | .handoverRequest => ([5, 8], false)
  | .groupStatus => ([2, 3, 4, 5, 6, 7, 8, 9, 10, 11], false)
  | .captureArm => ([5, 6, 7, 8], false)
  | .captureRead => ([5, 6, 7, 8, 9, 10, 11], false)
  | .injectStart => ([5], false)
  | .injectStop => ([5, 7, 8], false)
  | .learnControl => ([5, 8], false)
  | .loopMode => ([5, 8], false)
  | .stopQueueEdit => ([5, 8], false)
  | .pfArm => ([5, 8], false)
  | .testReport => ([2, 3, 4, 5, 6, 7, 8, 9, 10, 11], false)
  | .faultLogRead => ([1, 2, 3, 4, 5, 6, 7, 8, 9, 10, 11], false)
  | .calReport => ([2, 3, 4, 5, 6, 7, 8, 9, 10, 11], false)
  | .fwStage => ([2, 3, 6, 9, 11], true)
  | .fwActivate => ([2, 3, 6, 9, 11], true)
  | .busPortCtrl => ([5, 6, 7, 8, 9, 10, 11], false)
  | .nodeTableRead => ([5, 6, 7, 8, 9, 10, 11], false)
  | .safetyStatus => ([2, 3, 4, 5, 6, 7, 8, 9, 10, 11], false)
  | .safetyReset => ([5, 8, 9, 11], false)

/-- A mode permits a command (06 R146). -/
def permits (op : Op) (m : Mode) (recovery : Bool) : Bool :=
  op.modeList.1.contains m.num || (op.modeList.2 && recovery && decide (m = .boot))

end Sys2Proof.Machine
end

