-- ==== Sys2Proof/Machine/Hec.lean ====
section
/-! DEFINITION. The host event controller and the Sillage watcher (07), with MSI-X delivery (05 R111). -/

namespace Sys2Proof.Machine

/-- Target t exists: 4-7 do not in Quad-SPI mode (07 R155). -/
def tgtExists (s : State) (t : Nat) : Bool := !s.md.straps.hostsel || decide (t < 4)

/-- Host accesses reach the registers: not in RESET, and not in D3hot (05 R109). -/
def hostUp (s : State) : Bool := s.md.mode != .reset && (s.md.straps.hostsel || !s.hp.d3)

/-- A host access: `f` where the port takes it, nothing where it is an unsupported request. -/
def hostAccess (s : State) (f : State → State) : State := if hostUp s then f s else s

/-- Changes target t of the controller. -/
def updTgt (s : State) (t : Nat) (f : Target → Target) : State :=
  { s with hec := { s.hec with tgt := Tab.upd s.hec.tgt Target.init t f } }

/-- A write to the page of target t; dropped where the target does not exist (07 R155). -/
def onPage (s : State) (t : Nat) (f : Target → Target) : State := if tgtExists s t then updTgt s t f else s

/-- Priority of the top entry of a stack, 0 when it is empty (07 R159). -/
def topPrio (T : Target) : Nat := ((T.stack.getLast?).getD (0, 0)).2

/-- Source of the top entry of a stack, 0 when it is empty (07 R162). -/
def topSrc (T : Target) : Nat := ((T.stack.getLast?).getD (0, 0)).1

/-- Source n is deliverable at target t, with its priority; 0 when it is not (07 R159). -/
def deliverPrio (s : State) (t n : Nat) : Nat :=
  let p := pendingPrio s t n
  let T := hecTgt s t
  if p ≠ 0 && !T.sleep && decide (T.threshold < p) && decide (topPrio T < p) && (T.window.isNone || p = 15) then p else 0

/-- Inserts a source into a ranking: highest priority first, the lower number first among equals (07 R160). -/
def rankIns (np : Nat × Nat) : List (Nat × Nat) → List (Nat × Nat)
  | [] => [np]
  | x :: r => if x.2 < np.2 then np :: x :: r else x :: rankIns np r

/-- The deliverable sources of target t, best first (07 R160). -/
def ranking (s : State) (t : Nat) : List (Nat × Nat) :=
  (List.range 256).foldl (fun l n => let p := deliverPrio s t n; if p = 0 then l else rankIns (n, p) l) []

/-- A word of the MSI-X table; the vector control words reset masked (05 R111). -/
def msixWord (s : State) (k : Nat) : Word := Tab.get s.hp.msix (if k % 4 = 3 then 1 else 0) k

/-- Vector t is masked, by its own bit or by Function Mask (05 R111). -/
def vecMasked (s : State) (t : Nat) : Bool := s.hp.msixFm || (msixWord s (4 * t + 3)).toNat.testBit 0

/-- Sends the message of vector t (05 R111). -/
def msixSend (s : State) (t : Nat) : State :=
  { s with hp := { s.hp with sent := Tab.upd s.hp.sent 0 t (· + 1) } }

/-- What a change of the request line of target t does (05 R111): going active sends a message or sets the
pending bit, going inactive clears the pending bit. -/
def requestEdge (s : State) (t : Nat) (was now : Bool) : State :=
  if s.md.straps.hostsel then s
  else if now && !was then
    if !s.hp.msixEn then s
    else if vecMasked s t then { s with hp := { s.hp with pba := bset s.hp.pba t } }
    else msixSend s t
  else if was && !now then { s with hp := { s.hp with pba := bclr s.hp.pba t } }
  else s

/-- Arbitrates target t: its winner, its ranking, its request line (07 R160). -/
def arbitrate (s : State) (t : Nat) : State :=
  if !tgtExists s t then s
  else
    let l := ranking s t
    let w := l.headD (0, 0)
    let was := (hecTgt s t).req
    let now := !l.isEmpty
    requestEdge (updTgt s t (fun T => { T with rank := l, best := w.1, bestPrio := w.2, req := now })) t was now

/-- The T10 count of the next arbitration (07 R160). -/
def arbCount (s : State) : Nat := (s.fr.t10 / 10 + 1) * 10

/-- HEC_ARBITRATION (07 R160): the controller arbitrates every target at the next T10 count that is a multiple of 10, once for
one count. At the count of the next tick it sees the state before TICK; past it, TICK comes first. -/
def doArbitration (s : State) : State :=
  let c := arbCount s
  if s.md.mode = .reset ∨ s.fr.next < c ∨ s.hec.lastArb = c then s
  else
    let s1 := advanceTo s c
    (List.range 8).foldl arbitrate { s1 with hec := { s1.hec with lastArb := c } }

def execHecArbitration (s : State) : Host.Outcome State Fault Refusal := done s (doArbitration s)

/-- A claim may take source n at priority p (07 R161): the winner of the latest arbitration while nothing of it has changed since,
a later source only where it is deliverable now; a push needs a priority above that of the entry below it. -/
def claimable (s : State) (t : Nat) (np : Nat × Nat) : Bool :=
  if np.1 = (hecTgt s t).best then decide (topPrio (hecTgt s t) < np.2) else decide (deliverPrio s t np.1 = np.2)

/-- The source a claim of target t takes: the first of the latest arbitration's order that the claim need not pass over
(07 R161; `rank` holds no source that has changed since). -/
def claimChoice (s : State) (t : Nat) : Option (Nat × Nat) := (hecTgt s t).rank.find? (claimable s t)

/-- HEC_CLAIM (07 R161): pushes the source claimed and writes HEC_CLAIMED. -/
def doClaim (s : State) (t : Nat) (v : Word) : State :=
  if !v.toNat.testBit 0 then s
  else
    let c := claimChoice s t
    onPage s t (fun T =>
      { T with
        claimedSrc := (c.getD (0, 0)).1, claimedPrio := (c.getD (0, 0)).2, seq := (T.seq + 1) % 65536,
        stack := T.stack ++ c.toList })

def execHecClaim (t : Fin 8) (v : Word) (s : State) : Host.Outcome State Fault Refusal :=
  done s (hostAccess s (fun s => doClaim s t.val v))

/-- The moderation window after a pop (07 R164): none when the stack is empty or HEC_MOD is 0. -/
def windowAfter (now : Nat) (T : Target) : Option Nat :=
  if T.stack.isEmpty || T.modUs = 0 then none else some (now + 100 * T.modUs)

/-- HEC_COMPLETE (07 R162): pops the top entry, or records an order fault. -/
def doComplete (s : State) (t : Nat) (v : Word) : State :=
  if !tgtExists s t then s
  else
    let n := v.toNat % 256
    let T := hecTgt s t
    if T.stack ≠ [] ∧ topSrc T = n then
      updTgt s t (fun T => let U := { T with stack := T.stack.dropLast }; { U with window := windowAfter s.fr.t10 U })
    else
      let s1 := updTgt s t (fun T => { T with faultWritten := n, faultTop := topSrc T, faultCount := satInc 65535 T.faultCount })
      { s1 with hec := { s1.hec with order := bset s1.hec.order t } }

def execHecComplete (t : Fin 8) (dt : Nat) (v : Word) (s : State) : Host.Outcome State Fault Refusal :=
  done s (hostAccess s (fun s => doComplete (advance s dt) t.val v))

/-- HEC_STACK_RESET (07 R163): empties the stacks of the targets written 1 and closes their windows. -/
def doStackReset (s : State) (v : Word) : State :=
  (List.range 8).foldl (fun s t => if v.toNat.testBit t then onPage s t (fun T => { T with stack := [], window := none }) else s) s

def execHecStackReset (v : Word) (s : State) : Host.Outcome State Fault Refusal :=
  done s (hostAccess s (fun s => doStackReset s v))

/-- The SOFT bits of a word, bits 4-7 (07 R170). -/
def softBits (v : Word) : BitVec 8 := BitVec.ofNat 8 (v.toNat % 256) &&& 0xF0#8

/-- The private-source bits of a word, bits 1-7 (07 R170). -/
def privBits (v : Word) : BitVec 8 := BitVec.ofNat 8 (v.toNat % 256) &&& 0xFE#8

def doSetpend (s : State) (t : Nat) (v : Word) : State := onPage s t (fun T => { T with soft := T.soft ||| softBits v })
def doClrpend (s : State) (t : Nat) (v : Word) : State := onPage s t (fun T => { T with soft := T.soft &&& ~~~ softBits v })
def doPseten (s : State) (t : Nat) (v : Word) : State := onPage s t (fun T => { T with pen := T.pen ||| privBits v })
def doPclren (s : State) (t : Nat) (v : Word) : State := onPage s t (fun T => { T with pen := T.pen &&& ~~~ privBits v })
def doSleep (s : State) (t : Nat) (v : Word) : State := onPage s t (fun T => { T with sleep := v.toNat.testBit 0 })

/-- HEC_SETPEND (07 R157). -/
def execHecSetpend (t : Fin 8) (v : Word) (s : State) : Host.Outcome State Fault Refusal :=
  done s (hostAccess s (fun s => doSetpend s t.val v))

/-- HEC_CLRPEND (07 R157). -/
def execHecClrpend (t : Fin 8) (v : Word) (s : State) : Host.Outcome State Fault Refusal :=
  done s (hostAccess s (fun s => doClrpend s t.val v))

/-- HEC_PSETEN (07 R170). -/
def execHecPseten (t : Fin 8) (v : Word) (s : State) : Host.Outcome State Fault Refusal :=
  done s (hostAccess s (fun s => doPseten s t.val v))

/-- HEC_PCLREN (07 R170). -/
def execHecPclren (t : Fin 8) (v : Word) (s : State) : Host.Outcome State Fault Refusal :=
  done s (hostAccess s (fun s => doPclren s t.val v))

/-- HEC_SLEEP (07 R165). -/
def execHecSleepWrite (t : Fin 8) (v : Word) (s : State) : Host.Outcome State Fault Refusal :=
  done s (hostAccess s (fun s => doSleep s t.val v))

/-- The bits of shared sources in word w of a 256-bit register; sources 0-15 have none (07 R169). -/
def sharedWord (w : Nat) (v : Word) : BitVec 256 :=
  spread 256 w v &&& ~~~ 0xFFFF#256

def doSeten (s : State) (w : Nat) (v : Word) : State := { s with hec := { s.hec with en := s.hec.en ||| sharedWord w v } }
def doClren (s : State) (w : Nat) (v : Word) : State := { s with hec := { s.hec with en := s.hec.en &&& ~~~ sharedWord w v } }

/-- HEC_SETEN (07 R169). -/
def execHecSeten (w : Fin 8) (v : Word) (s : State) : Host.Outcome State Fault Refusal :=
  done s (hostAccess s (fun s => doSeten s w.val v))

/-- HEC_CLREN (07 R169). -/
def execHecClren (w : Fin 8) (v : Word) (s : State) : Host.Outcome State Fault Refusal :=
  done s (hostAccess s (fun s => doClren s w.val v))

/-- HEC_WAKESET word w: bit 0 of word 0 stays 0 (07 R166). -/
def doWakeset (s : State) (w : Nat) (v : Word) : State :=
  { s with hec := { s.hec with
      wakeset := ((s.hec.wakeset &&& ~~~ spread 256 w 0xFFFFFFFF#32) ||| spread 256 w v) &&& ~~~ 1#256 } }

/-- HEC_ROUTE[n] (07 R169); a route to a target that does not exist is dropped and counted (07 R155). -/
def doRoute (s : State) (n : Nat) (v : Word) : State :=
  let p := v.toNat % 16
  let t := bits v.toNat 8 3
  if n < 16 then s
  else if !tgtExists s t then { s with hp := { s.hp with accessErr := satInc32 s.hp.accessErr } }
  else
    let e := if (p, t) = (defaultPrio n, 0) then none else some (p, t)
    { s with hec := { s.hec with route := Tab.set s.hec.route none n e } }

/-- MODERATION_WINDOW_END (07 R164): the open window of t closes when its microseconds have passed; where the next tick comes
before that, TICK comes first. -/
def doWindowEnd (s : State) (t : Nat) : State :=
  match (hecTgt s t).window with
  | none => s
  | some e => if s.fr.t10 < e ∧ s.fr.next ≤ e then s else updTgt (advanceTo s e) t (fun T => { T with window := none })

/-- The windows that have ended before the tick are closed (07 R164). -/
def endWindows (s : State) : State := (List.range 8).foldl doWindowEnd s

def execModerationWindowEnd (t : Fin 8) (s : State) : Host.Outcome State Fault Refusal := done s (doWindowEnd s t.val)

/-- Target t sleeps with a pending source in its wake set (07 R166). -/
def wakeCond (s : State) (t : Nat) : Bool :=
  tgtExists s t && (hecTgt s t).sleep &&
    (List.range 256).any (fun n => s.hec.wakeset.toNat.testBit n && pendingPrio s t n != 0)

/-- A wake condition stands for some target (07 R166). -/
def anyWake (s : State) : Bool := (List.range 8).any (wakeCond s)

/-- PME_Status goes to 1: one PM_PME when it was 0 and PME_En is 1; nothing of it in Quad-SPI mode (07 R166). -/
def pmeRaise (s : State) : State :=
  if s.md.straps.hostsel || s.hp.pmeStatus then s
  else { s with hp := { s.hp with pmeStatus := true, pmeSent := s.hp.pmeSent + b2n s.hp.pmeEn } }

/-- SILLAGE_WAKE (07 R166): a wake condition has risen where none stood. -/
def doSillageWake (s : State) : State :=
  if s.md.mode = .reset || s.hec.wake || !anyWake s then s
  else pmeRaise { s with hec := { s.hec with wake := true, wakeSeen := true } }

def execSillageWake (s : State) : Host.Outcome State Fault Refusal := done s (doSillageWake s)

/-- WAKE_RELEASE (07 R166): no wake condition stands any more. -/
def doWakeRelease (s : State) : State := if anyWake s then s else { s with hec := { s.hec with wake := false } }

def execWakeRelease (s : State) : Host.Outcome State Fault Refusal := done s (doWakeRelease s)

/-- PME_EN_WRITE (07 R166): PME_En going to 1 while PME_Status is 1 sends one PM_PME. -/
def doPmeEn (s : State) (v : Bool) : State :=
  if s.md.straps.hostsel then s
  else { s with hp := { s.hp with pmeEn := v, pmeSent := s.hp.pmeSent + b2n (v && !s.hp.pmeEn && s.hp.pmeStatus) } }

def execPmeEnWrite (v : Bool) (s : State) : Host.Outcome State Fault Refusal := done s (doPmeEn s v)

/-- PM_PME_REPEAT (07 R166): the message again while PME_Status and PME_En both stay 1. -/
def doPmeRepeat (s : State) : State :=
  if s.hp.pmeStatus && s.hp.pmeEn && !s.md.straps.hostsel then { s with hp := { s.hp with pmeSent := s.hp.pmeSent + 1 } } else s

def execPmPmeRepeat (s : State) : Host.Outcome State Fault Refusal := done s (doPmeRepeat s)

/-- PME_STATUS_CLEAR (07 R166). -/
def doPmeClear (s : State) : State := { s with hp := { s.hp with pmeStatus := false } }

def execPmeStatusClear (s : State) : Host.Outcome State Fault Refusal := done s (doPmeClear s)

/-- Sends the messages of the vectors that have just lost their mask while their request is active (05 R111). -/
def unmaskVec (s : State) (t : Nat) : State :=
  if s.hp.msixEn && !s.md.straps.hostsel && !vecMasked s t && s.hp.pba.toNat.testBit t then
    let s1 := { s with hp := { s.hp with pba := bclr s.hp.pba t } }
    if (hecTgt s t).req then msixSend s1 t else s1
  else s

/-- MSIX_ENABLE_CHANGE (05 R111): MSI-X Enable and Function Mask take the values written; vectors that lose
the Function Mask with their pending bit set send now. While MSI-X Enable is 0 no pending bit stands, so a request already
active when it becomes 1 waits for its next rise (notes/assumptions/134.md). -/
def doMsixEnable (s : State) (en fm : Bool) : State :=
  if s.md.straps.hostsel then s
  else
    let s1 := { s with hp := { s.hp with msixEn := en, msixFm := fm, pba := if en then s.hp.pba else 0 } }
    if s.hp.msixEn && s.hp.msixFm && !fm then (List.range 8).foldl unmaskVec s1 else s1

def execMsixEnableChange (en fm : Bool) (s : State) : Host.Outcome State Fault Refusal := done s (doMsixEnable s en fm)

/-- A write to word k of the MSI-X table; only the mask bit of a vector control word is kept, and a vector
that loses its mask sends when its request is still active (05 R111). -/
def doMsixTable (s : State) (k : Nat) (v : Word) : State :=
  let w : Word := if k % 4 = 3 then v &&& 1#32 else if k % 4 = 0 then v &&& 0xFFFFFFFC#32 else v
  unmaskVec { s with hp := { s.hp with msix := Tab.set s.hp.msix (if k % 4 = 3 then 1 else 0) k w } } (k / 4)

/-- MSIX_UNMASK (05 R111): the host clears the mask bit of vector t. -/
def doMsixUnmask (s : State) (t : Nat) : State := doMsixTable s (4 * t + 3) 0

def execMsixUnmask (t : Fin 8) (s : State) : Host.Outcome State Fault Refusal :=
  done s (hostAccess s (fun s => doMsixUnmask s t.val))

/-- HEC_EVENT_STATUS write of ones (07 R169). -/
def doHecEvent (s : State) (v : Word) : State :=
  { s with hec := { s.hec with order := s.hec.order &&& ~~~ BitVec.ofNat 8 (v.toNat % 256), wakeSeen := s.hec.wakeSeen && !v.toNat.testBit 8 } }

/-- A write to register `o` of the page of target t (07 R170). -/
def hecPageWrite (s : State) (t o : Nat) (v : Word) : State :=
  if o = 0x00 then doClaim s t v
  else if o = 0x08 then doComplete s t v
  else if o = 0x0C then onPage s t (fun T => { T with threshold := v.toNat % 16 })
  else if o = 0x10 then onPage s t (fun T => { T with modUs := v.toNat % 1024 })
  else if o = 0x14 then doSleep s t v
  else if o = 0x28 then doSetpend s t v
  else if o = 0x2C then doClrpend s t v
  else if o = 0x34 then doPseten s t v
  else if o = 0x38 then doPclren s t v
  else if o = 0x40 then onPage s t (fun T => { T with pprio := v &&& 0xFFFFFFF0#32 })
  else s

/-- A write to the HEC blocks, BAR0 0x2000-0x37FF (07 R169, R170). -/
def hecWrite (s : State) (off : Nat) (v : Word) : State :=
  if 0x3000 ≤ off then hecPageWrite s ((off - 0x3000) / 256) (off % 256) v
  else if off = 0x2000 then doHecEvent s v
  else if off = 0x2004 then doStackReset s v
  else if 0x2040 ≤ off ∧ off < 0x2060 then doSeten s ((off - 0x2040) / 4) v
  else if 0x2060 ≤ off ∧ off < 0x2080 then doClren s ((off - 0x2060) / 4) v
  else if 0x20A0 ≤ off ∧ off < 0x20C0 then doWakeset s ((off - 0x20A0) / 4) v
  else if 0x2400 ≤ off ∧ off < 0x2800 then doRoute s ((off - 0x2400) / 4) v
  else s

/-- A read of register `o` of the page of target t (07 R170). -/
def hecPageRead (s : State) (t o : Nat) : Nat :=
  let T := hecTgt s t
  if !tgtExists s t then 0
  else if o = 0x04 then T.claimedSrc + 256 * T.claimedPrio + 65536 * T.seq
  else if o = 0x0C then T.threshold
  else if o = 0x10 then T.modUs
  else if o = 0x14 then b2n T.sleep
  else if o = 0x18 then T.faultWritten + 256 * T.faultTop + 65536 * T.faultCount
  else if o = 0x1C then T.stack.length + 16 * topPrio T + 256 * topSrc T
  else if o = 0x20 then T.best + 256 * T.bestPrio
  else if o = 0x24 then
    b2n T.req + 2 * b2n T.window.isSome + 4 * b2n (T.sleep && (List.range 256).any (fun n => pendingPrio s t n != 0))
  else if o = 0x30 then T.soft.toNat
  else if o = 0x3C then T.pen.toNat
  else if o = 0x40 then T.pprio.toNat
  else if 0x80 ≤ o ∧ o < 0xBC then
    let e := T.stack.getD ((o - 0x80) / 4) (0, 0)
    e.1 + 256 * e.2
  else 0

/-- Bit t of `f` for the eight targets, as a number. -/
def tgtBits (f : Nat → Bool) : Nat := (ofBits 8 f).toNat

/-- A read of the HEC blocks (07 R169, R170). -/
def hecRead (s : State) (off : Nat) : Nat :=
  if 0x3000 ≤ off then hecPageRead s ((off - 0x3000) / 256) (off % 256)
  else if off = 0x2000 then s.hec.order.toNat + 256 * b2n s.hec.wakeSeen
  else if off = 0x2008 then tgtBits (fun t => (hecTgt s t).sleep)
  else if off = 0x200C then tgtBits (fun t => (hecTgt s t).req)
  else if off = 0x2010 then b2n s.hec.wake + 256 * tgtBits (wakeCond s)
  else if 0x2020 ≤ off ∧ off < 0x2040 then (wordOf s.hec.en ((off - 0x2020) / 4)).toNat
  else if 0x2080 ≤ off ∧ off < 0x20A0 then
    let w := (off - 0x2080) / 4
    (ofBits 32 (fun i => asserted s (32 * w + i))).toNat
  else if 0x20A0 ≤ off ∧ off < 0x20C0 then (wordOf s.hec.wakeset ((off - 0x20A0) / 4)).toNat
  else if 0x2440 ≤ off ∧ off < 0x2800 then
    let r := route s ((off - 0x2400) / 4)
    r.1 + 256 * r.2
  else 0

/-- IRQt is held low: the request of t is active, in Quad-SPI mode (05 R115). -/
def irqLow (s : State) (t : Nat) : Bool := s.md.straps.hostsel && (hecTgt s t).req && decide (t < 4)

/-- One element of a HEC_ROUTE record at byte `o` of its body (07 R171, R173). -/
def applyRoute (s : State) (b : List Byte) (o : Nat) : State :=
  let n := u8 b o
  let p := u8 b (o + 2)
  let t := u8 b (o + 1)
  let fl := u8 b (o + 3)
  let e := if (p, t) = (defaultPrio n, 0) then none else some (p, t)
  { s with hec := { s.hec with
      route := Tab.set s.hec.route none n e
      en := bput s.hec.en n (fl.testBit 0)
      wakeset := bput s.hec.wakeset n (fl.testBit 1) } }

/-- The HEC records of the enabled configuration are applied (07 R173). -/
def applyHecRecords (s : State) : State :=
  s.cfg.run.foldl (fun s r =>
    if r.ty = 0x0B01 then (List.range (r.body.length / 8)).foldl (fun s k => applyRoute s r.body (8 * k)) s
    else if r.ty = 0x0B02 then
      updTgt s r.idx (fun T =>
        { T with threshold := u8 r.body 0, modUs := u16 r.body 2, pen := BitVec.ofNat 8 (u8 r.body 4) &&& 0xFE#8,
                 pprio := BitVec.ofNat 32 (u32 r.body 8) &&& 0xFFFFFFF0#32 })
    else s) s

end Sys2Proof.Machine
end

