-- ==== Sys2Proof/Machine/Dio.lean ====
section
/-! DEFINITION. Digital inputs and outputs (08): filters, test pulses, sensor supplies, DO overload, PWM,
readback, group supply, field watchdog. -/

namespace Sys2Proof.Machine

def diFilt (s : State) (c : Nat) : Filt := Tab.get s.dio.di Filt.init c
def siFilt (s : State) (c : Nat) : Filt := Tab.get s.dio.si Filt.init c
def diTest (s : State) (c : Nat) : TpTest := Tab.get s.dio.diT TpTest.init c
def siTest (s : State) (c : Nat) : TpTest := Tab.get s.dio.siT TpTest.init c
def tpGen (s : State) (k : Nat) : TpGen := Tab.get s.dio.tp TpGen.init k
def doCh (s : State) (c : Nat) : DoCh := Tab.get s.dio.ch DoCh.init c
def doGrp (s : State) (g : Nat) : DoGroup := Tab.get s.dio.grp DoGroup.init g

def updDo (s : State) (c : Nat) (f : DoCh → DoCh) : State := { s with dio := { s.dio with ch := Tab.upd s.dio.ch DoCh.init c f } }
def updGrp (s : State) (g : Nat) (f : DoGroup → DoGroup) : State :=
  { s with dio := { s.dio with grp := Tab.upd s.dio.grp DoGroup.init g f } }
def updTp (s : State) (k : Nat) (f : TpGen → TpGen) : State := { s with dio := { s.dio with tp := Tab.upd s.dio.tp TpGen.init k f } }

/-- Sets bit i of DIAG_DIO_EVENT (08 R207). -/
def dioEvent (s : State) (i : Nat) : State := { s with dio := { s.dio with event := bset s.dio.event i } }

/-! ### The counter filter and the test pulses -/

/-- One step of the counter filter with length `n` on a raw sample at count `t` (08 R174). -/
def filtStep (n t : Nat) (raw : Bool) (f : Filt) : Filt :=
  let c := if raw then min (f.count + 1) n else f.count - 1
  let st := if c = n then true else if c = 0 then false else f.state
  { count := c, state := st, stamp := if st = f.state then f.stamp else t }

/-- The run of raw 0 samples of an input under test (08 R178). -/
def runStep (raw : Bool) (t : TpTest) : TpTest :=
  let r := if raw then 0 else t.run + 1
  { t with run := r, best := max t.best r }

/-- A pulse of generator k starts at T10 `t`: the first slot of k at least PERIOD after its previous pulse, or since it runs
(08 R177). -/
def pulseDue (s : State) (k t : Nat) : Bool :=
  let g := tpGen s k
  g.on && !g.pulse && (cfgRec s 0x0203 k).isSome && decide (t % 250000 = 0 ∧ t / 250000 % 8 = k ∧ g.from_ ≤ t) &&
    (match g.prev with | none => true | some p => decide (p + tpPeriod s k ≤ t))

/-- The generator of an input is in a pulse, starts one now, or ended one less than 100 us ago (08 R178). -/
def held (s : State) (ty c now : Nat) : Bool :=
  match tpSource s ty c with
  | none => false
  | some k => (tpGen s k).pulse || decide (now < (tpGen s k).holdEnd) || pulseDue s k now

/-- The generator of an input is in a pulse that has not ended by now. -/
def inPulse (s : State) (ty c now : Nat) : Bool :=
  match tpSource s ty c with
  | none => false
  | some k => (tpGen s k).pulse && decide (now < (tpGen s k).prev.getD 0 + tpWidth s k)

/-- The raw sample of a DI: inverted for POLARITY INVERTED (08 R175). -/
def diRaw (s : State) (di : BitVec 96) (c : Nat) : Bool :=
  di.toNat.testBit c != ((cfgRec s 0x0201 c).map (fun r => decide (u8 r.body 3 = 1))).getD false

/-- One sample of every DI and SI at T10 count `t`, a multiple of 100 (08 R174-R178). -/
def sampleInputs (s : State) (t : Nat) (di : BitVec 96) (si : BitVec 32) : State :=
  { s with dio := { s.dio with
      di := Tab.updMany s.dio.di Filt.init (List.range 96) (fun c f =>
        if held s 0x0201 c t then f else filtStep (filtN s 0x0201 c) t (diRaw s di c) f)
      si := Tab.updMany s.dio.si Filt.init (List.range 32) (fun c f =>
        if held s 0x0202 c t then f else filtStep (filtN s 0x0202 c) t (si.toNat.testBit c) f)
      diT := Tab.updMany s.dio.diT TpTest.init (List.range 96) (fun c x => if inPulse s 0x0201 c t then runStep (diRaw s di c) x else x)
      siT := Tab.updMany s.dio.siT TpTest.init (List.range 32) (fun c x => if inPulse s 0x0202 c t then runStep (si.toNat.testBit c) x else x)
      smp := t + 100 } }

/-- The next T10 count that is a multiple of 100 and has no sample yet. -/
def nextSample (s : State) : Nat := max s.dio.smp ((s.fr.t10 + 99) / 100 * 100)

/-- DI_SI_SAMPLE (08 R174): the field controller's sample at the next multiple of 100 T10; the one that falls at a tick comes
before its latch (02 R34), none beyond the tick before that tick. -/
def doSample (s : State) (di : BitVec 96) (si : BitVec 32) : State :=
  if s.md.mode = .reset || decide (s.fr.next < nextSample s) then s
  else sampleInputs (advanceTo s (nextSample s)) (nextSample s) di si

def execDiSiSample (di : BitVec 96) (si : BitVec 32) (s : State) : Host.Outcome State Fault Refusal := done s (doSample s di si)

/-- The channels of a TYPE that generator k feeds (08 R199). -/
def fedBy (s : State) (ty n k : Nat) : List Nat := (List.range n).filter (fun c => decide (tpSource s ty c = some k))

/-- TEST_PULSE_START (08 R177): generator k switches off at the start of its slot. -/
def doPulseStart (s0 : State) (k dt : Nat) : State :=
  let s := advance s0 dt
  let t := s.fr.t10
  if pulseDue s k t then
    let clear := fun (x : TpTest) => { x with run := 0, best := 0 }
    let s1 := updTp s k (fun g => { g with pulse := true, prev := some t, skip := false })
    { s1 with dio := { s1.dio with
        diT := Tab.updMany s1.dio.diT TpTest.init (fedBy s 0x0201 96 k) (fun _ => clear)
        siT := Tab.updMany s1.dio.siT TpTest.init (fedBy s 0x0202 32 k) (fun _ => clear) } }
  else s

def execTestPulseStart (k : Fin 8) (dt : Nat) (s : State) : Host.Outcome State Fault Refusal := done s (doPulseStart s k.val dt)

/-- The verdict of one pulse for an input: 50 consecutive raw 0 samples pass; a failure stands until two pulses in a row
pass that began after it (08 R178-R180). -/
def pulseVerdict (skip : Bool) (x : TpTest) : TpTest :=
  if 50 ≤ x.best then
    if x.failing && !skip then (if 1 ≤ x.passes then { x with failing := false, passes := 0 } else { x with passes := x.passes + 1 })
    else x
  else { x with failing := true, passes := 0 }

/-- Every pulse of the input of generator k in this state would pass. -/
def pulsePasses (s : State) (k : Nat) : Bool :=
  (fedBy s 0x0201 96 k).all (fun c => decide (50 ≤ (diTest s c).best)) &&
    (fedBy s 0x0202 32 k).all (fun c => decide (50 ≤ (siTest s c).best))

/-- TEST_PULSE_END (08 R178, R179): WIDTH after its start the generator switches on and each input it feeds
passes or fails. -/
def doPulseEnd (s0 : State) (k : Nat) : State :=
  let g := tpGen s0 k
  let e := g.prev.getD 0 + tpWidth s0 k
  if !g.pulse || decide (s0.fr.next ≤ e) then s0
  else
    let s := advanceTo s0 e
    let ok := pulsePasses s k
    let s1 := updTp s k (fun g =>
      let p := if ok then g.faultPasses + b2n (!g.skip) else 0
      { g with pulse := false, holdEnd := e + 10000, faultPasses := p, fault := g.fault && decide (p < 2), flag := g.flag || !ok })
    let s2 := { s1 with dio := { s1.dio with
        diT := Tab.updMany s1.dio.diT TpTest.init (fedBy s 0x0201 96 k) (fun _ => pulseVerdict g.skip)
        siT := Tab.updMany s1.dio.siT TpTest.init (fedBy s 0x0202 32 k) (fun _ => pulseVerdict g.skip) } }
    if ok then s2 else dioEvent s2 28

def execTestPulseEnd (k : Fin 8) (s : State) : Host.Outcome State Fault Refusal := done s (doPulseEnd s k.val)

/-- TP_GENERATOR_FAULT (08 R180): every input of the generator is treated as failing. -/
def doTpFault (s : State) (k : Nat) : State :=
  if !(tpGen s k).on then s
  else
    let bad := fun (x : TpTest) => { x with failing := true, passes := 0 }
    let s1 := updTp s k (fun g => { g with fault := true, faultPasses := 0, flag := true, skip := g.pulse })
    dioEvent { s1 with dio := { s1.dio with
        diT := Tab.updMany s1.dio.diT TpTest.init (fedBy s 0x0201 96 k) (fun _ => bad)
        siT := Tab.updMany s1.dio.siT TpTest.init (fedBy s 0x0202 32 k) (fun _ => bad) } } 28

def execTpGeneratorFault (k : Fin 8) (s : State) : Host.Outcome State Fault Refusal := done s (doTpFault s k.val)

/-- SENSOR_SUPPLY_FAULT (08 R181). -/
def doSupplyFault (s : State) (k : Nat) : State := dioEvent { s with dio := { s.dio with ss := bset s.dio.ss k } } (25 + k)

def execSensorSupplyFault (k : Fin 3) (s : State) : Host.Outcome State Fault Refusal := done s (doSupplyFault s k.val)

/-- SENSOR_SUPPLY_SOUND (08 R181). -/
def doSupplySound (s : State) (k : Nat) : State := { s with dio := { s.dio with ss := bclr s.dio.ss k } }

def execSensorSupplySound (k : Fin 3) (s : State) : Host.Outcome State Fault Refusal := done s (doSupplySound s k.val)

/-- A DI is failing under 08 R179 or R181; its bit of DIAG_DI_FAULT. -/
def diFailing (s : State) (c : Nat) : Bool :=
  (diTest s c).failing || (supplyDep s 0x0201 c && s.dio.ss.toNat.testBit (supplyOf 0x0201 c))

/-- An SI is failing under 08 R179 or R181; its bit of DIAG_SI_FAULT. -/
def siFailing (s : State) (c : Nat) : Bool :=
  (siTest s c).failing || (supplyDep s 0x0202 c && s.dio.ss.toNat.testBit 2)

/-- What the field controller delivers for an SI to SC and to Attar: 0 for a failing or unconfigured one (08 R176, R179). -/
def siDelivered (s : State) : BitVec 32 :=
  ofBits 32 (fun c => (cfgRec s 0x0202 c).isSome && !siFailing s c && (siFilt s c).state)

/-- The filters at the tick at which the module leaves CHECKING: count := min(count, FILT_N) (08 R176). -/
def clampFilters (s : State) : State :=
  { s with dio := { s.dio with
      di := Tab.mapAll s.dio.di Filt.init (fun c f => { f with count := min f.count (filtN s 0x0201 c) })
      si := Tab.mapAll s.dio.si Filt.init (fun c f => { f with count := min f.count (filtN s 0x0202 c) }) } }

/-- Inputs whose generator a new configuration removes or changes, or whose record it drops, lose their test failure; one
that it assigns to a faulty generator is treated as failing (08 R179, R180); `old` is the configuration before. -/
def dropTests (old : List Rec) (s : State) : State :=
  let src := fun (l : List Rec) ty c => (findRec l ty c).bind (fun r => if u8 r.body 4 < 8 then some (u8 r.body 4) else none)
  let f := fun ty (c : Nat) (x : TpTest) =>
    if src old ty c = src s.cfg.run ty c && (cfgRec s ty c).isSome then x
    else match src s.cfg.run ty c with
      | none => TpTest.init
      | some k => { TpTest.init with failing := (tpGen s k).fault }
  { s with dio := { s.dio with
      diT := Tab.updMany s.dio.diT TpTest.init (List.range 96) (f 0x0201)
      siT := Tab.updMany s.dio.siT TpTest.init (List.range 32) (f 0x0202) } }

/-- A generator stops at T10 `t`; a pulse cut short ends there, without a verdict (08 R178). -/
def stopGen (t : Nat) (g : TpGen) : TpGen :=
  { g with on := false, pulse := false, prev := none, skip := false, holdEnd := if g.pulse then t + 10000 else g.holdEnd }

/-- A new configuration takes effect in the digital I/O: the filters' lengths, the tests of inputs whose generator changes,
generators stopped, PWM periods restarted (08 R176, R178, R179, R185). -/
def startDio (old : List Rec) (s0 : State) : State :=
  let s := dropTests old (clampFilters s0)
  { s with dio := { s.dio with
      tp := Tab.mapAll s.dio.tp TpGen.init (fun _ => stopGen s.fr.t10)
      ch := Tab.mapAll s.dio.ch DoCh.init (fun _ d => { d with period := d.cmd })
      pwmAt := s.fr.t10 } }

/-- An input of generator k is failing. -/
def tpInputFails (s : State) (k : Nat) : Bool :=
  (fedBy s 0x0201 96 k).any (fun c => (diTest s c).failing) || (fedBy s 0x0202 32 k).any (fun c => (siTest s c).failing)

/-- The generators at a tick (08 R177, R179): they start and stop with the mode; a DIAG_TP_FAULT bit clears when nothing of
the generator fails. -/
def tickGenerators (s : State) : State :=
  let run := tpMode s
  { s with dio := { s.dio with
      tp := Tab.updMany s.dio.tp TpGen.init (List.range 8) (fun k g =>
        let g1 := if run && !g.on then { g with on := true, from_ := s.fr.t10 } else if !run && g.on then stopGen s.fr.t10 g else g
        { g1 with flag := tpInputFails s k || g1.fault }) } }

/-! ### Outputs -/

/-- What the switch of DO c delivers now: off when unconfigured, latched off, held off by an overload, in a dark
test, or with its group MISSING, in ACK_WAIT or before its apply; else its command, for PWM the duty of the
running period (08 R182-R191, R202). -/
def doDrive (s : State) (c : Nat) : F64 :=
  let d := doCh s c
  let g := doGrp s (c / 8)
  if !doCfg s c || d.latchOff || d.held || d.dark || g.missing || g.ackWait || g.off then 0
  else if doFlag s c 0 then d.period else d.cmd

/-- The on-part of a PWM period in us: the duty resolved to 1 us (08 R185). -/
def onUs (s : State) (c : Nat) (duty : F64) : Nat := (F64.toInt (F64.mul duty (F64.ofNat (pwmUs s c)))).toNat

/-- A PWM DO is in the on-part of its period at T10 `t` (08 R185). -/
def pwmOn (s : State) (c t : Nat) : Bool :=
  decide ((t - s.dio.pwmAt) % (pwmUs s c * 100) < onUs s c (doDrive s c) * 100)

/-- The field controller drives DO c on: its switch is on, for PWM in the on-part of its period, and the output gate is open
(17 R496). -/
def doIsOn (s : State) (c : Nat) : Bool :=
  !gateShut s 0 && doDrive s c != 0 && (!doFlag s c 0 || pwmOn s c s.fr.t10)

/-- DO_OVERLOAD (08 R182, R183): the channel is switched off, and latched off after the last retry. -/
def doOverloadAt (s0 : State) (c dt : Nat) : State :=
  let s := advance s0 dt
  if !doIsOn s c then s
  else
    let last := decide (u8 (cfgBody s 0x0204 c) 2 ≤ (doCh s c).retries)
    let s1 := updDo s c (fun d => if last then { d with latchOff := true, held := false, release := 0 } else { d with held := true })
    { s1 with dio := { s1.dio with ovl := bset s1.dio.ovl c, latched := if last then bset s1.dio.latched c else s1.dio.latched } }

def execDoOverload (ch : Fin 64) (dt : Nat) (s : State) : Host.Outcome State Fault Refusal := done s (doOverloadAt s ch.val dt)

/-- DO_RETRY (08 R183): 100 ms later an overloaded DO commanded ON is switched on again. -/
def doRetryAt (s0 : State) (c dt : Nat) : State :=
  let s := advance s0 dt
  let d := doCh s c
  let g := doGrp s (c / 8)
  if d.held && d.cmd != 0 && !g.missing && !g.ackWait then
    updDo s c (fun d => { d with held := false, retries := d.retries + 1, since := s.fr.t10 })
  else s

def execDoRetry (ch : Fin 64) (dt : Nat) (s : State) : Host.Outcome State Fault Refusal := done s (doRetryAt s ch.val dt)

/-- DO_RETRY_COUNT_RESET (08 R183): after 10 s on without overload, at that instant. -/
def doRetryReset (s0 : State) (c : Nat) : State :=
  let e := (doCh s0 c).since + 1000000000
  if s0.fr.next ≤ e then s0
  else
    let s := advanceTo s0 e
    if !gateShut s 0 && doDrive s c != 0 then updDo s c (fun d => { d with retries := 0 }) else s

def execDoRetryCountReset (ch : Fin 64) (s : State) : Host.Outcome State Fault Refusal := done s (doRetryReset s ch.val)

/-- PWM_PERIOD_START (08 R185): the command in force becomes the duty of the period; periods follow one another from the tick
at which the module left CHECKING. -/
def doPwmStart (s0 : State) (c dt : Nat) : State :=
  let s := advance s0 dt
  if doFlag s c 0 && decide ((s.fr.t10 - s.dio.pwmAt) % (pwmUs s c * 100) = 0) then updDo s c (fun d => { d with period := d.cmd }) else s

def execPwmPeriodStart (ch : Fin 64) (dt : Nat) (s : State) : Host.Outcome State Fault Refusal := done s (doPwmStart s ch.val dt)

/-- EXT_FEED is evaluated on DO c (08 R186, R188): configured, not PWM, commanded OFF for more than 5 ms, group
neither MISSING nor waiting, and on a PARALLEL channel only with control. -/
def extEvaluated (s : State) (c : Nat) : Bool :=
  let d := doCh s c
  let g := doGrp s (c / 8)
  doCfg s c && !doFlag s c 0 && d.cmd == 0 && decide (d.since + 500000 < s.fr.t10) && !g.missing && !g.ackWait &&
    (!doFlag s c 1 || hasControl s)

/-- EXT_FEED (08 R186). -/
def doExtFeed (s0 : State) (c dt : Nat) : State :=
  let s := advance s0 dt
  if extEvaluated s c then
    let s1 := updDo s c (fun d => { d with ext := true })
    { s1 with dio := { s1.dio with ext := bset s1.dio.ext c } }
  else s

def execExtFeed (ch : Fin 64) (dt : Nat) (s : State) : Host.Outcome State Fault Refusal := done s (doExtFeed s ch.val dt)

/-- A dark test may run on DO c (08 R189): DARK_TEST, not PWM, commanded ON and applied for 100 ms, no other channel of the
group tested, and the claim latch shows control; `peer`: a peer runs shadow closing on the channel in this frame, which
bars a PARALLEL one. -/
def darkAllowed (s : State) (c : Nat) (peer : Bool) : Bool :=
  let d := doCh s c
  !(peer && doFlag s c 1) && doFlag s c 2 && !doFlag s c 0 && doIsOn s c && decide (d.since + 10000000 ≤ s.fr.t10) &&
    (List.range 8).all (fun i => !(doCh s (c / 8 * 8 + i)).dark) && hasControl s

/-- DARK_TEST_START (08 R189). -/
def doDarkStart (s0 : State) (c : Nat) (peer : Bool) (dt : Nat) : State :=
  let s := advance s0 dt
  if darkAllowed s c peer then updDo s c (fun d => { d with dark := true }) else s

def execDarkTestStart (item : DarkItem) (dt : Nat) (s : State) : Host.Outcome State Fault Refusal :=
  done s (doDarkStart s item.ch.val item.peer dt)

/-- GROUP_SUPPLY_LOW (08 R190). -/
def doGroupLow (s : State) (g : Nat) : State := dioEvent (updGrp s g (fun x => { x with low := true })) g

def execGroupSupplyLow (g : Fin 8) (s : State) : Host.Outcome State Fault Refusal := done s (doGroupLow s g.val)

/-- GROUP_SUPPLY_LOW_END (08 R190): a MISSING group stays LOW. -/
def doGroupLowEnd (s : State) (g : Nat) : State := if (doGrp s g).missing then s else updGrp s g (fun x => { x with low := false })

def execGroupSupplyLowEnd (g : Fin 8) (s : State) : Host.Outcome State Fault Refusal := done s (doGroupLowEnd s g.val)

/-- GROUP_SUPPLY_MISSING (08 R190): gate drives off, retry sequences stopped; a MISSING group is also LOW. -/
def doGroupMissing (s : State) (g : Nat) : State :=
  let s1 := updGrp s g (fun x => { x with missing := true, low := true })
  let s2 := { s1 with dio := { s1.dio with
      ch := Tab.updMany s1.dio.ch DoCh.init ((List.range 8).map (fun i => 8 * g + i)) (fun _ d => { d with held := false }) } }
  let s3 := dioEvent s2 (8 + g)
  if (doGrp s g).low then s3 else dioEvent s3 g

def execGroupSupplyMissing (g : Fin 8) (s : State) : Host.Outcome State Fault Refusal := done s (doGroupMissing s g.val)

/-- GROUP_SUPPLY_MISSING_END (08 R191): AUTO restores at the next apply, ACK waits for an acknowledgement. -/
def doGroupMissingEnd (s0 : State) (g dt : Nat) : State :=
  let s := advance s0 dt
  if !(doGrp s g).missing then s
  else
    let ack := (cfgRec s 0x0205 g).isSome && u8 (cfgBody s 0x0205 g) 0 = 1
    let s1 := updGrp s g (fun x => { x with missing := false, off := true, from_ := s.fr.t10, ackWait := x.ackWait || ack })
    if ack then dioEvent s1 (16 + g) else s1

def execGroupSupplyMissingEnd (g : Fin 8) (dt : Nat) (s : State) : Host.Outcome State Fault Refusal :=
  done s (doGroupMissingEnd s g.val dt)

/-- DIAG_DO_GROUP_ACK (08 R192): acknowledgements wait for the next tick. -/
def doGroupAck (s : State) (v : Word) : State :=
  (bitsSet v.toNat 8).foldl (fun s g => updGrp s g (fun x => { x with ackReq := true })) s

def execDiagDoGroupAck (v : Word) (s : State) : Host.Outcome State Fault Refusal := done s (hostAccess s (fun s => doGroupAck s v))

/-- DIAG_DO_LATCHED word w (08 R183, R206): clears the bits written 1 and releases those channels, with effect
at the first apply later than the next tick. -/
def doLatchedRelease (s : State) (w : Nat) (v : Word) : State :=
  let s1 := (bitsSet v.toNat 32).foldl (fun s i =>
    updDo s (32 * w + i) (fun d => if d.latchOff && d.release = 0 then { d with release := 1 } else d)) s
  { s1 with dio := { s1.dio with latched := s1.dio.latched &&& ~~~ spread 64 w v } }

def execDiagDoLatchedRelease (w : Fin 2) (v : Word) (s : State) : Host.Outcome State Fault Refusal :=
  done s (hostAccess s (fun s => doLatchedRelease s w.val v))

/-- DO c is commanded ON and driven, and reads back low without an overload; a readback kept from an earlier frame judges
nothing (08 R182, 01 R20). -/
def readsLow (s : State) (c : Nat) : Bool :=
  let d := doCh s c
  let g := doGrp s (c / 8)
  d.cmd != 0 && doIsOn s c && !d.held && !g.missing && !g.ackWait && !s.dio.stale && !s.dio.rb.toNat.testBit c

/-- What the digital I/O does at a tick before the mode changes (08 R186, R190-R192, R206): acknowledgements,
releases, the readback latched, and the bits whose condition still holds. -/
def tickDio (s : State) : State :=
  let d := s.dio
  let ext := fun c => (doCh s c).ext && extEvaluated s c && d.rb.toNat.testBit c
  let s1 := { s with dio := { d with
      rbTick := d.rb
      diTick := if d.stale then d.diTick else ofBits 96 (fun c => (diFilt s c).state)
      grp := Tab.mapAll d.grp DoGroup.init (fun _ g =>
        if g.ackReq then
          if g.ackWait && !g.missing then { g with ackReq := false, ackWait := false, off := true, from_ := s.fr.t10 }
          else { g with ackReq := false }
        else g)
      ch := Tab.mapAll d.ch DoCh.init (fun c x =>
        { x with release := if x.release = 1 then s.fr.t10 + 2 else x.release, ext := ext c })
      ovl := d.ovl ||| ofBits 64 (fun c => (doCh s c).held || readsLow s c)
      latched := d.latched ||| ofBits 64 (fun c => (doCh s c).latchOff && (doCh s c).release = 0)
      ext := d.ext ||| ofBits 64 ext } }
  let g := fun k => doGrp s1 k
  { s1 with dio := { s1.dio with
      event := s1.dio.event ||| ofBits 30 (fun i =>
        if i < 8 then (g i).low else if i < 16 then (g (i - 8)).missing else if i < 24 then (g (i - 16)).ackWait
        else if i = 24 then s1.dio.trip != 0
        else if i < 28 then s1.dio.ss.toNat.testBit (i - 25)
        else if i = 28 then (List.range 8).any (fun k => (tpGen s1 k).flag) else false) } }

/-- Quality of a DI in the input image (08 R176, R179, R197). -/
def diQual (s : State) (c : Nat) : Qual :=
  if (cfgRec s 0x0201 c).isNone || diFailing s c then .bad else if s.dio.stale then .stale else .good

/-- Quality of an SI (08 R197). -/
def siQual (s : State) (c : Nat) : Qual :=
  if (cfgRec s 0x0202 c).isNone || siFailing s c then .bad else if s.dio.stale then .stale else .good

/-- Quality of a DO point; one forced in SERVICE shows FORCED (08 R197, R198). -/
def doQual (s : State) (c : Nat) : Qual :=
  let d := doCh s c
  let g := doGrp s (c / 8)
  if s.md.mode = .service ∧ (forceOf s 4 c).isSome then .forced
  else if !doCfg s c || d.latchOff || d.ext || s.dio.dark.toNat.testBit c || g.missing || g.ackWait then .bad
  else if s.dio.stale then .stale
  else if d.held || readsLow s c then .uncertain else .good

/-- Takes a new command for DO c into force at T10 `t` (08 R185, R186). -/
def setDoCmd (t : Nat) (v : F64) (d : DoCh) : DoCh :=
  if d.cmd = v then d else { d with cmd := v, dark := false, since := if (d.cmd = 0) = (v = 0) then d.since else t }

/-- AO c takes a level: its setting, and the instant it is in force since (09 R221, R223). -/
def setAoLevel (t : Nat) (v : F64) (x : AoCh) : AoCh := { x with level := v, setting := Config.aoSetting v, since := t }

/-- COMPLIANCE_ACTION is ALARM_LOW (09 R238). -/
def complAlarm (s : State) (c : Nat) : Bool := u8 (cfgBody s 0x0304 c) 3 = 1

/-- COMPLIANCE with ALARM_LOW replaces any level above it in the table of 09 R227 by the low alarm. -/
def aoLowAlarm (s : State) (c : Nat) (x : AoCh) (v : F64) : F64 := if aoCfg s c && x.compliance && complAlarm s c then c3_5 else v

/-- FIELD_WATCHDOG_TRIP (08 R194, 09 R233): no valid image for FWD_TIMEOUT takes the outputs of the field
controller, or of one AO bank, to their safe states; bit 0 is the field controller. -/
def doTrip (s0 : State) (k : Nat) : State :=
  let e := Tab.get s0.dio.lastImg 0 k + fwdTimeout s0
  if s0.md.mode = .reset || !s0.dio.arm.toNat.testBit k || s0.dio.trip.toNat.testBit k || decide (s0.fr.next ≤ e) then s0
  else
    let s := advanceTo s0 e
    let ch := if k = 0 then
        Tab.updMany s.dio.ch DoCh.init (List.range 64) (fun c d =>
          if doCfg s c && doSafe s c = 2 then { d with period := d.cmd }
          else
            let v := if doCfg s c && doSafe s c = 1 then F64.one else 0
            { setDoCmd s.fr.t10 v d with period := v })
      else s.dio.ch
    let ao := if k = 0 then s.an.ao
      else Tab.updMany s.an.ao AoCh.init ((List.range 4).map (fun i => 4 * (k - 1) + i)) (fun c x =>
        if aoCfg s c then setAoLevel s.fr.t10 (aoLowAlarm s c x (aoSafeLevel s c)) x else x)
    let s1 := { s with an := { s.an with ao := ao }, dio := { s.dio with
        ch := ch, trip := bset s.dio.trip k, tripNews := bset s.dio.tripNews k, trips := satInc32 s.dio.trips } }
    dioEvent s1 24

def execFieldWatchdogTrip (bank : Option (Fin 8)) (s : State) : Host.Outcome State Fault Refusal :=
  done s (doTrip s (match bank with | none => 0 | some g => g.val + 1))

end Sys2Proof.Machine
end

