-- ==== Sys2Proof/Machine/Analog.lean ====
section
/-! DEFINITION. Analogue inputs, current-loop outputs and live calibration (09). -/

namespace Sys2Proof.Machine

def aiCh (s : State) (c : Nat) : AiCh := Tab.get s.an.ai AiCh.init c
def aoCh (s : State) (c : Nat) : AoCh := Tab.get s.an.ao AoCh.init c
def aiBank (s : State) (b : Nat) : RotBank := Tab.get s.an.ab RotBank.ai b
def aoBank (s : State) (g : Nat) : RotBank := Tab.get s.an.ob RotBank.ao g
def updAi (s : State) (c : Nat) (f : AiCh → AiCh) : State := { s with an := { s.an with ai := Tab.upd s.an.ai AiCh.init c f } }
def updAo (s : State) (c : Nat) (f : AoCh → AoCh) : State := { s with an := { s.an with ao := Tab.upd s.an.ao AoCh.init c f } }

/-- Bank b of a side (true AO), its number of positions and converters (09 R213, R226). -/
def bankOf (s : State) (ao : Bool) (b : Nat) : RotBank := if ao then aoBank s b else aiBank s b
def positions (ao : Bool) : Nat := if ao then 4 else 8
def updBank (s : State) (ao : Bool) (b : Nat) (f : RotBank → RotBank) : State :=
  if ao then { s with an := { s.an with ob := Tab.upd s.an.ob RotBank.ao b f } }
  else { s with an := { s.an with ab := Tab.upd s.an.ab RotBank.ai b f } }

/-- Index of converter c of bank b in the calibration store (09 R240). -/
def calIdx (ao : Bool) (b c : Nat) : Nat := if ao then 5 * b + c else 9 * b + c

/-- Calibration of a converter; a SAR never calibrated has 0 and 20 mA in nA (09 R215, R226). -/
def Cal.initAo : Cal := { Cal.init with u := 20000000 }
def calDefault (ao : Bool) : Cal := if ao then Cal.initAo else Cal.init
def calOf (s : State) (ao : Bool) (b c : Nat) : Cal :=
  Tab.get (if ao then s.an.aoCal else s.an.aiCal) (calDefault ao) (calIdx ao b c)
def updCal (s : State) (ao : Bool) (b c : Nat) (f : Cal → Cal) : State :=
  if ao then { s with an := { s.an with aoCal := Tab.upd s.an.aoCal Cal.initAo (calIdx ao b c) f } }
  else { s with an := { s.an with aiCal := Tab.upd s.an.aiCal Cal.init (calIdx ao b c) f } }

/-- Sets bit i of DIAG_AN_EVENT (09 R240). -/
def anEvent (s : State) (i : Nat) : State := { s with an := { s.an with event := bset s.an.event i } }

/-- Retires converter c of a bank: its bit and the suspect event are set (09 R218, R226). -/
def retire (s : State) (ao : Bool) (b c : Nat) : State :=
  anEvent (updCal s ao b c (fun k => { k with retired := true })) (if ao then 6 + b else b)

/-- The position a converter works on. -/
def posOf (B : RotBank) (c : Nat) : Option Nat := B.assign.findIdx? (fun x => decide (x = c))

/-- The value of a conversion code: offset and gain of its converter, 1.000 V being 20 mA or 10 V (09 R208, R215). -/
def convValue (k : Cal) (volt : Bool) (code : Int) : F64 :=
  F64.mul (F64.div (F64.ofInt (code - k.z)) (F64.ofInt (k.u - k.z))) (F64.ofNat (if volt then 10 else 20))

/-- Ends an overlap: takeover within CAL_TOL of the span, else the decision of 09 R217. -/
def judgeOverlap (s : State) (b : Nat) (volt : Bool) (B : RotBank) : RotBank :=
  let d := F64.div B.sum (F64.ofNat B.done)
  let lim := F64.mul (frac64 (calTol s b) 100000) (F64.ofNat (if volt then 10 else 16))
  if F64.le (F64.abs d) lim then { B with ph := .takeover } else { B with ph := .decide }

/-- Counts one pair of results of the two converters of a position (09 R213): three are discarded, OVERLAP
are compared. -/
def overlapPair (s : State) (b : Nat) (volt : Bool) (B : RotBank) : RotBank :=
  if B.ph = .compare then
    if B.discard < 3 then { B with discard := B.discard + 1 }
    else
      let B1 := { B with sum := F64.add B.sum (F64.sub B.newV B.oldV), done := B.done + 1 }
      if overlapN s b ≤ B1.done then judgeOverlap s b volt B1 else B1
  else B

/-- AI_CONVERSION_RESULT (09 R209-R217): a result of converter c of bank b reaches the main die now, 2,000 T10
after the end of its window; one that would come at another instant is none. -/
def doConversion (s0 : State) (b c dt : Nat) (code : Int) : State :=
  let s := advance s0 dt
  let B := aiBank s b
  let p := (posOf B c).getD B.pos
  let ch := 8 * b + p
  let volt := aiVolt s ch
  let t := s.fr.t10 - 2000 - aiWindow s ch / 2
  let v := convValue (calOf s false b c) volt code
  if (s.fr.t10 - 2000) % aiWindow s ch ≠ 0 then s
  else if (posOf B c).isSome then
    let s1 := updAi s ch (fun x => { x with value := v, stamp := t, recent := x.recent ++ [(v, t)] })
    if B.ph = .compare && p = B.pos then
      updBank s1 false b (fun B => let B1 := { B with oldV := v, oldT := t }; if B.newT = t then overlapPair s b volt B1 else B1)
    else s1
  else if B.spare = some c then
    if B.ph = .compare then
      updBank s false b (fun B => let B1 := { B with newV := v, newT := t }; if B.oldT = t then overlapPair s b volt B1 else B1)
    else if B.ph = .reconnect then
      updBank s false b (fun B => { B with discard := B.discard + 1, ph := if 3 ≤ B.discard + 1 then .retireOld else .reconnect })
    else s
  else s

def execAiConversionResult (b : Fin 6) (c : Fin 9) (dt : Nat) (code : Int) (s : State) : Host.Outcome State Fault Refusal :=
  done s (doConversion s b.val c.val dt code)

/-- AI_SHUNT_OPEN (09 R208). -/
def doShuntOpen (s : State) (c : Nat) : State := if aiVolt s c then s else updAi s c (fun x => { x with shuntOpen := true })

def execAiShuntOpen (ch : Fin 48) (s : State) : Host.Outcome State Fault Refusal := done s (doShuntOpen s ch.val)

/-- AI_SHUNT_RETEST (09 R208): 1 s later an open shunt path is tested again. -/
def doShuntRetest (s : State) (c : Nat) (still : Bool) : State := updAi s c (fun x => { x with shuntOpen := x.shuntOpen && still })

def execAiShuntRetest (ch : Fin 48) (still : Bool) (s : State) : Host.Outcome State Fault Refusal :=
  done s (doShuntRetest s ch.val still)

/-- Rotation runs: neither RESET nor BOOT (09 R213). -/
def rotates (s : State) : Bool := s.md.mode != .reset && s.md.mode != .boot

/-- The latest tick is at or after the scheduled start of the bank's next step, times 9 for AI (09 R213, R226). -/
def stepDue (s : State) (ao : Bool) (b : Nat) : Bool :=
  let B := bankOf s ao b
  if ao then decide (s.an.bootEnd + B.step * 200000000 ≤ s.fr.tick)
  else decide (9 * s.an.bootEnd + B.step * (rotPeriod s b * 100000000) ≤ 9 * s.fr.tick)

/-- The number of the first step scheduled after now (09 R213). -/
def stepAfter (s : State) (ao : Bool) (b : Nat) : Nat :=
  let e := s.fr.t10 - s.an.bootEnd
  if ao then e / 200000000 + 1 else 9 * e / (rotPeriod s b * 100000000) + 1

/-- A step may start: a spare, no step running, no REFERENCE_FAULT, its time come, an AI bank's transfers not lost (09 R213,
R232). -/
def stepReady (s : State) (ao : Bool) (b : Nat) : Bool :=
  let B := bankOf s ao b
  rotates s && (ao || !s.an.noLink.toNat.testBit b) && B.spare.isSome && decide (B.ph = .idle) && !B.refFault && stepDue s ao b

/-- ROTATION_STEP_START (09 R213): the Blotter is connected in parallel with the next position. -/
def doStepStart (s : State) (b : Nat) : State :=
  if stepReady s false b then
    updBank s false b (fun B => { B with ph := .compare, discard := 0, done := 0, sum := 0, oldT := 0, newT := 0, step := B.step + 1 })
  else s

def execRotationStepStart (b : Fin 6) (s : State) : Host.Outcome State Fault Refusal := done s (doStepStart s b.val)

/-- SPARE_SAR_STEP (09 R226): the spare SAR has been compared over 64 samples with the SAR of the next
position; `diff` is the mean difference in mA, the tolerance 4.8 uA. -/
def doSarStep (s : State) (g : Nat) (diff : F64) : State :=
  if stepReady s true g then
    let ok := F64.le (F64.abs diff) (frac64 48 10000)
    updBank s true g (fun B => { B with ph := if ok then .takeover else .decide, step := B.step + 1 })
  else s

def execSpareSarStep (g : Fin 8) (diff : F64) (s : State) : Host.Outcome State Fault Refusal := done s (doSarStep s g.val diff)

/-- The checks of 09 R215 on corrected mean codes of 1.25 V / 2^23: Z, gain, H. For a SAR (R226) the readings
are in nA and only Z is a check of the converter. -/
def calPasses (ao : Bool) (z h u : Int) : Bool :=
  let d := u - z
  if ao then decide (z.natAbs ≤ 20000)
  else decide (z.natAbs * 1250 ≤ 8388608) && decide (0 < d) && decide ((67108864 - 10 * d).natAbs * 200 ≤ (10 * d).natAbs) &&
    decide ((2 * (h - z) - d).natAbs * 100000 ≤ 6 * d.natAbs)

/-- The check that two converters in a row must fail for REFERENCE_FAULT: I within 0.005 % of 1 V of its
nominal (09 R216); for a SAR, U in nA within 0.5 % of 20 mA (R226). -/
def refPasses (ao : Bool) (b : Nat) (z u i : Int) : Bool :=
  if ao then decide ((u - 20000000).natAbs ≤ 100000)
  else decide (((i - z) * 1000000000 - (u - z) * (Config.refNanoVolt b : Int)).natAbs ≤ 50000 * (u - z).natAbs)

/-- What a reference measurement leaves in a converter's report: passed or not, its I check, the failures of that (09 R216,
18 R538). -/
def noteIFail (s : State) (ao : Bool) (b c : Nat) (ok iok : Bool) : State :=
  updCal s ao b c (fun k => { k with passed := ok, iFailed := !iok, iFails := if iok then k.iFails else satInc 65535 k.iFails })

/-- REFERENCE_MEASUREMENT_DONE (09 R215, R216, R226). -/
def doReference (s0 : State) (ao : Bool) (b : Nat) (z h u i : Int) : State :=
  let B := bankOf s0 ao b
  let ok := calPasses ao z h u
  let iok := refPasses ao b z u i
  let s := match B.measuring with
    | some c => noteIFail s0 ao b c ok iok
    | none => if B.refFault then (match B.spare with | some c => noteIFail s0 ao b c ok iok | none => s0) else s0
  match B.measuring with
  | none =>
    if B.refFault then
      let n := if ok && iok then B.refPass + 1 else 0
      if 2 ≤ n then updBank s ao b (fun B => { B with refFault := false, refPass := 0, lastIFail := false, step := max B.step (stepAfter s ao b) })
      else updBank s ao b (fun B => { B with refPass := n })
    else s
  | some c =>
    if ok then
      let s1 := updCal s ao b c (fun k =>
        { k with offset := z, z := z, h := h, u := u, i := i, calFrame := s.fr.frame, calCount := satInc32 k.calCount, retired := false })
      let fault := !iok && B.lastIFail
      let s2 := updBank s1 ao b (fun B =>
        { B with spare := some c, measuring := none, ph := .idle, lastIFail := !iok, refFault := (B.refFault || fault), refPass := 0,
                 pos := if B.restore.isSome then B.pos else (B.pos + 1) % positions ao, restore := none,
                 step := if B.restore.isSome then max B.step (stepAfter s ao b) else B.step
                 count := if B.restore.isSome then B.count else satInc32 B.count })
      let s3 := if ao || B.restore.isSome then s2 else { s2 with an := { s2.an with steps := satInc32 s2.an.steps } }
      if fault then anEvent s3 (if ao then 20 + b else 14 + b) else s3
    else
      retire (updBank s ao b (fun B =>
        { B with spare := none, measuring := none, ph := .idle, restore := none,
                 pos := if B.restore.isSome then B.pos else (B.pos + 1) % positions ao })) ao b c

def execReferenceMeasurementDone (ao : Bool) (b : Fin 8) (z h u i : Int) (s : State) : Host.Outcome State Fault Refusal :=
  done s (if !ao && decide (6 ≤ b.val) then s else doReference s ao b.val z h u i)

/-- A reading of the spare differs from its stored calibration by more than CAL_TOL / 2 of the span at the
converter input (09 R217); for a SAR by more than half of 4.8 uA (R226). -/
def spareDrifted (s : State) (ao : Bool) (b : Nat) (k : Cal) (z u : Int) : Bool :=
  let B := bankOf s ao b
  let far := fun (d : Int) =>
    if ao then decide (2400 < d.natAbs)
    else decide (calTol s b * (if aiVolt s (8 * b + B.pos) then 10 else 8) * 8388608 < d.natAbs * 2500000)
  far (z - k.z) || far (u - k.u)

/-- DISAGREEMENT_RECHECK_DONE (09 R217): the spare's Z and U are measured again; either the spare is wrong and
is retired, or it reconnects to take over from the wrong converter. -/
def doRecheck (s : State) (ao : Bool) (b : Nat) (z u : Int) : State :=
  let B := bankOf s ao b
  match B.spare with
  | none => s
  | some c =>
    if B.ph = .decide then
      if spareDrifted s ao b (calOf s ao b c) z u then
        retire (updBank s ao b (fun B => { B with spare := none, ph := .idle, pos := (B.pos + 1) % positions ao })) ao b c
      else updBank s ao b (fun B => { B with ph := if ao then .retireOld else .reconnect, discard := 0 })
    else s

def execDisagreementRecheckDone (ao : Bool) (b : Fin 8) (z u : Int) (s : State) : Host.Outcome State Fault Refusal :=
  done s (if !ao && decide (6 ≤ b.val) then s else doRecheck s ao b.val z u)

/-- The step of a bank at a tick (09 R214, R217, R218): takeovers take effect, converters to restore start
their measurement. -/
def tickBank (ao : Bool) (s : State) (b : Nat) : State :=
  let B := bankOf s ao b
  let old := B.assign.getD B.pos 0
  match B.ph, B.spare, B.restore with
  | .takeover, some c, _ =>
    updBank s ao b (fun B => { B with assign := B.assign.set B.pos c, spare := none, measuring := some old, ph := .measure })
  | .retireOld, some c, _ =>
    retire (updBank s ao b (fun B =>
      { B with assign := B.assign.set B.pos c, spare := none, ph := .idle, pos := (B.pos + 1) % positions ao })) ao b old
  | .idle, none, some c => updBank s ao b (fun B => { B with measuring := some c, ph := .measure })
  | _, _, _ => s

/-- Restores a retired converter: it is measured from the next tick on (09 R218). -/
def restoreConv (ao : Bool) (s : State) (i : Nat) : State :=
  let n := if ao then 5 else 9
  let b := i / n
  let c := i % n
  if (calOf s ao b c).retired then
    updBank (updCal s ao b c (fun k => { k with retired := false })) ao b (fun B => { B with restore := some c })
  else s

/-- DIAG_AI_RETIRED word w (09 R218, R240). -/
def doAiRestore (s : State) (w : Nat) (v : Word) : State :=
  ((bitsSet v.toNat 32).filter (fun i => decide (32 * w + i < 54))).foldl (fun s i => restoreConv false s (32 * w + i)) s

def execAiConverterRestore (w : Fin 2) (v : Word) (s : State) : Host.Outcome State Fault Refusal :=
  done s (hostAccess s (fun s => doAiRestore s w.val v))

/-- DIAG_AO_RETIRED word w (09 R226, R240). -/
def doAoRestore (s : State) (w : Nat) (v : Word) : State :=
  ((bitsSet v.toNat 32).filter (fun i => decide (32 * w + i < 40))).foldl (fun s i => restoreConv true s (32 * w + i)) s

def execAoSarRestore (w : Fin 2) (v : Word) (s : State) : Host.Outcome State Fault Refusal :=
  done s (hostAccess s (fun s => doAoRestore s w.val v))

/-- AI_BANK_LINK_TIMEOUT (09 R232): the bank abandons its step and keeps its channels on their converters; it starts none until
it receives a valid transfer again. -/
def doBankTimeout (s : State) (b : Nat) : State :=
  let s1 := updBank s false b (fun B =>
    { B with ph := .idle, spare := if B.measuring.isSome && B.restore.isNone then B.measuring else B.spare, measuring := none })
  { s1 with an := { s1.an with noLink := bset s1.an.noLink b } }

/-- A valid transfer has reached an AI bank: its schedule resumes at the next scheduled start (09 R232). -/
def bankLinkBack (s : State) (b : Nat) : State :=
  if s.an.noLink.toNat.testBit b then
    let s1 := updBank s false b (fun B => { B with step := max B.step (stepAfter s false b) })
    { s1 with an := { s1.an with noLink := bclr s1.an.noLink b } }
  else s

def execAiBankLinkTimeout (b : Fin 6) (s : State) : Host.Outcome State Fault Refusal := done s (doBankTimeout s b.val)

/-- AI_BANK_LINK_BAD (09 R232): 8 frames in a row without a valid transfer. -/
def doBankBad (s : State) (b : Nat) : State :=
  if 8 ≤ Tab.get s.an.miss 0 b then anEvent { s with an := { s.an with linkBad := bset s.an.linkBad b } } 28 else s

def execAiBankLinkBad (b : Fin 6) (s : State) : Host.Outcome State Fault Refusal := done s (doBankBad s b.val)

/-! ### The latch at a tick -/

/-- The mean of results completed since the previous tick, with the mean of their stamps (09 R210). -/
def meanOf (l : List (F64 × Nat)) : F64 × Nat :=
  (F64.div (l.foldl (fun a x => F64.add a x.1) 0) (F64.ofNat l.length), l.foldl (fun a x => a + x.2) 0 / l.length)

/-- The bounds of the classes, widened by h: CURRENT in mA, VOLTAGE in V (09 R211); class 0 normal, 1 out of
range, 2 loop fault, all in thousandths. -/
def inClass (volt : Bool) (k : Nat) (h : Int) (v : F64) : Bool :=
  let c := fun (m : Int) => frac64 m 1000
  let b0 := if volt then -1000 else 3600
  let b1 := if volt then -100 else 3800
  let b2 := if volt then 10250 else 20500
  let b3 := if volt then 11500 else 21000
  match k with
  | 0 => F64.le (c (b1 - h)) v && F64.le v (c (b2 + h))
  | 1 => (F64.le (c (b0 - h)) v && F64.lt v (c (b1 + h))) || (F64.lt (c (b2 - h)) v && F64.le v (c (b3 + h)))
  | _ => F64.lt v (c (b0 + h)) || F64.lt (c (b3 - h)) v

/-- The class of a latched value: the class kept while the value lies within it by the hysteresis, else the
class of the table (09 R211). -/
def classify (volt : Bool) (k : Nat) (v : F64) : Nat :=
  if inClass volt k (if volt then 25 else 50) v then k
  else if inClass volt 0 0 v then 0 else if inClass volt 1 0 v then 1 else 2

/-- One AI channel at a tick (09 R210, R211); without a valid transfer of its bank it keeps the values of the frame before
(01 R20). -/
def latchAi (s : State) (c : Nat) (x : AiCh) : AiCh :=
  if s.an.stale.toNat.testBit (c / 8) then { x with recent := [] } else
  let v := if aiCfg s c && decide (u8 (cfgBody s 0x0302 c) 2 = 1) && !x.recent.isEmpty then meanOf x.recent else (x.value, x.stamp)
  let y := { x with latched := v.1, latchedStamp := v.2, recent := [] }
  if !aiCfg s c then { y with cls := 0, uncertain := false }
  else
    let B := aiBank s (c / 8)
    { y with
      cls := if x.shuntOpen && !aiVolt s c then 2 else classify (aiVolt s c) (if x.shuntOpen then 0 else x.cls) v.1
      uncertain := decide (B.pos = c % 8) && (decide (B.ph = .decide) || decide (B.ph = .reconnect)) }

/-- A converter of the bank is retired (09 R218, R226). -/
def anyRetired (s : State) (ao : Bool) (b : Nat) : Bool := (List.range (positions ao + 1)).any (fun c => (calOf s ao b c).retired)

/-- The tick's latch of every AI channel, then the takeovers (09 R210, R214). -/
def tickAi (s : State) : State :=
  let ai := Tab.updMany s.an.ai AiCh.init (List.range 48) (latchAi s)
  let cls := fun c => (Tab.get ai AiCh.init c).cls
  let s1 := { s with an := { s.an with
      ai := ai
      range := s.an.range ||| ofBits 48 (fun c => aiCfg s c && decide (cls c = 1))
      loopF := s.an.loopF ||| ofBits 48 (fun c => aiCfg s c && decide (cls c = 2))
      miss := Tab.updMany s.an.miss 0 (List.range 6) (fun b n => if s.an.stale.toNat.testBit b then satInc 255 n else n)
      event := s.an.event ||| ofBits 29 (fun i =>
        if i < 6 then anyRetired s false i else if i < 14 then anyRetired s true (i - 6) else if i < 20 then (aiBank s (i - 14)).refFault else if i < 28 then (aoBank s (i - 20)).refFault
        else s.an.linkBad != 0) } }
  (List.range 8).foldl (tickBank true) ((List.range 6).foldl (tickBank false) s1)

/-- Quality of an AI in the input image (09 R211, R216, R217, R232, R234). -/
def aiQual (s : State) (c : Nat) : Qual :=
  let x := aiCh s c
  if !aiCfg s c || decide (x.cls = 2) || s.an.linkBad.toNat.testBit (c / 8) then .bad
  else if s.an.stale.toNat.testBit (c / 8) then .stale
  else if decide (x.cls = 1) || x.uncertain || (aiBank s (c / 8)).refFault then .uncertain else .good

/-! ### Outputs -/

/-- The cutoff switch of AO c is open: its gate is closed, the channel in MISMATCH, or the bank in RESET without a supply yet
(09 R224). -/
def cutoffOpen (s : State) (c : Nat) : Bool :=
  gateShut s (c / 4 + 1) || (aoCh s c).cutOpen || (decide (s.md.mode = .reset) && !s.an.supplied)

/-- AO c takes its loop voltage from the tracking supply (SOURCE): by its record, without an enabled configuration or record by
the mode its bank stores (09 R221, R222). -/
def aoSource (s : State) (c : Nat) : Bool := if aoCfg s c then u8 (cfgBody s 0x0304 c) 0 = 0 else !(aoCh s c).sink

/-- The AO banks store the modes of the channels that the configuration holds (09 R222). -/
def storeModes (s : State) : State :=
  { s with an := { s.an with ao := Tab.updMany s.an.ao AoCh.init (List.range 32) (fun c x =>
      match cfgRec s 0x0304 c with | some r => { x with sink := decide (u8 r.body 0 = 1) } | none => x) } }

/-- What AO c delivers now, in mA: from its bank's strap state on the ALMSEL level, until an image is applied (03 R64, R68,
09 R227). -/
def aoDelivers (s : State) (c : Nat) : F64 :=
  if cutoffOpen s c then 0 else if s.an.drv.toNat.testBit (c / 4) then (aoCh s c).level else almLevel s

/-- A tick counts for AO c (09 R229). -/
def aoCounts (s : State) (c : Nat) : Bool :=
  aoCfg s c && !cutoffOpen s c && decide ((aoCh s c).since + 10000 ≤ s.fr.t10) && s.an.fresh.toNat.testBit (6 + c / 4)

/-- The readback run counts of a counting tick, the channel delivering `cmd` (09 R228-R230). -/
def aoRuns (cmd rb : F64) (sat : Bool) (x : AoCh) : AoCh :=
  let d := F64.sub rb cmd
  let p2 := frac64 2 10
  let low := F64.lt d (F64.neg p2)
  let high := F64.gt d p2
  let run := fun (b : Bool) (n : Nat) => if b then satInc 255 n else 0
  { x with
    lowSatRun := run (low && sat) x.lowSatRun
    diffRun := run ((low || high) && !sat) x.diffRun
    highRun := run high x.highRun
    nearRun := run (F64.le (F64.abs d) (frac64 1 10)) x.nearRun }

/-- One AO channel at a tick: readback latched, run counts, host writes that wait (09 R225, R229, R230). -/
def latchAo (s : State) (c : Nat) (x : AoCh) : AoCh :=
  let fresh := s.an.fresh.toNat.testBit (6 + c / 4)
  let x1 := if fresh then { x with readback := x.rbLive } else x
  let x2 := if aoCounts s c then aoRuns (aoDelivers s c) x.rbLive x.satLive x1 else x1
  let x3 := if x2.compClear then
      { x2 with compliance := false, compClear := false, lowSatRun := 0, diffRun := 0, highRun := 0, nearRun := 0 } else x2
  if x3.misClear then { x3 with mismatch := false, misClear := false, cutFrom := s.fr.t10, diffRun := 0, highRun := 0 } else x3

/-- The AO channels at a tick (09 R229-R231, R239). -/
def tickAo (s : State) : State :=
  let ao := Tab.updMany s.an.ao AoCh.init (List.range 32) (latchAo s)
  { s with an := { s.an with ao := ao, supSeen := s.an.supSeen ||| s.an.supLow } }

/-- The bits of a tick at which COMPLIANCE or MISMATCH holds (09 R229, R239). -/
def markAo (s : State) : State :=
  { s with an := { s.an with
      compl := s.an.compl ||| ofBits 32 (fun c => (aoCh s c).compliance)
      mism := s.an.mism ||| ofBits 32 (fun c => (aoCh s c).mismatch) } }

/-- Quality of an AO point (09 R217, R226, R229-R231, R234). -/
def aoQual (s : State) (c : Nat) : Qual :=
  let x := aoCh s c
  if x.mismatch || !aoCfg s c then .bad
  else if s.an.stale.toNat.testBit (6 + c / 4) then .stale
  else if x.compliance || (aoBank s (c / 4)).refFault || (s.an.supLow.toNat.testBit (c / 4) && aoSource s c) ||
    (decide ((aoBank s (c / 4)).pos = c % 4) && decide ((aoBank s (c / 4)).ph = .decide))
  then .uncertain else .good

/-- COMPLIANCE_ENTER (09 R229): three counting ticks in a row below the command with SAT. -/
def doComplEnter (s : State) (c : Nat) : State :=
  let x := aoCh s c
  if decide (3 ≤ x.lowSatRun) && !x.compliance then
    let s1 := updAo s c (fun x => { x with compliance := true, nearRun := 0 })
    { s1 with an := { s1.an with compl := bset s1.an.compl c } }
  else s

def execComplianceEnter (ch : Fin 32) (s : State) : Host.Outcome State Fault Refusal := done s (doComplEnter s ch.val)

/-- COMPLIANCE_END (09 R229): with NONE, three counting ticks in a row within 0.1 mA. -/
def doComplEnd (s : State) (c : Nat) : State :=
  let x := aoCh s c
  if x.compliance && !complAlarm s c && decide (3 ≤ x.nearRun) then updAo s c (fun x => { x with compliance := false }) else s

def execComplianceEnd (ch : Fin 32) (s : State) : Host.Outcome State Fault Refusal := done s (doComplEnd s ch.val)

/-- Write of ones to DIAG_AO_COMPLIANCE (09 R229): with ALARM_LOW the condition ends at the next tick. -/
def doComplClear (s : State) (v : Word) : State :=
  let s1 := (bitsSet v.toNat 32).foldl (fun s c =>
    if (aoCh s c).compliance && complAlarm s c then updAo s c (fun x => { x with compClear := true }) else s) s
  { s1 with an := { s1.an with compl := s1.an.compl &&& ~~~ v } }

def execComplianceClear (v : Word) (s : State) : Host.Outcome State Fault Refusal := done s (hostAccess s (fun s => doComplClear s v))

/-- The channel enters MISMATCH: its cutoff opens and its bit is set (09 R230). -/
def enterMismatch (s : State) (c : Nat) : State :=
  let s1 := updAo s c (fun x => { x with mismatch := true, cutOpen := true, parallel := false })
  { s1 with an := { s1.an with mism := bset s1.an.mism c } }

/-- MISMATCH_DETECT (09 R230): three counting ticks in a row parallel the spare SAR; a bank without one enters
MISMATCH directly. -/
def doMismatch (s : State) (c : Nat) : State :=
  let x := aoCh s c
  if (decide (3 ≤ x.diffRun) || decide (3 ≤ x.highRun)) && !x.mismatch && !x.parallel then
    if (aoBank s (c / 4)).spare.isNone then enterMismatch s c
    else updBank (updAo s c (fun x => { x with parallel := true })) true (c / 4) (fun B => { B with ph := .idle })
  else s

def execMismatchDetect (ch : Fin 32) (s : State) : Host.Outcome State Fault Refusal := done s (doMismatch s ch.val)

/-- SPARE_PARALLEL_DONE (09 R230): after 64 samples the spare's mean in mA decides. -/
def doParallelDone (s : State) (c : Nat) (spare : F64) : State :=
  if !(aoCh s c).parallel then s
  else if F64.le (F64.abs (F64.sub spare (aoCh s c).rbLive)) (frac64 5 100) then enterMismatch s c
  else
    updBank (updAo s c (fun x => { x with parallel := false, diffRun := 0, highRun := 0 })) true (c / 4)
      (fun B => { B with ph := .retireOld, pos := c % 4 })

def execSpareParallelDone (ch : Fin 32) (spare : F64) (s : State) : Host.Outcome State Fault Refusal :=
  done s (doParallelDone s ch.val spare)

/-- Write of ones to DIAG_AO_MISMATCH (09 R230): the cutoff closes at the first apply after the next tick. -/
def doMisClear (s : State) (v : Word) : State :=
  let s1 := (bitsSet v.toNat 32).foldl (fun s c =>
    if (aoCh s c).mismatch then updAo s c (fun x => { x with misClear := true }) else s) s
  { s1 with an := { s1.an with mism := s1.an.mism &&& ~~~ v } }

def execMismatchClear (v : Word) (s : State) : Host.Outcome State Fault Refusal := done s (hostAccess s (fun s => doMisClear s v))

/-- AO_SUPPLY_LOW (09 R231). -/
def doAoLow (s : State) (g : Nat) : State :=
  { s with an := { s.an with supLow := bset s.an.supLow g, supSeen := if s.an.supLow.toNat.testBit g then s.an.supSeen else bset s.an.supSeen g } }

def execAoSupplyLow (g : Fin 8) (s : State) : Host.Outcome State Fault Refusal := done s (doAoLow s g.val)

/-- AO_SUPPLY_LOW_END (09 R231). -/
def doAoLowEnd (s : State) (g : Nat) : State := { s with an := { s.an with supLow := bclr s.an.supLow g } }

def execAoSupplyLowEnd (g : Fin 8) (s : State) : Host.Outcome State Fault Refusal := done s (doAoLowEnd s g.val)

/-! ### Registers -/

/-- A read of the analogue page, BAR0 0x4300-0x44FF (09 R240); the bank states have their reset value until BOOT ends. -/
def anRead (s : State) (off : Nat) : Nat :=
  let a := s.an
  let nib := fun (n : Nat) (f : Nat → Nat) => (List.range n).foldl (fun w i => w + f i * 16 ^ i) 0
  let banks := fun (ao : Bool) (n : Nat) (mid : Nat → Bool) => if !rotates s then 0 else nib n (fun b =>
    let B := bankOf s ao b
    b2n (B.spare.isSome || B.measuring.isSome) + 2 * b2n (mid b) + 4 * b2n B.refFault)
  if off < 0x4308 then (wordOf a.range ((off - 0x4300) / 4)).toNat
  else if off < 0x4310 then (wordOf a.loopF ((off - 0x4308) / 4)).toNat
  else if off = 0x4310 then a.event.toNat
  else if off = 0x4314 then a.compl.toNat
  else if off = 0x4318 then a.mism.toNat
  else if off = 0x431C then a.supSeen.toNat
  else if off = 0x4320 then
    banks false 6 (fun b => let B := aiBank s b; decide (B.ph = .decide) || decide (B.ph = .reconnect) || decide (B.ph = .retireOld))
  else if off = 0x4324 then nib 6 (fun b => ((aiBank s b).spare).getD 15)
  else if off = 0x4328 then banks true 8 (fun g => a.supLow.toNat.testBit g)
  else if off = 0x432C then a.steps
  else if off = 0x4330 ∨ off = 0x4334 then
    let w := (off - 0x4330) / 4
    (ofBits 32 (fun i => decide (32 * w + i < 54) && (calOf s false ((32 * w + i) / 9) ((32 * w + i) % 9)).retired)).toNat
  else if off = 0x4338 ∨ off = 0x433C then
    let w := (off - 0x4338) / 4
    (ofBits 32 (fun i => decide (32 * w + i < 40) && (calOf s true ((32 * w + i) / 5) ((32 * w + i) % 5)).retired)).toNat
  else if off = 0x4340 then a.linkErr
  else if 0x4380 ≤ off ∧ off < 0x4400 then
    (F64.toIntSat (F64.mul (aoCh s ((off - 0x4380) / 4)).readback (F64.ofNat 1000)) 0 65535).toNat
  else 0

/-- A write to the analogue page (09 R240). -/
def anWrite (s : State) (off : Nat) (v : Word) : State :=
  if off < 0x4308 then { s with an := { s.an with range := s.an.range &&& ~~~ spread 48 ((off - 0x4300) / 4) v } }
  else if off < 0x4310 then { s with an := { s.an with loopF := s.an.loopF &&& ~~~ spread 48 ((off - 0x4308) / 4) v } }
  else if off = 0x4310 then { s with an := { s.an with event := s.an.event &&& ~~~ spread 29 0 v } }
  else if off = 0x4314 then doComplClear s v
  else if off = 0x4318 then doMisClear s v
  else if off = 0x431C then { s with an := { s.an with supSeen := s.an.supSeen &&& ~~~ spread 8 0 v } }
  else if off = 0x4330 ∨ off = 0x4334 then doAiRestore s ((off - 0x4330) / 4) v
  else if off = 0x4338 ∨ off = 0x433C then doAoRestore s ((off - 0x4338) / 4) v
  else s

/-- A read of the digital I/O page, BAR0 0x4100-0x42FF (08 R207); TRIPPED shows a trip of an AO bank too (09 R234). -/
def dioRead (s : State) (off : Nat) : Nat :=
  let d := s.dio
  let w := fun base => (off - base) / 4
  if off < 0x410C then (wordOf d.diTick (w 0x4100)).toNat
  else if off = 0x410C then (ofBits 32 (fun c => (siFilt s c).state)).toNat
  else if off < 0x411C then (ofBits 32 (fun i => diFailing s (32 * w 0x4110 + i))).toNat
  else if off = 0x411C then (ofBits 32 (siFailing s)).toNat
  else if off < 0x4128 then (wordOf d.cmdReg (w 0x4120)).toNat
  else if off < 0x4130 then (wordOf d.rbTick (w 0x4128)).toNat
  else if off < 0x4138 then (wordOf d.ovl (w 0x4130)).toNat
  else if off < 0x4140 then (wordOf d.latched (w 0x4138)).toNat
  else if off < 0x4148 then (wordOf d.ext (w 0x4140)).toNat
  else if off < 0x4150 then (wordOf d.dark (w 0x4148)).toNat
  else if off = 0x4150 then
    (List.range 8).foldl (fun n g =>
      let G := doGrp s g
      n + (b2n G.low + 2 * b2n G.missing + 4 * b2n G.ackWait + 8 * b2n (cfgRec s 0x0205 g).isNone) * 16 ^ g) 0
  else if off = 0x4158 then d.event.toNat
  else if off = 0x415C then (ofBits 8 (fun k => (tpGen s k).flag)).toNat
  else if off = 0x4160 then d.ss.toNat
  else if off = 0x4164 then b2n (d.arm.toNat.testBit 0) + 2 * b2n (d.trip != 0)
  else if off = 0x4168 then d.trips
  else if off = 0x416C then d.linkErr
  else 0

/-- A write to the digital I/O page (08 R207). -/
def dioWrite (s : State) (off : Nat) (v : Word) : State :=
  if off = 0x4130 ∨ off = 0x4134 then { s with dio := { s.dio with ovl := s.dio.ovl &&& ~~~ spread 64 ((off - 0x4130) / 4) v } }
  else if off = 0x4138 ∨ off = 0x413C then doLatchedRelease s ((off - 0x4138) / 4) v
  else if off = 0x4140 ∨ off = 0x4144 then { s with dio := { s.dio with ext := s.dio.ext &&& ~~~ spread 64 ((off - 0x4140) / 4) v } }
  else if off = 0x4148 ∨ off = 0x414C then { s with dio := { s.dio with dark := s.dio.dark &&& ~~~ spread 64 ((off - 0x4148) / 4) v } }
  else if off = 0x4154 then doGroupAck s v
  else if off = 0x4158 then { s with dio := { s.dio with event := s.dio.event &&& ~~~ spread 30 0 v } }
  else s

end Sys2Proof.Machine
end

