-- ==== Sys2Proof/Machine/Pf.lean ====
section
/-! DEFINITION. Position feedback (10): decoding, latches, speed, reference, switch correction, compare. -/

namespace Sys2Proof.Machine

def pfCh (s : State) (c : Nat) : PfCh := Tab.get s.pf.ch PfCh.init c
def updPf (s : State) (c : Nat) (f : PfCh → PfCh) : State := { s with pf := { s.pf with ch := Tab.upd s.pf.ch PfCh.init c f } }

/-- The body of a record of a channel in the configuration whose check passed last: it stays decoded by it after DISABLE (10 R242). -/
def pfRec (s : State) (ty c : Nat) : List Byte := ((startRec s ty c).map (·.body)).getD []
/-- The body of a PF_CHANNEL record and its fields (10 R275). -/
def pfBody (s : State) (c : Nat) : List Byte := pfRec s 0x0401 c
def pfPrimary (s : State) (c : Nat) : Nat := u8 (pfBody s c) 0
def pfFlag (s : State) (c i : Nat) : Bool := (u8 (pfBody s c) 1).testBit i
/-- BISS_C or SSI (10 R241). -/
def pfSerial (s : State) (c : Nat) : Bool := decide (pfPrimary s c = 2) || decide (pfPrimary s c = 3)

/-- Event field k of channel c waits for the tick at which the registers change (10 R280): 0 INDEX_COUNT,
1 SERIAL_CRC, 2 SERIAL_TIMEOUT, 3 ENCODER_ERROR, 4 ENCODER_WARNING, 5 FIFO_OVERFLOW, 6 SWITCH_WINDOW,
7 ENCODER_SUPPLY, 8 REFERENCED_SEEN. -/
def pfEvent (s : State) (k c : Nat) : State := { s with pf := { s.pf with evNew := bset s.pf.evNew (8 * k + c) } }

/-- Signed difference of two 48-bit positions (10 R247). -/
def posDiff (a b : BitVec 48) : Int := (a - b).toInt

/-- REFERENCED goes to 1; PF_REFERENCED at a change from 0 (10 R263). -/
def pfReference (s : State) (c : Nat) : State :=
  let s1 := updPf s c (fun x => { x with referenced := true })
  if (pfCh s c).referenced then s1 else pfEvent s1 8 c

/-- REFERENCED is cleared (10 R263). -/
def pfUnreference (s : State) (c : Nat) : State := updPf s c (fun x => { x with referenced := false })

/-- Writes a FIFO entry of an event that FIFO_MASK selects; SEQ counts it even when the FIFO is full (10 R254-R256, R265). -/
def pfFifo (s : State) (c kind sw : Nat) (rising : Bool) : State :=
  if !(u8 (pfBody s c) 12).testBit (kind - 1) then s
  else
    let x := pfCh s c
    let e : FifoEntry := { stamp := if pfSerial s c && kind != 5 then x.stamp else s.fr.t10, pos := x.c, kind := kind, dir := x.dir, sw := sw,
                           rising := rising, seq := x.seq }
    let s1 := updPf s c (fun x => { x with seq := (x.seq + 1) % 256 })
    if x.fifo.length < 16 then updPf s1 c (fun x => { x with fifo := x.fifo ++ [e] })
    else pfEvent (updPf s1 c (fun x => { x with errFifo := satInc 255 x.errFifo })) 5 c

/-- CMP is driven: ACTIVE, HANDOVER, DEGRADED with the claim latch showing control (10 R269). -/
def cmpDriven (s : State) : Bool := s.md.mode.driven && hasControl s && !gateShut s 0

/-- A compare hit when c has changed by one count to COMPARE (10 R268, R269). -/
def pfCompare (s : State) (c : Nat) (up : Bool) : State :=
  let x := pfCh s c
  if x.cmpArmed && decide (x.c = x.compare) then
    let d := BitVec.ofNat 48 x.spacing
    let s1 := updPf s c (fun x =>
      { x with compare := if up then x.compare + d else x.compare - d, left := x.left - 1,
               cmpArmed := decide (x.left ≠ 1), cmpOn := cmpDriven s || (x.cmpOn && decide (s.fr.t10 < x.cmpEnd)),
               cmpEnd := if cmpDriven s then s.fr.t10 + 10 * u16 (pfRec s 0x0403 c) 12 else x.cmpEnd })
    pfFifo s1 c 4 0 false
  else s

/-- CMP goes off where it is no longer driven (10 R269, 03 R65). -/
def cmpDrop (s : State) : State :=
  if cmpDriven s then s
  else { s with pf := { s.pf with ch := Tab.mapAll s.pf.ch PfCh.init (fun _ x => { x with cmpOn := false }) } }

/-- Moves the reported count after the raw count with hysteresis 0 or 1 (10 R246). -/
def pfFollow (hyst : Bool) (r c : BitVec 48) : BitVec 48 :=
  let d := posDiff r c
  if !hyst then r else if 1 < d then r - 1 else if d < -1 then r + 1 else c

/-- One step of 4x decoding (10 R245, R246, R253). -/
def pfStep (s : State) (c : Nat) (up : Bool) : State :=
  let x := pfCh s c
  let r := if up then x.r + 1 else x.r - 1
  let n := pfFollow (pfFlag s c 1) r x.c
  let s1 := updPf s c (fun x =>
    { x with r := r, idxSteps := x.idxSteps + (if up then 1 else -1), idxUp := x.idxUp || up, idxDown := x.idxDown || !up })
  if n = x.c then s1
  else pfCompare (updPf s1 c (fun x => { x with c := n, dir := decide (posDiff n x.c < 0), stamp := s.fr.t10 })) c (decide (0 < posDiff n x.c))

/-- The channel counts: decoded, incremental, no line or supply fault (10 R242, R248, R271). -/
def pfCounts (s : State) (c : Nat) : Bool :=
  let x := pfCh s c
  x.decoded && decide (pfPrimary s c = 1) && !x.lineFault && !x.supplyFault

/-- A line's accepted level: a new one is taken once it has been stable for GLITCH x 10 ns (10 R244). -/
def pfLine (s : State) (c : Nat) (old new : Bool) (n : Nat) : Bool := if u8 (pfBody s c) 2 ≤ n then new else old

/-- Levels of A and B as a place in the cycle in which A leads B. -/
def quadPlace (a b : Bool) : Nat := if a then (if b then 2 else 1) else (if b then 3 else 0)

/-- A change of the accepted levels of A and B: none, an illegal step, or a step up or down as the phase order gives (10 R245). -/
def quadStep (a b a' b' : Bool) : Option (Option Bool) :=
  match (quadPlace a' b' + 4 - quadPlace a b) % 4 with
  | 0 => none
  | 1 => some (some Config.aLeadsUp)
  | 2 => some none
  | _ => some (some !Config.aLeadsUp)

/-- A decoder sample of A and B (10 R244-R246): INVERT reverses the sense of the steps. -/
def pfQuad (s : State) (c : Nat) (a b : Bool) (na nb : Nat) : State :=
  let x := pfCh s c
  let a' := pfLine s c x.la a na
  let b' := pfLine s c x.lb b nb
  let s1 := updPf s c (fun x => { x with la := a', lb := b' })
  if !pfCounts s c then s1
  else match quadStep x.la x.lb a' b' with
    | none => s1
    | some (some up) => pfStep s1 c (up != pfFlag s c 2)
    | some none => pfEvent (pfUnreference (updPf s1 c (fun x => { x with errIllegal := satInc 255 x.errIllegal })) c) 3 c

/-- CMP_WIDTH_END (10 R269): WIDTH after the latest hit; one before the next tick, which ends the others. -/
def doCmpEnd (s : State) (c : Nat) : State :=
  let e := (pfCh s c).cmpEnd
  if (pfCh s c).cmpOn && decide (e < s.fr.next) then updPf (advanceTo s e) c (fun x => { x with cmpOn := false }) else s

def execCmpWidthEnd (ch : Fin 8) (s : State) : Host.Outcome State Fault Refusal := done s (doCmpEnd s ch.val)

/-- The index count check between two qualified edges (10 R264). -/
def idxCheckFails (s : State) (c : Nat) : Bool :=
  let x := pfCh s c
  let lines := u32 (pfBody s c) 8
  x.idxSeen && decide (lines ≠ 0) && !(x.idxUp && x.idxDown) &&
    decide (u8 (pfBody s c) 5 < ((x.idxSteps.natAbs : Int) - (4 * lines : Nat)).natAbs)

/-- A rising edge of Z is qualified by the accepted levels of A and B (10 R261). -/
def idxQualified (s : State) (c : Nat) : Bool :=
  let g := u8 (pfBody s c) 4
  let x := pfCh s c
  decide (g = 4) || decide (g = 2 * b2n x.lb + b2n x.la)

/-- A qualified index edge (10 R261, R263, R264). -/
def pfIndexEdge (s : State) (c : Nat) : State :=
  let fails := idxCheckFails s c
  let s1 := pfFifo s c 1 0 true
  let s2 := if fails then pfEvent (pfUnreference s1 c) 0 c else s1
  let m := u8 (pfBody s c) 3
  let v := BitVec.ofNat 48 (u64 (pfBody s c) 16)
  let s3 := updPf s2 c (fun x => { x with idxSteps := 0, idxUp := false, idxDown := false, idxSeen := true })
  if decide (m = 1) || (decide (m = 2) && (pfCh s c).armed) then
    pfReference (updPf s3 c (fun x =>
      { x with r := v, c := v, armed := false, moved := x.moved || x.r != v || x.c != v, stamp := if x.c = v then x.stamp else s.fr.t10 })) c
  else s3

/-- A decoder sample of Z (10 R244, R261). -/
def pfIndex (s : State) (c : Nat) (z : Bool) (nz : Nat) : State :=
  let old := (pfCh s c).lz
  let z' := pfLine s c old z nz
  let s1 := updPf s c (fun x => { x with lz := z' })
  if pfCounts s c && z' && !old && idxQualified s c then pfIndexEdge s1 c else s1

/-- An edge of the LATCH input; LATCH_EDGE selects the ones latched (10 R254, R257). -/
def pfLatchIn (s : State) (c : Nat) (rising : Bool) : State :=
  let e := u8 (pfBody s c) 13
  if (pfCh s c).decoded && (decide (e = 2) || decide (e = if rising then 0 else 1)) then pfFifo s c 2 0 rising else s

/-- The correction of an accepted switch edge: POSITION - c of the entry that matches (10 R266). -/
def switchMatch (s : State) (c sw : Nat) (rising : Bool) : Option Int :=
  let b := pfRec s 0x0402 c
  let x := pfCh s c
  (List.range (u16 b 0)).findSome? (fun e =>
    let o := 8 + 16 * e
    let d := u8 b (o + 14)
    let err := posDiff (BitVec.ofNat 48 (u64 b o)) x.c
    if u8 b (o + 12) = sw ∧ u8 b (o + 13) = (if rising then 0 else 1) ∧ (d = 0 ∨ d = (if x.dir then 2 else 1)) ∧
        err.natAbs ≤ u32 b (o + 8) then some err else none)

/-- CORR_MODE is CORRECT (10 R276). -/
def corrects (s : State) (c : Nat) : Bool := (startRec s 0x0402 c).isSome && u8 (pfRec s 0x0402 c) 2 = 1

/-- An accepted edge of SWn (10 R265-R267). -/
def pfSwitchEdge (s : State) (c sw : Nat) (rising : Bool) : State :=
  let s1 := pfFifo (updPf s c (fun x => { x with sw := bput x.sw sw rising })) c 5 sw rising
  match switchMatch s c sw rising with
  | none => pfEvent s1 6 c
  | some e => updPf s1 c (fun x => { x with lastCorr := e, corr := if corrects s c then some e else x.corr })

/-- The count and the state of a counter filter of length n after k samples of one level (08 R174). -/
def filtRun (n k : Nat) (raw : Bool) (count : Nat) (st : Bool) : Nat × Bool :=
  let m := if raw then min (count + k) n else min count n - k
  if k = 0 then (count, st) else (m, if m = n then true else if m = 0 then false else st)

/-- Samples of SWn (10 R265): at every T10 count that is a multiple of 100 from the one after its latest sample up to now it has read
`level`; the filter changes in the last of them or not at all. -/
def pfSwitch (s : State) (c sw : Nat) (level : Bool) : State :=
  let x := pfCh s c
  if !x.decoded || !pfFlag s c 0 || decide (s.fr.t10 % 100 ≠ 0) then s
  else
    let k := s.fr.t10 / 100 - Tab.get x.swAt 0 sw / 100
    let f := filtRun (u16 (pfBody s c) 14) k level (Tab.get x.swCount 0 sw) (x.sw.toNat.testBit sw)
    let s1 := updPf s c (fun x => { x with swCount := Tab.set x.swCount 0 sw f.1, swAt := Tab.set x.swAt 0 sw s.fr.t10 })
    if f.2 = x.sw.toNat.testBit sw then s1 else pfSwitchEdge s1 c sw f.2

/-! ### A decoder sample -/

/-- The place of a happening in the order of a decoder sample (10 R253). -/
def PfHap.place : PfHap → Nat
  | .quad .. => 0 | .index .. => 1 | .latch .. => 2 | .switch .. => 3

/-- A happening takes place now. -/
def pfHap (s : State) (c : Nat) : PfHap → State
  | .quad a b na nb => pfQuad s c a b na nb
  | .index z nz => pfIndex s c z nz
  | .latch r => pfLatchIn s c r
  | .switch n l => pfSwitch s c n l

/-- A happening `dt` after now; one in the decoder sample of the next tick waits for it (10 R253). -/
def pfSample (s0 : State) (c dt : Nat) (h : PfHap) : State :=
  let s := advance s0 dt
  if s0.md.mode = .reset then s0
  else if s0.fr.t10 + dt < s0.fr.next then pfHap s c h
  else { s with pf := { s.pf with held := s.pf.held ++ [(c, h)] } }

/-- The happenings that waited for the tick, channel by channel in the order of R253. -/
def pfHeld (s : State) : State :=
  let s0 := { s with pf := { s.pf with held := [] } }
  (List.range 8).foldl (fun s1 c => (List.range 4).foldl (fun s2 k =>
    (s.pf.held.filter (fun x => decide (x.1 = c ∧ x.2.place = k))).foldl (fun s3 x => pfHap s3 c x.2) s2) s1) s0

/-- PF_QUAD_STEP (10 R244, R245): a decoder sample in which a change of A or B may be accepted. -/
def doQuad (s : State) (c dt : Nat) (a b : Bool) (na nb : Nat) : State := pfSample s c dt (.quad a b na nb)

def execPfQuadStep (ch : Fin 8) (dt : Nat) (ab : QuadLevels) (s : State) : Host.Outcome State Fault Refusal :=
  done s (doQuad s ch.val dt ab.a ab.b ab.na ab.nb)

/-- PF_INDEX_EDGE (10 R244, R261): a decoder sample in which a change of Z may be accepted. -/
def doIndex (s : State) (c dt : Nat) (z : Bool) (nz : Nat) : State := pfSample s c dt (.index z nz)

def execPfIndexEdge (ch : Fin 8) (dt : Nat) (z : Bool) (nz : Nat) (s : State) : Host.Outcome State Fault Refusal :=
  done s (doIndex s ch.val dt z nz)

/-- PF_LATCH_EDGE (10 R254, R257). -/
def doLatchEdge (s : State) (c dt : Nat) (rising : Bool) : State := pfSample s c dt (.latch rising)

def execPfLatchEdge (ch : Fin 8) (dt : Nat) (rising : Bool) (s : State) : Host.Outcome State Fault Refusal :=
  done s (doLatchEdge s ch.val dt rising)

/-- PF_SWITCH_EDGE (10 R265-R267). -/
def doSwitch (s : State) (c dt sw : Nat) (level : Bool) : State := pfSample s c dt (.switch sw level)

def execPfSwitchEdge (ch : Fin 8) (dt : Nat) (sw : Fin 4) (level : Bool) (s : State) : Host.Outcome State Fault Refusal :=
  done s (doSwitch s ch.val dt sw.val level)

/-! ### Serial encoders -/

/-- PF_SERIAL_START (10 R249): a transaction starts at a multiple of SAMPLE_US x 100, at a tick with
SAMPLE_US = 0, once the line has returned high. -/
def doSerStart (s0 : State) (c dt : Nat) : State :=
  let s := advance s0 dt
  let us := u16 (pfBody s c) 34
  let due := if us = 0 then decide (s.fr.t10 = s.fr.tick) else decide (s.fr.t10 % (us * 100) = 0)
  if (pfCh s c).decoded && pfSerial s c && due && !(pfCh s c).serBusy then
    updPf s c (fun x => { x with serBusy := true, serStart := s.fr.t10 })
  else s

def execPfSerialStart (ch : Fin 8) (dt : Nat) (s : State) : Host.Outcome State Fault Refusal := done s (doSerStart s ch.val dt)

/-- Gray to binary over n bits (10 R250). -/
def grayToBin (g : Nat) : Nat → Nat
  | 0 => 0
  | n + 1 => let r := grayToBin (g / 2) n; 2 * r + ((g + r) % 2)

/-- The position field of a word, before sign extension (10 R250). -/
def serPosition (s : State) (c data : Nat) : Nat :=
  let b := pfBody s c
  let p := bits data (u8 b 28) (u8 b 27)
  if pfFlag s c 3 then grayToBin p (u8 b 27) else p

/-- A bit of the word that a record names; 0xFF names none (10 R250). -/
def serBit (s : State) (c data n : Nat) : Bool := decide (n ≠ 0xFF) && (data.testBit n != pfFlag s c 6)

/-- The CRC of a word holds (10 R250). -/
def serCrcOk (s : State) (c data crc : Nat) : Bool :=
  let b := pfBody s c
  let k := u8 b 31
  let w := serCrc (u16 b 32 % 2 ^ k + 2 ^ k) k data (u8 b 26)
  decide (k = 0) || decide (crc % 2 ^ k = if pfPrimary s c = 2 then 2 ^ k - 1 - w else w)

/-- A transaction fails: one more in the run (10 R252). -/
def serFail (s : State) (c : Nat) : State := updPf s c (fun x => { x with serBusy := false, failRun := satInc 255 x.failRun })

/-- PF_SERIAL_WORD (10 R248-R251, R263, R268, R273): a word completes. One with its error bit is discarded and is no failed
transaction; one that completes under a line fault counts nothing (notes/assumptions/146.md). -/
def doSerWord (s0 : State) (c dt data crc : Nat) : State :=
  let s := advance s0 dt
  let b := pfBody s c
  let x := pfCh s c
  if !x.decoded || !pfSerial s c || !x.serBusy then s
  else if x.lineFault then updPf s c (fun x => { x with serBusy := false })
  else if !serCrcOk s c data crc then
    pfEvent (serFail (updPf s c (fun x => { x with errCrc := satInc 255 x.errCrc })) c) 1 c
  else if serBit s c data (u8 b 29) then pfEvent (updPf s c (fun x => { x with serBusy := false, serErr := true, failRun := 0 })) 3 c
  else
    let w := u8 b 27
    let p := serPosition s c data
    let warn := serBit s c data (u8 b 30)
    let first : Int := if pfFlag s c 4 then signed w p else p
    let acc := match x.serPrev with
      | none => BitVec.ofInt 48 first
      | some q => x.c + BitVec.ofInt 48 (signed w ((p + 2 ^ w - q % 2 ^ w) % 2 ^ w))
    let s1 := updPf s c (fun x =>
      { x with r := acc, c := acc, dir := if acc = x.c then x.dir else decide (posDiff acc x.c < 0), stamp := x.serStart, serBusy := false,
               serPrev := some p, serNew := true, warn := warn, failRun := 0, bad := false,
               moved := x.moved || (x.serPrev.isNone && acc != x.c) })
    let s2 := if warn then pfEvent s1 4 c else s1
    let s3 := if x.supplyFault then s2 else pfReference s2 c
    if (posDiff acc x.c).natAbs = 1 then pfCompare s3 c (decide (0 < posDiff acc x.c)) else s3

def execPfSerialWord (ch : Fin 8) (dt data crc : Nat) (s : State) : Host.Outcome State Fault Refusal :=
  done s (doSerWord s ch.val dt data crc)

/-- PF_SERIAL_TIMEOUT (10 R249). -/
def doSerTimeout (s0 : State) (c dt : Nat) : State :=
  let s := advance s0 dt
  if !(pfCh s c).decoded || !pfSerial s c || !(pfCh s c).serBusy then s
  else pfEvent (serFail (updPf s c (fun x => { x with errTimeout := satInc 255 x.errTimeout })) c) 2 c

def execPfSerialTimeout (ch : Fin 8) (dt : Nat) (s : State) : Host.Outcome State Fault Refusal := done s (doSerTimeout s ch.val dt)

/-- PF_SERIAL_BAD (10 R252): FAIL_LIMIT failures in a row. -/
def doSerBad (s : State) (c : Nat) : State :=
  if (pfCh s c).decoded && pfSerial s c && decide (u8 (pfBody s c) 37 ≤ (pfCh s c).failRun) then
    pfUnreference (updPf s c (fun x => { x with bad := true, serPrev := none })) c
  else s

def execPfSerialBad (ch : Fin 8) (s : State) : Host.Outcome State Fault Refusal := done s (doSerBad s ch.val)

/-- PF_LINE_FAULT (10 R248). -/
def doLineFault (s : State) (c : Nat) : State :=
  if (pfCh s c).decoded then pfEvent (pfUnreference (updPf s c (fun x => { x with lineFault := true })) c) 3 c else s

def execPfLineFault (ch : Fin 8) (s : State) : Host.Outcome State Fault Refusal := done s (doLineFault s ch.val)

/-- PF_LINE_FAULT_END (10 R248). -/
def doLineFaultEnd (s : State) (c : Nat) : State := updPf s c (fun x => { x with lineFault := false })

def execPfLineFaultEnd (ch : Fin 8) (s : State) : Host.Outcome State Fault Refusal := done s (doLineFaultEnd s ch.val)

/-- PF_ENCODER_SUPPLY_FAULT (10 R271). -/
def doPfSupply (s : State) (c : Nat) : State := pfEvent (pfUnreference (updPf s c (fun x => { x with supplyFault := true })) c) 7 c

def execPfEncoderSupplyFault (ch : Fin 8) (s : State) : Host.Outcome State Fault Refusal := done s (doPfSupply s ch.val)

/-- PF_ENCODER_SUPPLY_SOUND (10 R271). -/
def doPfSupplySound (s : State) (c : Nat) : State := updPf s c (fun x => { x with supplyFault := false })

def execPfEncoderSupplySound (ch : Fin 8) (s : State) : Host.Outcome State Fault Refusal := done s (doPfSupplySound s ch.val)

/-! ### The tick -/

/-- The reference sources of a channel (10 R263). -/
def hasRefSource (s : State) (c : Nat) : Bool :=
  pfSerial s c || decide (u8 (pfBody s c) 3 = 1) || decide (u8 (pfBody s c) 3 = 2) || (pfFlag s c 0 && corrects s c)

/-- PF_ARM's effect at a tick (10 R262): 0 armed or disarmed, else the DETAIL of BAD_PARAM. -/
def pfArmAt (s : State) (c : Nat) (arm : Bool) : State × Nat :=
  if !(pfCh s c).decoded then (s, 8)
  else if u8 (pfBody s c) 3 = 2 ∧ !pfSerial s c then (updPf s c (fun x => { x with armed := arm }), 0)
  else if !hasRefSource s c then (if arm then pfReference s c else s, 0)
  else (s, 8)

/-- The switch correction of a frame, before the frame latch; of an incremental channel it is a change of c now (10 R258, R267). -/
def pfCorrect (s : State) (c : Nat) : State :=
  match (pfCh s c).corr with
  | none => s
  | some e =>
    let d := BitVec.ofInt 48 e
    let moves := d != 0
    pfReference (updPf s c (fun x =>
      { x with r := x.r + d, c := x.c + d, corr := none, moved := x.moved || moves
               stamp := if moves && !pfSerial s c then s.fr.t10 else x.stamp })) c

/-- Speed from the frame latch and the reference pair (10 R259). -/
def pfSpeed (still tick : Nat) (x : PfCh) (cl : BitVec 48) (tl : Nat) : F64 :=
  if x.moved || x.fresh then x.v
  else if cl ≠ x.refPos ∨ tl ≠ x.refStamp then
    F64.div (F64.mul (F64.ofInt (posDiff cl x.refPos)) (F64.ofNat 100000000)) (F64.ofInt ((tl : Int) - (x.refStamp : Int)))
  else
    let dt := tick - tl
    if still * 100000 ≤ dt then 0
    else if F64.gt (F64.mul (F64.abs x.v) (F64.ofNat dt)) (F64.ofNat 100000000) then
      F64.div (F64.ofInt (if F64.sign x.v then -100000000 else 100000000)) (F64.ofNat dt)
    else x.v

/-- Quality of a channel at a tick (10 R272, R273): a word with its error bit makes it UNCERTAIN. -/
def pfQual (s : State) (c : Nat) (x : PfCh) : Qual :=
  if (startRec s 0x0401 c).isNone || x.lineFault || x.supplyFault || x.bad then .bad
  else if pfSerial s c && !x.serNew && !x.serErr then .stale
  else if !x.referenced || x.warn || x.serErr then .uncertain else .good

/-- DIAG_PF_STATE, DIAG_PF_ERRCOUNT and DIAG_PF_CORR as they read until the next tick (10 R280). -/
def pfRegs (s : State) (c : Nat) (x : PfCh) : List Word :=
  let prim := pfPrimary s c
  [BitVec.ofNat 32 (prim + 4 * b2n (x.decoded && pfFlag s c 0) + 8 * b2n x.referenced + 16 * b2n x.armed + 32 * b2n x.dir +
      64 * b2n x.lineFault + 128 * b2n x.supplyFault + 256 * b2n (decide (x.qual = .uncertain)) + 512 * b2n (decide (x.qual = .stale)) +
      1024 * b2n (decide (x.qual = .bad)) + 2048 * x.fifoLast),
   BitVec.ofNat 32 (x.errIllegal + 256 * x.errCrc + 65536 * x.errTimeout + 16777216 * x.errFifo),
   BitVec.ofNat 32 (sat31 x.lastCorr)]

/-- The frame latch of a channel: pair, speed, FIFO moved to the image (10 R254, R258, R259). -/
def pfLatch (s : State) (c : Nat) : State × PfImg :=
  let x := pfCh s c
  if !x.decoded then
    let y := { x with qual := pfQual s c x, fifoLast := 0, regs := [] }
    (updPf s c (fun _ => { y with regs := pfRegs s c y }), { PfImg.init with qual := y.qual })
  else
    let tl := x.stamp
    let v := pfSpeed (u16 (pfBody s c) 6) s.fr.t10 x x.c tl
    let y := { x with lPos := x.c, lStamp := tl, v := v, refPos := x.c, refStamp := tl, moved := false, fresh := false, qual := pfQual s c x }
    let s1 := pfFifo (updPf s c (fun _ => y)) c 3 0 false
    let q := (pfCh s1 c).fifo
    let s2 := updPf s1 c (fun z => let w := { z with fifo := [], fifoLast := q.length, serNew := false, serErr := false }; { w with regs := pfRegs s1 c w })
    (s2, { pos := x.c, stamp := tl, v := v, dir := x.dir, referenced := x.referenced, sw := x.sw, qual := y.qual, fifo := q })

/-- CMP pulses whose width has ended go off at the latest at the tick (10 R269). -/
def cmpExpire (s : State) : State :=
  { s with pf := { s.pf with ch := Tab.mapAll s.pf.ch PfCh.init (fun _ x => if x.cmpEnd ≤ s.fr.t10 then { x with cmpOn := false } else x) } }

/-- The decoder sample of a tick: what waited for it, correction and frame latch of the eight channels, and the registers that
change there (10 R253, R280). -/
def tickPf (s0 : State) : State × Tab PfImg :=
  let s := pfHeld (cmpDrop (cmpExpire s0))
  let step := fun (a : State × Tab PfImg) c =>
    let r := pfLatch (pfCorrect a.1 c) c
    (r.1, Tab.set a.2 PfImg.init c r.2)
  let r := (List.range 8).foldl step (s, [])
  let s1 := r.1
  let x := pfCh s1
  let held := fun i =>
    let c := i % 8
    if i / 8 = 3 then (x c).lineFault else if i / 8 = 7 then (x c).supplyFault else if i / 8 = 4 then (x c).warn else false
  ({ s1 with pf := { s1.pf with
      event := s1.pf.event ||| s1.pf.evNew ||| ofBits 72 held
      evNew := 0
      refReg := ofBits 32 (fun c => decide (c < 8) && (x c).referenced)
      armReg := ofBits 32 (fun i => if i < 8 then (x i).armed else if i < 16 then (x (i - 8)).cmpArmed else false)
      swReg := ofBits 32 (fun i => (x (i / 4)).sw.toNat.testBit (i % 4)) } }, r.2)

/-- The fields of 10 R242 that, changed, start a channel afresh: PRIMARY, and on a serial channel GRAY,
POS_SIGNED, POS_BITS, POS_LSB, DATA_BITS. -/
def pfKey (l : List Rec) (c : Nat) : Option (Nat × List Nat) :=
  (findRec l 0x0401 c).map (fun r =>
    (u8 r.body 0, if u8 r.body 0 < 2 then [] else [bits (u8 r.body 1) 3 2, u8 r.body 27, u8 r.body 28, u8 r.body 26]))

/-- A channel at the tick at which a check has passed: kept under 03 R78 on a WARM start, or started afresh; a
started channel with no reference source is REFERENCED; one with PRIMARY NONE is not decoded; START_MODE 0 arms the compare unit (10 R242, R263, R270). -/
def startPf (old : List Rec) (keep : Bool) (s : State) (c : Nat) : State :=
  match startRec s 0x0401 c with
  | none => updPf s c (fun x => { x with decoded := false, cmpArmed := false, cmpOn := false })
  | some r =>
    if u8 r.body 0 = 0 then updPf s c (fun x => { x with decoded := false, referenced := false, cmpArmed := false, cmpOn := false, armed := false })
    else
    let x := pfCh s c
    let same := keep && x.decoded && decide (pfKey old c = pfKey s.cfg.started c)
    let n := u16 (pfBody s c) 14
    let base : PfCh := if same then x else
      { PfCh.init with seq := x.seq, stamp := s.fr.t10, fresh := true, lineFault := x.lineFault, supplyFault := x.supplyFault,
                       errIllegal := x.errIllegal, errCrc := x.errCrc, errTimeout := x.errTimeout, errFifo := x.errFifo, sw := x.sw,
                       swCount := x.swCount, la := x.la, lb := x.lb, lz := x.lz, regs := x.regs }
    let cb := pfRec s 0x0403 c
    let cmp := (startRec s 0x0403 c).isSome && decide (u8 cb 14 = 0) && !same
    let s1 := updPf s c (fun _ =>
      { base with decoded := true, cmpArmed := cmp || (base.cmpArmed && (startRec s 0x0403 c).isSome),
                  swCount := Tab.mapAll base.swCount 0 (fun _ k => min k n), swAt := Tab.updMany base.swAt 0 (List.range 4) (fun _ _ => s.fr.t10),
                  compare := if cmp then BitVec.ofNat 48 (u64 cb 0) else base.compare,
                  spacing := if cmp then u32 cb 8 else base.spacing, left := if cmp then u32 cb 16 else base.left })
    if hasRefSource s c || same then s1 else pfReference s1 c

/-- DIAG_PF_SNAP (10 R280): the channels written 1 copy their frame latch and speed. -/
def doPfSnap (s : State) (v : Word) : State :=
  { s with pf := { s.pf with
      snapFrame := s.fr.frame % 2 ^ 32
      snap := (bitsSet v.toNat 8).foldl (fun t c =>
        let x := pfCh s c
        let v := if F64.isFinite x.v then F64.ofInt (F64.truncInt x.v) else x.v
        Tab.set t (0, 0, 0) c (x.lPos.toNat, x.lStamp, unsigned 32 (F64.toIntSat v (-2147483647) 2147483647))) s.pf.snap } }

def execDiagPfSnap (v : Word) (s : State) : Host.Outcome State Fault Refusal := done s (hostAccess s (fun s => doPfSnap s v))

/-- A read of the position feedback page, BAR0 0x4500-0x46FF (10 R280). -/
def pfRead (s : State) (off : Nat) : Nat :=
  if off < 0x450C then bits s.pf.event.toNat (8 * (off - 0x4500)) (if off = 0x4508 then 8 else 32)
  else if off = 0x450C then s.pf.refReg.toNat
  else if off = 0x4510 then s.pf.armReg.toNat
  else if off = 0x4518 then s.pf.snapFrame
  else if off = 0x451C then s.pf.swReg.toNat
  else if 0x4540 ≤ off ∧ off < 0x4640 then
    let c := (off - 0x4540) / 32
    let r := (off - 0x4540) % 32
    let sn := Tab.get s.pf.snap (0, 0, 0) c
    let reg := fun k => ((pfCh s c).regs.getD k 0).toNat
    if r = 0 then reg 0
    else if r = 4 then sn.1 % 2 ^ 32
    else if r = 8 then sn.1 / 2 ^ 32
    else if r = 12 then sn.2.1 % 2 ^ 32
    else if r = 16 then bits sn.2.1 32 32
    else if r = 20 then sn.2.2
    else if r = 24 then reg 1
    else reg 2
  else 0

/-- A write to the position feedback page (10 R280). -/
def pfWrite (s : State) (off : Nat) (v : Word) : State :=
  if off < 0x450C then
    { s with pf := { s.pf with event := s.pf.event &&& ~~~ BitVec.ofNat 72 (v.toNat * 2 ^ (8 * (off - 0x4500))) } }
  else if off = 0x4514 then doPfSnap s v
  else s

end Sys2Proof.Machine
end

