-- ==== Sys2Proof/Machine/Window.lean ====
section
/-! DEFINITION. The shared window, its directory and the result slots (05 R119-R128, 06 R134-R137). -/

namespace Sys2Proof.Machine

/-- The directory word of segment n (05 R122). -/
def dirOf (s : State) (n : Nat) : Dir := Tab.get s.hp.dir Dir.init n
def setDir (s : State) (n : Nat) (d : Dir) : State := { s with hp := { s.hp with dir := Tab.set s.hp.dir Dir.init n d } }

/-- A result slot (06 R134). -/
def slotAt (s : State) (n : Nat) : Slot := Tab.get s.cm.slots Slot.empty n
def setSlot (s : State) (n : Nat) (x : Slot) : State := { s with cm := { s.cm with slots := Tab.set s.cm.slots Slot.empty n x } }

/-- The 64 bytes of a result slot (06 R134, R135). -/
def slotBytes (x : Slot) : List Byte :=
  leBytes 2 x.tag ++ leBytes 1 x.st ++ leBytes 1 x.status ++ leBytes 2 x.detail ++ leBytes 1 x.mode ++ [0] ++ leBytes 8 x.frameNo ++
    fit 48 x.result

/-- Byte a of the window: segment 1 shows the result slots, and 0 beyond them (05 R122); a byte that nothing
has written reads 0 (notes/assumptions/6.md); before the window is ready every byte reads 0 (03 R73). -/
def winByte (s : State) (a : Nat) : Byte :=
  if !s.md.ready then 0
  else if a / 65536 = 1 then
    if a % 65536 < 16384 then (slotBytes (slotAt s (a % 65536 / 64))).getD (a % 64) 0 else 0
  else Tab.get s.hp.win 0 a

/-- `n` bytes of the window from byte a on. -/
def winBytes (s : State) (a n : Nat) : List Byte := (List.range n).map (fun i => winByte s (a + i))

/-- The module writes bytes into the window (05 R123 leaves it device-owned segments only). -/
def winWrite (s : State) (a : Nat) (b : List Byte) : State :=
  { s with hp := { s.hp with win := (b.zipIdx).foldl (fun w x => Tab.set w 0 (a + x.2) x.1) s.hp.win } }

/-- Sets bit k of HIF_TGT_STATUS[t] (05 R118). -/
def tgtEvent (s : State) (t k : Nat) : State := { s with hp := { s.hp with tgt := Tab.upd s.hp.tgt 0 t (fun w => bset w k) } }

/-- Hands segment n to the host for return target t, KIND replaced where given (05 R125). -/
def handback (s : State) (t : Nat) (kind : Option Nat) (n : Nat) : State :=
  let d := dirOf s n
  tgtEvent (setDir s n { dev := false, kind := kind.getD d.kind, gen := (d.gen + 1) % 65536 }) t 2

/-- The segments of a subscription (14 R407). -/
def subSegs (x : Sub) : List Nat := (List.range x.segCount).map (fun i => x.segFirst + i)

/-- The subscriptions that stand. -/
def liveSubs (s : State) : List (Nat × Sub) :=
  (List.range 32).filterMap (fun i => (Tab.get s.cm.subs none i).map (fun x => (i, x)))

/-- A command or a subscription holds segment n (05 R127). -/
def segHeld (s : State) (n : Nat) : Bool :=
  s.cm.cmds.any (fun c => c.segs.contains n) || (liveSubs s).any (fun x => (subSegs x.2).contains n)

/-- Records a violation of the window and raises WIN_VIOLATION (05 R123, R124). -/
def violation (s : State) (seg off : Nat) (dirWrite : Bool) : State :=
  { s with hp := { s.hp with
      viol := satInc32 s.hp.viol, violLast := BitVec.ofNat 32 (off + 65536 * seg + 67108864 * b2n dirWrite)
      event := bset s.hp.event 1 } }

/-- WIN_DIRECTORY_WRITE (05 R124). -/
def doDirWrite (s : State) (n : Nat) (v : Word) : State :=
  let d := dirOf s n
  let kind := bits v.toNat 24 7
  if n < 2 ∨ d.dev then violation s n 0 true
  else if v.toNat.testBit 31 then setDir s n { dev := true, kind := kind, gen := (d.gen + 1) % 65536 }
  else setDir s n { d with kind := kind }

def execWinDirectoryWrite (seg : Fin 1024) (v : Word) (s : State) : Host.Outcome State Fault Refusal :=
  done s (hostAccess s (fun s => doDirWrite s seg.val v))

/-- Byte a of the window lies in a device-owned segment. -/
def devOwned (s : State) (a : Nat) : Bool := (dirOf s (a / 65536)).dev

/-- BAR2_WRITE (05 R123): bytes in host-owned segments are written, bytes in device-owned segments dropped;
before the window is ready all are (03 R73). Dropped bytes count as traffic carried: DESIGN CHOICE
(notes/assumptions/131.md). -/
def doBar2 (s : State) (a : Nat) (data : List (Option Byte)) : State :=
  if !s.md.ready then s
  else
    let bs := data.zipIdx.filterMap (fun x => x.1.map (fun b => (a + x.2, b)))
    let s1 := { s with hp := { s.hp with
        share := s.hp.share + bs.length
        win := bs.foldl (fun w x => if devOwned s x.1 then w else Tab.set w 0 x.1 x.2) s.hp.win } }
    match bs.find? (fun x => devOwned s x.1) with
    | none => s1
    | some x => violation s1 (x.1 / 65536) (x.1 % 65536) false

def execBar2Write (addr : Nat) (data : List (Option Byte)) (s : State) : Host.Outcome State Fault Refusal :=
  done s (hostAccess s (fun s => doBar2 s addr data))

/-- WIN_RECLAIM (05 R128): waits for the next tick; of two before one tick the later decides: DESIGN CHOICE
(notes/assumptions/130.md). -/
def doReclaim (s : State) (v : Word) : State :=
  if v.toNat.testBit 0 then { s with hp := { s.hp with reclaim := some (bits v.toNat 1 3) } } else s

def execWinReclaim (v : Word) (s : State) : Host.Outcome State Fault Refusal := done s (hostAccess s (fun s => doReclaim s v))

/-- The reclaim at the tick: every device-owned segment but segment 1 that nothing holds (05 R128). -/
def tickReclaim (s : State) : State :=
  match s.hp.reclaim with
  | none => s
  | some t =>
    let free := (s.hp.dir.filter (fun x => x.2.dev && decide (x.1 ≠ 1) && !segHeld s x.1)).map (·.1)
    free.foldl (fun s n => handback s t none n) { s with hp := { s.hp with reclaim := none } }

/-- WIN_DEVICE_OWNED (05 R128). -/
def deviceOwned (s : State) : Nat := (s.hp.dir.filter (fun x => x.2.dev)).length

/-- Records an error of the command path and raises CMD_ERROR (05 R118, 06 R137). -/
def cmdError (s : State) (tag ring cause tgt : Nat) : State :=
  { s with hp := { s.hp with
      cmdError := BitVec.ofNat 32 (tag + 65536 * ring + 67108864 * cause + 536870912 * tgt)
      cmdErrCount := satInc32 s.hp.cmdErrCount, event := bset s.hp.event 0 } }

/-- HIF_DOORBELL (05 R119); in Quad-SPI mode those of targets 4-7 are taken as the others: DESIGN CHOICE
(notes/assumptions/129.md). -/
def doDoorbell (s : State) (t : Nat) (v : Word) : State :=
  let n := v.toNat % 1024
  let adv := (n + 1024 - s.hp.tail.val) % 1024
  if v.toNat / 1024 ≠ 0 then cmdError s 0 n 3 t
  else if 1 ≤ adv ∧ adv ≤ 1023 - (s.hp.tail.val + 1024 - s.hp.head.val) % 1024 then
    { s with hp := { s.hp with
        tail := Fin.ofNat 1024 v.toNat, bells := s.hp.bells ++ [(t, n)]
        reqTgt := Tab.updMany s.hp.reqTgt 0 ((List.range adv).map (fun i => (s.hp.tail.val + i) % 1024)) (fun _ _ => t) } }
  else cmdError s 0 n 2 t

def execHifDoorbell (t : Fin 8) (v : Word) (s : State) : Host.Outcome State Fault Refusal :=
  done s (hostAccess s (fun s => doDoorbell s t.val v))

/-- HIF_RELEASE (06 R136). -/
def doRelease (s : State) (v : Word) : State :=
  let tag := v.toNat % 65536
  let x := slotAt s (tag % 256)
  if x.st = 2 ∧ x.tag = tag then setSlot s (tag % 256) Slot.empty else s

def execHifRelease (v : Word) (s : State) : Host.Outcome State Fault Refusal := done s (hostAccess s (fun s => doRelease s v))

/-- The ring moves past entry i: HEAD advances, and the doorbells whose tail it reaches are acknowledged (05 R119). -/
def ringAdvance (s : State) : State :=
  let h := (s.hp.head + 1).val
  let hit := s.hp.bells.filter (fun x => decide (x.2 = h))
  let s1 := { s with hp := { s.hp with head := s.hp.head + 1, bells := s.hp.bells.filter (fun x => decide (x.2 ≠ h)) } }
  hit.foldl (fun s x => tgtEvent s x.1 1) s1

/-- The answer of a command: STATUS, DETAIL, result data (06 R134, R138). -/
structure Answer where
  status : Nat
  detail : Nat
  data : List Byte
deriving DecidableEq, Repr

def okA (data : List Byte) : Answer := { status := 0, detail := 0, data := data }
def errA (status detail : Nat) : Answer := { status := status, detail := detail, data := [] }
def badParam (d : Nat) : Answer := errA 0x12 d
def wrongMode : Answer := errA 0x20 0
def refusedSafety : Answer := errA 0x31 0

/-- Writes the READY slot of a command and raises RESULT_READY (06 R135, 05 R120). -/
def answerSlot (s : State) (tag tgt : Nat) (a : Answer) : State :=
  tgtEvent (setSlot s (tag % 256)
    { tag := tag, st := 2, status := a.status, detail := a.detail, mode := s.md.mode.num, frameNo := s.fr.frame, result := fit 48 a.data }) tgt 0

/-- A command in progress completes: its segments are handed back, its slot becomes READY (05 R127, 06 R135). -/
def complete (s : State) (c : Cmd) (a : Answer) : State :=
  let s1 := { s with cm := { s.cm with cmds := s.cm.cmds.erase c } }
  answerSlot (c.segs.foldl (fun s n => handback s c.target none n) s1) c.tag c.target a

/-- A command's fields change while it runs. -/
def replaceCmd (s : State) (c d : Cmd) : State := { s with cm := { s.cm with cmds := s.cm.cmds.map (fun x => if x = c then d else x) } }

end Sys2Proof.Machine
end

