-- ==== Sys2Proof/Machine/Engine.lean ====
section
/-! DEFINITION. The control engine: slots, block-floating arithmetic, controllers, filters, limiter, sum and
output stages (11). -/

namespace Sys2Proof.Machine

/-- A mantissa with a mark that it, or one it came from, saturated (11 R287, R289). -/
structure Mn where
  v : Int
  s : Bool
deriving DecidableEq, Repr

/-- Saturation at -2^31 and 2^31 - 1 (11 R287, R289). -/
def mnClip (z : Int) (s : Bool) : Mn :=
  if z < -2147483648 then { v := -2147483648, s := true }
  else if 2147483647 < z then { v := 2147483647, s := true }
  else { v := z, s := s }

/-- z * 2^k rounded to nearest, ties to even (11 R287). -/
def roundScale (z k : Int) : Int := F64.dyRound { m := z, e := k }

/-- A binary64 value as a mantissa at exponent E; 0 for a NaN (11 R287). -/
def mant (e : Int) (x : F64) : Mn :=
  if F64.isNaN x then { v := 0, s := false }
  else if F64.isInf x then { v := if F64.sign x then -2147483648 else 2147483647, s := true }
  else let d := F64.toDy x; mnClip (roundScale d.m (d.e + 31 - e)) false

/-- The value of a mantissa at exponent E, exact (11 R291). -/
def mantVal (e m : Int) : F64 := F64.ofDy { m := m, e := e - 31 }

def mnAdd (a b : Mn) : Mn := mnClip (a.v + b.v) (a.s || b.s)
def mnNeg (a : Mn) : Mn := { a with v := -a.v }

/-- A gain G in Q4.28 with shift S times a mantissa (11 R287). -/
def mnMul (g : Mn) (sh : Int) (m : Mn) : Mn := mnClip (roundScale (g.v * m.v) (sh - 28)) (g.s || m.s)

/-- Clamping to configured limits is not saturation (11 R289). -/
def mnClamp (m lo hi : Mn) : Mn := { m with v := clampI m.v lo.v hi.v }

/-- An effective gain: base gain in Q4.28 at its shift, times the scale input and the factor k in Q4.28
(11 R292). -/
def effGain (g : Int) (s : F64) (k : Int) : Mn :=
  let d := F64.dyMul (F64.dyMul { m := g, e := 0 } (F64.toDy s)) { m := k, e := -28 }
  mnClip (F64.dyRound d) false

/-- The record body of stage i, and its fields (11 R305). -/
def stBody (s : State) (i : Nat) : List Byte := cfgBody s 0x0602 i
def stType (b : List Byte) : Nat := u8 b 0
def stLoop (b : List Byte) : Nat := u8 b 1
def stIn (b : List Byte) (j : Nat) : Nat := u16 b (4 + 2 * j)
def stOut (b : List Byte) (j : Nat) : Nat := u16 b (12 + 2 * j)
def stFlag (b : List Byte) (i : Nat) : Bool := (u32 b 20).testBit i

def stage (s : State) (i : Nat) : Stage := Tab.get s.ce.stages Stage.init i
def setStage (s : State) (i : Nat) (x : Stage) : State := { s with ce := { s.ce with stages := Tab.set s.ce.stages Stage.init i x } }
def slotSig (s : State) (k : Nat) : Sig := Tab.get s.ce.slots Sig.init k
def setSig (s : State) (k : Nat) (x : Sig) : State := { s with ce := { s.ce with slots := Tab.set s.ce.slots Sig.init k x } }

/-- Stage records by loop, and within a loop by number (11 R281). -/
def stageOrder (s : State) : List Nat :=
  let l := (recsOf s.cfg.run 0x0602).map (fun r => (u8 r.body 1, r.idx))
  (List.range 64).flatMap (fun lp => (((l.filter (fun x => decide (x.1 = lp))).map (·.2)).mergeSort (fun a b => decide (a ≤ b))))

/-- The ordinal of a stage within its type (12 R314). -/
def stOrd (s : State) (ty i : Nat) : Nat :=
  ((recsOf s.cfg.run 0x0602).filter (fun r => decide (u8 r.body 0 = ty ∧ r.idx < i))).length

/-- The stage number of an ordinal of a type (12 R314). -/
def stOfOrd (s : State) (ty k : Nat) : Option Nat :=
  (((recsOf s.cfg.run 0x0602).filter (fun r => decide (u8 r.body 0 = ty))).map (·.idx)).find? (fun i => decide (stOrd s ty i = k))

/-- The feeds of a LOOP record: SLOT, KIND, FIELD, SOURCE, VALUE (11 R304). -/
def feedsOf (r : Rec) : List (Nat × Nat × Nat × Nat × F64) :=
  (List.range (u8 r.body 3)).map (fun f =>
    (u16 r.body (16 + 16 * f), u8 r.body (18 + 16 * f), u8 r.body (19 + 16 * f), u32 r.body (20 + 16 * f), f64 r.body (24 + 16 * f)))

/-- A STAMP slot (11 R284). -/
def isStampSlot (s : State) (k : Nat) : Bool :=
  (recsOf s.cfg.run 0x0601).any (fun r => (feedsOf r).any (fun f => decide (f.1 = k ∧ f.2.1 = 3 ∧ f.2.2.1 = 3)))

/-- The MODE_STAGE of a loop (11 R296). -/
def modeStage (s : State) (lp : Nat) : Option Nat :=
  (cfgRec s 0x0601 lp).bind (fun r => if u16 r.body 0 < 512 then some (u16 r.body 0) else none)

def isModeStage (s : State) (b : List Byte) (i : Nat) : Bool := decide (modeStage s (stLoop b) = some i)

/-- F in seconds. -/
def frameSec (s : State) : F64 := F64.div (F64.ofNat s.fr.fUs) (F64.ofNat 1000000)

/-- An input of a stage as it counts: a value that is not finite counts as BAD (11 R286). -/
def stSig (s : State) (b : List Byte) (j : Nat) : Option Sig :=
  let k := stIn b j
  if 4096 ≤ k then none
  else
    let x := slotSig s k
    if F64.isFinite x.v then some x else some { x with q := .bad }

def Sig.ok (x : Sig) : Bool := !(x.q = .bad || x.q = .stale)

/-- The highest-ranked quality of a stage's inputs; FORCED counts as GOOD (11 R286). -/
def insQual (ins : List (Option Sig)) : Qual :=
  (ins.foldl (fun (q : Qual) (x : Option Sig) => match x with | none => q | some y => q.worst y.q) Qual.good).plain

/-- Writes the outputs of a stage that are set (11 R283). -/
def writeOuts (s : State) (b : List Byte) (outs : List F64) (q : Qual) : State :=
  (List.range 4).foldl (fun s j => if stOut b j < 4096 then setSig s (stOut b j) { v := outs.getD j 0, q := q } else s) s

/-- The outputs of a stage keep their values and take a quality (11 R286). -/
def holdOuts (s : State) (b : List Byte) (q : Qual) : State :=
  (List.range 4).foldl (fun s j => if stOut b j < 4096 then setSig s (stOut b j) { slotSig s (stOut b j) with q := q } else s) s

/-- Exponent adaptation over the mantissas `ms` of the frame (11 R290). -/
def adapt (eMin : Int) (ms : List Int) (x : Stage) : Stage :=
  if ms.any (fun m => decide (1073741824 ≤ m.natAbs)) && decide (x.e < 127) then
    let h := fun m => roundScale m (-1)
    { x with e := x.e + 1, m1 := h x.m1, m2 := h x.m2, m3 := h x.m3, m4 := h x.m4, err := h x.err, v := h x.v, a := h x.a }
  else if ms.all (fun m => decide (m.natAbs < 268435456)) && decide (eMin < x.e) then
    { x with e := x.e - 1, m1 := 2 * x.m1, m2 := 2 * x.m2, m3 := 2 * x.m3, m4 := 2 * x.m4, err := 2 * x.err, v := 2 * x.v, a := 2 * x.a }
  else x

/-- E_MIN of a stage. -/
def stEMin (b : List Byte) : Int := i8 b 3

/-- Ends a frame of a stage that is not held: state, loop flags, outputs; a loop is at its limit where its mode stage is (11
R283, R289, R292, R313). -/
def finishStage (s : State) (i : Nat) (b : List Byte) (x : Stage) (outs : List F64) (q : Qual) : State :=
  let lp := stLoop b
  let y := { x with out0 := outs.getD 0 0, held := false, first := false, skipDx := false }
  let s1 := setStage s i y
  let s2 := { s1 with ce := { s1.ce with
    sat := if y.sat then bset s1.ce.sat lp else s1.ce.sat
    atLimit := if y.atLimit && isModeStage s b i then bset s1.ce.atLimit lp else s1.ce.atLimit } }
  writeOuts s2 b outs q

/-- A held frame (11 R286). -/
def heldStage (s : State) (i : Nat) (b : List Byte) (x : Stage) (q : Qual) : State :=
  let s1 := setStage s i { x with held := true, skipDx := true, sat := false, atLimit := false }
  holdOuts { s1 with ce := { s1.ce with held := bset s1.ce.held (stLoop b) } } b q

/-- UNCERTAIN when the frame saturated (11 R289). -/
def satQual (sat : Bool) (q : Qual) : Qual := if sat then q.worst .uncertain else q

/-- Gain table factor of an error in Q4.28 (11 R293). -/
def gainFactor (s : State) (tbl : Nat) (ex : F64) : Int :=
  if 64 ≤ tbl then 268435456
  else
    let b := cfgBody s 0x0603 tbl
    let X := fun j => f64 b (8 * j)
    let G := fun j => F64.ofDy { m := i32 b (520 + 4 * j), e := -28 }
    if F64.le ex (X 0) then i32 b 520
    else if F64.ge ex (X 64) then i32 b 776
    else
      let j := ((List.range 64).filter (fun j => F64.le (X j) ex)).length - 1
      let k := F64.add (G j) (F64.div (F64.mul (F64.sub (G (j + 1)) (G j)) (F64.sub ex (X j))) (F64.sub (X (j + 1)) (X j)))
      let d := F64.toDy k
      (mnClip (roundScale d.m (d.e + 28)) false).v

/-- The value of an input that a stage uses. -/
def inVal (x : Option Sig) : F64 := (x.map (·.v)).getD 0

/-- The error of a PI or PID stage in binary64 (11 R292). -/
def ctlError (b : List Byte) (sp pv : F64) : F64 := if stFlag b 0 then F64.sub pv sp else F64.sub sp pv

/-- OUT_MIN and OUT_MAX at the stage exponent (11 R292). -/
def outMin (b : List Byte) (e : Int) : Mn := { mant e (f64 b 40) with s := false }
def outMax (b : List Byte) (e : Int) : Mn := { mant e (f64 b 48) with s := false }

/-- PI and PID stages in AUTO (11 R292-R294, R298). -/
def runPi (s : State) (i : Nat) (b : List Byte) (x : Stage) (ins : List (Option Sig)) (q : Qual) : State :=
  let E := x.e
  let sp := inVal (ins.getD 0 none)
  let pv := inVal (ins.getD 1 none)
  let sc := match ins.getD 2 none with | none => F64.one | some y => y.v
  let ex := ctlError b sp pv
  let k := gainFactor s (u8 b 39) ex
  let kf := fun j => if stFlag b j then k else 268435456
  let kp := effGain (i32 b 24) sc (kf 2)
  let ki := effGain (i32 b 28) sc (kf 3)
  let e := mant E ex
  let p := mnMul kp (i8 b 36) e
  let lo := outMin b E
  let hi := outMax b E
  if x.preset then
    let iN := mnClamp (mnAdd (mant E x.uMan) (mnNeg p)) lo hi
    let u := mnAdd p iN
    let uc := mnClamp u lo hi
    let kd := effGain (i32 b 32) sc (kf 4)
    let y := { x with preset := false, m1 := iN.v, m2 := 0, err := e.v, pvPrev := pv, exPrev := ex, sat := u.s || ki.s || (stType b = 3 && kd.s),
                      atLimit := decide (uc.v = lo.v) || decide (uc.v = hi.v), manual := false }
    finishStage s i b (adapt (stEMin b) [e.v, p.v, iN.v, uc.v] y) [mantVal E uc.v, mantVal E e.v, mantVal E iN.v] (satQual y.sat q)
  else
    let pid := stType b = 3
    let dx := if x.skipDx || x.first then (0 : F64)
      else if stFlag b 1 then F64.sub ex x.exPrev
      else if stFlag b 0 then F64.sub pv x.pvPrev else F64.sub x.pvPrev pv
    let g0 : Mn := { v := x.m2, s := false }
    let g := if pid then mnAdd g0 (mnMul { v := i32 b 56, s := false } 0 (mnAdd (mant E dx) (mnNeg g0))) else { v := 0, s := false }
    let kd := effGain (i32 b 32) sc (kf 4)
    let d := if pid then mnMul kd (i8 b 38) g else { v := 0, s := false }
    let i0 : Mn := { v := x.m1, s := false }
    let kie := mnMul ki (i8 b 37) e
    let u0 := mnAdd (mnAdd p i0) d
    let skip := (decide (hi.v < u0.v) && decide (0 < kie.v)) || (decide (u0.v < lo.v) && decide (kie.v < 0))
    let iN := if skip then i0 else mnClamp (mnAdd i0 kie) lo hi
    let u := mnAdd (mnAdd p iN) d
    let uc := mnClamp u lo hi
    let y := { x with m1 := iN.v, m2 := g.v, err := e.v, pvPrev := pv, exPrev := ex, sat := u0.s || kie.s || iN.s || u.s,
                      atLimit := decide (uc.v = lo.v) || decide (uc.v = hi.v), manual := false }
    finishStage s i b (adapt (stEMin b) [e.v, p.v, d.v, iN.v, g.v, uc.v] y) [mantVal E uc.v, mantVal E e.v, mantVal E iN.v] (satQual y.sat q)

/-- A value in turns as units of 2^-32 turn (11 R295). -/
def turnUnits (x : F64) : Int :=
  let d := F64.toDy x
  (roundScale d.m (d.e + 32)) % 4294967296

/-- A number modulo 2^32 as signed. -/
def sturn (z : Int) : Int := signed 32 (unsigned 32 z)

/-- A number of units as turns, signed or in [0, 1) (11 R295). -/
def turnVal (sgn : Bool) (z : Int) : F64 := F64.ofDy { m := if sgn then sturn z else z % 4294967296, e := -32 }

/-- The error of a PI_MOD stage: the shortest way round (11 R295). -/
def modError (b : List Byte) (sp pv : F64) : Int :=
  if stFlag b 0 then sturn (turnUnits pv - turnUnits sp) else sturn (turnUnits sp - turnUnits pv)

/-- The outputs of a PI_MOD stage (11 R295). -/
def modOuts (b : List Byte) (u e i : Int) : List F64 := [turnVal (stFlag b 5) u, turnVal true e, turnVal true i]

/-- PI_MOD in AUTO (11 R295, R298). -/
def runPiMod (s : State) (i : Nat) (b : List Byte) (x : Stage) (ins : List (Option Sig)) (q : Qual) : State :=
  let e := modError b (inVal (ins.getD 0 none)) (inVal (ins.getD 1 none))
  let p := roundScale (i32 b 24 * e) (i8 b 36 - 28)
  let acc := if x.preset then sturn (turnUnits x.uMan - p) else sturn (x.m1 + roundScale (i32 b 28 * e) (i8 b 37 - 28))
  let y := { x with preset := false, m1 := acc, err := e, sat := false, atLimit := false, manual := false }
  finishStage s i b y (modOuts b (p + acc) e acc) q

/-- A mode stage in MANUAL (11 R297). -/
def runManual (s : State) (i : Nat) (b : List Byte) (x : Stage) (ins : List (Option Sig)) : State :=
  let sp := inVal (ins.getD 0 none)
  let pv := inVal (ins.getD 1 none)
  let fin := F64.isFinite sp && F64.isFinite pv
  if stType b = 4 then
    let e := if fin then modError b sp pv else x.err
    let y := { x with err := e, sat := false, atLimit := false, manual := true }
    finishStage s i b y (modOuts b (turnUnits x.uMan) e x.m1) .good
  else
    let ex := ctlError b sp pv
    let e := if fin then mant x.e ex else { v := x.err, s := false }
    let lo := outMin b x.e
    let hi := outMax b x.e
    let u := mnClamp (mant x.e x.uMan) lo hi
    let y := { x with err := e.v, pvPrev := if fin then pv else x.pvPrev, exPrev := if fin then ex else x.exPrev, sat := u.s || e.s,
                      atLimit := decide (u.v = lo.v) || decide (u.v = hi.v), manual := true }
    finishStage s i b (adapt (stEMin b) [e.v, u.v, x.m1, x.m2] y) [mantVal x.e u.v, mantVal x.e e.v, mantVal x.e x.m1] .good

/-- The steady state of a BIQUAD for an input (11 R299); a free value where its denominator is 0. -/
def biquadPreset (s : State) (b : List Byte) (e : Int) (xv : F64) : Mn × Bool :=
  let g := fun o => i32 b o
  let den := F64.ofDy { m := 268435456 + g 36 + g 40, e := -28 }
  if F64.isZero den then ({ v := signed 32 (Config.freeValue s.free), s := false }, true)
  else (mant e (F64.div (F64.mul xv (F64.ofDy { m := g 24 + g 28 + g 32, e := -28 })) den), false)

/-- BIQUAD (11 R299). -/
def runBiquad (s : State) (i : Nat) (b : List Byte) (x : Stage) (ins : List (Option Sig)) (q : Qual) : State :=
  let E := x.e
  let xv := inVal (ins.getD 0 none)
  let xm := mant E xv
  let pre := x.first && stFlag b 8
  let st := biquadPreset s b E xv
  let s := if pre && st.2 then { s with free := s.free + 1 } else s
  let mk := fun (v : Int) => ({ v := v, s := false } : Mn)
  let x1 := if pre then xm else mk x.m2
  let x2 := if pre then xm else mk x.m3
  let y1 := if pre then st.1 else mk x.m1
  let y2 := if pre then st.1 else mk x.m4
  let g := fun o => mk (i32 b o)
  let y := mnAdd (mnAdd (mnAdd (mnAdd (mnMul (g 24) 0 xm) (mnMul (g 28) 0 x1)) (mnMul (g 32) 0 x2)) (mnNeg (mnMul (g 36) 0 y1)))
    (mnNeg (mnMul (g 40) 0 y2))
  let z := { x with m1 := y.v, m4 := y1.v, m2 := xm.v, m3 := x1.v, sat := y.s, atLimit := false }
  finishStage s i b (adapt (stEMin b) [xm.v, x1.v, x2.v, y.v, y1.v, y2.v] z) [mantVal E y.v] (satQual z.sat q)

/-- LIMITER (11 R300). -/
def runLimiter (s : State) (i : Nat) (b : List Byte) (x : Stage) (ins : List (Option Sig)) (q : Qual) : State :=
  let E := x.e
  let xv := inVal (ins.getD 0 none)
  let lower := match ins.getD 1 none with | none => f64 b 24 | some l => F64.max2 (f64 b 24) l.v
  let upper := match ins.getD 2 none with | none => f64 b 32 | some u => F64.min2 (f64 b 32) u.v
  let yp := mantVal E x.m1
  let rise := f64 b 40
  let fall := f64 b 48
  let y1 := if !x.first && F64.gt rise 0 then F64.min2 xv (F64.add yp (F64.mul rise (frameSec s))) else xv
  let y2 := if !x.first && F64.gt fall 0 then F64.max2 y1 (F64.sub yp (F64.mul fall (frameSec s))) else y1
  let xm := mant E xv
  let ym := mant E (F64.clamp y2 lower upper)
  let z := { x with m1 := ym.v, sat := xm.s || ym.s
                    atLimit := decide (ym.v = (mant E (f64 b 24)).v) || decide (ym.v = (mant E (f64 b 32)).v) }
  finishStage s i b (adapt (stEMin b) [xm.v, ym.v] z) [mantVal E ym.v, F64.ofBool (decide (ym.v ≠ xm.v))] (satQual z.sat q)

/-- SUM (11 R301). -/
def runSum (s : State) (i : Nat) (b : List Byte) (x : Stage) (ins : List (Option Sig)) (q : Qual) : State :=
  let E := x.e
  let ms := (List.range 4).filterMap (fun j => (ins.getD j none).map (fun y => (j, mant E y.v)))
  let y := ms.foldl (fun acc jm => mnAdd acc (mnMul { v := i32 b (24 + 4 * jm.1), s := false } (i8 b (40 + jm.1)) jm.2)) { v := 0, s := false }
  let z := { x with sat := y.s, atLimit := false }
  finishStage s i b (adapt (stEMin b) (y.v :: ms.map (fun jm => jm.2.v)) z) [mantVal E y.v] (satQual z.sat q)

/-- A value as a bus field: INT16, INT32, FLOAT32, FLOAT64 (11 R302, R309). -/
def encodeField (enc : Nat) (t : F64) : List Byte :=
  if enc = 0 then leBytes 2 (unsigned 16 (F64.toIntSat t (-32768) 32767))
  else if enc = 1 then leBytes 4 (unsigned 32 (F64.toIntSat t (-2147483648) 2147483647))
  else if enc = 2 then leBytes 4 (F64.toF32 t)
  else leBytes 8 t.toNat

def setPage (s : State) (p : Page) : State := { s with fr := { s.fr with page := p } }

/-- Writes bytes into the payload of a transmit object of the working page; a payload starts as zeros (15 R428). -/
def pagePut (p : Page) (o off : Nat) (v : List Byte) : Page :=
  { p with objs := Tab.upd p.objs [] o (fun b => overlay b off v) }

/-- A DO value as the page holds it: the duty with FLAGS.PWM, otherwise ON when t >= 0.5 (11 R302). -/
def doValue (s : State) (c : Nat) (t : F64) : F64 := if doFlag s c 0 then t else F64.ofBool (F64.ge t (frac64 1 2))

/-- The last value of a point that a stage or a block writes: what the working page holds, else the record's (11 R302). -/
def lastPoint (s : State) (n : Nat) : F64 :=
  match s.fr.page.pts.find? (fun x => decide (x.1 = n)) with
  | some x => x.2.v
  | none => (Tab.get s.pt.recs Point.init n).v

/-- OUTPUT (11 R302). -/
def runOutput (s : State) (i : Nat) (b : List Byte) (x : Stage) : State :=
  let k := stIn b 0
  let sg := slotSig s k
  let v := if isStampSlot s k then F64.ofNat sg.v.toNat else sg.v
  let q := if F64.isFinite v then sg.q else .bad
  let t := F64.add (F64.mul v (f64 b 32)) (f64 b 40)
  let good := !(q = .bad || q = .stale) && F64.isFinite t
  let tgt := u32 b 28
  let hold := u8 b 25 = 0
  let P := s.fr.page
  let s1 := setStage s i { x with first := false, out0 := if good then t else x.out0 }
  if u8 b 24 = 1 then
    if good then setPage s1 { P with aos := Tab.set P.aos F64.nan tgt t }
    else if hold then s1 else setPage s1 { P with aos := Tab.set P.aos F64.nan tgt F64.nan }
  else if u8 b 24 = 2 then
    if good then setPage s1 { P with dos := Tab.set P.dos 0 tgt (doValue s tgt t) }
    else if hold then s1 else setPage s1 { P with dos := Tab.set P.dos 0 tgt 0 }
  else if u8 b 24 = 3 then
    let e : Sig := if good then { v := t, q := q } else { v := lastPoint s tgt, q := if hold then q else .bad }
    setPage s1 { P with pts := Tab.ins P.pts tgt e }
  else if good then setPage s1 (pagePut P tgt (u8 b 27) (encodeField (u8 b 26) t))
  else s1

/-- The initial outputs of a stage at the exit from CHECKING (11 R285, R297; 12 R328). -/
def initStage (s : State) (r : Rec) : Stage × List F64 :=
  let b := r.body
  let e0 : Int := i8 b 2
  let ty := stType b
  let x := { Stage.init with e := e0 }
  if ty = 2 ∨ ty = 3 ∨ ty = 4 then
    let lp := cfgBody s 0x0601 (stLoop b)
    let man := isModeStage s b r.idx && u8 lp 2 = 0
    let iv := i32 b 60
    let ivV := if ty = 4 then turnVal true iv else mantVal e0 iv
    let o0 := if man then f64 lp 8 else if ty = 4 then turnVal (stFlag b 5) iv else ivV
    ({ x with m1 := iv, manual := man, uMan := f64 lp 8, out0 := o0 }, [o0, 0, ivV])
  else if ty = 1 then
    let p := i64 b 56
    ({ x with p := p * 65536, ready := stIn b 3 ≥ 4096, out0 := F64.ofInt p }, [F64.ofInt p])
  else if ty = 9 then ({ x with st := 7 }, [0, 0, F64.ofNat 7])
  else (x, [])

/-- The engine at the tick at which the module leaves CHECKING (11 R285, 12 R328, R337-R339; 03 R78):
captures are kept when COMPLETE on a WARM restart, emptied on a COLD one. -/
def startEngine (cold : Bool) (s : State) : State :=
  let s0 := { s with ce := { s.ce with slots := [], stages := [], endStages := []
                                       learners := Tab.updMany [] Learner.init (List.range 16) (fun _ L => { L with n0 := s.fr.frame })
                                       caps := if cold then [] else Tab.mapAll s.ce.caps Capture.init (fun _ c => if c.st = 3 then c else Capture.init) } }
  (recsOf s.cfg.run 0x0602).foldl (fun s r =>
    let io := initStage s r
    let s1 := setStage s r.idx io.1
    if stType r.body = 0x0C then s1
    else (List.range 4).foldl (fun s j => if stOut r.body j < 4096 then setSig s (stOut r.body j) { v := io.2.getD j 0, q := .stale } else s) s1) s0

/-- DIAG_STAGE_SNAP (11 R313): the stage as the latest engine phase left it. -/
def doStageSnap (s : State) (v : Word) : State :=
  if !v.toNat.testBit 9 then s
  else
    let i := v.toNat % 512
    let b := stBody s i
    let x := Tab.get s.ce.endStages Stage.init i
    let ty := stType b
    let info := unsigned 8 x.e + 256 * ty + 65536 * b2n x.sat + 131072 * b2n x.held + 262144 * b2n x.atLimit + 524288 * b2n x.manual
    let ctl := decide (ty = 2) || decide (ty = 3) || decide (ty = 4)
    let s0 := if ctl || decide (ty = 6) || decide (ty = 7) then x.m1 else 0
    let known := !b.isEmpty
    { s with ce := { s.ce with
        winInfo := if known then BitVec.ofNat 32 info else 0
        winOut := if known then x.out0 else 0
        winS0 := if known then BitVec.ofInt 32 s0 else 0
        winS1 := if known && ctl then BitVec.ofInt 32 x.err else 0
        winFrame := BitVec.ofNat 32 s.ce.frame } }

def execDiagStageSnap (v : Word) (s : State) : Host.Outcome State Fault Refusal := done s (hostAccess s (fun s => doStageSnap s v))

/-- LOOP_MODE and the loop-mode block at a tick (11 R296, R297). -/
def setLoopMode (s : State) (lp : Nat) (auto : Bool) (man : F64) : State × Answer :=
  match modeStage s lp with
  | none => (s, badParam 8)
  | some i =>
    let x := stage s i
    if !auto && F64.isInf man then (s, badParam 16)
    else
      let y := if auto then (if x.manual then { x with manual := false, preset := true } else x)
        else { x with manual := true, preset := false, uMan := if F64.isNaN man then x.out0 else man }
      let s1 := setStage s i y
      (if x.manual = y.manual then s1 else { s1 with ce := { s1.ce with modeNew := bset s1.ce.modeNew lp } }, okA [])

end Sys2Proof.Machine
end

