-- ==== Sys2Proof/Machine/Trig.lean ====
section
/-! DEFINITION. The functions SIN, COS and ATAN2 in binary64 (12 R342, 13 R365, R367): the real value, computed to more than 250
bits in whole numbers, rounded once to nearest (notes/assumptions/151.md). -/

namespace Sys2Proof.Machine

namespace F64

/-- Sum of the series of arctan(1 / k) from term n on, the running power `t` with its scale, k2 = k * k. -/
def atanInvSum (k2 : Nat) : Nat → Nat → Nat → Int
  | 0, _, _ => 0
  | f + 1, t, n => ((t / (2 * n + 1) : Nat) : Int) - atanInvSum k2 f (t / k2) (n + 1)

/-- Pi times 2^b, by 16 arctan(1/5) - 4 arctan(1/239); its last few bits are not exact. -/
def piFix (b : Nat) : Int := 16 * atanInvSum 25 (b / 4 + 8) (2 ^ b / 5) 0 - 4 * atanInvSum 57121 (b / 15 + 8) (2 ^ b / 239) 0

/-- Sum of the series of sin or cos from the term `t` on, whose power is n; r2 the square of the argument, all times 2^320. -/
def trigSum (r2 : Int) : Nat → Int → Nat → Int
  | 0, _, _ => 0
  | f + 1, t, n => t + trigSum r2 f (-(t * r2 / 2 ^ 320) / ((n + 1) * (n + 2) : Nat)) (n + 2)

/-- sin r and cos r for |r| below 0.8, all times 2^320. -/
def sinFix (r : Int) : Int := trigSum (r * r / 2 ^ 320) 45 r 1
def cosFix (r : Int) : Int := trigSum (r * r / 2 ^ 320) 45 (2 ^ 320) 0

/-- A magnitude m * 2^e of 2^-30 or more as a quadrant and a rest times 2^320: the value is quadrant * pi / 2 + rest. -/
def quarter (m : Nat) (e : Int) : Nat × Int :=
  let b := 384 + (e + (Nat.log2 m : Int) + 1).toNat
  let h := piFix b / 2
  let x : Int := (m * 2 ^ (e + (b : Int)).toNat : Nat)
  let k := (2 * x + h) / (2 * h)
  (k.toNat % 4, (x - k * h) / 2 ^ (b - 320))

/-- sin of a quadrant and a rest, times 2^320. -/
def sinOf (q : Nat × Int) : Int :=
  match q.1 with | 0 => sinFix q.2 | 1 => cosFix q.2 | 2 => -sinFix q.2 | _ => -cosFix q.2

/-- The sine of an angle in radians; of one below 2^-30 the angle itself is nearest. -/
def sin (x : F64) : F64 :=
  let d := toDy x
  if !isFinite x then nan
  else if d.e + (Nat.log2 d.m.natAbs : Int) < -30 || isZero x then x
  else
    let y := sinOf (quarter d.m.natAbs d.e)
    ofDy { m := if sign x then -y else y, e := -320 }

/-- The cosine of an angle in radians; of one below 2^-30 it is nearest to 1. -/
def cos (x : F64) : F64 :=
  let d := toDy x
  if !isFinite x then nan
  else if d.e + (Nat.log2 d.m.natAbs : Int) < -30 || isZero x then one
  else
    let q := quarter d.m.natAbs d.e
    ofDy { m := sinOf ((q.1 + 1) % 4, q.2), e := -320 }

/-- Sum of Euler's series of arctan(y / x) from the term `t` after n terms on; y2 = y * y, d = x * x + y * y. -/
def atanSum (y2 d : Nat) : Nat → Nat → Nat → Nat
  | 0, _, _ => 0
  | f + 1, t, n => t + atanSum y2 d f (t * (2 * (n + 1) * y2) / ((2 * (n + 1) + 1) * d)) (n + 1)

/-- arctan(y / x) times 2^b for 0 < y <= x. -/
def atanFix (y x b : Nat) : Nat := atanSum (y * y) (x * x + y * y) 420 (x * y * 2 ^ b / (x * x + y * y)) 0

/-- The angle of the point (x, y) from the positive x axis, for finite x and y that are not 0, and the sign of y taken away. -/
def angle (y x : Dy) : Dy :=
  let e := min y.e x.e
  let a := y.m.natAbs * 2 ^ (y.e - e).toNat
  let c := x.m.natAbs * 2 ^ (x.e - e).toNat
  if a ≤ c ∧ 0 < x.m then
    let b := 330 + (Nat.log2 c - Nat.log2 a)
    { m := atanFix a c b, e := -(b : Int) }
  else
    let q : Int := if a ≤ c then atanFix a c 400 else piFix 400 / 2 - atanFix c a 400
    { m := if 0 < x.m then q else piFix 400 - q, e := -400 }

/-- n / 4 of pi. -/
def quarterPi (n : Nat) : Dy := { m := n * piFix 400, e := -402 }

/-- The angle of the point (x, y), in -pi to pi; on the axes and at infinity as IEEE 754 has it. -/
def atan2 (y x : F64) : F64 :=
  let s := fun (d : Dy) => ofDyS (sign y) (if sign y then { d with m := -d.m } else d)
  if isNaN y || isNaN x then nan
  else if isZero y then (if sign x then s (quarterPi 4) else y)
  else if isZero x then s (quarterPi 2)
  else if isInf y then s (quarterPi (if isInf x then (if sign x then 3 else 1) else 2))
  else if isInf x then s (quarterPi (if sign x then 4 else 0))
  else s (angle (toDy y) (toDy x))

end F64

end Sys2Proof.Machine
end

