-- ==== Sys2Proof/Machine/Profile.lean ====
section
/-! DEFINITION. PROFILE, DOOR, REPEAT and INJECT stages, learners and captures (12), and the engine phase. -/

namespace Sys2Proof.Machine

/-- The braking distance D(v, a) (12 R319). -/
def dstop (v a aMax jMax : F64) : F64 :=
  let up := F64.gt a 0
  let two := F64.ofNat 2
  let de := if up then F64.add (F64.div (F64.mul v a) jMax)
      (F64.div (F64.mul (F64.mul a a) a) (F64.mul (F64.ofNat 3) (F64.mul jMax jMax))) else 0
  let ve := if up then F64.add v (F64.div (F64.mul a a) (F64.mul two jMax)) else v
  if F64.ge ve (F64.div (F64.mul aMax aMax) jMax) then
    F64.add (F64.add de (F64.div (F64.mul ve ve) (F64.mul two aMax))) (F64.div (F64.mul ve aMax) (F64.mul two jMax))
  else F64.add de (F64.mul ve (F64.sqrt (F64.div ve jMax)))

/-- The limits a planner works in: V_MAX, V_MAX x scale, A_MAX, J_MAX, F in seconds, ARRIVE_WIN (12 R320). -/
structure Plan where
  vMax : F64
  vLim : F64
  aMax : F64
  jMax : F64
  f : F64
  win : F64

/-- Distance along the direction of travel, in 2^-16 counts, position arithmetic wrapping (12 R315). -/
def along (down : Bool) (p : Int) (t : Int) : Int :=
  let d := signed 64 (unsigned 64 (t * 65536 - p))
  if down then -d else d

/-- A position of 64 bits kept as the number it spells. -/
def wrapPos (z : Int) : Int := signed 64 (unsigned 64 z)

/-- Velocity and acceleration of a stage as numbers. -/
def planV (x : Stage) : F64 := mantVal x.e x.v
def planA (x : Stage) : F64 := mantVal x.e x.a

/-- The next velocity and acceleration for an acceleration goal, each product rounded to a mantissa (12 R315, R320;
notes/assumptions/74.md). -/
def planNext (P : Plan) (x : Stage) (goal : F64) : Mn × Mn :=
  let jf := mant x.e (F64.mul P.jMax P.f)
  let g := mant x.e goal
  let step := clampI (g.v - x.a) (-jf.v) jf.v
  let a1 := mnAdd { v := x.a, s := jf.s } { v := step, s := g.s && decide (step ≠ jf.v) && decide (step ≠ -jf.v) }
  let v0 := mnAdd { v := x.v, s := false } (mant x.e (F64.mul (mantVal x.e a1.v) P.f))
  ({ v0 with v := min v0.v (mant x.e P.vMax).v }, a1)

/-- The reference moves by v x F along the direction of travel. -/
def planMove (P : Plan) (x : Stage) (v : F64) : Int :=
  let d := F64.toDy (F64.mul v P.f)
  let n := roundScale d.m (d.e + 16)
  wrapPos (if x.down then x.p - n else x.p + n)

/-- One frame of MOVING or BRAKING towards `t` (12 R320): planner state 2 MOVING, 3 BRAKING, 5 arrived. -/
def planStep (P : Plan) (x : Stage) (ps : Nat) (t : Int) : Stage × Nat :=
  let v := planV x
  let a := planA x
  let dRem := F64.ofDy { m := along x.down x.p t, e := -16 }
  let brake := decide (ps = 3) || F64.le dRem (F64.add (dstop v a P.aMax P.jMax) (F64.mul v P.f))
  let a0 := F64.max2 a 0
  let vLim := mantVal x.e (mant x.e P.vLim).v
  let goal :=
    if brake then F64.neg (F64.min2 P.aMax (F64.div (F64.mul v v) (F64.mul (F64.ofNat 2) dRem)))
    else if F64.gt v vLim then F64.neg P.aMax
    else if F64.ge (F64.add v (F64.div (F64.mul a0 a0) (F64.mul (F64.ofNat 2) P.jMax))) vLim then 0
    else P.aMax
  let n := planNext P x goal
  let v1 := mantVal x.e n.1.v
  let sat := x.sat || n.1.s || n.2.s
  if F64.ge (F64.mul v1 P.f) dRem || (decide (n.1.v ≤ 0) && F64.le dRem P.win) then
    ({ x with p := wrapPos (t * 65536), v := 0, a := 0, sat := sat }, 5)
  else if n.1.v ≤ 0 then ({ x with v := 0, a := 0, sat := sat }, 2)
  else ({ x with p := planMove P x v1, v := n.1.v, a := n.2.v, sat := sat }, if brake then 3 else 2)

/-- One frame of HALTING (12 R322): planner state 4, or 1 at rest. -/
def haltStep (P : Plan) (x : Stage) : Stage × Nat :=
  let n := planNext P x (F64.neg P.aMax)
  let sat := x.sat || n.1.s || n.2.s
  if n.1.v ≤ 0 then ({ x with v := 0, a := 0, sat := sat }, 1)
  else ({ x with p := planMove P x (mantVal x.e n.1.v), v := n.1.v, a := n.2.v, sat := sat }, 4)

/-- A stop at `t` qualifies (12 R324). -/
def qualifies (P : Plan) (x : Stage) (t : Int) : Bool :=
  F64.ge (F64.ofDy { m := along x.down x.p t, e := -16 }) (F64.add (dstop (planV x) (planA x) P.aMax P.jMax) (F64.mul (planV x) P.f))

/-- The nearest stop ahead of a list. -/
def nearest (x : Stage) (l : List Int) : Option Int :=
  l.foldl (fun (best : Option Int) (t : Int) =>
    match best with | none => some t | some u => if along x.down x.p t < along x.down x.p u then some t else some u) none

/-- Changes the current target; the mark of a removed entry belongs to the target it stood for. -/
def Stage.aim (x : Stage) (t : Option Int) : Stage := if x.target = t then x else { x with target := t, ghost := false }

/-- Stops ahead of a stage in its direction. -/
def stopsAhead (x : Stage) (down : Bool) : List Int := x.queue.filter (fun t => decide (0 < along down x.p t))

/-- Planner limits of a PROFILE stage (12 R320, R349). -/
def profPlan (s : State) (b : List Byte) (scale : F64) : Plan :=
  { vMax := f64 b 24, vLim := F64.mul (f64 b 24) scale, aMax := f64 b 32, jMax := f64 b 40, f := frameSec s, win := F64.ofNat (u32 b 48) }

/-- FLAGS.SINGLE_TARGET (12 R349). -/
def profSingle (b : List Byte) : Bool := stFlag b 16

/-- A single-target stage follows its target: in MOVING one that is ahead and qualifies replaces it at once, otherwise HALTING
(12 R324, R327). -/
def retarget (P : Plan) (x : Stage) (ps : Nat) (t : Int) : Stage × Nat :=
  if x.target = some t then (x, ps)
  else if decide (ps = 2) && decide (0 < along x.down x.p t) && qualifies P x t then (x.aim (some t), ps)
  else (x.aim (some t), 4)

/-- The planner of a stage that moves: one frame in state 2, 3 or 4, the target standing (12 R320, R322). -/
def movePlan (P : Plan) (x : Stage) (ps : Nat) : Stage × Nat :=
  if ps = 4 then haltStep P x
  else match x.target with
    | none => (x, 4)
    | some t => planStep P x ps t

/-- Direction and target at the start of a move (12 R323, R324, R327). -/
def startMove (single : Bool) (tgt : Option Int) (x : Stage) : Stage :=
  if single then
    match tgt with
    | none => x
    | some t => { x.aim (some t) with down := decide (along false x.p t < 0) }
  else
    let down := if (stopsAhead x x.down).isEmpty then !x.down else x.down
    let y := { x with down := down }
    y.aim (nearest y (stopsAhead x down))

/-- A PROFILE stage at rest in a frame (12 R323, R324, R327, R328): the stage and whether a move runs from this
frame on, and whether it has reached a stop. -/
def profRest (single run : Bool) (tgt : Option Int) (x : Stage) : Stage × Bool × Bool :=
  let here := !single && x.queue.contains (x.p / 65536) && decide (x.p % 65536 = 0)
  if here then ({ x with queue := x.queue.filter (fun t => decide (t * 65536 ≠ x.p)), st := 5 }, false, true)
  else
    let moved := single && (match tgt with | none => false | some t => decide (wrapPos (t * 65536) ≠ x.p))
    if x.st = 5 && run && !moved then (x, false, false)
    else
      let has := if single then tgt.isSome else !x.queue.isEmpty
      if has && run && x.ready then (startMove single tgt x, true, false)
      else ({ x with st := if has then 1 else 0 }, false, false)

/-- The PROFILE stage in a frame (12 R317-R329). -/
def runProfile (s : State) (i : Nat) (b : List Byte) (x0 : Stage) (ins : List (Option Sig)) : State :=
  let use := fun j => (ins.getD j none).bind (fun y => if y.ok then some y.v else none)
  let single := profSingle b
  let run := match use 1 with | none => false | some v => F64.ge v (frac64 1 2)
  let scale := match ins.getD 2 none with
    | none => F64.one
    | some _ => match use 2 with | none => x0.scale | some v => F64.clamp v 0 F64.one
  let x1 := { x0 with scale := scale, sat := false, held := false }
  let rest := decide (x1.st = 0) || decide (x1.st = 1) || decide (x1.st = 5)
  let pin := fun (v : F64) => let d := F64.toDy v; wrapPos (roundScale d.m (d.e + 16))
  let x2 := match use 3 with
    | none => x1
    | some v =>
      if !x1.ready then { x1 with p := pin v, ready := true }
      else if rest && stFlag b 17 then { x1 with p := pin v } else x1
  let tgt := if single then (match use 0 with | none => x2.target | some v => some (F64.toInt v)) else x2.target
  let P := profPlan s b scale
  -- at rest: perhaps a move starts
  let r := if rest then profRest single run tgt x2 else (x2, true, false)
  let x3 := r.1
  let ps0 := if rest then 2 else x3.st
  -- moving: RUN, then the target
  let go := if r.2.1 then
      let a : Stage × Nat :=
        if ps0 = 4 then (if single then x3.aim tgt else x3, 4)
        else if !run then (x3, 4)
        else if single then (match tgt with | none => (x3, ps0) | some t => retarget P x3 ps0 t)
        else if ps0 = 2 then
          let cand := (match x3.target with | none => [] | some t => [t]) ++ (stopsAhead x3 x3.down).filter (qualifies P x3)
          (x3.aim (nearest x3 cand), 2)
        else (x3, ps0)
      movePlan P a.1 a.2
    else (if single then x3.aim tgt else x3, x3.st)
  let x4 := go.1
  let arrived := r.2.1 && decide (go.2 = 5)
  let reached := r.2.2 || (arrived && !x4.ghost)
  let x5 := if arrived && !single then
      { x4 with queue := x4.queue.filter (fun t => decide (some t ≠ x4.target)), target := none, ghost := false }
    else if r.2.1 && decide (go.2 = 1) && !single then { x4 with target := none, ghost := false }
    else x4
  let st := if r.2.1 && decide (go.2 = 1) && !single && x5.queue.isEmpty then 0 else go.2
  let used := ins.filterMap id
  let q : Qual := if used.any (fun y => decide (y.q.rank ≠ 0)) then .uncertain else .good
  let sgn := fun (v : F64) => if x5.down then F64.neg v else v
  let y := adapt (stEMin b) [x5.v, x5.a] { x5 with st := st, atLimit := false, manual := false }
  let s1 := if reached then { s with ce := { s.ce with stopReach := bset s.ce.stopReach (stOrd s 1 i) } } else s
  finishStage s1 i b y
    [F64.ofDy { m := x5.p, e := -16 }, sgn (mantVal x5.e x5.v), sgn (mantVal x5.e x5.a), F64.ofNat st] (satQual x5.sat q)

/-- STOP_QUEUE_EDIT and the stop-queue block at a tick (12 R325, R326): the answer carries QUEUE_LEN, OUTCOME. -/
def stopEdit (s : State) (i act : Nat) (pos : Int) : State × Answer :=
  let b := stBody s i
  if stType b ≠ 1 ∨ profSingle b then (s, badParam 8)
  else
    let x := stage s i
    let moving := decide (x.st = 2) || decide (x.st = 3) || decide (x.st = 4)
    let ans := fun (y : Stage) (o : Nat) => okA [BitVec.ofNat 8 y.queue.length, BitVec.ofNat 8 o]
    if act = 0 then
      if x.queue.contains pos then (s, ans x 0)
      else if 64 ≤ x.queue.length then (s, errA 0x21 4)
      else
        let P := profPlan s b x.scale
        let isT := moving && decide (x.target = some pos)
        let y := { x with queue := x.queue ++ [pos], ghost := if isT then false else x.ghost }
        let ahead := moving && decide (0 < along x.down x.p pos)
        let late := ahead && !isT && !(decide (x.st = 2) && qualifies P x pos)
        let s1 := setStage s i y
        (if late then { s1 with ce := { s1.ce with stopDef := bset s1.ce.stopDef (stOrd s 1 i) } } else s1, ans y (b2n late))
    else if act = 1 then
      if x.queue.contains pos then
        let y := { x with queue := x.queue.filter (fun t => decide (t ≠ pos)), ghost := x.ghost || (moving && decide (x.target = some pos)) }
        (setStage s i y, ans y 2)
      else (s, ans x 3)
    else
      let y := { x with queue := [], ghost := x.ghost || (moving && x.target.isSome) }
      (setStage s i y, ans y 2)

/-- Planner limits of a DOOR stage for the end it travels towards (12 R331, R350). -/
def doorPlan (s : State) (b : List Byte) (x : Stage) : Plan :=
  let v := if x.down = decide (i32 b 24 < i32 b 28) then F64.ofNat (u32 b 32)
    else if x.st = 5 then F64.div (F64.ofNat (u32 b 36 * u8 b 61)) (F64.ofNat 100) else F64.ofNat (u32 b 36)
  { vMax := v, vLim := v, aMax := F64.ofNat (u32 b 40), jMax := F64.ofNat (u32 b 44), f := frameSec s, win := 0 }

/-- A number of milliseconds in frames, rounded up (12 R333). -/
def msFrames (s : State) (ms : Nat) : Nat := (ms * 1000 + s.fr.fUs - 1) / max s.fr.fUs 1

/-- The door's state after its command (12 R332), and whether NUDGING has been entered. -/
def doorCommand (b : List Byte) (x : Stage) : Stage × Bool :=
  let opening := { x with st := 1, revs := 0 }
  let closing := if x.revs < u8 b 60 then ({ x with st := 3 }, false) else ({ x with st := 5 }, true)
  if x.cmdOpen then
    if x.st = 0 ∨ x.st = 3 ∨ x.st = 5 then (opening, false) else (x, false)
  else if x.st = 1 ∨ (x.st = 2 ∧ x.dwell = 0) then closing
  else (x, false)

/-- The end a door's state leads to. -/
def doorEnd (b : List Byte) (x : Stage) : Int := if x.st = 3 ∨ x.st = 5 ∨ x.st = 0 then i32 b 28 else i32 b 24

/-- The planner of a door for one frame (12 R327, R331): planner state 0 at rest, 2, 3, 4 moving. -/
def doorMove (s : State) (b : List Byte) (x : Stage) : Stage × Bool :=
  let t := doorEnd b x
  let step := fun (y : Stage) (ps : Nat) =>
    let r := movePlan (doorPlan s b y) y ps
    if r.2 = 5 then ({ r.1 with plan := 0 }, true) else ({ r.1 with plan := if r.2 = 1 then 0 else r.2 }, false)
  if x.plan = 0 then
    if wrapPos (t * 65536) = x.p ∧ x.target = some t then (x, true)
    else step { x.aim (some t) with down := decide (along false x.p t < 0) } 2
  else if x.plan = 4 then step (x.aim (some t)) 4
  else let r := retarget (doorPlan s b x) x x.plan t; step r.1 r.2

/-- IN1 of a door in 2^-16 counts. -/
def doorPin (v : F64) : Int := let d := F64.toDy v; wrapPos (roundScale d.m (d.e + 16))

/-- The DOOR stage in a frame (12 R331-R337). -/
def runDoor (s : State) (i : Nat) (b : List Byte) (x0 : Stage) (ins : List (Option Sig)) : State :=
  let use := fun j => (ins.getD j none).bind (fun y => if y.ok then some y.v else none)
  let cmd := match use 0 with | none => x0.cmdOpen | some v => F64.ge v (frac64 1 2)
  let x1 := { x0 with cmdOpen := cmd, sat := false, held := false, locked := false }
  let fObs := F64.div (F64.ofNat (u32 b 52)) (F64.ofNat 1000)
  match use 1 with
  | none =>
    let y := { x1 with st := 7, plan := 0, v := 0, a := 0, target := none, lagRun := 0 }
    finishStage s i b (adapt (stEMin b) [0, 0] y) [F64.ofDy { m := y.p, e := -16 }, 0, F64.ofNat 7, 0] .bad
  | some act =>
    let ordD := stOrd s 9 i
    -- recovery from FAULT, otherwise the command
    let c : Stage × Bool := if x1.st = 7 then
        let z := { x1 with p := doorPin act, v := 0, a := 0, plan := 0, target := none }
        if cmd then ({ z with st := 1, revs := 0 }, false)
        else if z.revs < u8 b 60 then ({ z with st := 3 }, false) else ({ z with st := 5 }, true)
      else doorCommand b { x1 with dwell := x1.dwell - 1 }
    let m := if c.1.st = 0 ∨ c.1.st = 2 then (c.1, false) else doorMove s b c.1
    let x2 := m.1
    let arrived := m.2
    let closedNear := F64.le (F64.abs (F64.sub act (F64.ofInt (i32 b 28)))) (F64.ofNat (u32 b 48))
    let x3 : Stage :=
      if (x2.st = 3 ∨ x2.st = 5) ∧ arrived ∧ closedNear then { x2 with st := 0, revs := 0 }
      else if x2.st = 1 ∧ arrived then { x2 with st := 2, dwell := 0 }
      else if x2.st = 4 ∧ arrived then { x2 with st := 2, dwell := msFrames s (u16 b 58) }
      else x2
    -- obstruction (R333, R334)
    let lagD := F64.sub (F64.ofDy { m := x3.p, e := -16 }) act
    let lagS := if i32 b 28 < i32 b 24 then F64.neg lagD else lagD
    let lag := F64.gt lagS (F64.ofNat (u32 b 48))
    let run := if x3.st = 3 then (if lag then x3.lagRun + 1 else 0) else 0
    let force := match use 2 with | none => false | some v => F64.gt v fObs
    let obst := decide (x3.st = 3) && (decide (msFrames s (u16 b 56) ≤ run) || force)
    let x4 : Stage := if obst then
        { x3 with p := doorPin act, v := 0, a := 0, plan := 0, target := none, revs := x3.revs + 1, st := 4, lagRun := 0 }
      else { x3 with lagRun := run }
    let lockC := match use 3 with | none => false | some v => F64.ge v (frac64 1 2)
    let x5 : Stage := { x4 with locked := decide (x4.st = 0) && lockC, atLimit := false, manual := false }
    let s1 := { s with ce := { s.ce with
      doorObs := if obst then bset s.ce.doorObs ordD else s.ce.doorObs
      doorNudge := if c.2 then bset s.ce.doorNudge ordD else s.ce.doorNudge } }
    let used := ins.filterMap id
    let q : Qual := if used.any (fun y => decide (y.q.rank ≠ 0)) then .uncertain else .good
    let lim := if x5.st = 5 then F64.div (F64.ofNat (u32 b 52 * u8 b 62)) (F64.ofNat 100000) else fObs
    finishStage s1 i b (adapt (stEMin b) [x5.v, x5.a] x5)
      [F64.ofDy { m := x5.p, e := -16 }, F64.ofBool x5.locked, F64.ofNat x5.st, lim] (satQual x5.sat q)

/-- The learner of a REPEAT stage and its record (12 R338, R353). -/
def learner (s : State) (l : Nat) : Learner := Tab.get s.ce.learners Learner.init l
def setLearner (s : State) (l : Nat) (x : Learner) : State := { s with ce := { s.ce with learners := Tab.set s.ce.learners Learner.init l x } }

/-- The REPEAT stage in a frame (12 R338-R340). -/
def runRepeat (s : State) (i : Nat) (b : List Byte) (x : Stage) (ins : List (Option Sig)) (q : Qual) : State :=
  let l := u8 b 24
  let r := cfgBody s 0x0604 l
  let L := learner s l
  let E := x.e
  let be : Int := i8 r 2
  let e := mant E (inVal (ins.getD 0 none))
  let posn := u8 r 0 = 1
  let per := u32 r 4
  let xp := F64.toInt (inVal (ins.getD 1 none))
  let spc : Int := u32 r 8
  let moved := match L.lastX with | none => false | some o => decide (o ≠ xp)
  let up := match L.lastX with | none => L.dirUp | some o => if xp = o then L.dirUp else decide (o < xp)
  let bin := if posn then ((xp - spc * (xp / spc)) * 1024 / spc).toNat else ((s.fr.frame - L.n0) % per) * 1024 / per
  let dir : Int := if posn && !up then -1 else 1
  let lead := (((bin : Int) + dir * (u8 r 1 : Int)) % 1024).toNat
  let out := mant E (mantVal be (Tab.get L.bins 0 lead))
  let learn := !L.frozen && (match ins.getD 2 none with | none => true | some y => F64.ge y.v (frac64 1 2)) && (!posn || moved)
  let old := Tab.get L.bins 0 bin
  let le := mnClip (roundScale (i32 r 12 * e.v) (i8 r 16 - 28 + E - be)) e.s
  let nw := mnMul { v := i32 r 20, s := false } 0 (mnAdd { v := old, s := false } le)
  let lim := mant be (f64 r 24)
  let nwc := clampI nw.v (-lim.v) lim.v
  let acts := learn && decide (nwc ≠ nw.v)
  let L1 := { L with dirUp := up, lastX := if posn then some xp else L.lastX, bins := if learn then Tab.set L.bins 0 bin nwc else L.bins }
  let s1 := setLearner s l L1
  let s2 := if acts then { s1 with ce := { s1.ce with learnLim := bset s1.ce.learnLim l } } else s1
  let y := { x with err := e.v, sat := e.s || out.s || (learn && nw.s), atLimit := false }
  finishStage s2 i b (adapt (stEMin b) [e.v, out.v] y) [mantVal E out.v, F64.ofNat bin] (satQual y.sat q)

/-- LEARN_CONTROL and the learner block at a tick (12 R341). -/
def learnControl (s : State) (l act : Nat) : State × Answer :=
  let driven := (recsOf s.cfg.run 0x0602).any (fun r => decide (stType r.body = 8 ∧ u8 r.body 24 = l))
  if !driven then (s, badParam 8)
  else
    let L := learner s l
    let L1 := if act = 0 then { L with frozen := false } else if act = 1 then { L with frozen := true }
      else { L with bins := [], n0 := s.fr.frame, frozen := decide (act = 3) }
    (setLearner s l L1, okA [])

/-- The tap positions of the PRBS generator (12 R343). -/
def prbsTaps (n : Nat) : List Nat :=
  ([[7, 6], [8, 6, 5, 4], [9, 5], [10, 7], [11, 9], [12, 6, 4, 1], [13, 4, 3, 1], [14, 5, 3, 1], [15, 14]].getD (n - 7) [])

/-- One shift of the PRBS register of order n (12 R343). -/
def prbsShift (n r : Nat) : Nat :=
  let fb := (prbsTaps n).foldl (fun acc p => acc != r.testBit (p - 1)) false
  (2 * r + b2n fb) % 2 ^ n

/-- The constant pi, rounded to binary64. -/
def pi64 : F64 := 0x400921FB54442D18#64

/-- The test signal of a running injection (12 R342). -/
def injSig (s : State) (b : List Byte) (x : Stage) : F64 :=
  let A := F64.mul (f64 b 32) x.factor
  let t := F64.div (F64.ofNat (x.k * s.fr.fUs)) (F64.ofNat 1000000)
  let w := fun (c : F64) => F64.mul A (F64.sin (F64.mul (F64.mul (F64.ofNat 2) pi64) c))
  if u8 b 24 = 0 then (if x.reg.testBit (u8 b 25 - 1) then A else F64.neg A)
  else if u8 b 24 = 1 then
    let T := F64.div (F64.ofNat (u32 b 28)) (F64.ofNat 1000)
    w (F64.add (F64.mul (f64 b 40) t) (F64.div (F64.mul (F64.sub (f64 b 48) (f64 b 40)) (F64.mul t t)) (F64.mul (F64.ofNat 2) T)))
  else if u8 b 24 = 2 then A
  else w (F64.mul (f64 b 40) t)

/-- INJECT in a frame that is not held (12 R342). -/
def runInject (s : State) (i : Nat) (b : List Byte) (x : Stage) (ins : List (Option Sig)) (q : Qual) : State :=
  let E := x.e
  let xm := mant E (inVal (ins.getD 0 none))
  let sg := if x.running then mant E (injSig s b x) else { v := 0, s := false }
  let y := mnAdd xm sg
  let z := { x with sat := y.s, atLimit := false }
  finishStage s i b (adapt (stEMin b) [xm.v, sg.v, y.v] z) [mantVal E y.v, mantVal E sg.v] (satQual z.sat q)

/-- INJECT stages of the configuration, by number. -/
def injectStages (s : State) : List Nat := ((recsOf s.cfg.run 0x0602).filter (fun r => stType r.body = 0x0B)).map (·.idx)

/-- The frames of an injection advance with each engine phase, held or not (12 R343, R344). -/
def injAdvance (s : State) : State :=
  (injectStages s).foldl (fun s i =>
    let x := stage s i
    if !x.running then s
    else
      let b := stBody s i
      let k := x.k + 1
      setStage s i { x with k := k, reg := if u8 b 24 = 0 ∧ k % max (u16 b 26) 1 = 0 then prbsShift (u8 b 25) x.reg else x.reg }) s

/-- Ends the injection of a stage (12 R344). -/
def injStop (s : State) (i : Nat) : State :=
  let x := stage s i
  if !x.running then s
  else
    let s1 := setStage s i { x with running := false }
    { s1 with ce := { s1.ce with injEnd := bset s1.ce.injEnd (stOrd s 0x0B i) } }

/-- k has reached FRAMES, or t the end of a chirp (12 R344). -/
def injOver (s : State) (i : Nat) : Bool :=
  let x := stage s i
  let b := stBody s i
  x.running && ((decide (0 < x.frames) && decide (x.frames ≤ x.k)) || (u8 b 24 = 1 && decide (u32 b 28 * 1000 ≤ x.k * s.fr.fUs)))

/-- Ends at a tick the injections that are over (12 R344). -/
def injTick (s : State) : State := (injectStages s).foldl (fun s i => if injOver s i then injStop s i else s) s

/-- Every injection ends: a mode change, a safety demand (12 R344). -/
def injStopAll (s : State) : State := (injectStages s).foldl injStop s

/-- INJECT_ENDED (12 R344): an injection whose last frame has run is over. -/
def doInjectEnded (s : State) (i : Nat) : State := if injOver s i then injStop s i else s

def execInjectEnded (i : Fin 512) (s : State) : Host.Outcome State Fault Refusal := done s (doInjectEnded s i.val)

/-- INJECT_START at a tick (12 R344). -/
def injStart (s : State) (i frames : Nat) (factor : F64) : State × Answer :=
  let b := stBody s i
  if stType b ≠ 0x0B then (s, badParam 8)
  else (setStage s i { stage s i with running := true, k := 0, reg := 2 ^ (u8 b 25) - 1, frames := frames, factor := factor }, okA [])

/-- INJECT_STOP at a tick (12 R344). -/
def injStopCmd (s : State) (i : Nat) : State × Answer :=
  if stType (stBody s i) ≠ 0x0B then (s, badParam 8) else (injStop s i, okA [])

/-! ### Captures (R345-R347) -/

def capture (s : State) (c : Nat) : Capture := Tab.get s.ce.caps Capture.init c
def setCap (s : State) (c : Nat) (x : Capture) : State := { s with ce := { s.ce with caps := Tab.set s.ce.caps Capture.init c x } }

/-- A slot as a capture samples it: a NaN while BAD or STALE (12 R345). -/
def capValue (s : State) (k : Nat) : F64 := let x := slotSig s k; if x.ok then x.v else F64.nan

/-- The trigger condition between two samples (12 R346). -/
def trigMeets (kind : Nat) (lvl : F64) (prev cur : F64) : Bool :=
  let rise := F64.lt prev lvl && F64.ge cur lvl
  let fall := F64.gt prev lvl && F64.le cur lvl
  (decide (kind = 1) && rise) || (decide (kind = 2) && fall) || (decide (kind = 3) && (rise || fall))

/-- One capture takes its sample of the frame (12 R345, R346). -/
def capSample (s : State) (c : Nat) : State :=
  let r := cfgBody s 0x0605 c
  let x := capture s c
  let n := u32 r 4
  let pre := u32 r 8
  if !(decide (x.st = 1) || decide (x.st = 2)) || r.isEmpty || (s.fr.frame - x.armFrame) % max (u16 r 2) 1 ≠ 0 then s
  else if x.trigged && decide (n - pre - 1 ≤ x.after) then s
  else
    let row := (List.range (u8 r 0)).map (fun j => capValue s (u16 r (24 + 2 * j)))
    let tv := if u8 r 1 = 0 then none else some (capValue s (u16 r 12))
    let fires := !x.trigged && (decide (x.st = 2) ||
      (match x.prev, tv with | some p, some v => trigMeets (u8 r 1) (f64 r 16) p v | _, _ => false))
    if fires then
      let k := min pre x.ring.length
      setCap s c { x with st := 2, trigged := true, ring := x.ring.drop (x.ring.length - k) ++ [row], prev := tv, trigFrame := s.fr.frame, trigSample := k, after := 0 }
    else if x.trigged then setCap s c { x with ring := x.ring ++ [row], prev := tv, after := x.after + 1 }
    else
      let ring := x.ring ++ [row]
      setCap s c { x with ring := ring.drop (ring.length - n), prev := tv }

/-- The samples of a frame in which the engine phase has run, at the start of the output transfer slot (12 R345). -/
def capSampleAll (s : State) : State :=
  if s.md.mode.allPhases && hasCfg s && decide (s.fr.late ≠ 1) && decide (s.fr.late ≠ 2) then (List.range 16).foldl capSample s else s

/-- The samples after the trigger have been taken (12 R346). -/
def capFull (s : State) (c : Nat) : Bool :=
  let x := capture s c
  let r := cfgBody s 0x0605 c
  decide (x.st = 2) && x.trigged && decide (u32 r 4 - u32 r 8 - 1 ≤ x.after)

/-- CAPTURE_COMPLETE (12 R346). -/
def doCapComplete (s : State) (c : Nat) : State :=
  if capFull s c then
    let s1 := setCap s c { capture s c with st := 3 }
    { s1 with ce := { s1.ce with capDone := bset s1.ce.capDone c } }
  else s

def execCaptureComplete (c : Fin 16) (s : State) : Host.Outcome State Fault Refusal := done s (doCapComplete s c.val)

/-- CAPTURE_ARM at a tick (12 R347): 0 arm, 1 disarm, 2 trigger. -/
def capArm (s : State) (c act : Nat) : State × Answer :=
  if (cfgRec s 0x0605 c).isNone then (s, badParam 8)
  else
    let x := capture s c
    let y := if act = 0 then { Capture.init with st := 1, armFrame := s.fr.frame }
      else if act = 1 then Capture.init
      else if x.st = 1 then { x with st := 2 } else x
    (setCap s c y, okA [BitVec.ofNat 8 y.st])

/-! ### The engine phase -/

/-- The feeds of POS_APPLY, written at the start of the engine phase (10 R260, 11 R283). -/
def feedApply (s : State) : State :=
  let tApply := s.fr.tick + s.fr.fUs * s.fr.out / 10
  (recsOf s.cfg.run 0x0601).foldl (fun s r => (feedsOf r).foldl (fun s f =>
    if f.2.1 = 3 ∧ f.2.2.1 = 0 then
      let g := Tab.get s.fr.img.pf PfImg.init f.2.2.2.1
      let dt := F64.ofInt ((tApply : Int) - (g.stamp : Int))
      let x := F64.add (F64.ofInt g.pos.toInt) (F64.div (F64.mul g.v dt) (F64.ofNat 100000000))
      setSig s f.1 { v := x, q := g.qual }
    else s) s) s

/-- The feeds written in the gather phase (11 R283, R284); `point` prefetches a point. -/
def feedGather (point : Nat → Sig) (s : State) : State :=
  (recsOf s.cfg.run 0x0601).foldl (fun s r => (feedsOf r).foldl (fun s f =>
    let k := f.2.2.2.1
    let I := s.fr.img
    let put := fun x => setSig s f.1 x
    if f.2.1 = 0 then put { v := f.2.2.2.2, q := .good }
    else if f.2.1 = 1 then put (Tab.get I.ai { v := 0, q := .bad } k)
    else if f.2.1 = 2 then put { v := F64.ofBool (I.di.toNat.testBit k), q := Tab.get I.diQ .good k }
    else if f.2.1 = 3 then
      let g := Tab.get I.pf PfImg.init k
      let fld := f.2.2.1
      if fld = 0 then s
      else if fld = 1 then put { v := F64.ofInt g.pos.toInt, q := g.qual }
      else if fld = 2 then put { v := g.v, q := g.qual }
      else if fld = 3 then put { v := BitVec.ofNat 64 g.stamp, q := g.qual }
      else if fld = 4 then put { v := F64.ofBool g.dir, q := g.qual }
      else if fld = 5 then put { v := F64.ofBool g.referenced, q := g.qual }
      else put { v := F64.ofBool (g.sw.toNat.testBit (fld - 6)), q := g.qual }
    else put (point k)) s) s

/-- One stage runs (11 R286, R296). -/
def runStage (s : State) (i : Nat) : State :=
  let b := stBody s i
  let x := stage s i
  let ty := stType b
  let ins := (List.range 4).map (stSig s b)
  let q := insQual ins
  if ty = 0x0C then runOutput s i b x
  else if ty = 1 then runProfile s i b x ins
  else if ty = 9 then runDoor s i b x ins
  else if x.manual && isModeStage s b i then runManual s i b x ins
  else if q = .bad ∨ q = .stale then heldStage s i b x q
  else if ty = 2 ∨ ty = 3 then runPi s i b x ins q
  else if ty = 4 then runPiMod s i b x ins q
  else if ty = 6 then runBiquad s i b x ins q
  else if ty = 7 then runLimiter s i b x ins q
  else if ty = 8 then runRepeat s i b x ins q
  else if ty = 0x0A then runSum s i b x ins q
  else if ty = 0x0B then runInject s i b x ins q
  else s

/-- The registers that change at the end of the engine phase, by their place: ENGINE_COUNT, LEARNER_FROZEN, CAPTURE_STATE,
INJECT_ACTIVE, DOOR_LOCKED, then DOOR_STATE[0-15] and PROFILE_STATE[0-15] (11 R313, 12 R357). -/
def ceRegs (s : State) : List Nat :=
  let at_ := fun (ty k : Nat) (f : Nat → Stage → Nat) => match stOfOrd s ty k with | none => 0 | some i => f i (stage s i)
  let mask := fun (f : Nat → Nat) => (List.range 16).foldl (fun a k => a + f k * 2 ^ k) 0
  [(recsOf s.cfg.run 0x0602).length + 65536 * (recsOf s.cfg.run 0x0601).length,
   (ofBits 16 (fun l => (learner s l).frozen)).toNat, (List.range 16).foldl (fun a c => a + (capture s c).st * 4 ^ c) 0,
   mask (fun k => at_ 0x0B k (fun _ x => b2n x.running)), mask (fun k => at_ 9 k (fun _ x => b2n x.locked))] ++
    (List.range 16).map (fun k => at_ 9 k (fun i x => x.st + 16 * (x.revs % 16) + 256 * b2n x.locked + 65536 * i)) ++
    (List.range 16).map (fun k => at_ 1 k (fun i x =>
      x.st + 8 * b2n x.down + 16 * x.queue.length + 2048 * b2n (profSingle (stBody s i)) + 4096 * i))

/-- The engine phase: POS_APPLY, then the first `n` stages in order, then the registers (11 R281, R313). -/
def enginePhase (n endAt : Nat) (s : State) : State :=
  let s0 := feedApply s
  let s1 := { s0 with ce := { s0.ce with atLimit := 0, held := 0 } }
  let s2 := injAdvance (((stageOrder s1).take n).foldl runStage s1)
  { s2 with ce := { s2.ce with
      frame := s2.fr.frame
      peak := max s2.ce.peak endAt
      endSlots := s2.ce.slots, endStages := s2.ce.stages, shown := ceRegs s2
      modeEvt := s2.ce.modeEvt ||| s2.ce.modeNew, modeNew := 0
      auto := ofBits 64 (fun lp => match modeStage s2 lp with | none => false | some i => !(stage s2 i).manual) } }

/-- DIAG_PROFILE_SNAP (12 R357). -/
def doProfileSnap (s : State) (v : Word) : State :=
  if !v.toNat.testBit 4 then s
  else match stOfOrd s 1 (v.toNat % 16) with
    | none => { s with ce := { s.ce with snapTarget := 0, snapDist := 0 } }
    | some i =>
      let b := stBody s i
      let x := Tab.get s.ce.endStages Stage.init i
      let d := dstop (planV x) (planA x) (f64 b 32) (f64 b 40)
      { s with ce := { s.ce with
          snapTarget := BitVec.ofInt 48 (x.target.getD 0)
          snapDist := BitVec.ofInt 32 (F64.toIntSat d 0 0xFFFFFFFF) } }

def execDiagProfileSnap (v : Word) (s : State) : Host.Outcome State Fault Refusal := done s (hostAccess s (fun s => doProfileSnap s v))

/-- The registers of the engine page (11 R313, 12 R357). -/
def ceRead (s : State) (off : Nat) : Nat :=
  let C := s.ce
  let w := (off / 4) % 2
  if off = 0x4700 then C.shown.getD 0 0
  else if 0x4708 ≤ off ∧ off < 0x4710 then (wordOf C.auto ((off - 0x4708) / 4)).toNat
  else if 0x4710 ≤ off ∧ off < 0x4718 then (wordOf C.sat ((off - 0x4710) / 4)).toNat
  else if 0x4718 ≤ off ∧ off < 0x4720 then (wordOf C.modeEvt ((off - 0x4718) / 4)).toNat
  else if 0x4720 ≤ off ∧ off < 0x4728 then (wordOf C.atLimit w).toNat
  else if 0x4728 ≤ off ∧ off < 0x4730 then (wordOf C.held ((off - 0x4728) / 4)).toNat
  else if off = 0x4730 then C.peak
  else if off = 0x4738 then C.winInfo.toNat
  else if off = 0x473C then bits C.winOut.toNat 0 32
  else if off = 0x4740 then bits C.winOut.toNat 32 32
  else if off = 0x4744 then C.winS0.toNat
  else if off = 0x4748 then C.winS1.toNat
  else if off = 0x474C then C.winFrame.toNat
  else if off = 0x4800 then C.doorObs.toNat
  else if off = 0x4804 then C.doorNudge.toNat
  else if off = 0x4808 then C.stopDef.toNat
  else if off = 0x480C then C.stopReach.toNat
  else if off = 0x4810 then C.learnLim.toNat
  else if off = 0x4814 then C.capDone.toNat
  else if off = 0x4818 then C.injEnd.toNat
  else if 0x481C ≤ off ∧ off < 0x482C then C.shown.getD (1 + (off - 0x481C) / 4) 0
  else if 0x4840 ≤ off ∧ off < 0x48C0 then C.shown.getD (5 + (off - 0x4840) / 4) 0
  else if off = 0x48C4 then bits C.snapTarget.toNat 0 32
  else if off = 0x48C8 then bits C.snapTarget.toNat 32 16
  else if off = 0x48CC then C.snapDist.toNat
  else 0

/-- Host writes to the engine page (11 R313, 12 R357). -/
def ceWrite (s : State) (off : Nat) (v : Word) : State :=
  let C := s.ce
  let w16 := fun (r : BitVec 16) => r &&& ~~~ BitVec.ofNat 16 v.toNat
  if 0x4710 ≤ off ∧ off < 0x4718 then { s with ce := { C with sat := C.sat &&& ~~~ spread 64 ((off - 0x4710) / 4) v } }
  else if 0x4718 ≤ off ∧ off < 0x4720 then { s with ce := { C with modeEvt := C.modeEvt &&& ~~~ spread 64 ((off - 0x4718) / 4) v } }
  else if off = 0x4734 then doStageSnap s v
  else if off = 0x4800 then { s with ce := { C with doorObs := w16 C.doorObs } }
  else if off = 0x4804 then { s with ce := { C with doorNudge := w16 C.doorNudge } }
  else if off = 0x4808 then { s with ce := { C with stopDef := w16 C.stopDef } }
  else if off = 0x480C then { s with ce := { C with stopReach := w16 C.stopReach } }
  else if off = 0x4810 then { s with ce := { C with learnLim := w16 C.learnLim } }
  else if off = 0x4814 then { s with ce := { C with capDone := w16 C.capDone } }
  else if off = 0x4818 then { s with ce := { C with injEnd := w16 C.injEnd } }
  else if off = 0x48C0 then doProfileSnap s v
  else s

end Sys2Proof.Machine
end

