-- ==== Sys2Proof/Machine/Blocks.lean ====
section
/-! DEFINITION. The block library of the cyclic program engine (13 R359-R373): ports, types, costs, and what each
block computes in one run. -/

namespace Sys2Proof.Machine

/-- The type of a port: BOOL, DINT, LREAL, TIME, the type in FLAGS.TYPE, or a bus object (13 R363, R367). -/
inductive PortTy where
  | b | d | l | t | a | obj
deriving DecidableEq, Repr

/-- One block type of the library: inputs, how many of them are required, outputs, cost in ns, the values of
FLAGS.TYPE it allows (13 R363, R367). -/
structure Blk where
  opc : Nat
  ins : List PortTy
  req : Nat
  outs : List PortTy
  cost : Nat
  tys : List Nat
deriving DecidableEq, Repr

/-- Logic, selection and arithmetic (13 R367). -/
def blkLib1 : List Blk :=
  [ { opc := 0x0101, ins := [.b, .b, .b, .b], req := 2, outs := [.b], cost := 10, tys := [0] },
    { opc := 0x0102, ins := [.b, .b, .b, .b], req := 2, outs := [.b], cost := 10, tys := [0] },
    { opc := 0x0103, ins := [.b, .b], req := 2, outs := [.b], cost := 8, tys := [0] },
    { opc := 0x0104, ins := [.b], req := 1, outs := [.b], cost := 6, tys := [0] },
    { opc := 0x0105, ins := [.b, .b], req := 2, outs := [.b], cost := 12, tys := [0] },
    { opc := 0x0106, ins := [.b, .b], req := 2, outs := [.b], cost := 12, tys := [0] },
    { opc := 0x0107, ins := [.b], req := 1, outs := [.b], cost := 10, tys := [0] },
    { opc := 0x0108, ins := [.b], req := 1, outs := [.b], cost := 10, tys := [0] },
    { opc := 0x0109, ins := [.a], req := 1, outs := [.a], cost := 6, tys := [0, 1, 2, 3] },
    { opc := 0x010A, ins := [.b, .a, .a], req := 3, outs := [.a], cost := 10, tys := [0, 1, 2, 3] },
    { opc := 0x010B, ins := [.d, .a, .a, .a, .a], req := 3, outs := [.a], cost := 14, tys := [0, 1, 2, 3] },
    { opc := 0x0201, ins := [.a, .a, .a, .a], req := 2, outs := [.a], cost := 12, tys := [1, 2, 3] },
    { opc := 0x0202, ins := [.a, .a], req := 2, outs := [.a], cost := 10, tys := [1, 2, 3] },
    { opc := 0x0203, ins := [.a, .a, .a, .a], req := 2, outs := [.a], cost := 14, tys := [1, 2] },
    { opc := 0x0204, ins := [.a, .a], req := 2, outs := [.a], cost := 28, tys := [1, 2] },
    { opc := 0x0205, ins := [.d, .d], req := 2, outs := [.d], cost := 28, tys := [0] },
    { opc := 0x0206, ins := [.a], req := 1, outs := [.a], cost := 8, tys := [1, 2, 3] },
    { opc := 0x0207, ins := [.a], req := 1, outs := [.a], cost := 8, tys := [1, 2, 3] },
    { opc := 0x0208, ins := [.a, .a, .a, .a], req := 2, outs := [.a], cost := 12, tys := [1, 2, 3] },
    { opc := 0x0209, ins := [.a, .a, .a, .a], req := 2, outs := [.a], cost := 12, tys := [1, 2, 3] },
    { opc := 0x020A, ins := [.a, .a, .a], req := 3, outs := [.a], cost := 12, tys := [1, 2, 3] },
    { opc := 0x020B, ins := [.l], req := 1, outs := [.l], cost := 30, tys := [0] },
    { opc := 0x020C, ins := [.l], req := 1, outs := [.l], cost := 60, tys := [0] },
    { opc := 0x020D, ins := [.l], req := 1, outs := [.l], cost := 60, tys := [0] },
    { opc := 0x020E, ins := [.l, .l], req := 2, outs := [.l], cost := 70, tys := [0] } ]

/-- Comparison, conversion, timers and counters (13 R367). -/
def blkLib2 : List Blk :=
  [ { opc := 0x0301, ins := [.a, .a], req := 2, outs := [.b], cost := 10, tys := [0, 1, 2, 3] },
    { opc := 0x0302, ins := [.a, .a], req := 2, outs := [.b], cost := 10, tys := [0, 1, 2, 3] },
    { opc := 0x0303, ins := [.a, .a], req := 2, outs := [.b], cost := 10, tys := [0, 1, 2, 3] },
    { opc := 0x0304, ins := [.a, .a], req := 2, outs := [.b], cost := 10, tys := [0, 1, 2, 3] },
    { opc := 0x0305, ins := [.a, .a], req := 2, outs := [.b], cost := 10, tys := [0, 1, 2, 3] },
    { opc := 0x0306, ins := [.a, .a], req := 2, outs := [.b], cost := 10, tys := [0, 1, 2, 3] },
    { opc := 0x0401, ins := [.a], req := 1, outs := [.l], cost := 8, tys := [0, 1, 3] },
    { opc := 0x0402, ins := [.a], req := 1, outs := [.d], cost := 10, tys := [0, 2] },
    { opc := 0x0403, ins := [.l], req := 1, outs := [.t], cost := 10, tys := [0] },
    { opc := 0x0404, ins := [.a], req := 1, outs := [.b], cost := 6, tys := [1, 2] },
    { opc := 0x0405, ins := [.l, .l, .l], req := 3, outs := [.l], cost := 12, tys := [0] },
    { opc := 0x0406, ins := [.a], req := 1, outs := [.d], cost := 6, tys := [0, 1, 2, 3] },
    { opc := 0x0407, ins := [.a], req := 1, outs := [.b], cost := 6, tys := [0, 1, 2, 3] },
    { opc := 0x0501, ins := [.b, .t], req := 2, outs := [.b, .t], cost := 30, tys := [0] },
    { opc := 0x0502, ins := [.b, .t], req := 2, outs := [.b, .t], cost := 30, tys := [0] },
    { opc := 0x0503, ins := [.b, .t], req := 2, outs := [.b, .t], cost := 30, tys := [0] },
    { opc := 0x0504, ins := [.b, .b, .d], req := 3, outs := [.b, .d], cost := 20, tys := [0] },
    { opc := 0x0505, ins := [.b, .b, .d], req := 3, outs := [.b, .d], cost := 20, tys := [0] },
    { opc := 0x0506, ins := [.b, .b, .b, .b, .d], req := 5, outs := [.d], cost := 24, tys := [0] } ]

/-- Signal blocks, requests and status (13 R367). -/
def blkLib3 : List Blk :=
  [ { opc := 0x0601, ins := [.l, .t], req := 2, outs := [.l], cost := 24, tys := [0] },
    { opc := 0x0602, ins := [.l, .l], req := 2, outs := [.l], cost := 20, tys := [0] },
    { opc := 0x0603, ins := [.l, .l], req := 2, outs := [.l], cost := 10, tys := [0] },
    { opc := 0x0604, ins := [.l, .l, .l], req := 3, outs := [.b], cost := 12, tys := [0] },
    { opc := 0x0605, ins := [.l, .b, .l, .l], req := 4, outs := [.l], cost := 22, tys := [0] },
    { opc := 0x0606, ins := [.b, .b, .t], req := 3, outs := [.b], cost := 30, tys := [0] },
    { opc := 0x0607, ins := [.a, .a, .a], req := 3, outs := [.a], cost := 16, tys := [1, 2, 3] },
    { opc := 0x0608, ins := [.l, .l], req := 2, outs := [.l], cost := 14, tys := [0] },
    { opc := 0x0801, ins := [.b, .d, .b, .l], req := 3, outs := [.d], cost := 40, tys := [0] },
    { opc := 0x0802, ins := [.b, .d, .d, .l], req := 4, outs := [.d, .d], cost := 40, tys := [0] },
    { opc := 0x0803, ins := [.b, .d, .d], req := 3, outs := [.d], cost := 30, tys := [0] },
    { opc := 0x0804, ins := [.b, .d, .b, .l], req := 3, outs := [.d], cost := 40, tys := [0] },
    { opc := 0x0805, ins := [.b, .d, .b], req := 3, outs := [.d], cost := 30, tys := [0] },
    { opc := 0x0806, ins := [.b, .d, .l, .d, .d], req := 5, outs := [.d], cost := 40, tys := [0] },
    { opc := 0x0807, ins := [.d, .d], req := 2, outs := [.b, .l, .t], cost := 50, tys := [0] },
    { opc := 0x0808, ins := [.b, .d], req := 2, outs := [.d], cost := 30, tys := [0] },
    { opc := 0x0809, ins := [.b, .d], req := 2, outs := [.d], cost := 40, tys := [0] },
    { opc := 0x080A, ins := [.b, .d], req := 2, outs := [], cost := 20, tys := [0] },
    { opc := 0x080B, ins := [.obj], req := 1, outs := [.b, .b, .t], cost := 20, tys := [0] } ]

/-- The whole library. -/
def blkLib : List Blk := blkLib1 ++ blkLib2 ++ blkLib3

def findBlk (opc : Nat) : Option Blk := blkLib.find? (fun b => decide (b.opc = opc))

/-- The code of a port's type under FLAGS.TYPE (13 R359, R363). -/
def PortTy.code (ty : Nat) : PortTy → Nat
  | .b => 0 | .d => 1 | .l => 2 | .t => 3 | .a => ty | .obj => 4

/-- Types whose instances FLAGS.RETAIN makes retained (13 R374). -/
def retainOp (opc : Nat) : Bool :=
  [0x0105, 0x0106, 0x0107, 0x0108, 0x0501, 0x0502, 0x0503, 0x0504, 0x0505, 0x0506, 0x0601, 0x0602, 0x0604, 0x0605, 0x0606].contains opc

/-! ### Values -/

def vBool (x : Val) : Bool := x.v != 0
def vInt (x : Val) : Int := signed 64 x.v.toNat
def ofBoolV (b : Bool) (q : Qual) : Val := { v := if b then 1 else 0, q := q }
def ofIntV (z : Int) (q : Qual) : Val := { v := BitVec.ofInt 64 z, q := q }
/-- An LREAL result; one that is not finite is BAD (13 R365). -/
def ofRealV (x : F64) (q : Qual) : Val := { v := x, q := if F64.isFinite x then q else .bad }

def satDint (z : Int) : Int := clampI z (-2147483648) 2147483647
def satTime (z : Int) : Int := clampI z (-9223372036854775808) 9223372036854775807
/-- DINT and TIME results saturate (13 R365). -/
def satTy (ty : Nat) (z : Int) : Int := if ty = 3 then satTime z else satDint z

/-- What a run of a block reads beside its inputs (13 R362, R364, R372): NOW, the claim latch shows control, the unit tracks the
one in control, the input image the
task reads and the snapshot of the frame's tick, and a free value. -/
structure Ctx where
  now : Nat
  control : Bool
  tracking : Bool
  img : Image
  objs : Tab ObjSnap
  tick : Nat
  free : Nat

/-- What a run of a block gives: the state, the outputs, a request, an event, and whether it drew the free value. -/
structure Run where
  x : Inst
  outs : List Val
  req : Option Req
  ev : Option Nat
  drew : Bool

def Run.of (x : Inst) (outs : List Val) : Run := { x := x, outs := outs, req := none, ev := none, drew := false }

/-- An LREAL input that is not finite ranks as BAD (11 R286, 13 R365). -/
def rankReal (real : Bool) (x : Val) : Val := if real && !F64.isFinite x.v then { x with q := .bad } else x

/-- The inputs of a block of types `tys` as their qualities rank. -/
def rankPorts (tys : List PortTy) (ty : Nat) (p : List (Option Val)) : List (Option Val) :=
  (List.range p.length).map (fun j => (p.getD j none).map (rankReal (decide ((tys.getD j .b).code ty = 2))))

/-- The highest quality among used inputs, FORCED as GOOD (13 R365). -/
def usedQ (l : List Val) : Qual := (l.foldl (fun (q : Qual) (x : Val) => q.worst x.q) Qual.good).plain

/-- Comparison codes 0x0301-0x0306 on ordered values (13 R367). -/
def cmpOf (opc : Nat) (lt eq : Bool) (un : Bool) : Bool :=
  if un then decide (opc = 0x0304)
  else if opc = 0x0301 then !lt && !eq
  else if opc = 0x0302 then !lt
  else if opc = 0x0303 then eq
  else if opc = 0x0304 then !eq
  else if opc = 0x0305 then lt || eq
  else lt

/-- The median of three numbers as a position 0-2, under an order given as `lt`. -/
def midIdx {α : Type} (lt : α → α → Bool) (a b c : α) : Nat :=
  if (!lt a b && !lt c a) || (!lt b a && !lt a c) then 0
  else if (!lt b a && !lt c b) || (!lt a b && !lt b c) then 1 else 2

/-- Blocks without state: logic, selection, arithmetic, comparison, conversion (13 R365, R367). `p` are the ports. -/
def runPure (K : Ctx) (opc ty : Nat) (p : List (Option Val)) : List Val × Bool :=
  let g := fun j => (p.getD j none).getD Val.init
  let con := p.filterMap id
  let q := usedQ con
  let bs := con.map vBool
  let zs := con.map vInt
  let fs := con.map (·.v)
  let num := fun (z : Int) => ofIntV (satTy ty z) q
  let one := fun (v : Val) => ([v], false)
  if opc = 0x0101 then one (ofBoolV (bs.all id) q)
  else if opc = 0x0102 then one (ofBoolV (bs.any id) q)
  else if opc = 0x0103 then one (ofBoolV (vBool (g 0) != vBool (g 1)) q)
  else if opc = 0x0104 then one (ofBoolV (!vBool (g 0)) q)
  else if opc = 0x0109 then one (if ty = 2 then ofRealV (g 0).v q else { v := (g 0).v, q := q })
  else if opc = 0x010A then
    let y := if vBool (g 0) then g 2 else g 1
    let qq := usedQ [g 0, y]
    one (if ty = 2 then ofRealV y.v qq else { v := y.v, q := qq })
  else if opc = 0x010B then
    let k := vInt (g 0)
    let y := if 0 ≤ k ∧ k ≤ 3 then p.getD (k.toNat + 1) none else none
    match y with
    | none => one { v := (g 1).v, q := .bad }
    | some y => let qq := usedQ [g 0, y]; one (if ty = 2 then ofRealV y.v qq else { v := y.v, q := qq })
  else if opc = 0x0201 then one (if ty = 2 then ofRealV (fs.tail.foldl F64.add (fs.headD 0)) q else num (zs.foldl (· + ·) 0))
  else if opc = 0x0202 then one (if ty = 2 then ofRealV (F64.sub (g 0).v (g 1).v) q else num (vInt (g 0) - vInt (g 1)))
  else if opc = 0x0203 then one (if ty = 2 then ofRealV (fs.tail.foldl F64.mul (fs.headD 0)) q else num (zs.foldl (· * ·) 1))
  else if opc = 0x0204 then
    if ty = 2 then one (ofRealV (F64.div (g 0).v (g 1).v) q)
    else if vInt (g 1) = 0 then one (ofIntV 0 .bad)
    else one (num ((vInt (g 0)).tdiv (vInt (g 1))))
  else if opc = 0x0205 then
    if vInt (g 1) = 0 then ([ofIntV (signed 32 (Config.freeValue K.free)) .bad], true)
    else one (ofIntV (satDint ((vInt (g 0)).tmod (vInt (g 1)))) q)
  else if opc = 0x0206 then one (if ty = 2 then ofRealV (F64.abs (g 0).v) q else num ((vInt (g 0)).natAbs : Int))
  else if opc = 0x0207 then one (if ty = 2 then ofRealV (F64.neg (g 0).v) q else num (-vInt (g 0)))
  else if opc = 0x0208 then one (if ty = 2 then ofRealV (fs.tail.foldl F64.min2 (fs.headD 0)) q else num (zs.tail.foldl min (zs.headD 0)))
  else if opc = 0x0209 then one (if ty = 2 then ofRealV (fs.tail.foldl F64.max2 (fs.headD 0)) q else num (zs.tail.foldl max (zs.headD 0)))
  else if opc = 0x020A then
    one (if ty = 2 then ofRealV (F64.clamp (g 1).v (g 0).v (g 2).v) q else num (clampI (vInt (g 1)) (vInt (g 0)) (vInt (g 2))))
  else if opc = 0x020B then one (ofRealV (F64.sqrt (g 0).v) q)
  else if opc = 0x020C then one (ofRealV (F64.sin (g 0).v) q)
  else if opc = 0x020D then one (ofRealV (F64.cos (g 0).v) q)
  else if opc = 0x020E then one (ofRealV (F64.atan2 (g 0).v (g 1).v) q)
  else if 0x0301 ≤ opc ∧ opc ≤ 0x0306 then
    if ty = 2 then one (ofBoolV (cmpOf opc (F64.lt (g 0).v (g 1).v) (F64.eq (g 0).v (g 1).v) (F64.isNaN (g 0).v || F64.isNaN (g 1).v)) q)
    else one (ofBoolV (cmpOf opc (decide (vInt (g 0) < vInt (g 1))) (decide (vInt (g 0) = vInt (g 1))) false) q)
  else if opc = 0x0401 then
    one (ofRealV (if ty = 3 then F64.div (F64.ofInt (vInt (g 0))) (F64.ofNat 100000000) else F64.ofInt (vInt (g 0))) q)
  else if opc = 0x0402 then
    if ty = 2 then one (if F64.isFinite (g 0).v then ofIntV (satDint (F64.toInt (g 0).v)) q else ofIntV 0 .bad)
    else one (ofIntV (vInt (g 0)) q)
  else if opc = 0x0403 then
    let x := (g 0).v
    one (if F64.isFinite x then ofIntV (satTime (F64.dyRound (F64.dyMul (F64.toDy x) { m := 100000000, e := 0 }))) q
      else ofIntV (F64.toIntSat x (-9223372036854775808) 9223372036854775807) .bad)
  else if opc = 0x0404 then one (ofBoolV (if ty = 2 then !F64.isZero (g 0).v else decide (vInt (g 0) ≠ 0)) q)
  else if opc = 0x0405 then one (ofRealV (F64.add (F64.mul (g 0).v (g 1).v) (g 2).v) q)
  else if opc = 0x0406 then one (ofIntV ((g 0).q.num : Int) .good)
  else if opc = 0x0407 then one (ofBoolV (decide ((g 0).q = .good) || decide ((g 0).q = .forced)) .good)
  else if opc = 0x0603 then one (ofRealV (if F64.le (F64.abs (g 0).v) (g 1).v then 0 else (g 0).v) q)
  else if opc = 0x0607 then
    let i := if ty = 2 then midIdx F64.lt (g 0).v (g 1).v (g 2).v else midIdx (fun (a b : Int) => decide (a < b)) (vInt (g 0)) (vInt (g 1)) (vInt (g 2))
    one (if ty = 2 then ofRealV (g i).v (g i).q else { v := (g i).v, q := (g i).q })
  else if opc = 0x0608 then
    let ok := fun (x : Val) => !(x.q = .bad || x.q = .stale)
    let y := if ok (g 0) then g 0 else if ok (g 1) then g 1 else g 0
    one (ofRealV y.v y.q)
  else if opc = 0x0807 then
    let f := (Tab.get K.img.pf PfImg.init (vInt (g 0)).toNat).fifo
    let hit := if 0 ≤ vInt (g 0) then (f.filter (fun e => decide ((e.kind : Int) = vInt (g 1)))).getLast? else none
    match hit with
    | none => ([ofBoolV false q, ofRealV 0 q, ofIntV 0 q], false)
    | some e => ([ofBoolV true q, ofRealV (F64.ofInt e.pos.toInt) q, ofIntV (e.stamp : Int) q], false)
  else if opc = 0x080B then
    let o := Tab.get K.objs ObjSnap.init (g 0).v.toNat
    let age : Int := if o.stored then (K.tick : Int) - (o.rxT10 : Int) else 9223372036854775807
    ([ofBoolV o.fresh o.qual.plain, ofBoolV o.lost o.qual.plain, ofIntV age o.qual.plain], false)
  else ([], false)

/-- The opcodes that keep state. -/
def statefulOp (opc : Nat) : Bool :=
  retainOp opc || (decide (0x0801 ≤ opc) && decide (opc ≤ 0x080A) && decide (opc ≠ 0x0807))

/-- A timer's state with START after a restore: NOW of the first run less el (13 R374). -/
def timerStart (K : Ctx) (x : Inst) : Inst :=
  if x.restored && !x.ran then { x with start := (K.now : Int) - x.elRest } else x

/-- Edge memories at the first run: seeded with the inputs (13 R377, R384). -/
def seedEdges (flags : Nat) (a b : Bool) (x : Inst) : Inst :=
  if !x.ran && !x.restored && (flags.testBit 3 || x.seed) then { x with m1 := a, m2 := b } else x

/-- Flip-flops, edges, timers, counters (13 R367-R370). -/
def runLogic (K : Ctx) (opc flags : Nat) (x0 : Inst) (p : List (Option Val)) : Run :=
  let g := fun j => (p.getD j none).getD Val.init
  let b := fun j => vBool (g j)
  let q := usedQ (p.filterMap id)
  if opc = 0x0105 then let v := b 0 || (x0.q && !b 1); Run.of { x0 with q := v } [ofBoolV v q]
  else if opc = 0x0106 then let v := !b 1 && (b 0 || x0.q); Run.of { x0 with q := v } [ofBoolV v q]
  else if opc = 0x0107 then let x := seedEdges flags (b 0) false x0; Run.of { x with m1 := b 0 } [ofBoolV (b 0 && !x.m1) q]
  else if opc = 0x0108 then let x := seedEdges flags (b 0) false x0; Run.of { x with m1 := b 0 } [ofBoolV (x.m1 && !b 0) q]
  else if opc = 0x0504 ∨ opc = 0x0505 then
    let x := seedEdges flags (b 0) false x0
    let up := opc = 0x0504
    let edge := b 0 && !x.m1
    let cv := if b 1 then (if up then 0 else vInt (g 2))
      else if edge then (if up then min (x.cv + 1) 2147483647 else max (x.cv - 1) (-2147483648)) else x.cv
    Run.of { x with cv := cv, m1 := b 0 } [ofBoolV (if up then decide (vInt (g 2) ≤ cv) else decide (cv ≤ 0)) q, ofIntV cv q]
  else if opc = 0x0506 then
    let x := seedEdges flags (b 0) (b 1) x0
    let up := b 0 && !x.m1
    let dn := b 1 && !x.m2
    let cv := if b 2 then 0 else if b 3 then vInt (g 4)
      else if up && !dn then min (x.cv + 1) 2147483647 else if dn && !up then max (x.cv - 1) (-2147483648) else x.cv
    Run.of { x with cv := cv, m1 := b 0, m2 := b 1 } [ofIntV cv q]
  else
    let x := timerStart K x0
    let now : Int := K.now
    let inp := b 0
    if opc = 0x0501 then
      let pt := max (vInt (g 1)) 0
      let y := if inp && !x.timing then { x with timing := true, begun := true, start := now } else if !inp then { x with timing := false } else x
      let el := now - y.start
      Run.of { y with m1 := inp } [ofBoolV (inp && decide (pt ≤ el)) q, ofIntV (if inp then min el pt else 0) q]
    else if opc = 0x0502 then
      let pt := max (vInt (g 1)) 0
      let y := if inp then { x with timing := false } else if x.m1 then { x with timing := true, begun := true, start := now } else x
      let el := now - y.start
      let z := if y.timing && decide (pt ≤ el) then { y with timing := false } else y
      Run.of { z with m1 := inp } [ofBoolV (inp || z.timing) q, ofIntV (if inp || !z.begun then 0 else min el pt) q]
    else if opc = 0x0503 then
      let pt := max (vInt (g 1)) 0
      let y := if inp && !x.m1 && !x.timing then { x with timing := true, begun := true, start := now } else x
      let el := now - y.start
      let z := if y.timing && decide (pt ≤ el) then { y with timing := false } else y
      Run.of { z with m1 := inp } [ofBoolV z.timing q, ofIntV (if z.timing || (inp && z.begun) then min el pt else 0) q]
    else
      -- DISC
      let diff := b 0 != b 1
      let pt := max (vInt (g 2)) 0
      let y := if diff && !x.timing then { x with timing := true, begun := true, start := now } else if !diff then { x with timing := false } else x
      Run.of y [ofBoolV (diff && decide (pt ≤ now - y.start)) q]

/-- Signal blocks LAG, RAMP, HYST, INTEG (13 R365, R371). -/
def runSignal (K : Ctx) (opc : Nat) (x0 : Inst) (p : List (Option Val)) : Run :=
  let g := fun j => (p.getD j none).getD Val.init
  let q := usedQ (p.filterMap id)
  let dt := if x0.ran then F64.div (F64.ofNat (K.now - x0.prevNow)) (F64.ofNat 100000000) else 0
  let x := { x0 with prevNow := K.now }
  let has := x.begun || x.restored
  let inp := (g 0).v
  let reals := if opc = 0x0601 then [inp] else if opc = 0x0604 then [inp, (g 1).v, (g 2).v] else if opc = 0x0605 then [inp, (g 2).v, (g 3).v] else [inp, (g 1).v]
  if reals.any (fun v => !F64.isFinite v) then
    Run.of x [if opc = 0x0604 then ofBoolV x.q q else ofRealV x.out q]
  else if opc = 0x0601 then
    let tc := vInt (g 1)
    let o := if !has || decide (tc ≤ 0) then inp
      else F64.add x.out (F64.mul (F64.sub inp x.out) (F64.min2 F64.one (F64.div dt (F64.div (F64.ofInt tc) (F64.ofNat 100000000)))))
    Run.of { x with out := o, begun := true } [ofRealV o q]
  else if opc = 0x0602 then
    let r := F64.mul (g 1).v dt
    let o := if !has then inp else F64.add x.out (F64.clamp (F64.sub inp x.out) (F64.neg r) r)
    Run.of { x with out := o, begun := true } [ofRealV o q]
  else if opc = 0x0604 then
    let v := if F64.gt inp (g 2).v then true else if F64.lt inp (g 1).v then false else x.q
    Run.of { x with q := v } [ofBoolV v q]
  else
    let o := F64.clamp (if vBool (g 1) then 0 else F64.add x.out (F64.mul inp dt)) (g 2).v (g 3).v
    Run.of { x with out := o, begun := true } [ofRealV o q]

/-- The request of a rising REQ (13 R372). -/
def mkReq (k opc : Nat) (p : List (Option Val)) : Req :=
  let g := fun j => (p.getD j none).getD Val.init
  let i := fun j => vInt (g j)
  let f := fun j => (g j).v
  let r : Req := { inst := k, opc := opc, a := i 1, b := i 2, c := 0, d := 0 }
  if opc = 0x0801 then { r with c := match p.getD 3 none with | none => F64.nan | some v => v.v }
  else if opc = 0x0802 then { r with c := f 3 }
  else if opc = 0x0804 then { r with c := match p.getD 3 none with | none => F64.one | some v => v.v }
  else if opc = 0x0806 then { r with c := f 2, b := i 3, d := i 4 }
  else r

/-- Blocks that make requests, and EVENT (13 R372). -/
def runRequest (K : Ctx) (opc k : Nat) (x0 : Inst) (p : List (Option Val)) : Run :=
  let req := vBool ((p.getD 0 none).getD Val.init)
  let q := usedQ (p.filterMap id)
  let x1 := if x0.res = 0 then x0 else { x0 with stat := x0.res, outcome := x0.resO, res := 0 }
  let rise := req && !x1.m1 && x1.ran
  let x2 := { x1 with m1 := req }
  if opc = 0x080A then
    let n := vInt ((p.getD 1 none).getD Val.init)
    { x := x2, outs := [], req := none, ev := if rise && decide (0 ≤ n) && decide (n < 8) then some n.toNat else none, drew := false }
  else
    let go := rise && K.control
    -- the STAT of a tracking standby follows the unit in control, which makes the request
    let x3 := if go || (rise && K.tracking) then { x2 with stat := 1, outcome := -1 } else x2
    { x := x3, outs := [ofIntV (x3.stat : Int) q, ofIntV x3.outcome q], req := if go then some (mkReq k opc p) else none, ev := none, drew := false }

/-- QUALITY, IS_GOOD, MID3 and SELQ act on the quality an input has (13 R365, R367). -/
def readsQual (opc : Nat) : Bool := [0x0406, 0x0407, 0x0607, 0x0608].contains opc

/-- One run of instance `k`: opcode, FLAGS, state, ports (13 R367). -/
def runBlk (K : Ctx) (k opc flags : Nat) (x : Inst) (p0 : List (Option Val)) : Run :=
  let p := if readsQual opc then p0 else rankPorts (((findBlk opc).map (·.ins)).getD []) (flags % 4) p0
  let r := if !statefulOp opc then let o := runPure K opc (flags % 4) p; { Run.of x o.1 with drew := o.2 }
    else if 0x0800 ≤ opc then runRequest K opc k x p
    else if opc = 0x0601 ∨ opc = 0x0602 ∨ opc = 0x0604 ∨ opc = 0x0605 then runSignal K opc x p
    else runLogic K opc flags x p
  { r with x := if statefulOp opc then { r.x with ran := true } else r.x }

end Sys2Proof.Machine
end

