-- ==== Sys2Proof/Machine/Program.lean ====
section
/-! DEFINITION. The cyclic program engine (13): references, tasks and slices, requests, the retentive journal,
starting a program, on-line change, program exchange. -/

namespace Sys2Proof.Machine

/-- The elements of BLOCK_INSTANCE and of VARIABLE, in image order (13 R360, R387, R388). -/
def instElems (l : List Rec) : List (List Byte) := (elemsOf l 0x0702 32).map (·.2.2)
def varElems (l : List Rec) : List (List Byte) := (elemsOf l 0x0703 16).map (·.2.2)

/-- Instance positions with their elements. -/
def numbered {α : Type} (l : List α) : List (Nat × α) := (List.range l.length).zip l

def iOpc (b : List Byte) : Nat := u16 b 0
def iTask (b : List Byte) : Nat := u8 b 2
def iFlags (b : List Byte) : Nat := u8 b 3
def iKey (b : List Byte) : Nat := u32 b 4
def iPort (b : List Byte) (j : Nat) : Nat := u32 b (8 + 4 * j)
def vKey (b : List Byte) : Nat := u32 b 0
def vType (b : List Byte) : Nat := u8 b 4
def vKind (b : List Byte) : Nat := u8 b 5
def vInit (b : List Byte) : Val := { v := f64 b 8, q := .good }

/-- SPACE and INDEX of a reference (13 R361). -/
def refSpace (r : Nat) : Nat := r / 2 ^ 27
def refIdx (r : Nat) : Nat := r % 2 ^ 27

def taskSt (s : State) (t : Nat) : TaskSt := Tab.get s.pg.tasks TaskSt.init t
def setTask (s : State) (t : Nat) (x : TaskSt) : State := { s with pg := { s.pg with tasks := Tab.set s.pg.tasks TaskSt.init t x } }
def instSt (s : State) (k : Nat) : Inst := Tab.get s.pg.insts Inst.init k
def setInst (s : State) (k : Nat) (x : Inst) : State := { s with pg := { s.pg with insts := Tab.set s.pg.insts Inst.init k x } }

/-- A value is valid for a type: 0 or 1, sign-extended, finite (13 R359, R379). -/
def validVal (ty : Nat) (v : F64) : Bool :=
  if ty = 0 then decide (v.toNat < 2) else if ty = 1 then decide (signed 64 v.toNat = satDint (signed 64 v.toNat))
  else if ty = 2 then F64.isFinite v else true

/-- A field of an object's payload by its OBJ index (13 R362). -/
def objField (idx : Nat) (data : List Byte) : F64 :=
  let off := bits idx 7 6
  let enc := bits idx 4 3
  if enc = 0 then BitVec.ofInt 64 (i16 data off)
  else if enc = 1 then BitVec.ofInt 64 (i32 data off)
  else if enc = 2 then F64.ofF32 (u32 data off)
  else if enc = 3 then f64 data off
  else if enc = 4 then BitVec.ofNat 64 (u8 data off)
  else BitVec.ofNat 64 (b2n ((u8 data off).testBit (idx % 16)))

/-- A field as a number in binary64 (14 R392: points of kind BUS). -/
def objFieldReal (idx : Nat) (data : List Byte) : F64 :=
  if bits idx 4 3 = 2 ∨ bits idx 4 3 = 3 then objField idx data else F64.ofInt (signed 64 (objField idx data).toNat)

/-- Writes a field into a payload of the working page (13 R362). -/
def putObjField (p : Page) (idx : Nat) (v : F64) : Page :=
  let o := bits idx 13 14
  let off := bits idx 7 6
  let enc := bits idx 4 3
  let z := signed 64 v.toNat
  if enc = 0 then pagePut p o off (leBytes 2 (unsigned 16 (clampI z (-32768) 32767)))
  else if enc = 1 then pagePut p o off (leBytes 4 (unsigned 32 (satDint z)))
  else if enc = 2 then pagePut p o off (leBytes 4 (F64.toF32 v))
  else if enc = 3 then pagePut p o off (leBytes 8 v.toNat)
  else if enc = 4 then pagePut p o off (leBytes 1 (clampI z 0 255).toNat)
  else pagePut p o off [BitVec.ofNat 8 (putBit (u8 (Tab.get p.objs [] o) off) (idx % 16 % 8) (v != 0))]

/-- A value of a PF field (13 R362). -/
def pfField (g : PfImg) (f : Nat) : Val :=
  let mk := fun (v : F64) => ({ v := v, q := g.qual } : Val)
  if f = 0 then mk (F64.ofInt g.pos.toInt)
  else if f = 1 then mk (BitVec.ofNat 64 g.stamp)
  else if f = 2 then mk g.v
  else if f = 3 then mk (BitVec.ofNat 64 (b2n g.dir))
  else if f = 4 then mk (BitVec.ofNat 64 (b2n g.referenced))
  else if f < 9 then mk (BitVec.ofNat 64 (b2n (g.sw.toNat.testBit (f - 5))))
  else mk (BitVec.ofNat 64 g.fifo.length)

/-- SYS items (13 R362). -/
def sysItem (s : State) (t : Nat) (img : Image) (i : Nat) : Val :=
  let mk := fun (n : Nat) => ({ v := BitVec.ofNat 64 n, q := .good } : Val)
  if i = 0 then mk img.tick
  else if i = 1 then { v := F64.ofNat img.frame, q := .good }
  else if i = 2 then mk s.md.mode.num
  else if i = 3 then mk (b2n (hasControl s))
  else if i = 4 then mk (unitId s)
  else if i = 5 then mk (u16 (cfgBody s 0x0701 t) 0 * s.fr.fUs * 100)
  else if i = 6 then mk (b2n (!(taskSt s t).scanned))
  else if i = 7 then mk s.pg.start
  else mk (b2n s.sf.demand)

/-- A variable as its readers see it: forced, written by the same task, published (13 R364, R382). -/
def readVar (s : State) (t v : Nat) : Val :=
  match forceOf s 3 v with
  | some f => { v := f, q := .forced }
  | none =>
    match (taskSt s t).lvars.find? (fun x => decide (x.1 = v)) with
    | some x => x.2
    | none => Tab.get s.pg.vars Val.init v

/-- What a run of task `t` reads through a reference; none for NONE (13 R361, R364). -/
def readRef (s : State) (pts : Nat → Sig) (t : Nat) (img : Image) (r : Nat) : Option Val :=
  let i := refIdx r
  let sp := refSpace r
  if sp = 0 then none
  else if sp = 1 then some (readVar s t i)
  else if sp = 2 then some { v := BitVec.ofNat 64 (b2n (img.di.toNat.testBit i)), q := Tab.get img.diQ .good i }
  else if sp = 3 then some { v := BitVec.ofNat 64 (b2n (img.si.toNat.testBit i)), q := Tab.get img.siQ .good i }
  else if sp = 4 then let g := Tab.get img.ai { v := 0, q := .bad } i; some { v := g.v, q := g.q }
  else if sp = 5 then some (pfField (Tab.get img.pf PfImg.init (i / 16)) (i % 16))
  else if sp = 6 then
    match (taskSt s t).lslots.find? (fun x => decide (x.1 = i)) with
    | some x => some { v := x.2.v, q := x.2.q }
    | none => let g := slotSig s i; some { v := g.v, q := g.q }
  else if sp = 7 then let g := pts i; some { v := g.v, q := g.q }
  else if sp = 8 then
    let o := Tab.get s.fr.img.objs ObjSnap.init (bits i 13 14)
    some { v := objField i o.data, q := o.qual }
  else if sp = 11 then some (sysItem s t img i)
  else none

/-- An OBJ port of OBJ_STATUS stands for the object itself. -/
def readPort (s : State) (pts : Nat → Sig) (t : Nat) (img : Image) (ty : PortTy) (r : Nat) : Option Val :=
  if ty = .obj then some { v := BitVec.ofNat 64 (bits (refIdx r) 13 14), q := .good } else readRef s pts t img r

/-- A write of an output port: variables and slots to the task's own writes, the rest to its output writes
(13 R364). -/
def writeRef (s : State) (t r : Nat) (v : Val) : State :=
  let x := taskSt s t
  let i := refIdx r
  if refSpace r = 0 then s
  else if refSpace r = 1 then setTask s t { x with lvars := Tab.ins x.lvars i v }
  else if refSpace r = 6 then setTask s t { x with lslots := Tab.ins x.lslots i { v := v.v, q := v.q } }
  else setTask s t { x with outs := Tab.ins x.outs r v }

/-- One instance runs (13 R364, R367). -/
def runInst (pts : Nat → Sig) (img : Image) (s : State) (kb : Nat × List Byte) : State :=
  let b := kb.2
  match findBlk (iOpc b) with
  | none => s
  | some L =>
    let t := iTask b
    let n := L.ins.length
    let ports := (List.range n).map (fun j => readPort s pts t img (L.ins.getD j .b) (iPort b j))
    let K : Ctx := { now := img.tick, control := hasControl s, tracking := s.gr.tracking, img := img, objs := s.fr.img.objs, tick := s.fr.img.tick, free := s.free }
    let R := runBlk K kb.1 (iOpc b) (iFlags b) (instSt s kb.1) ports
    let s1 := setInst s kb.1 R.x
    let s2 := (List.range L.outs.length).foldl (fun s j => writeRef s t (iPort b (n + j)) (R.outs.getD j Val.init)) s1
    { s2 with
      free := if R.drew then s2.free + 1 else s2.free
      pg := { s2.pg with
        reqs := s2.pg.reqs ++ R.req.toList
        evPend := match R.ev with | none => s2.pg.evPend | some e => bset s2.pg.evPend e } }

/-- The instances of a task with their positions, in image order (13 R358). -/
def taskInsts (s : State) (t : Nat) : List (Nat × List Byte) := (numbered (instElems s.cfg.run)).filter (fun kb => decide (iTask kb.2 = t))

/-- The instances of one slice (02 R42, 13 R386). -/
def sliceInsts (body : List Byte) (l : List (Nat × List Byte)) (k : Nat) : List (Nat × List Byte) :=
  let a := u32 body (16 + 4 * k)
  let n := u16 body 8
  let e := if k + 1 < n then u32 body (16 + 4 * (k + 1)) else l.length
  (l.drop a).take (e - a)

def taskSliced (body : List Byte) : Bool := (u8 body 6).testBit 0

/-- The task starts in the frame, or is in progress (02 R41, R42). -/
def taskRuns (s : State) (t : Nat) : Bool :=
  let b := cfgBody s 0x0701 t
  !b.isEmpty && ((taskSt s t).busy || decide (s.fr.frame % max (u16 b 0) 1 = u16 b 2))

/-- One task in one frame, stopped after `lim` blocks when given (02 R41, R42, R45). -/
def runTask (pts : Nat → Sig) (lim : Option Nat) (s : State) (t : Nat) : State :=
  let b := cfgBody s 0x0701 t
  let all := taskInsts s t
  let x := taskSt s t
  if taskSliced b then
    let s1 := if x.busy then s else setTask s t { x with busy := true, next := 0, img := s.fr.img }
    let x1 := taskSt s1 t
    let l := sliceInsts b all x1.next
    let n := lim.getD l.length
    let s2 := (l.take n).foldl (runInst pts x1.img) s1
    let x2 := taskSt s2 t
    if n < l.length then s2
    else if x2.next + 1 < u16 b 8 then setTask s2 t { x2 with next := x2.next + 1 }
    else
      let s3 := setTask s2 t { x2 with next := 0, busy := false, img := Image.init, scanned := true, due := true }
      { s3 with pg := { s3.pg with doneInsts := all.foldl (fun d kb => Tab.set d Inst.init kb.1 (instSt s3 kb.1)) s3.pg.doneInsts } }
  else
    let n := lim.getD all.length
    let s1 := (all.take n).foldl (runInst pts s.fr.img) s
    let x1 := taskSt s1 t
    setTask s1 t { x1 with due := true, scanned := x1.scanned || decide (all.length ≤ n) }

/-- An output write enters the working page (02 R42, 13 R364). -/
def applyOut (p : Page) (rv : Nat × Val) : Page :=
  let i := refIdx rv.1
  let sp := refSpace rv.1
  let v := rv.2
  if sp = 9 then { p with dos := Tab.set p.dos 0 i v.v }
  else if sp = 10 then { p with aos := Tab.set p.aos F64.nan i v.v }
  else if sp = 7 then { p with pts := Tab.ins p.pts i { v := v.v, q := v.q } }
  else if sp = 8 then putObjField p i v.v
  else p

/-- A BOOL written to a DO without FLAGS.PWM stands in the page as 0.0 or 1.0. -/
def outValue (s : State) (rv : Nat × Val) : Nat × Val :=
  if refSpace rv.1 = 9 ∧ doFlag s (refIdx rv.1) 0 = false then (rv.1, { rv.2 with v := F64.ofBool (rv.2.v != 0) }) else rv

/-- A task publishes (13 R364). -/
def publishTask (s : State) (t : Nat) : State :=
  let x := taskSt s t
  if !x.due then s
  else
    let s1 := setTask s t { x with lvars := [], lslots := [], outs := [], due := false }
    { s1 with
      pg := { s1.pg with vars := x.lvars.foldl (fun a kv => Tab.set a Val.init kv.1 kv.2) s1.pg.vars }
      ce := { s1.ce with slots := x.lslots.foldl (fun a kv => Tab.set a Sig.init kv.1 kv.2) s1.ce.slots }
      fr := { s1.fr with page := (x.outs.map (outValue s1)).foldl applyOut s1.fr.page } }

/-- The tasks of the configuration, in ascending number within descending priority (02 R41). -/
def taskOrder (s : State) : List Nat :=
  let ts := (List.range 16).filter (fun t => (cfgRec s 0x0701 t).isSome)
  (List.range 16).reverse.flatMap (fun p => ts.filter (fun t => decide (u8 (cfgBody s 0x0701 t) 4 = p)))

/-- The program phase (02 R35, R45; 13 R358): `stop` gives the blocks each task had run when a late phase was
stopped, none when the phase ended; `runs` the run times. What becomes of the variable and output writes of an unsliced task
that an overrun stopped is open (DESIGN CHOICE, notes/assumptions/140.md): they are kept, and published at the end of the
next program phase. -/
def programPhase (pts : Nat → Sig) (stop : Option (List (Nat × Nat))) (runs : List (Nat × Nat)) (s : State) : State :=
  let ts := (taskOrder s).filter (taskRuns s)
  let lim := fun t => stop.map (fun l => ((l.find? (fun x => decide (x.1 = t))).map (·.2)).getD 0)
  let s1 := ts.foldl (fun s t => runTask pts (lim t) s t) s
  let s2 := runs.foldl (fun s r => let x := taskSt s r.1; if ts.contains r.1 then setTask s r.1 { x with peak := max x.peak r.2 } else s) s1
  if stop.isSome then s2
  else
    let s3 := (List.range 16).foldl publishTask s2
    { s3 with pg := { s3.pg with phaseRan := true } }

/-! ### Requests (R372) -/

/-- A number as an index below `n`. -/
def idxOf (z : Int) (n : Nat) : Option Nat := if 0 ≤ z ∧ z < n then some z.toNat else none

/-- The opcode whose permission a request needs (13 R372). -/
def reqOp (r : Req) : Option Op :=
  if r.opc = 0x0801 then some .loopMode else if r.opc = 0x0802 then some .stopQueueEdit else if r.opc = 0x0803 then some .learnControl
  else if r.opc = 0x0804 then some (if r.b ≠ 0 then .injectStart else .injectStop) else if r.opc = 0x0805 then some .pfArm
  else if r.opc = 0x0809 then some .alarmAck else none

/-- The compare load of PF_COMPARE (10 R270, R277). -/
def pfCompareLoad (s : State) (c : Int) (cmp : F64) (sp cnt : Int) : State × Bool :=
  match idxOf c 8 with
  | none => (s, false)
  | some c =>
    let z := F64.toInt cmp
    if (cfgRec s 0x0403 c).isNone ∨ !F64.isFinite cmp ∨ z < -140737488355328 ∨ 140737488355327 < z ∨ sp < 1 ∨ 16777215 < sp ∨ cnt < 0 then (s, false)
    else (updPf s c (fun x => { x with cmpArmed := true, compare := BitVec.ofInt 48 z, spacing := sp.toNat, left := cnt.toNat }), true)

/-- Carries out a request: state, done, OUTCOME (13 R372). `ack` is the point engine's ALARM_ACK of one record. -/
def runReq (ack : State → Nat → State × Bool) (s : State) (r : Req) : State × Bool × Int :=
  let of := fun (x : State × Answer) => (x.1, decide (x.2.status = 0), (-1 : Int))
  let bad := (s, false, (-1 : Int))
  if !(match reqOp r with | none => true | some op => permits op s.md.mode s.md.recovery) then bad
  else if r.opc = 0x0801 then
    match idxOf r.a 64 with
    | none => bad
    | some lp => of (setLoopMode s lp (decide (r.b ≠ 0)) r.c)
  else if r.opc = 0x0802 then
    match idxOf r.a 512, idxOf r.b 3 with
    | some i, some act =>
      let z := F64.toInt r.c
      if act ≠ 2 ∧ (!F64.isFinite r.c ∨ z < -140737488355328 ∨ 140737488355327 < z) then bad
      else
        let x := stopEdit s i act z
        if x.2.status = 0 then (x.1, true, (u8 x.2.data 1 : Int)) else (x.1, false, if x.2.status = 0x21 then 4 else -1)
    | _, _ => bad
  else if r.opc = 0x0803 then
    match idxOf r.a 16, idxOf r.b 4 with
    | some l, some act => of (learnControl s l act)
    | _, _ => bad
  else if r.opc = 0x0804 then
    match idxOf r.a 512 with
    | none => bad
    | some i =>
      if r.b ≠ 0 then
        if s.sf.demand ∨ !(F64.gt r.c 0 && F64.le r.c F64.one) then bad else of (injStart s i 0 r.c)
      else of (injStopCmd s i)
  else if r.opc = 0x0805 then
    match idxOf r.a 8 with
    | none => bad
    | some c => let x := pfArmAt s c (decide (r.b ≠ 0)); (x.1, decide (x.2 = 0), -1)
  else if r.opc = 0x0806 then let x := pfCompareLoad s r.a r.c r.b r.d; (x.1, x.2, -1)
  else if r.opc = 0x0808 then
    match idxOf r.a 8 with
    | none => bad
    | some g => if (cfgRec s 0x0205 g).isNone then bad else (updGrp s g (fun x => { x with ackReq := true }), true, -1)
  else if r.opc = 0x0809 then
    match idxOf r.a 33554432 with
    | none => bad
    | some n => let x := ack s n; (x.1, x.2, -1)
  else bad

/-- The outcome of a request stands for the first run after the tick (13 R372). -/
def setReqResult (s : State) (k : Nat) (ok : Bool) (o : Int) : State :=
  let x := instSt s k
  setInst s k { x with res := if ok then 2 else 3, resO := o }

/-- Requests that act before the frame latch: PF arm, compare load, group acknowledgement (10 R253, R270; 08 R192). -/
def earlyReq (r : Req) : Bool := [0x0805, 0x0806, 0x0808].contains r.opc

/-- A request that waits and takes no effect at the tick was refused in the unit in control, in a frame that overran (13 R372, 17
R502). -/
def refuseAwaiting (s : State) : State :=
  { s with pg := { s.pg with insts := Tab.mapAll s.pg.insts Inst.init (fun _ x =>
      if x.stat = 1 ∧ x.res = 0 then { x with res := 3, resO := -1 } else x) } }

/-- The requests due at a tick, in block order (12 R316, 13 R372). -/
def tickReqs (early : Bool) (ack : State → Nat → State × Bool) (s : State) : State :=
  let l := (s.pg.reqs.filter (fun r => earlyReq r == early)).mergeSort (fun a b => decide (a.inst ≤ b.inst))
  let s0 := { s with pg := { s.pg with reqs := s.pg.reqs.filter (fun r => earlyReq r != early) } }
  let s1 := l.foldl (fun s r => let x := runReq ack s r; setReqResult x.1 r.inst x.2.1 x.2.2) s0
  if early then s1 else refuseAwaiting s1

/-- An overrun refuses the requests of its frame and drops its events (13 R372). -/
def overrunReqs (s : State) : State :=
  let s1 := s.pg.reqs.foldl (fun s r => setReqResult s r.inst false (-1)) s
  { s1 with pg := { s1.pg with reqs := [], evPend := 0, phaseRan := false } }

/-- EVENT bits are set at the commit of the frame (13 R372). -/
def commitEvents (s : State) : State :=
  { s with pg := { s.pg with event := s.pg.event ||| s.pg.evPend.setWidth 10, evPend := 0 } }

/-! ### The retentive journal (R374-R376) -/

/-- The retained variables and instances of a program by position (13 R374). -/
def retVars (l : List Rec) : List Nat := ((numbered (varElems l)).filter (fun kb => decide (vKind kb.2 = 1))).map (·.1)
def retInsts (l : List Rec) : List Nat :=
  ((numbered (instElems l)).filter (fun kb => (iFlags kb.2).testBit 2 && retainOp (iOpc kb.2))).map (·.1)

/-- The journal size (13 R375). -/
def journalBytes (l : List Rec) : Nat := 64 + 8 * (retVars l).length + 16 * (retInsts l).length

/-- Bytes 0-59 of a journal buffer (13 R375). -/
def journalHeader (j : Journal) : List Byte :=
  leBytes 4 j.magic ++ leBytes 4 j.imageCrc ++ leBytes 4 j.programId ++ leBytes 4 j.length ++ leBytes 8 j.frame ++ leBytes 4 j.nVars ++
    leBytes 4 j.nInsts ++ zeros 28

/-- The newest valid buffer: true for B (13 R375, R391). -/
def newestB (m : MramSt) : Bool := m.jB.valid && (!m.jA.valid || decide (m.jA.seq < m.jB.seq))

/-- An instance as the journal keeps it: el at the commit and the state; a restored timer that has not run since still has the el
it was restored with (13 R374). -/
def journalInst (now : Nat) (x : Inst) : Inst := if x.restored && !x.ran then x else { x with elRest := (now : Int) - x.start }

/-- The task of instance k is sliced. -/
def slicedInst (s : State) (b : List Byte) : Bool := taskSliced (cfgBody s 0x0701 (iTask b))

/-- The journal write of a commit (13 R374, R376): into the older buffer; a read-back that fails leaves it invalid. -/
def writeJournal (ok : Bool) (s : State) : State :=
  let m := s.mram
  let toB := !newestB m && m.jA.valid
  let es := instElems s.cfg.run
  let pick := fun k => if slicedInst s (es.getD k []) then Tab.get s.pg.doneInsts Inst.init k else instSt s k
  let j : Journal :=
    { valid := ok, magic := 0x4A524449, imageCrc := s.cfg.ids.2.1, programId := s.cfg.ids.2.2, length := journalBytes s.cfg.run - 64
      nVars := (retVars s.cfg.run).length, nInsts := (retInsts s.cfg.run).length, frame := s.fr.frame, seq := max m.jA.seq m.jB.seq + 1
      vars := (retVars s.cfg.run).map (fun v => (v, Tab.get s.pg.vars Val.init v))
      insts := (retInsts s.cfg.run).map (fun k => (k, journalInst s.fr.t10 (pick k))) }
  let s1 := { s with mram := if toB then { m with jB := j } else { m with jA := j } }
  if ok then s1
  else { s1 with pg := { s1.pg with fails := satInc32 s1.pg.fails, event := bset s1.pg.event 8 } }

/-! ### Starting a program (R377, R378, R384) -/

/-- Variables of a program at their INIT (13 R377). -/
def initVars (l : List Rec) : Tab Val := (numbered (varElems l)).foldl (fun t kb => Tab.set t Val.init kb.1 (vInit kb.2)) []

/-- Tasks at a start keep their peaks (13 R391). -/
def freshTasks (s : State) : Tab TaskSt := Tab.mapAll s.pg.tasks TaskSt.init (fun _ x => { TaskSt.init with peak := x.peak })

/-- An instance as restored from the journal (13 R374, R377). -/
def restoreInst (x : Inst) : Inst :=
  { Inst.init with restored := true, m1 := x.m1, m2 := x.m2, q := x.q, timing := x.timing, begun := x.begun, elRest := x.elRest, cv := x.cv, out := x.out }

/-- The program at the exit from CHECKING; `restore` takes retained items from the newest valid buffer (13 R377,
R378). -/
def startProgram (restore : Bool) (kind : Nat) (s : State) : State :=
  let m := s.mram
  let j := if newestB m then m.jB else m.jA
  let use := restore && j.valid
  let vars := initVars s.cfg.run
  let vars1 := if use then (((retVars s.cfg.run).zip (j.vars.map (·.2))).foldl (fun t kv => Tab.set t Val.init kv.1 kv.2) vars) else vars
  let insts : Tab Inst := if use then
      ((retInsts s.cfg.run).zip (j.insts.map (·.2))).foldl (fun t kx => Tab.set t Inst.init kx.1 (restoreInst kx.2)) [] else []
  { s with pg := { s.pg with vars := vars1, insts := insts, doneInsts := insts, tasks := freshTasks s, reqs := [], evPend := 0, restored := use,
                             start := kind, phaseRan := false } }

/-- State of a matched instance at a program exchange (13 R384). -/
def exchInst (x : Inst) : Inst := { x with stat := 0, outcome := -1, res := 0, resO := -1 }

/-- State of an instance that nothing matches (13 R384). -/
def newInst : Inst := { Inst.init with seed := true }

/-- Program exchange: `old` are the records of the old program; the staged configuration runs already (13 R384, R385). -/
def exchangeProgram (old : List Rec) (s : State) : State :=
  let oi := numbered (instElems old)
  let ov := numbered (varElems old)
  let ni := numbered (instElems s.cfg.run)
  let nv := numbered (varElems s.cfg.run)
  let mi := fun (b : List Byte) => oi.find? (fun kb => decide (iKey kb.2 = iKey b ∧ iOpc kb.2 = iOpc b ∧ iFlags kb.2 % 4 = iFlags b % 4))
  let mv := fun (b : List Byte) => ov.find? (fun kb => decide (vKey kb.2 = vKey b ∧ vType kb.2 = vType b))
  let insts := ni.foldl (fun t kb => Tab.set t Inst.init kb.1 (match mi kb.2 with | none => newInst | some o => exchInst (instSt s o.1))) []
  let vars := nv.foldl (fun t kb => Tab.set t Val.init kb.1 (match mv kb.2 with
    | none => vInit kb.2
    | some o => if vKind kb.2 = 2 then vInit kb.2 else Tab.get s.pg.vars Val.init o.1)) []
  let kept := (ni.filter (fun kb => (mi kb.2).isSome)).length
  let forces := s.cm.forces.filterMap (fun f =>
    if f.kind ≠ 3 then some f
    else match ov.find? (fun kb => decide (kb.1 = f.item)) with
      | none => none
      | some o => (nv.find? (fun kb => decide (vKey kb.2 = vKey o.2 ∧ vType kb.2 = vType o.2))).map (fun kb => { f with item := kb.1 }))
  { s with
    cm := { s.cm with forces := forces }
    pg := { s.pg with vars := vars, insts := insts, doneInsts := insts, tasks := freshTasks s, reqs := [], evPend := 0, start := 6,
                      kept := kept, fresh := ni.length - kept, dropped := oi.length - kept } }

/-! ### On-line change (R379-R381) -/

/-- The constant a VALUE_CHANGE entry addresses: KEY known, and the constant variable if PARAM addresses one
(13 R379). -/
def vcTarget (s : State) (key param : Nat) : Bool × Option Nat :=
  let vs := varElems s.cfg.run
  let isConst := fun v => decide (vKind (vs.getD v []) = 2) && decide (v < vs.length)
  match (numbered vs).find? (fun kb => decide (vKey kb.2 = key)), (numbered (instElems s.cfg.run)).find? (fun kb => decide (iKey kb.2 = key)) with
  | some v, _ => (true, if param = 0xFFFF ∧ isConst v.1 then some v.1 else none)
  | none, some i =>
    let n := ((findBlk (iOpc i.2)).map (fun L => L.ins.length)).getD 0
    let r := iPort i.2 param
    (true, if param < n ∧ param < 6 ∧ refSpace r = 1 ∧ isConst (refIdx r) then some (refIdx r) else none)
  | none, none => (false, none)

/-- Applies one change: the constant's value, or its shadow while forced (13 R380, R383). -/
def setConst (s : State) (v : Nat) (x : F64) : State := { s with pg := { s.pg with vars := Tab.set s.pg.vars Val.init v { v := x, q := .good } } }

/-- FORCE_ACTIVE at a tick (13 R390). -/
def tickForces (s : State) : State :=
  if s.cm.forces.isEmpty then s else { s with pg := { s.pg with event := bset s.pg.event 9 } }

/-- DIAG_TASK_PEAK_CLR (13 R391). -/
def doPeakClr (s : State) (v : Word) : State :=
  (bitsSet v.toNat 16).foldl (fun s t => setTask s t { taskSt s t with peak := 0 }) s

def execDiagTaskPeakClr (v : Word) (s : State) : Host.Outcome State Fault Refusal := done s (hostAccess s (fun s => doPeakClr s v))

/-- The registers of the program page (13 R391). -/
def pgRead (s : State) (off : Nat) : Nat :=
  let P := s.pg
  let m := s.mram
  if off = 0x4900 then P.event.toNat
  else if off = 0x4904 then (instElems s.cfg.run).length
  else if off = 0x4908 then (varElems s.cfg.run).length
  else if off = 0x490C then (ofBits 16 (fun t => (cfgRec s 0x0701 t).isSome)).toNat
  else if off = 0x4910 then s.cm.forces.length
  else if off = 0x4914 then (if hasCfg s then journalBytes s.cfg.run else 0)
  else if off = 0x4918 then b2n m.jA.valid + 2 * b2n m.jB.valid + 4 * b2n (newestB m) + 8 * b2n P.restored
  else if off = 0x491C then (if newestB m then m.jB.frame else if m.jA.valid then m.jA.frame else 0) % 2 ^ 32
  else if off = 0x4920 then P.fails
  else if off = 0x4924 then P.kept
  else if off = 0x4928 then P.fresh
  else if off = 0x492C then P.dropped
  else if 0x4940 ≤ off ∧ off < 0x4980 then (taskSt s ((off - 0x4940) / 4)).peak
  else if 0x4980 ≤ off ∧ off < 0x49C0 then
    let t := (off - 0x4980) / 4
    let b := cfgBody s 0x0701 t
    let x := taskSt s t
    if b.isEmpty then 0 else x.next + 1024 * b2n x.busy + 2048 + 4096 * u8 b 5 + 65536 * u8 b 4
  else 0

/-- Host writes to the program page (13 R391). -/
def pgWrite (s : State) (off : Nat) (v : Word) : State :=
  if off = 0x4900 then { s with pg := { s.pg with event := s.pg.event &&& ~~~ BitVec.ofNat 10 v.toNat } }
  else if off = 0x4930 then doPeakClr s v
  else s

end Sys2Proof.Machine
end

