-- ==== Sys2Proof/Machine/Points.lean ====
section
/-! DEFINITION. The point space (14): records, update queues, alarms, trends, subscriptions. -/

namespace Sys2Proof.Machine

/-- The POINT_RANGE elements of a configuration (14 R411). -/
def rangeElems (l : List Rec) : List (List Byte) := (elemsOf l 0x0A01 32).map (·.2.2)

def rgFirst (b : List Byte) : Nat := u32 b 0
def rgCount (b : List Byte) : Nat := u32 b 4
def rgKind (b : List Byte) : Nat := u8 b 8
def rgM (b : List Byte) : Nat := u16 b 10
/-- SOURCE_REF of a slot in a range; 0 for HOST and WRITTEN (14 R393, R411). -/
def rgRef (b : List Byte) (n : Nat) : Nat := if rgKind b = 1 ∨ rgKind b = 10 then 0 else u32 b 12 + (n - rgFirst b) * u32 b 16

/-- The range that holds slot n. -/
def rangeOf (l : List Rec) (n : Nat) : Option (List Byte) :=
  (rangeElems l).find? (fun b => decide (rgFirst b ≤ n ∧ n < rgFirst b + rgCount b))

/-- SOURCE_KIND of slot n; 0 NONE (14 R393). -/
def ptKind (s : State) (n : Nat) : Nat := ((rangeOf s.cfg.run n).map rgKind).getD 0

/-- The body of the alarm template of a range, none without one (14 R401). -/
def alarmTpl (l : List Rec) (b : List Byte) : Option (List Byte) := if u8 b 20 = 0xFF then none else (findRec l 0x0A02 (u8 b 20)).map (·.body)

/-- The body of the trend template of a range. -/
def trendTpl (l : List Rec) (b : List Byte) : Option (List Byte) := if u8 b 21 = 0xFF then none else (findRec l 0x0A03 (u8 b 21)).map (·.body)

/-- RING_LEN of a range; 0 without a trend (14 R413). -/
def ringLen (l : List Rec) (b : List Byte) : Nat := match trendTpl l b with | none => 0 | some t => 2 ^ u8 t 0

/-- RING_BASE of a slot: rings stand contiguously in image order of the ranges and ascending slot (14 R405). -/
def ringBase (l : List Rec) (n : Nat) : Nat :=
  let es := (rangeElems l).takeWhile (fun b => !decide (rgFirst b ≤ n ∧ n < rgFirst b + rgCount b))
  let before := (es.map (fun b => rgCount b * ringLen l b)).sum
  match rangeOf l n with
  | none => 0
  | some b => if ringLen l b = 0 then 0 else before + (n - rgFirst b) * ringLen l b

def point (s : State) (n : Nat) : Point := Tab.get s.pt.recs Point.init n
def setPoint (s : State) (n : Nat) (p : Point) : State := { s with pt := { s.pt with recs := Tab.set s.pt.recs Point.init n p } }

/-- A value prefetched in the gather phase of the frame running (14 R395, R396, R400): the value written at its tick, else the
record before any update of the frame before. -/
def prefetch (s : State) (n : Nat) : Sig :=
  let hits := ((s.pt.queues.filter (fun q => decide (q.frame = s.fr.frame))).flatMap (·.writes)).filter (fun w => decide (w.1 = n))
  let p := point s n
  let base : Sig := match hits.getLast? with
    | some w => { v := w.2, q := if F64.isFinite w.2 then .good else .bad }
    | none => { v := p.v, q := p.q }
  if s.pt.lateFor = some s.fr.frame then { base with q := .stale } else base

/-! ### Queues (R394) -/

/-- The slots of a range that are updated in frame n. -/
def dueSlots (b : List Byte) (n : Nat) : List Nat :=
  let m := max (rgM b) 1
  ((List.range (rgCount b)).map (fun i => rgFirst b + i)).filter (fun k => decide (n % m = k % m))

/-- T10_OFFSET saturates at its 32 bits (14 R392). -/
def off32 (z : Int) : Int := clampI z (-2147483648) 2147483647

/-- The update of an input kind with the values latched at the tick (14 R393). -/
def inUpd (s : State) (b : List Byte) (n : Nat) : PtUpd :=
  let I := s.fr.img
  let r := rgRef b n
  let k := rgKind b
  if k = 2 then { slot := n, v := F64.ofBool (I.di.toNat.testBit r), q := Tab.get I.diQ .good r, off := 0 }
  else if k = 3 then { slot := n, v := F64.ofBool (I.si.toNat.testBit r), q := Tab.get I.siQ .good r, off := 0 }
  else if k = 4 then
    let g := Tab.get I.ai { v := 0, q := .bad } r
    { slot := n, v := g.v, q := g.q, off := off32 (((Tab.get I.aiStamp 0 r : Nat) : Int) - (I.tick : Int)) }
  else if k = 5 then { slot := n, v := Tab.get I.aoRb 0 r, q := Tab.get I.aoQ .good r, off := 0 }
  else if k = 6 then
    let g := Tab.get I.pf PfImg.init (r / 16)
    let f := r % 16
    let x := pfField g f
    { slot := n, v := if f = 0 ∨ f = 2 then x.v else F64.ofNat x.v.toNat, q := g.qual
      off := if f = 0 ∨ f = 2 then off32 ((g.stamp : Int) - (I.tick : Int)) else 0 }
  else
    let o := Tab.get I.objs ObjSnap.init (bits r 13 14)
    { slot := n, v := objFieldReal r o.data, q := o.qual, off := if o.stored then off32 ((o.rxT10 : Int) - (I.tick : Int)) else 0 }

/-- The modes in which no point is queued (14 R394). -/
def queues_ (m : Mode) : Bool :=
  match m with
  | .reset => false | .boot => false | .unconfigured => false | .configured => false | .checking => false | _ => true

/-- A frame opens its queue; the input kinds are queued in its gather phase, the first `cut` of them where an overrun stops it
(14 R394, 02 R45). `writes` are the values written at its tick. -/
def openQueue (cut : Option Nat) (writes : List (Nat × F64)) (s : State) : State :=
  if !queues_ s.md.mode then s
  else
  let es := rangeElems s.cfg.run
  let ins := (es.filter (fun b => decide (2 ≤ rgKind b) && decide (rgKind b ≤ 7))).flatMap (fun b => (dueSlots b s.fr.frame).map (inUpd s b))
  let ins := ins.mergeSort (fun a b => decide (a.slot ≤ b.slot))
  let ins := match cut with | some n => ins.take n | none => ins
  { s with pt := { s.pt with queues := s.pt.queues ++ [{ frame := s.fr.frame, tick := s.fr.tick, ins := ins, outs := [], writes := writes }] } }

/-- The update of an output kind with the frozen page (14 R393, R394, R574); `doV` is the command of the output image. -/
def outUpd (doV : Nat → F64) (s : State) (b : List Byte) (n : Nat) : PtUpd :=
  let r := rgRef b n
  let k := rgKind b
  let p := point s n
  if k = 8 then
    { slot := n, v := doV r, q := if doCfg s r then Tab.get s.fr.img.doQ .good r else .bad
      off := off32 (((s.fr.tick + s.fr.fUs * s.fr.out / 10 : Nat) : Int) - (s.fr.tick : Int)) }
  else if !s.md.mode.allPhases then { slot := n, v := p.v, q := .stale, off := 0 }
  else if k = 9 then let g := Tab.get s.ce.endSlots Sig.init r; { slot := n, v := g.v, q := g.q, off := 0 }
  else match s.fr.page.pts.find? (fun x => decide (x.1 = n)) with
    | some x => { slot := n, v := x.2.v, q := x.2.q, off := 0 }
    | none => { slot := n, v := p.v, q := p.q, off := 0 }

/-- The output kinds are queued in the output transfer slot (14 R394). -/
def queueOuts (doV : Nat → F64) (s : State) : State :=
  let es := rangeElems s.cfg.run
  let outs := if queues_ s.md.mode then
      (es.filter (fun b => decide (8 ≤ rgKind b))).flatMap (fun b => (dueSlots b s.fr.frame).map (outUpd doV s b))
    else []
  let outs := outs.mergeSort (fun a b => decide (a.slot ≤ b.slot))
  { s with pt := { s.pt with queues := s.pt.queues.map (fun q => if q.frame = s.fr.frame then { q with outs := outs } else q) } }

/-! ### Budget of R398 -/

/-- The distinct points that engine feeds and block inputs read (02 R44, 14 R398). -/
def prefetched (l : List Rec) : List Nat :=
  let feeds := (recsOf l 0x0601).flatMap (fun r => (feedsOf r).filterMap (fun f => if f.2.1 = 4 then some f.2.2.2.1 else none))
  let blks := (instElems l).flatMap (fun b =>
    (List.range (((findBlk (iOpc b)).map (fun L => L.ins.length)).getD 0)).filterMap (fun j =>
      if refSpace (iPort b j) = 7 then some (refIdx (iPort b j)) else none))
  (feeds ++ blks).eraseDups

/-- Updates a frame at the worst: the sum over ranges of kinds 2-10 of ceil(count / update_m) (14 R398). -/
def ptU (l : List Rec) : Nat :=
  ((rangeElems l).map (fun b => if rgKind b < 2 then 0 else (rgCount b + max (rgM b) 1 - 1) / max (rgM b) 1)).sum

/-- DIAG_POINT_UNITS (14 R416). -/
def ptUnits (l : List Rec) : Nat := 9 * ptU l + 4 * (prefetched l).length

/-! ### Applying a queue (R397, R401-R404) -/

/-- The conditions HI, LO, DEV, RATE, BAD at an update (14 R401). -/
def alarmCond (fUs : Nat) (t : List Byte) (p : Point) (n : Nat) (v : F64) (q : Qual) : BitVec 5 :=
  let L := fun o => f64 t o
  let hyst := L 40
  if q = .bad ∨ q = .stale then bput p.cond 4 ((u8 t 50).testBit 0)
  else
    let was := fun i => p.cond.toNat.testBit i
    let hi := if was 0 then F64.gt v (F64.sub (L 0) hyst) else F64.gt v (L 0)
    let lo := if was 1 then F64.lt v (F64.add (L 8) hyst) else F64.lt v (L 8)
    let d := F64.abs (F64.sub v (L 16))
    let dev := if was 2 then F64.gt d (F64.sub (L 24) hyst) else F64.gt d (L 24)
    let dn := (n + 2 ^ 32 - p.prevFrame % 2 ^ 32) % 2 ^ 32
    let rate := if p.rateValid then
        F64.gt (F64.div (F64.mul (F64.abs (F64.sub v p.prev)) (F64.ofNat 1000000)) (F64.ofNat (dn * fUs))) (L 32)
      else was 3
    ofBits 5 (fun i => if i = 0 then hi else if i = 1 then lo else if i = 2 then dev else if i = 3 then rate else false)

/-- The active states (14 R402). -/
def alarmActive (st : Nat) : Bool := decide (st = 1) || decide (st = 2)

/-- The state after the active state changes to `raw` (14 R402). -/
def alarmNext (st : Nat) (raw : Bool) : Nat := if raw then 1 else if st = 1 then 3 else 0

/-- An entry of the alarm journal (14 R403). -/
def journalAdd (s : State) (t10 slot old new cond cause : Nat) : State :=
  let e : Sample := { a := BitVec.ofNat 64 (t10 % 2 ^ 60)
                      b := BitVec.ofNat 64 (slot + 2 ^ 32 * (old + 2 ^ 8 * (new + 2 ^ 8 * (cond + 2 ^ 8 * cause)))) }
  let j := s.pt.journal ++ [e]
  { s with pt := { s.pt with journal := j.drop (j.length - 65536), journalN := s.pt.journalN + 1 } }

/-- T10 of a value: the tick of its frame plus the offset (14 R404). -/
def valueT10 (tick : Nat) (off : Int) : Nat := ((tick : Int) + off).toNat

/-- One update of a record (14 R397). -/
def applyUpd (frame tick : Nat) (s : State) (u : PtUpd) : State :=
  match rangeOf s.cfg.run u.slot with
  | none => s
  | some b =>
    let p := point s u.slot
    let changed := decide (u.q ≠ p.q) || !(F64.le (F64.abs (F64.sub u.v p.v)) (f64 b 24))
    let p1 := { p with frame := frame, off := u.off, v := if changed then u.v else p.v, q := u.q }
    let tpl := alarmTpl s.cfg.run b
    let cond : BitVec 5 := match tpl with | none => (0 : BitVec 5) | some t => alarmCond s.fr.fUs t p frame u.v u.q
    let raw := tpl.isSome && decide (cond ≠ 0)
    let delay := match tpl with | none => 0 | some t => u16 t 48
    let act := alarmActive p.alarm
    let flip := tpl.isSome && (raw != act) && decide (delay ≤ p.used)
    let used := if tpl.isNone || raw == act || flip then 0 else p.used + 1
    let alarm := if flip then alarmNext p.alarm raw else p.alarm
    let p2 := { p1 with cond := cond, used := used, alarm := alarm }
    let s1 := if flip then
        let s1 := journalAdd s (valueT10 tick u.off) u.slot p.alarm alarm cond.toNat 0
        { s1 with pt := { s1.pt with event := bset s1.pt.event (if raw then 0 else 1) } }
      else s
    let len := ringLen s.cfg.run b
    let gap := match trendTpl s.cfg.run b with | none => 0 | some t => u16 t 2
    let append := decide (0 < len) && (changed || flip ||
      (decide (gap ≠ 0) && decide (gap ≤ (frame + 2 ^ 32 - p.lastTrend % 2 ^ 32) % 2 ^ 32)))
    let sm : Sample := { a := BitVec.ofNat 64 (valueT10 tick u.off % 2 ^ 60 + 2 ^ 60 * u.q.num + 2 ^ 63 * b2n (alarmActive alarm)), b := p2.v }
    let p3 := { p2 with prev := u.v, prevFrame := frame % 2 ^ 32, rateValid := true
                        lastTrend := if append then frame % 2 ^ 32 else p2.lastTrend
                        ringHead := if append then (p2.ringHead + 1) % 2 ^ 32 else p2.ringHead }
    let s2 := setPoint s1 u.slot p3
    if append then
      let r := Tab.get s2.pt.rings [] u.slot ++ [sm]
      { s2 with pt := { s2.pt with rings := Tab.set s2.pt.rings [] u.slot (r.drop (r.length - len)) } }
    else s2

/-- An acknowledgement of one record (14 R402): the state, and whether it changed. -/
def ackPoint (tick : Nat) (s : State) (n : Nat) : State × Bool :=
  let p := point s n
  let new := if p.alarm = 1 then 2 else if p.alarm = 3 then 0 else p.alarm
  if new = p.alarm then (s, false)
  else
    let s1 := journalAdd (setPoint s n { p with alarm := new }) tick n p.alarm new p.cond.toNat 1
    ({ s1 with pt := { s1.pt with event := bset s1.pt.event 2 } }, true)

/-- One acknowledgement job advanced by at most `k` records (14 R396). -/
def ackRun (s : State) (j : AckJob) : Nat → State × AckJob
  | 0 => (s, j)
  | k + 1 =>
    if j.left = 0 then (s, j)
    else
      let r := ackPoint j.tick s j.slot
      ackRun r.1 { j with slot := j.slot + 1, left := j.left - 1, acked := j.acked + b2n r.2 } k

/-- The acknowledgements use the host actions that remain in a frame, in order (14 R396). -/
def ackAll (frame : Nat) (budget : Nat) (s : State) : List AckJob → State × List AckJob × Nat
  | [] => (s, [], budget)
  | j :: r =>
    if frame < j.frame then (s, j :: r, budget)
    else
      let n := min j.left budget
      let a := ackRun s j n
      let b := ackAll frame (budget - n) a.1 r
      (b.1, a.2 :: b.2.1, b.2.2)

/-- H, the host actions of a frame (14 R396). -/
def hostMax (s : State) : Nat := 2 * s.fr.fUs

/-- Points whose ALARM_STATE satisfies `f`. -/
def alarmCount (s : State) (f : Nat → Bool) : Nat := (s.pt.recs.filter (fun kv => f kv.2.alarm)).length

/-- DIAG_ALARM_ACTIVE and DIAG_ALARM_UNACK (14 R416). -/
def alarmCounts (s : State) : List Nat := [alarmCount s alarmActive, alarmCount s (fun a => decide (a = 1) || decide (a = 3))]

/-- The registers that change when a queue is finished, CONFIGURED to LIMIT and JOURNAL, LATE (14 R416). -/
def ptRegs (s : State) : List Nat :=
  [((rangeElems s.cfg.run).map rgCount).sum, ptUnits s.cfg.run, if hasCfg s then 126 * s.fr.fUs else 0, s.pt.journalN % 2 ^ 32, s.pt.late]

/-- The point engine applies one queue (14 R395). -/
def applyQueue (q : PtQueue) (s : State) : State :=
  let s1 := q.ins.foldl (applyUpd q.frame q.tick) s
  let s2 := q.outs.foldl (applyUpd q.frame q.tick) s1
  let wr : Nat × F64 → PtUpd := fun w => { slot := w.1, v := w.2, q := if F64.isFinite w.2 then .good else .bad, off := 0 }
  let s3 := (q.writes.map wr).foldl (applyUpd q.frame q.tick) s2
  let a := ackAll q.frame (hostMax s - q.writes.length) s3 s3.pt.acks
  let pend := (a.2.1.map (·.left)).sum
  { a.1 with pt := { a.1.pt with
      acks := a.2.1
      shown := ptRegs a.1
      counts := alarmCounts a.1
      applied := some q.frame
      appliedLate := decide (q.frame + 2 ≤ s.fr.frame)
      hostN := hostMax s - a.2.2
      ackReg := pend
      subReg := ofBits 32 (fun i => (Tab.get s.cm.subs none i).isSome) } }

/-- A queue is late at the tick of frame `n` (14 R400). -/
def queueLate (s : State) (n : Nat) : Bool := match s.pt.queues with | [] => false | q :: _ => decide (q.frame + 2 ≤ n)

/-- What a late queue does at the tick of frame `n` (14 R400). -/
def markLate (n : Nat) (s : State) : State :=
  if queueLate s n && decide (s.pt.lateFor ≠ some n) && decide (s.md.mode ≠ .checking) then
    let s1 := if s.pt.event.toNat.testBit 3 then pushLog s 116 0xFFFF 1 else s
    { s1 with pt := { s1.pt with lateFor := some n, late := satInc32 s1.pt.late, event := bset s1.pt.event 3 } }
  else s

/-- POINT_QUEUE_LATE (14 R400): the queue of frame n is not finished at tick n + 2, the next one. -/
def doPointLate (s : State) : State := markLate (s.fr.frame + 1) s

def execPointQueueLate (s : State) : Host.Outcome State Fault Refusal := done s (doPointLate s)

/-! ### Records as bytes (R392) -/

/-- The 128 bytes of a record (14 R392). -/
def recBytes (s : State) (n : Nat) : List Byte :=
  let p := point s n
  match rangeOf s.cfg.run n with
  | none => leBytes 8 0 ++ [BitVec.ofNat 8 2] ++ zeros 119
  | some b =>
    let al := alarmTpl s.cfg.run b
    let a := al.getD (zeros 56)
    let lim := fun (o : Nat) => if al.isSome then (a.drop o).take 8 else zeros 8
    let len := ringLen s.cfg.run b
    let fl := b2n al.isSome + 2 * b2n (decide (0 < len)) + 4 * b2n (al.isSome && (u8 a 50).testBit 0) + 8 * b2n p.rateValid
    let gap := match trendTpl s.cfg.run b with | none => 0 | some t => u16 t 2
    let delay := if al.isSome then u16 a 48 else 0
    leBytes 8 p.v.toNat ++ leBytes 1 p.q.num ++ leBytes 1 p.alarm ++ leBytes 1 (rgKind b) ++ leBytes 1 fl ++ leBytes 4 (unsigned 32 p.off) ++
    leBytes 8 p.frame ++ leBytes 4 (rgRef b n) ++ leBytes 1 p.cond.toNat ++ zeros 1 ++ leBytes 2 (delay - p.used) ++
    (b.drop 24).take 8 ++ lim 0 ++ lim 8 ++ lim 16 ++ lim 24 ++ lim 32 ++ lim 40 ++ leBytes 2 delay ++ leBytes 2 gap ++
    leBytes 4 p.lastTrend ++ leBytes 8 p.prev.toNat ++ leBytes 4 p.prevFrame ++ zeros 4 ++
    leBytes 4 (ringBase s.cfg.run n) ++ leBytes 4 len ++ leBytes 4 p.ringHead ++ zeros 4

/-! ### Subscriptions (R407-R409) -/

/-- The segment of a snapshot (14 R408). -/
def snapBytes (s : State) (id : Nat) (x : Sub) (frame : Nat) : List Byte :=
  leBytes 2 id ++ leBytes 2 x.count ++ leBytes 4 x.seq ++ leBytes 8 frame ++ leBytes 4 x.missed ++ leBytes 4 x.first ++ zeros 40 ++
  (List.range x.count).flatMap (fun i => (recBytes s (x.first + i)).take 32)

/-- SUBSCRIPTION_SNAPSHOT (14 R407-R409): the snapshot of the frame applied last, when it is due. -/
def doSnapshot (s : State) (id : Nat) : State :=
  match Tab.get s.cm.subs none id, s.pt.applied with
  | some x, some n =>
    if n < x.n0 ∨ n < x.handled ∨ (n - x.n0) % max x.decim 1 ≠ 0 then s
    else
      let put := fun (s : State) (y : Sub) => { s with cm := { s.cm with subs := Tab.set s.cm.subs none id (some y) } }
      let seg := x.segFirst + x.next
      if s.pt.appliedLate then put s { x with handled := n + 1, missed := x.missed + 1 }
      else if !(dirOf s seg).dev then
        let s1 := put s { x with handled := n + 1, missed := x.missed + 1 }
        { s1 with pt := { s1.pt with subOvr := bset s1.pt.subOvr id } }
      else
        let s1 := winWrite s (seg * 65536) (snapBytes s id x n)
        let s2 := put s1 { x with handled := n + 1, missed := 0, seq := x.seq + 1, next := (x.next + 1) % max x.segCount 1 }
        handback s2 x.target (some 64) seg
  | _, _ => s

def execSubscriptionSnapshot (id : Fin 32) (s : State) : Host.Outcome State Fault Refusal := done s (doSnapshot s id.val)

/-- The snapshots of the frame applied last that are due and were not sent come before the next queue (14 R407, R408). -/
def dueSnapshots (s : State) : State := (List.range 32).foldl doSnapshot s

/-- POINT_ENGINE_QUEUE (14 R395): the oldest queue whose frame has ended is applied, after the gather phase of the frame
running, which a tracking standby holds at its deadline. -/
def doPointQueue (s0 : State) : State :=
  match s0.pt.queues with
  | [] => s0
  | q :: r =>
    if q.frame < s0.fr.frame ∧ s0.md.mode ≠ .checking ∧ s0.gr.waiting = false then
      let s := dueSnapshots s0
      applyQueue q { s with pt := { s.pt with queues := r } }
    else s0

def execPointEngineQueue (s : State) : Host.Outcome State Fault Refusal := done s (doPointQueue s)

/-- A subscription ends: its segments that the device still owns are handed back (06 R148). -/
def endSub (s : State) (id : Nat) : State :=
  match Tab.get s.cm.subs none id with
  | none => s
  | some x =>
    let s1 := { s with cm := { s.cm with subs := Tab.set s.cm.subs none id none } }
    (subSegs x).foldl (fun s n => if (dirOf s n).dev then handback s x.target none n else s) s1

/-- Every subscription ends: entry into CHECKING, UNCONFIGURED, CONFIGURED (06 R148). -/
def endSubs (s : State) : State := (List.range 32).foldl endSub s

/-! ### Start (R410) -/

/-- The points at the exit from CHECKING; `old` are the records enabled before (03 R78, 14 R410). -/
def startPoints (cold : Bool) (old : List Rec) (s : State) : State :=
  let new := s.cfg.run
  let slots := (rangeElems new).flatMap (fun b => (List.range (rgCount b)).map (fun i => rgFirst b + i))
  let src := fun (l : List Rec) n => (rangeOf l n).map (fun b => (rgKind b, rgRef b n))
  let tplOf := fun (l : List Rec) n => (rangeOf l n).bind (alarmTpl l)
  let keep := fun n => !cold && decide (src old n = src new n)
  let recs := slots.foldl (fun (t : Tab Point) n =>
    if keep n then
      let p := point s n
      let a := if tplOf old n = tplOf new n then p else { p with alarm := 0, used := 0 }
      Tab.set t Point.init n { a with q := .stale }
    else t) []
  let ringKept := fun n => keep n && decide (ringBase old n = ringBase new n) &&
    decide ((rangeOf old n).map (ringLen old) = (rangeOf new n).map (ringLen new))
  let rings := slots.foldl (fun (t : Tab (List Sample)) n => if ringKept n then Tab.set t [] n (Tab.get s.pt.rings [] n) else t) []
  let recs1 := slots.foldl (fun (t : Tab Point) n => if keep n && !ringKept n then Tab.upd t Point.init n (fun p => { p with ringHead := 0 }) else t) recs
  let s1 := { s with
    pt := { s.pt with recs := recs1, rings := rings, journal := if cold then [] else s.pt.journal, queues := [], acks := [], applied := none, lateFor := none, appliedLate := false }
    fr := { s.fr with page := { s.fr.page with pts := [] } } }
  { s1 with pt := { s1.pt with counts := alarmCounts s1 } }

/-! ### Registers -/

/-- The registers of the points page (14 R416). -/
def ptRead (s : State) (off : Nat) : Nat :=
  let P := s.pt
  if off = 0x4B00 then P.event.toNat
  else if off = 0x4B04 then P.subOvr.toNat
  else if off = 0x4B08 then P.subReg.toNat
  else if off = 0x4B0C then P.shown.getD 0 0
  else if off = 0x4B10 then P.shown.getD 1 0
  else if off = 0x4B14 then P.shown.getD 2 0
  else if off = 0x4B18 then P.hostN
  else if off = 0x4B1C then P.ackReg
  else if off = 0x4B20 then P.counts.getD 0 0
  else if off = 0x4B24 then P.counts.getD 1 0
  else if off = 0x4B28 then P.shown.getD 3 0
  else if off = 0x4B2C then P.shown.getD 4 0
  else 0

/-- Host writes to the points page (14 R416). -/
def ptWrite (s : State) (off : Nat) (v : Word) : State :=
  if off = 0x4B00 then { s with pt := { s.pt with event := s.pt.event &&& ~~~ BitVec.ofNat 4 v.toNat } }
  else if off = 0x4B04 then { s with pt := { s.pt with subOvr := s.pt.subOvr &&& ~~~ v } }
  else s

/-- The point engine's acknowledgement of one record by a block, from a tick on (13 R372, 14 R396). -/
def blockAck (s : State) (n : Nat) : State × Bool :=
  ({ s with pt := { s.pt with acks := s.pt.acks ++ [{ tag := none, slot := n, left := 1, acked := 0, frame := s.fr.frame, tick := s.fr.tick }] } }, true)

/-- Block acknowledgements that are done leave the list. -/
def dropBlockAcks (s : State) : State := { s with pt := { s.pt with acks := s.pt.acks.filter (fun j => !(j.tag.isNone && j.left == 0)) } }

end Sys2Proof.Machine
end

