-- ==== Sys2Proof/Machine/Bus.lean ====
section
/-! DEFINITION. The bus ports (15): port states, message objects, templates and nodes, transmission, error
confinement. -/

namespace Sys2Proof.Machine

def port (s : State) (p : Nat) : Port := Tab.get s.bus.ports Port.init p
def updPort (s : State) (p : Nat) (f : Port → Port) : State := { s with bus := { s.bus with ports := Tab.upd s.bus.ports Port.init p f } }
def txq (s : State) (p : Nat) : List TxFrame := Tab.get s.bus.txq [] p
def setTxq (s : State) (p : Nat) (q : List TxFrame) : State := { s with bus := { s.bus with txq := Tab.set s.bus.txq [] p q } }
def node (s : State) (n : Nat) : Node := Tab.get s.bus.nodes Node.init n
def setNode (s : State) (n : Nat) (x : Node) : State := { s with bus := { s.bus with nodes := Tab.set s.bus.nodes Node.init n x } }

/-- Bit p of field k of DIAG_BUS_EVENT0 (15 R448). -/
def busEvent (s : State) (k p : Nat) : State := { s with bus := { s.bus with event := bset s.bus.event (4 * k + p) } }

/-- BUS_PORT of a port and its fields (15 R443). -/
def portBody (s : State) (p : Nat) : List Byte := cfgBody s 0x0501 p
def portCfg (s : State) (p : Nat) : Bool := (cfgRec s 0x0501 p).isSome
def portFlag (s : State) (p i : Nat) : Bool := (u8 (portBody s p) 0).testBit i

/-- STATIC_OBJECT elements in image order (15 R423, R444). -/
def objElems (l : List Rec) : List (List Byte) := (elemsOf l 0x0502 16).map (·.2.2)
def soPort (b : List Byte) : Nat := u8 b 0
def soFlag (b : List Byte) (i : Nat) : Bool := (u8 b 1).testBit i
def soLen (b : List Byte) : Nat := u8 b 2
def soKey (b : List Byte) : Nat := canKey (soPort b) (soFlag b 1) (u32 b 4)

/-- Normal operation: ERROR_ACTIVE or ERROR_PASSIVE (15 R420). -/
def normalOp (x : Port) : Bool := decide (x.st = 3) || decide (x.st = 4)
/-- The states in which a port receives (15 R420). -/
def receives (x : Port) : Bool := decide (1 ≤ x.st) && decide (x.st ≤ 4)

/-- The state of a port in normal operation by its counters (15 R420, R437). -/
def confState (tec rec : Nat) : Nat := if 255 < tec then 5 else if 128 ≤ tec ∨ 128 ≤ rec then 4 else 3

/-- The frame with the lowest order value is on the bus when none is (15 R430). -/
def offer (q : List TxFrame) : List TxFrame :=
  if q.any (·.onBus) then q
  else
    let best := q.foldl (fun (m : Option Nat) (f : TxFrame) => match m with | none => some f.order | some o => some (min o f.order)) none
    match q.findIdx? (fun f => decide (some f.order = best)) with
    | none => q
    | some i => (numberedQ q).map (fun (p : Nat × TxFrame) => if p.1 = i then { p.2 with onBus := true } else p.2)
where
  /-- Frames with their positions. -/
  numberedQ (q : List TxFrame) : List (Nat × TxFrame) := (List.range q.length).zip q

/-- Entries into ERROR_PASSIVE and BUS_OFF with new counters (15 R437). -/
def confine (s : State) (p tec rec : Nat) : State :=
  let x := port s p
  let st := confState tec rec
  let s1 := updPort s p (fun x => { x with tecN := tec, recN := rec, st := st, offAt := if st = 5 then s.fr.t10 else x.offAt })
  let s2 := if st = 5 then setTxq s1 p [] else s1
  if st = 4 ∧ x.st = 3 then busEvent s2 4 p else if st = 5 then busEvent s2 5 p else s2

/-- A port starts normal operation after a join or from RESTRICTED (15 R421, R422). -/
def goNormal (s : State) (p : Nat) : State :=
  let x := port s p
  confine (updPort s p (fun x => { x with st := 3 })) p x.tecN x.recN

/-- A join is over (15 R422). -/
def joinOver (s : State) (p : Nat) : Bool :=
  let x := port s p
  decide (x.st = 1) && (decide (u8 (portBody s p) 12 ≤ x.joinRx) ||
    (decide (x.joinRx = 0) && decide (x.joinFrom + u16 (portBody s p) 14 * 100000 ≤ s.fr.t10)))

/-- The transmit gate of a port (15 R429). -/
def txGate (s : State) (p : Nat) : Bool := hasControl s && normalOp (port s p)

/-- A gate that opens inside a frame opens in that frame, the first of R428. -/
def openInFrame (s : State) (p : Nat) : State := if txGate s p then updPort s p (fun x => { x with gate := true }) else s

/-- JOIN_END (15 R422). -/
def doJoinEnd (s0 : State) (p dt : Nat) : State :=
  let s := advance s0 dt
  if joinOver s p then openInFrame (goNormal s p) p else s

def execJoinEnd (p : Fin 4) (dt : Nat) (s : State) : Host.Outcome State Fault Refusal := done s (doJoinEnd s p.val dt)

/-- A port leaves OFFLINE: JOINING, or at once normal with JOIN_FRAMES = 0; nothing is stored since (15 R421, R422, R426). -/
def startJoin (s : State) (p : Nat) : State :=
  let objs := (objElems s.cfg.run)
  let s1 := { s with bus := { s.bus with objs := Tab.mapAll s.bus.objs Obj.init (fun k o => if soPort (objs.getD k []) = p then { o with stored := false } else o) } }
  let s2 := updPort s1 p (fun x => { x with st := 1, joinRx := 0, joinFrom := s.fr.t10, tecN := 0, recN := 0, alone := false, ackRun := 0, lastRx := s.fr.t10 })
  if u8 (portBody s p) 12 = 0 then goNormal s2 p else s2

/-- A port goes OFFLINE: its queue is emptied, a frame on the bus is completed first (15 R440). -/
def goOffline (s : State) (p : Nat) : State :=
  setTxq (updPort s p (fun x => { x with st := 0, alone := false })) p ((txq s p).filter (·.onBus))

/-- The modes in which a port is in normal operation (15 R421). -/
def busMode (m : Mode) : Bool :=
  match m with
  | .active => true | .handover => true | .degraded => true | .safeHold => true | .service => true | .lockout => true | _ => false

/-- The mode behaviour of a port at a tick (15 R421). -/
def portMode (s : State) (p : Nat) : State :=
  let x := port s p
  if !portCfg s p ∨ x.offCmd ∨ !(busMode s.md.mode || decide (s.md.mode = .standby)) then
    if x.st = 0 then s else goOffline s p
  else
    let out := decide (x.st = 0)
    if s.md.mode = .standby ∨ portFlag s p 4 then
      if x.st = 2 then s
      else
        let s1 := if out then startJoin s p else s
        setTxq (updPort s1 p (fun x => { x with st := 2 })) p ((txq s1 p).filter (·.onBus))
    else if out then startJoin s p
    else if x.st = 2 then goNormal s p
    else s

/-- The gate of a port at a tick: a gate that closes removes every queued frame not on the bus (15 R429). -/
def portGate (s : State) (p : Nat) : State :=
  let g := txGate s p
  let x := port s p
  let s1 := if x.gate && !g then setTxq s p ((txq s p).filter (·.onBus)) else s
  updPort s1 p (fun x => { x with gate := g, wasOpen := x.gate })

/-- A node that has been silent too long at T10 `t` (15 R433). -/
def nodeSilent (s : State) (t n : Nat) : Bool :=
  let x := node s n
  decide (x.st = 1) && decide (x.lastT10 + u16 (cfgBody s 0x0503 x.tmpl) 14 * 100000 < t)

/-- A node becomes LOST (15 R433). -/
def loseNode (s : State) (n : Nat) : State :=
  let x := node s n
  busEvent (setNode s n { x with st := 2 }) 1 x.port

/-- NODE_LOST (15 R433): the node will have been silent too long at the next tick. -/
def doNodeLost (s : State) (n : Nat) : State := if nodeSilent s s.fr.next n then loseNode s n else s

def execNodeLost (n : Nat) (s : State) : Host.Outcome State Fault Refusal := done s (doNodeLost s n)

/-! ### Lookup and placement (R435) -/

/-- The two buckets of a key (15 R435). -/
def bucket1 (k : Nat) : Nat := (k ^^^ (k / 2 ^ 12) ^^^ (k / 2 ^ 24)) % 4096
def bucket2 (k : Nat) : Nat :=
  let h := ((k / 2 ^ 7) ^^^ (k / 2 ^ 19) ^^^ (k * 32 % 2 ^ 32)) % 4096
  if h = bucket1 k then h ^^^ 1 else h

/-- The bucket an object is placed in beside the ones placed, 4,096 for the table of 64, none without a place (15 R435). -/
def placeKey (placed : List Nat) (k : Nat) : Option Nat :=
  let n := fun b => (placed.filter (fun x => decide (x = b))).length
  let a := bucket1 k
  let b := bucket2 k
  let c := if n b < n a then b else a
  if n c < 4 then some c else if n 4096 < 64 then some 4096 else none

/-- The places of the static objects, in image order; an object that cannot be placed ends the list (15 R435). -/
def placeStatics : List Nat → List Nat → List Nat
  | placed, [] => placed
  | placed, k :: r => match placeKey placed k with | none => placed | some b => placeStatics (placed ++ [b]) r

def staticPlaces (l : List Rec) : List Nat := placeStatics [] ((objElems l).map soKey)

/-- Every place in use. -/
def placesUsed (s : State) : List Nat := staticPlaces s.cfg.run ++ s.bus.dyns.map (·.place)

/-! ### Reception (R424, R425, R431-R433) -/

/-- The receive safe message whose filter a frame matches, and whether it is copy B (16 R464, 15 R424). -/
def safeMatch (s : State) (p : Nat) (ide : Bool) (id : Nat) : Option (Nat × Bool) :=
  (recsOf s.cfg.run 0x0806).findSome? (fun r =>
    let b := r.body
    let hit := fun (k o : Nat) => decide (p = 2 * u8 b 1 + k) && decide (u32 b o = id) && ((u8 b 2).testBit 0 == ide)
    if u8 b 0 ≠ 0 then none else if hit 0 4 then some (r.idx, false) else if hit 1 8 then some (r.idx, true) else none)

/-- A frame stored in an object (15 R425). -/
def storeObj (t : Nat) (data : List Byte) (o : Obj) : Obj :=
  { stored := true, data := data, rxT10 := t, isNew := true, lost := o.lost || o.isNew }

/-- The template a frame fits: number and node number (15 R431). -/
def fitTemplate (s : State) (p : Nat) (ide : Bool) (id : Nat) (fdf : Bool) (len : Nat) : Option (Nat × Nat) :=
  (recsOf s.cfg.run 0x0503).findSome? (fun r =>
    let b := r.body
    let n := bits id (u8 b 8) (u8 b 9)
    if u8 b 0 = p ∧ (u8 b 1).testBit 1 = ide ∧ (u8 b 1).testBit 2 = fdf ∧ u8 b 2 = len ∧
        id - n * 2 ^ (u8 b 8) = u32 b 4 ∧ u16 b 10 ≤ n ∧ n ≤ u16 b 12 then some (r.idx, n) else none)

/-- The node entry of a port, group and node number. -/
def findNode (s : State) (p g n : Nat) : Option Nat :=
  (s.bus.nodes.find? (fun kv => decide (kv.2.st ≠ 0 ∧ kv.2.port = p ∧ kv.2.group = g ∧ kv.2.node = n))).map (·.1)

/-- The lowest free node entry (15 R432). -/
def freeNode (s : State) : Option Nat := (List.range 4096).find? (fun n => decide ((node s n).st = 0))

/-- The frame a node sent updates its entry (15 R433, R441). -/
def nodeFrame (s : State) (n : Nat) (ide : Bool) (id : Nat) (fdf : Bool) (data : List Byte) (tmpl : Nat) (lost : Bool) : State :=
  let x := node s n
  let back := decide (x.st = 2)
  let s1 := setNode s n { x with st := 1, lastT10 := s.fr.t10, frames := satInc32 x.frames
                                 lostCount := if lost then satInc32 x.lostCount else x.lostCount
                                 lastId := id + 2 ^ 29 * b2n ide + 2 ^ 30 * b2n fdf, lastLen := data.length, tmpl := tmpl
                                 joins := if back then satInc32 x.joins else x.joins, payload := data }
  if back then busEvent s1 0 x.port else s1

/-- A refused dynamic object (15 R432). -/
def refuseDyn (s : State) (p : Nat) : State :=
  busEvent { s with bus := { s.bus with refused := satInc32 s.bus.refused } } 2 p

/-- A frame of a template that matches no object (15 R432). -/
def newDyn (s : State) (p : Nat) (ide : Bool) (id : Nat) (fdf : Bool) (data : List Byte) (t n : Nat) : State :=
  let tb := cfgBody s 0x0503 t
  let g := u8 tb 3
  let e := match findNode s p g n with
    | some k => some (s, k)
    | none => (freeNode s).map (fun k =>
        (busEvent (setNode s k { Node.init with port := p, group := g, st := 1, node := n, firstT10 := s.fr.t10, lastT10 := s.fr.t10, tmpl := t, joins := 1 }) 0 p, k))
  match e with
  | none => refuseDyn s p
  | some (s1, k) =>
    let mine := (s1.bus.dyns.filter (fun d => d.reserved && decide (d.tmpl = t))).length
    let common := (s1.bus.dyns.filter (fun d => !d.reserved)).length
    let sumR := ((recsOf s1.cfg.run 0x0503).map (fun r => u16 r.body 16)).sum
    let fromR := decide (mine < u16 tb 16)
    let room := fromR || decide ((objElems s1.cfg.run).length + sumR + common < 16384)
    match if room then placeKey (placesUsed s1) (canKey p ide id) else none with
    | none => refuseDyn s1 p
    | some b =>
      let d : DynObj := { key := canKey p ide id, tmpl := t, node := k, reserved := fromR, place := b, o := storeObj s1.fr.t10 data Obj.init }
      let s2 := { s1 with bus := { s1.bus with dyns := s1.bus.dyns ++ [d] } }
      let s3 := setNode s2 k { node s2 k with objects := (node s2 k).objects + 1 }
      nodeFrame s3 k ide id fdf data t false

/-- The counters of discarded and of unmatched frames (15 R448). -/
def countDropped (s : State) (p : Nat) : State := updPort s p (fun x => { x with dropped := satInc 0xFFFF x.dropped })
def countUnmatched (s : State) (p : Nat) : State := updPort s p (fun x => { x with unmatched := satInc 0xFFFF x.unmatched })

/-- The look-up of a data frame in the pool (15 R424). -/
def lookupFrame (s : State) (p : Nat) (ide : Bool) (id : Nat) (fdf : Bool) (data : List Byte) : State :=
  let k := canKey p ide id
  match (numbered (objElems s.cfg.run)).find? (fun kb => decide (soKey kb.2 = k)) with
  | some kb =>
    let b := kb.2
    if soFlag b 0 then countUnmatched s p
    else if soFlag b 2 ≠ fdf ∨ soLen b ≠ data.length then countDropped s p
    else
      let o := Tab.get s.bus.objs Obj.init kb.1
      let n := storeObj s.fr.t10 data o
      let s1 := { s with bus := { s.bus with objs := Tab.set s.bus.objs Obj.init kb.1 n } }
      if o.isNew && soFlag b 4 then busEvent s1 6 p else s1
  | none =>
    match s.bus.dyns.find? (fun d => decide (d.key = k)) with
    | some d =>
      let tb := cfgBody s 0x0503 d.tmpl
      if (u8 tb 1).testBit 2 ≠ fdf ∨ u8 tb 2 ≠ data.length then countDropped s p
      else
        let n := storeObj s.fr.t10 data d.o
        let s1 := { s with bus := { s.bus with dyns := s.bus.dyns.map (fun x => if x.key = k then { x with o := n } else x) } }
        nodeFrame s1 d.node ide id fdf data d.tmpl d.o.isNew
    | none =>
      match fitTemplate s p ide id fdf data.length with
      | none => countUnmatched s p
      | some (t, n) => newDyn s p ide id fdf data t n

/-- REC after a frame received without error: one less, and from above 127 a value between 119 and 127 that
ISO 11898-1 leaves open (15 R437). -/
def recAfter (s : State) (r : Nat) : Nat × Bool :=
  if r = 0 then (0, false) else if r ≤ 127 then (r - 1, false) else (119 + Config.freeValue s.free % 9, true)

/-- A valid frame as it counts for its port (15 R422, R437, R438, R448). -/
def frameSeen (s : State) (p : Nat) : State :=
  let s1 := updPort s p (fun x => { x with rx := satInc32 x.rx, lastRx := s.fr.t10, joinRx := x.joinRx + 1 })
  let x := port s1 p
  if x.st = 1 then (if joinOver s1 p then openInFrame (goNormal s1 p) p else s1)
  else if normalOp x then
    let r := recAfter s1 x.recN
    let s2 := if r.2 then { s1 with free := s1.free + 1 } else s1
    updPort s2 p (fun x => { x with recN := r.1, st := confState x.tecN r.1 })
  else s1

/-- A frame received on a port (15 R417, R424), at T10; the safe message it belongs to is left to Safety functions. A
tracking standby stores what the holder stores, not what it receives itself (17 R502). -/
def busReceive (s : State) (p : Nat) (ide : Bool) (id : Nat) (fdf rtr : Bool) (data : List Byte) : State × Option (Nat × Bool) :=
  if !receives (port s p) then (s, none)
  else if fdf && !portFlag s p 0 then (countDropped s p, none)
  else
    let s1 := frameSeen s p
    if rtr then (countUnmatched s1 p, none)
    else match safeMatch s p ide id with
      | some m => (s1, some m)
      | none => (if s.gr.tracking then s1 else lookupFrame s1 p ide id fdf data, none)

/-! ### The snapshot of a tick (R425-R427) -/

/-- The quality of a static receive object at a tick (15 R426). -/
def objQual (s : State) (b : List Byte) (o : Obj) : Qual :=
  let x := port s (soPort b)
  if x.st = 0 ∨ x.st = 5 ∨ x.st = 6 ∨ !o.stored then .bad
  else if u16 b 12 ≠ 0 ∧ o.rxT10 + u16 b 12 * 100000 < s.fr.t10 then .stale
  else if x.st = 4 then .uncertain else .good

/-- The snapshot of the objects at a tick, which clears NEW and LOST (15 R425); a frame that ends at the tick
itself stays for the next one. -/
def tickObjs (s : State) : State × Tab ObjSnap :=
  let es := objElems s.cfg.run
  let t := s.fr.t10
  let snap := fun (k : Nat) (b : List Byte) =>
    let o := Tab.get s.bus.objs Obj.init k
    let old := Tab.get s.fr.img.objs ObjSnap.init k
    if o.isNew && decide (t ≤ o.rxT10) then { old with fresh := false, lost := false, qual := objQual s b { o with rxT10 := old.rxT10, stored := old.stored } }
    else ({ stored := o.stored, data := o.data, rxT10 := o.rxT10, fresh := o.isNew, lost := o.lost, qual := objQual s b o } : ObjSnap)
  let snaps := (numbered es).foldl (fun (acc : Tab ObjSnap) kb => if soFlag kb.2 0 then acc else Tab.set acc ObjSnap.init kb.1 (snap kb.1 kb.2)) []
  let clr := fun (o : Obj) => if o.isNew && decide (t ≤ o.rxT10) then o else { o with isNew := false, lost := false }
  ({ s with bus := { s.bus with objs := Tab.mapAll s.bus.objs Obj.init (fun _ o => clr o), dyns := s.bus.dyns.map (fun d => { d with o := clr d.o }) } }, snaps)

/-- Bits whose condition still holds are set again (15 R447). -/
def busLevels (s : State) : State :=
  let s1 := (List.range 4).foldl (fun s p =>
    let x := port s p
    let a := if x.alone then busEvent s 3 p else s
    if x.st = 4 then busEvent a 4 p else if x.st = 5 ∨ x.st = 6 then busEvent a 5 p else a) s
  s1.bus.nodes.foldl (fun s kv => if kv.2.st = 2 then busEvent s 1 kv.2.port else s) s1

/-- ALONE from its instant on (15 R438). -/
def aloneCheck (s : State) (p : Nat) : State :=
  let x := port s p
  if !x.alone && decide (16 ≤ x.ackRun) && decide (x.lastRx + 10000000 ≤ s.fr.t10) then busEvent (updPort s p (fun x => { x with alone := true })) 3 p else s

/-- The ports and nodes at a tick (15 R421, R422, R429, R433, R437, R438). -/
def tickBus (s : State) : State :=
  let one := fun (s : State) p =>
    let s1 := portMode (aloneCheck s p) p
    let s2 := if joinOver s1 p then goNormal s1 p else s1
    let x := port s2 p
    let s3 := if x.st = 5 ∧ portFlag s2 p 3 ∧ x.offAt + u16 (portBody s2 p) 16 * 100000 ≤ s2.fr.t10 then updPort s2 p (fun x => { x with st := 6 }) else s2
    portGate s3 p
  let s1 := (List.range 4).foldl one s
  let s2 := s1.bus.nodes.foldl (fun s kv => if nodeSilent s s.fr.t10 kv.1 then loseNode s kv.1 else s) s1
  busLevels s2

/-! ### Transmission (R428-R430, R437-R439) -/

/-- The order value of an identifier (15 R430). -/
def arbOrder (ide : Bool) (id : Nat) : Nat :=
  if ide then (id / 2 ^ 18) * 2 ^ 19 + 2 ^ 18 + id % 2 ^ 18 else id * 2 ^ 19

/-- Queues a frame; an unsent frame of the same object takes the new payload (15 R430). -/
def enqueue (s : State) (p order src : Nat) (isMsg : Bool) (data : List Byte) : State :=
  let q := txq s p
  let same := fun (f : TxFrame) => decide (f.src = src) && (f.isMsg == isMsg) && decide (f.order = order)
  if q.any same then
    updPort (setTxq s p (q.map (fun f => if same f then { f with data := data } else f))) p (fun x => { x with overwrite := satInc32 x.overwrite })
  else setTxq s p (offer (q ++ [{ order := order, src := src, isMsg := isMsg, data := data, fails := 0, onBus := false }]))

/-- One static transmit object at the apply instant of frame `n` with the frozen page's payloads (15 R428, R429). -/
def applyObj (n : Nat) (objs : Tab (List Byte)) (s : State) (kb : Nat × List Byte) : State :=
  let b := kb.2
  let p := soPort b
  if !soFlag b 0 ∨ !txGate s p then s
  else
    let h := Tab.get s.bus.hist TxHist.init kb.1
    let len := soLen b
    let drv := s.md.mode.driven
    let act := u8 b 14
    let data := if drv then fit len (Tab.get objs [] kb.1) else if act = 1 then fit len h.driven else zeros len
    let m := max (u16 b 8) 1
    let due := if u8 b 3 = 0 then decide (n % m = u16 b 10)
      else (decide (data ≠ h.data) && h.queued && decide (h.frame + m ≤ n)) || !(port s p).wasOpen || !h.queued
    if !due ∨ (!drv && act = 0) then s
    else
      let s1 := enqueue s p (arbOrder (soFlag b 1) (u32 b 4)) kb.1 false data
      let h1 : TxHist := { queued := true, data := data, frame := n, driven := if drv then data else h.driven }
      { s1 with bus := { s1.bus with hist := Tab.set s1.bus.hist TxHist.init kb.1 h1 } }

/-- The transmit objects at an apply instant (15 R428). -/
def applyObjs (n : Nat) (objs : Tab (List Byte)) (s : State) : State :=
  if busMode s.md.mode then (numbered (objElems s.cfg.run)).foldl (applyObj n objs) s else s

/-- CAN_TX_COMPLETE: the frame on the bus has been acknowledged (15 R437, R438). -/
def doTxComplete (s0 : State) (p dt : Nat) : State :=
  let s := advance s0 dt
  if !(txq s p).any (·.onBus) then s
  else
    let x := port s p
    let q := (txq s p).filter (fun f => !f.onBus)
    let s1 := updPort (setTxq s p (if normalOp x then offer q else q)) p (fun x => { x with tx := satInc32 x.tx, ackRun := 0, alone := false })
    if normalOp x then updPort s1 p (fun x => { x with tecN := x.tecN - 1, st := confState (x.tecN - 1) x.recN }) else s1

def execCanTxComplete (p : Fin 4) (dt : Nat) (s : State) : Host.Outcome State Fault Refusal := done s (doTxComplete s p.val dt)

/-- CAN_RX_ERROR: an error detected while receiving raises REC by `n` (15 R420, R437). -/
def doRxError (s0 : State) (p dt n : Nat) : State :=
  let s := advance s0 dt
  let x := port s p
  if !receives x then s
  else
    let s1 := updPort s p (fun x => { x with errors := satInc32 x.errors })
    if normalOp x then confine s1 p x.tecN (min (x.recN + n) 511) else s1

def execCanRxError (p : Fin 4) (dt n : Nat) (s : State) : Host.Outcome State Fault Refusal := done s (doRxError s p.val dt n)

/-- BUS_OFF_RECOVERY_START (15 R437): RECOVER_MS after bus-off with AUTO_RECOVER. -/
def doRecStart (s0 : State) (p dt : Nat) : State :=
  let s := advance s0 dt
  let x := port s p
  if x.st = 5 ∧ portFlag s p 3 ∧ x.offAt + u16 (portBody s p) 16 * 100000 ≤ s.fr.t10 then updPort s p (fun x => { x with st := 6 }) else s

def execBusOffRecoveryStart (p : Fin 4) (dt : Nat) (s : State) : Host.Outcome State Fault Refusal := done s (doRecStart s p.val dt)

/-- BUS_OFF_RECOVERY_DONE (15 R437). -/
def doRecDone (s0 : State) (p dt : Nat) : State :=
  let s := advance s0 dt
  if (port s p).st = 6 then openInFrame (updPort s p (fun x => { x with st := 3, tecN := 0, recN := 0 })) p else s

def execBusOffRecoveryDone (p : Fin 4) (dt : Nat) (s : State) : Host.Outcome State Fault Refusal := done s (doRecDone s p.val dt)

/-! ### Commands, start, registers -/

/-- BUS_PORT_CTRL at a tick (15 R440): 0 ONLINE, 1 OFFLINE, 2 RECOVER, 3 CLEAR_COUNTERS. -/
def portCtrl (s : State) (p act : Nat) : State × Answer :=
  if !portCfg s p then (s, badParam 8)
  else
    let s1 :=
      if act = 0 then portMode (updPort s p (fun x => { x with offCmd := false })) p
      else if act = 1 then goOffline (updPort s p (fun x => { x with offCmd := true })) p
      else if act = 2 then (if (port s p).st = 5 then updPort s p (fun x => { x with st := 6 }) else s)
      else updPort s p (fun x => { x with rx := 0, tx := 0, errors := 0, dropped := 0, unmatched := 0, retxDrop := 0, overwrite := 0 })
    let x := port s1 p
    (s1, okA (leBytes 1 x.st ++ zeros 1 ++ leBytes 2 x.tecN ++ leBytes 2 x.recN))

/-- The 128 bytes of a node table entry (15 R441). -/
def nodeBytes (x : Node) : List Byte :=
  if x.st = 0 then zeros 128
  else
    leBytes 1 x.port ++ leBytes 1 x.group ++ leBytes 1 x.st ++ leBytes 1 x.objects ++ leBytes 2 x.node ++ zeros 2 ++ leBytes 8 x.firstT10 ++
    leBytes 8 x.lastT10 ++ leBytes 4 x.frames ++ leBytes 4 x.lostCount ++ leBytes 4 x.lastId ++ leBytes 1 x.lastLen ++ leBytes 1 x.tmpl ++ zeros 2 ++
    leBytes 4 x.joins ++ zeros 20 ++ fit 64 x.payload

/-- The bus at the exit from CHECKING (03 R78, 15 R419, R426, R434). -/
def startBus (s : State) : State :=
  let s1 := { s with bus := { s.bus with objs := [], dyns := [], nodes := [], txq := [], hist := [] } }
  (List.range 4).foldl (fun s p => updPort s p (fun x => { x with offCmd := false, term := portCfg s p && portFlag s p 1 })) s1

/-- The registers of the bus page (15 R448). -/
def busRead (s : State) (off : Nat) : Nat :=
  let B := s.bus
  if off = 0x4D00 then B.event.toNat
  else if off = 0x4D04 then B.nodes.length + 65536 * (B.nodes.filter (fun kv => decide (kv.2.st = 1))).length
  else if off = 0x4D08 then (objElems s.cfg.run).length
  else if off = 0x4D0C then B.dyns.length
  else if off = 0x4D10 then ((placesUsed s).filter (fun b => decide (b = 4096))).length
  else if off = 0x4D14 then B.refused
  else if 0x4D40 ≤ off ∧ off < 0x4DC0 then
    let p := (off - 0x4D40) / 32
    let o := (off - 0x4D40) % 32
    let x := port s p
    if o = 0 then
      x.st + 8 * b2n x.alone + 16 * b2n x.term + 32 * b2n (portCfg s p && portFlag s p 0) + 64 * b2n x.offCmd + 128 * b2n (txGate s p) + 256 * x.ackRun
    else if o = 4 then x.tecN + 65536 * x.recN
    else if o = 8 then x.rx
    else if o = 0xC then x.tx
    else if o = 0x10 then x.errors
    else if o = 0x14 then x.dropped + 65536 * x.unmatched
    else if o = 0x18 then x.retxDrop
    else x.overwrite
  else 0

/-- Host writes to the bus page (15 R448). -/
def busWrite (s : State) (off : Nat) (v : Word) : State :=
  if off = 0x4D00 then { s with bus := { s.bus with event := s.bus.event &&& ~~~ v } } else s

end Sys2Proof.Machine
end

