-- ==== Sys2Proof/Machine/SafetyFn.lean ====
section
/-! DEFINITION. The safety functions (16): SC's block list, Attar's term table, cross-monitoring, external device
monitoring, safe messages, degraded operation, the safety image and its registers. -/

namespace Sys2Proof.Machine

/-- A record of the safety image that SC has loaded, and its body (04 R98, 16 R472). -/
def sfRec (s : State) (ty idx : Nat) : Option Rec := findRec s.sf.copy ty idx
def sfBody (s : State) (ty idx : Nat) : List Byte := ((sfRec s ty idx).map (·.body)).getD []

/-- SAFETY_HEADER fields (16 R476). -/
def soUsed (s : State) : Nat := u8 (sfBody s 0x0801 0) 0
def demandMask (s : State) : Nat := u8 (sfBody s 0x0801 0) 1
def soIn (s : State) (k : Nat) : Bool := (soUsed s).testBit k

/-- The safety phase runs with an enabled configuration (03 R58). -/
def safetyLive (s : State) : Bool := hasCfg s && s.md.mode.gathers

/-- Bit i of DIAG_SAFETY_EVENT (16 R486). -/
def sfEvent (s : State) (i : Nat) : State := { s with sf := { s.sf with event := bset s.sf.event i } }

/-- A fault cause of SAFE_HOLD that waits for the next tick, lowest code first (03 R62, R82). -/
def pendCause (s : State) (c : Nat) : State :=
  if s.md.pendFault.contains c then s
  else { s with md := { s.md with pendFault := s.md.pendFault.filter (fun x => decide (x < c)) ++ [c] ++ s.md.pendFault.filter (fun x => decide (c < x)) } }

/-! ### Switch commands (R449) -/

def permit (s : State) (k : Nat) : Bool :=
  s.md.mode.allPhases && hasCfg s && soIn s k && s.sf.agreed && !s.sf.latchSc.toNat.testBit k && !s.sf.hold

/-- high(k) := l_sc(k) and permit(k). -/
def highCmd (s : State) (k : Nat) : Bool := s.sf.lsc.toNat.testBit k && permit s k

/-- low(k) := l_at(k) and permit_line(k) and not latch_at(k). -/
def lowCmd (s : State) (k : Nat) : Bool := s.sf.latLive.toNat.testBit k && permit s k && !s.sf.latchAt.toNat.testBit k

/-- on(k): both readbacks show closed switches (16 R460). -/
def soOn (s : State) (k : Nat) : Bool := s.sf.rbHigh.toNat.testBit k && s.sf.rbLow.toNat.testBit k

/-- The step of a test of SO k that runs: 0 its high side, 1 its low side (18 R527, 17 R510). -/
def soStep (s : State) (t k : Nat) : Option Nat :=
  (s.hl.running.find? (fun r => decide (r.test = t) && decide (r.item = k))).map (·.step)

/-- The commands of SO k: high(k) in bit 0, low(k) in bit 1 (16 R449, 18 R531). -/
def soCmd (s : State) (k : Nat) : F64 := BitVec.ofNat 64 (b2n (s.sf.high.toNat.testBit k) + 2 * b2n (lowCmd s k))

/-- A switch test of SO k holds the switch of step `i` against its command, which has not changed since its start: it opens
one that is commanded closed and closes one that is commanded open (18 R527, R531). -/
def soTested (s : State) (k i : Nat) : Bool :=
  s.hl.running.any (fun r => decide (r.test = 3) && decide (r.item = k) && decide (r.step = i) && decide (r.cmd = soCmd s k))

/-- The switches of SO k as they stand: the commands applied behind the output gate, but for the switch that a switch test
holds, and with the shadow closing of a tracking standby; the high side off while the field watchdog has tripped (16 R449,
17 R496, R510, 08 R194, R196). -/
def soHighOn (s : State) (k : Nat) : Bool :=
  !s.dio.trip.toNat.testBit 0 &&
    (((s.sf.swHigh.toNat.testBit k != soTested s k 0) && !gateShut s 0) || (decide (soStep s 12 k = some 0) && s.sf.lsc.toNat.testBit k))
def soLowOn (s : State) (k : Nat) : Bool :=
  ((s.sf.swLow.toNat.testBit k != soTested s k 1) && !gateShut s 0) || (decide (soStep s 12 k = some 1) && s.sf.latLive.toNat.testBit k)

/-- Both channels command every switch open. -/
def openSwitches (s : State) : State := { s with sf := { s.sf with high := 0, low := 0, swHigh := 0, swLow := 0 } }

/-- Both channels open every switch at once and hold it open (16 R461, R472, 01 R22). -/
def openAll (s : State) : State := let s1 := openSwitches s; { s1 with sf := { s1.sf with hold := true } }

/-! ### SI delivery (R469) -/

/-- SI pairs of the DEGRADED_POLICY (16 R482). -/
def siPairs (s : State) : List (Nat × Nat) :=
  let b := sfBody s 0x0807 0
  (List.range (u8 b 5)).map (fun i => (u8 b (8 + 4 * i), u8 b (9 + 4 * i)))

/-- The failing SI and its sound partner of each pair of which exactly one fails (16 R469). -/
def substPairs (s : State) : List (Nat × Nat) :=
  if safetyLive s then (siPairs s).filterMap (fun p =>
    if siFailing s p.1 && !siFailing s p.2 then some (p.1, p.2) else if siFailing s p.2 && !siFailing s p.1 then some (p.2, p.1) else none)
  else []

/-- The SI states delivered on both links: with substitution (16 R469). -/
def siSent (s : State) : BitVec 32 :=
  (substPairs s).foldl (fun w p => bput w p.1 ((cfgRec s 0x0202 p.2).isSome && (siFilt s p.2).state)) (siDelivered s)

/-- The SI states that the logic side has now: those of the frame before where this frame's input transfer was discarded
(01 R20). -/
def siNow (s : State) : BitVec 32 := if s.dio.stale then s.fr.img.si else siSent s

/-- The SI states that last arrived on the Attar link (16 R454, 01 R20). -/
def siAttar (s : State) : BitVec 32 := if s.dio.attarStale then s.sf.latSi else siSent s

/-! ### Safe messages (R462-R468) -/

def msgBody (s : State) (m : Nat) : List Byte := sfBody s 0x0806 m
def msgSc (s : State) (m : Nat) : MsgCh := Tab.get s.sf.msgs MsgCh.init m
def msgAt (s : State) (m : Nat) : MsgCh := Tab.get s.sf.msgsAt MsgCh.init m
def msgOf (s : State) (attar : Bool) (m : Nat) : MsgCh := if attar then msgAt s m else msgSc s m
def setMsg (s : State) (attar : Bool) (m : Nat) (x : MsgCh) : State :=
  if attar then { s with sf := { s.sf with msgsAt := Tab.set s.sf.msgsAt MsgCh.init m x } }
  else { s with sf := { s.sf with msgs := Tab.set s.sf.msgs MsgCh.init m x } }

/-- Receive messages, and the receive messages of a pair (16 R481). -/
def rxMsgs (s : State) : List Nat := ((recsOf s.sf.copy 0x0806).filter (fun r => decide (u8 r.body 0 = 0))).map (·.idx)
def txMsgs (s : State) : List Nat := ((recsOf s.sf.copy 0x0806).filter (fun r => decide (u8 r.body 0 = 1))).map (·.idx)
def pairRx (s : State) (q : Nat) : List Nat := (rxMsgs s).filter (fun m => decide (u8 (msgBody s m) 1 = q))
def pairUsed (s : State) (q : Nat) : Bool := (recsOf s.sf.copy 0x0806).any (fun r => decide (u8 r.body 1 = q))

/-- SAFETY_CRC of a copy with identifier `id` and IDE over payload bytes 0-11 (16 R463). -/
def safetyCrcOf (ide : Bool) (id : Nat) (data : List Byte) : Nat := crc32c (leBytes 4 (id + 2 ^ 29 * b2n ide) ++ data.take 12)

/-- A copy is valid in a channel (16 R464). -/
def copyValid (b : List Byte) (x : MsgCh) (ide : Bool) (id : Nat) (fdf : Bool) (data : List Byte) : Bool :=
  let dSeq := (u16 data 0 + 65536 - x.seq) % 65536
  let dTime := (u32 data 4 + 2 ^ 32 - x.time) % 2 ^ 32
  fdf && decide (data.length = 16) && decide (u32 data 12 = safetyCrcOf ide id data) && decide (u16 data 2 = u16 b 12) &&
    (!x.started || (decide (1 ≤ dSeq) && decide (dSeq ≤ 32768) && decide (1 ≤ dTime) && decide (dTime ≤ 2 ^ 31)))

/-- A message is accepted at T10 `t` (16 R465, R466). -/
def acceptMsg (t : Nat) (data : List Byte) (x : MsgCh) : MsgCh :=
  { x with started := true, seq := u16 data 0, time := u32 data 4, acceptedAt := t, waitPort := none, waitBytes := []
           next := if x.needReset && !x.resetDone then none else some (BitVec.ofNat 32 (u32 data 8)) }

/-- The window of a waiting copy has passed at T10 `t` (16 R465). -/
def windowOver (b : List Byte) (t : Nat) (x : MsgCh) : Bool := x.waitPort.isSome && decide (x.waitAt + u16 b 14 * 100000 < t)

/-- One copy in one channel at T10 `t` on port `p`: the channel's message and the copies discarded (16 R464, R465). -/
def copyStep (b : List Byte) (single : Bool) (t p : Nat) (ide : Bool) (id : Nat) (fdf : Bool) (data : List Byte) (x0 : MsgCh) : MsgCh × Nat :=
  let past := windowOver b t x0
  let x := if past then { x0 with waitPort := none, waitBytes := [] } else x0
  let n := b2n past
  if !copyValid b x ide id fdf data then (x, n + 1)
  else if single then (acceptMsg t data x, n)
  else match x.waitPort with
    | none => ({ x with waitPort := some p, waitBytes := data.take 12, waitAt := t }, n)
    | some q =>
      if q = p then ({ x with waitBytes := data.take 12, waitAt := t }, n)
      else if x.waitBytes = data.take 12 then (acceptMsg t data x, n)
      else ({ x with waitPort := none, waitBytes := [] }, n + 1)

/-- A channel takes its accepted message (16 R465, R466). -/
def takeMsg (x : MsgCh) : MsgCh :=
  match x.next with
  | none => x
  | some w => { x with next := none, bits := w, valid := true, needReset := false, resetDone := false }

/-- A receive message enters FAULT (16 R466). -/
def failMsg (b : List Byte) (x : MsgCh) : MsgCh :=
  { x with valid := false, bits := 0, next := none, needReset := x.needReset || (u8 b 2).testBit 1, resetDone := false }

/-- No message has been accepted for MAX_AGE_MS at T10 `t` (16 R466). -/
def msgOld (b : List Byte) (t : Nat) (x : MsgCh) : Bool := x.valid && decide (x.acceptedAt + u16 b 16 * 100000 ≤ t)

/-- A receive message fails in a channel when it is too old (16 R466). -/
def ageMsg (s : State) (attar : Bool) (m : Nat) : State :=
  let x := msgOf s attar m
  if msgOld (msgBody s m) s.fr.t10 x then sfEvent (setMsg s attar m (failMsg (msgBody s m) x)) 4 else s

/-- SAFE_MSG_MAX_AGE (16 R466). -/
def doMaxAge (s0 : State) (m : Nat) (attar : Bool) (dt : Nat) : State := ageMsg (advance s0 dt) attar m

def execSafeMsgMaxAge (m : Nat) (attar : Bool) (dt : Nat) (s : State) : Host.Outcome State Fault Refusal := done s (doMaxAge s m attar dt)

/-- Copies discarded count up to saturation; SC counts them (16 R486). -/
def countRejects (s : State) (n : Nat) : State := { s with sf := { s.sf with rejects := min (s.sf.rejects + n) 0xFFFFFFFF } }

/-- A copy whose window has passed is discarded (16 R465). -/
def windowMsg (s : State) (attar : Bool) (m : Nat) : State :=
  let x := msgOf s attar m
  if windowOver (msgBody s m) s.fr.t10 x then
    let s1 := setMsg s attar m { x with waitPort := none, waitBytes := [] }
    if attar then s1 else countRejects s1 1
  else s

/-- DISC_WINDOW_EXPIRY (16 R465): the window ends in the T10 count after it. -/
def doWindow (s0 : State) (m : Nat) (attar : Bool) (dt : Nat) : State := windowMsg (advance s0 dt) attar m

def execDiscWindowExpiry (m : Nat) (attar : Bool) (dt : Nat) (s : State) : Host.Outcome State Fault Refusal := done s (doWindow s m attar dt)

/-! ### Lost ports and degraded causes (R467, R469, R470) -/

/-- The states in which a port of a pair is LOST at once (16 R467). -/
def portDown (s : State) (p : Nat) : Bool :=
  let x := port s p
  decide (x.st = 0) || decide (x.st = 5) || decide (x.st = 6) || x.alone

def lastCopy (s : State) (p : Nat) : Option Nat := Tab.get s.sf.lastCopy none p

/-- NET_TIMEOUT of a pair in T10: the largest MAX_AGE_MS of its receive messages (16 R467). -/
def netTimeout (s : State) (q : Nat) : Nat := ((pairRx s q).map (fun m => u16 (msgBody s m) 16 * 100000)).foldl max 0

/-- Port p has been silent for NET_TIMEOUT at T10 `t` while the other port has not (16 R467). -/
def portSilent (s : State) (t p : Nat) : Bool :=
  let nt := netTimeout s (p / 2)
  let mine := (lastCopy s p).getD s.sf.loadAt
  !(pairRx s (p / 2)).isEmpty && decide (mine + nt ≤ t) &&
    (match lastCopy s (p ^^^ 1) with | none => false | some c => decide (t < c + nt))

/-- Port p becomes LOST (16 R467). -/
def losePort (s : State) (p : Nat) : State := if s.sf.lost.toNat.testBit p then s else sfEvent { s with sf := { s.sf with lost := bset s.sf.lost p } } 5

/-- Both ports of a pair with receive messages are LOST (16 R467). -/
def pairLost (s : State) (q : Nat) : Bool := !(pairRx s q).isEmpty && s.sf.lost.toNat.testBit (2 * q) && s.sf.lost.toNat.testBit (2 * q + 1)

/-- The ports of the pairs are looked at at a tick and where a port goes down (16 R467); CHECKING, whose ports are OFFLINE, is left out. -/
def watchPorts (s : State) : State :=
  if safetyLive s && s.md.mode != .checking then
    let s1 := (List.range 4).foldl (fun s p =>
      if pairUsed s (p / 2) && (portDown s p || portSilent s s.fr.t10 p) then losePort s p else s) s
    if pairLost s1 0 || pairLost s1 1 then pendCause s1 0x06 else s1
  else s

/-- CAN_TX_ERROR: the transmission has ended in an error (15 R437-R439); a port that goes down is LOST at once (16 R467). A
frame that was still on the bus when its gate closed is not sent again, and TEC stays outside normal operation (15 R420, R429). -/
def doTxError (s0 : State) (p dt : Nat) (ackErr dominant : Bool) : State :=
  let s := advance s0 dt
  let x := port s p
  if !(txq s p).any (·.onBus) then s
  else if !normalOp x then updPort (setTxq s p ((txq s p).filter (fun f => !f.onBus))) p (fun x => { x with errors := satInc32 x.errors })
  else
    let lim := u8 (portBody s p) 11
    let hit := fun (f : TxFrame) => f.onBus && decide (lim ≠ 0) && decide (lim ≤ f.fails + 1)
    let drop := (txq s p).any hit
    let q := ((txq s p).filter (fun f => !hit f)).map (fun f => if f.onBus then { f with fails := f.fails + 1, onBus := false } else f)
    let s1 := updPort (setTxq s p (offer q)) p (fun x =>
      { x with errors := satInc32 x.errors, ackRun := if ackErr then satInc 255 x.ackRun else 0
               retxDrop := if drop then satInc32 x.retxDrop else x.retxDrop })
    let s2 := if drop then busEvent s1 7 p else s1
    let keep := decide (x.st = 4) && ackErr && !dominant
    let s3 := if keep then s2 else confine s2 p (x.tecN + 8) x.recN
    watchPorts (aloneCheck s3 p)

def execCanTxError (p : Fin 4) (dt : Nat) (ackErr dominant : Bool) (s : State) : Host.Outcome State Fault Refusal :=
  done s (doTxError s p.val dt ackErr dominant)

/-- PORT_ALONE (15 R438, 16 R467). -/
def doPortAlone (s0 : State) (p dt : Nat) : State := watchPorts (aloneCheck (advance s0 dt) p)

def execPortAlone (p : Fin 4) (dt : Nat) (s : State) : Host.Outcome State Fault Refusal := done s (doPortAlone s p.val dt)

/-- SAFE_NET_TIMEOUT (16 R467). -/
def doNetTimeout (s0 : State) (p dt : Nat) : State :=
  let s := advance s0 dt
  if safetyLive s && portSilent s s.fr.t10 p then
    let s1 := losePort s p
    if pairLost s1 (p / 2) then pendCause s1 0x06 else s1
  else s

def execSafeNetTimeout (p : Fin 4) (dt : Nat) (s : State) : Host.Outcome State Fault Refusal := done s (doNetTimeout s p.val dt)

/-- Single-network operation of a pair (16 R469). -/
def singleNet (s : State) (q : Nat) : Bool :=
  let a := s.sf.lost.toNat.testBit (2 * q)
  let b := s.sf.lost.toNat.testBit (2 * q + 1)
  pairUsed s q && (u8 (sfBody s 0x0807 0) 4).testBit q && (a != b)

/-- A degraded cause stands (16 R469). -/
def degCause (s : State) : Bool := safetyLive s && (singleNet s 0 || singleNet s 1 || !(substPairs s).isEmpty)

/-- T_DEG in T10 (16 R482). -/
def tDeg (s : State) : Nat := u32 (sfBody s 0x0807 0) 0 * 100000000

/-- The degraded timer has run out with a cause standing in a mode that it ends (16 R470). -/
def degOver (s : State) : Bool :=
  degCause s && s.md.mode.allPhases && (match s.sf.degFrom with | none => false | some f => decide (f + tDeg s ≤ s.fr.t10))

/-- DEGRADED_TIMER_EXPIRY (16 R470). -/
def doDegExpiry (s0 : State) (dt : Nat) : State :=
  let s := advance s0 dt
  if degOver s then pendCause s 0x04 else s

def execDegradedTimerExpiry (dt : Nat) (s : State) : Host.Outcome State Fault Refusal := done s (doDegExpiry s dt)

/-- DEG_LEFT_MS (16 R470). -/
def degLeft (s : State) : Nat :=
  if degCause s then (tDeg s - (s.fr.t10 - (s.sf.degFrom.getD s.fr.t10))) / 100000 else 0

/-- The degraded timer at a tick (16 R470). -/
def tickDegraded (s : State) : State :=
  let f := if degCause s then some (s.sf.degFrom.getD s.fr.t10) else none
  let s1 := { s with sf := { s.sf with degFrom := f } }
  let s2 := if s.md.mode = .degraded then sfEvent s1 3 else s1
  if degOver s2 then pendCause s2 0x04 else s2

/-- A copy of a safe message at T10 on port `p` in both channels (16 R464, R465, R467). -/
def safeCopy (s : State) (p m : Nat) (ide : Bool) (id : Nat) (fdf : Bool) (data : List Byte) : State :=
  let b := msgBody s m
  let t := s.fr.t10
  let ok := copyValid b (msgSc s m) ide id fdf data
  let s1 := if ok then
      { s with sf := { s.sf with
          lastCopy := Tab.set s.sf.lastCopy none p (some t)
          lost := if portDown s p then s.sf.lost else bclr s.sf.lost p } }
    else s
  let single := singleNet s (p / 2)
  let a := copyStep b single t p ide id fdf data (msgSc s1 m)
  let c := copyStep b single t p ide id fdf data (msgAt s1 m)
  countRejects (setMsg (setMsg s1 false m a.1) true m c.1) a.2

/-- CAN_FRAME_RECEIVED (15 R424, 16 R464). -/
def doCanFrame (s0 : State) (p dt : Nat) (ide : Bool) (id : Nat) (fdf rtr : Bool) (data : List Byte) : State :=
  let s := advance s0 dt
  let r := busReceive s p ide id fdf rtr data
  match r.2 with
  | none => r.1
  | some m => safeCopy r.1 p m.1 ide id fdf data

def execCanFrameReceived (p : Fin 4) (dt : Nat) (ide : Bool) (id : Nat) (fdf rtr : Bool) (data : List Byte) (s : State) :
    Host.Outcome State Fault Refusal :=
  done s (doCanFrame s p.val dt ide id fdf rtr data)

/-- The 16 bytes of a transmit message's copy (16 R462, R463). -/
def msgBytes (b : List Byte) (copyB : Bool) (seq time : Nat) (w : Word) : List Byte :=
  let h := leBytes 2 seq ++ leBytes 2 (u16 b 12) ++ leBytes 4 time ++ leBytes 4 w.toNat
  h ++ leBytes 4 (safetyCrcOf ((u8 b 2).testBit 0) (u32 b (if copyB then 8 else 4)) h)

/-- One transmit message at the apply instant of frame `n` at T10 `t` (16 R468); SEQ counts a message of which a
copy is sent. -/
def sendMsg (n t : Nat) (s : State) (m : Nat) : State :=
  let b := msgBody s m
  let pA := 2 * u8 b 1
  if n % max (u16 b 18) 1 ≠ 0 ∨ !(txGate s pA || txGate s (pA + 1)) then s
  else
    let w : Word := if s.md.mode.driven then Tab.get s.sf.txBits 0 m else 0
    let seq := (Tab.get s.sf.txSeq 0 m + 1) % 65536
    let s1 := { s with sf := { s.sf with txSeq := Tab.set s.sf.txSeq 0 m seq } }
    let put := fun (s : State) (copyB : Bool) =>
      let p := pA + b2n copyB
      if txGate s p then enqueue s p (arbOrder ((u8 b 2).testBit 0) (u32 b (if copyB then 8 else 4))) m true (msgBytes b copyB seq (bits t 10 32) w) else s
    put (put s1 false) true

/-- The transmit messages at an apply instant (16 R468). -/
def sendMsgs (n t : Nat) (s : State) : State := if busMode s.md.mode then (txMsgs s).foldl (sendMsg n t) s else s

/-! ### Attar (R452-R456) -/

/-- A literal of Attar on SI states, messages and timers (16 R452). -/
def attarLit (s : State) (si : BitVec 32) (msg : Nat → MsgCh) (r : Nat) : Bool :=
  let i := r % 4096
  let v := if r / 8192 = 0 then si.toNat.testBit i
    else if r / 8192 = 1 then (let x := msg (i / 32); x.valid && x.bits.toNat.testBit (i % 32))
    else if r / 8192 = 4 then (Tab.get s.sf.timers AtTimer.init i).out
    else false
  v != (r / 4096 % 2 == 1)

/-- Outputs 0-7 and flags 8-15 of the term table in Attar's memory (01 R18, 16 R454, R478). -/
def attarEval (s : State) (si : BitVec 32) (msg : Nat → MsgCh) : Nat :=
  (elemsOf s.sf.table 0x0803 24).foldl (fun w e =>
    let b := e.2.2
    if (List.range (u8 b 1)).all (fun j => attarLit s si msg (u16 b (4 + 2 * j))) then w ||| 2 ^ u8 b 0 else w) 0

/-- The tick snapshot of the SI sample of the tick, the messages accepted before it and the timers as they are (16 R456). -/
def snapshotOf (s : State) : BitVec 8 :=
  BitVec.ofNat 8 (attarEval s s.sf.latSi (Tab.get s.sf.latMsgs MsgCh.init) % 256) &&& BitVec.ofNat 8 (soUsed s)

/-- The safe messages that Attar has accepted by this tick, as their age leaves them (16 R456, R466). -/
def tickMsgs (s : State) : Tab MsgCh :=
  (rxMsgs s).foldl (fun acc m =>
    let x := takeMsg (msgAt s m)
    Tab.set acc MsgCh.init m (if msgOld (msgBody s m) s.fr.t10 x then failMsg (msgBody s m) x else x)) []

/-- Fields of an ATTAR_TIMER (16 R479). -/
def timFlag (b : List Byte) : Nat := u8 b 0
def timOff (b : List Byte) : Bool := u8 b 1 = 1
def timTime (b : List Byte) : Nat := u32 b 4 * 100000

/-- A timer may have run out `el` after the change of its flag, or must have, within its accuracy (16 R455). -/
def timMay (b : List Byte) (el : Nat) : Bool := decide (timTime b * 999 ≤ (el + 1000) * 1000)
def timMust (b : List Byte) (el : Nat) : Bool := decide (timTime b * 1001 + 1000000 ≤ el * 1000)

/-- An ATTAR_TIMER runs: its output is still to change (16 R455). -/
def timRuns (b : List Byte) (x : AtTimer) : Bool := if timOff b then !x.input && x.out else x.input && !x.out

/-- A timer at a cycle end with its flag (16 R455). -/
def timStep (b : List Byte) (t : Nat) (flag : Bool) (x : AtTimer) : AtTimer :=
  let y := if flag = x.input then x else { x with input := flag, since := t, out := timOff b && (flag || x.out) }
  if timRuns b y && timMust b (t - y.since) then { y with out := !timOff b } else y

/-- The SMBs that Attar took are aged at a cycle (16 R466). -/
def attarMsgs (s : State) : State :=
  (rxMsgs s).foldl (fun s m => windowMsg (ageMsg (setMsg s true m (takeMsg (msgAt s m))) true m) true m) s

/-- The feedbacks of the EDM record of SO k: SI and NO (16 R480). -/
def edmFbs (b : List Byte) : List (Nat × Bool) :=
  (u8 b 0, (u8 b 2).testBit 0) :: (if u8 b 1 = 0xFF then [] else [(u8 b 1, (u8 b 2).testBit 1)])

/-- Every feedback of an EDM record has its expected value for SO state `on` (16 R460). -/
def edmOk (si : BitVec 32) (on : Bool) (b : List Byte) : Bool :=
  (edmFbs b).all (fun f => si.toNat.testBit f.1 == (on == f.2))

/-- EDM is evaluated (16 R460). -/
def edmLive (s : State) : Bool := safetyLive s && hasControl s

/-- Since when the feedback of SO k has been wrong (16 R460). -/
def edmWatch (s : State) (si : BitVec 32) (t : Tab (Option Nat)) : Tab (Option Nat) :=
  (List.range 8).foldl (fun acc k =>
    match sfRec s 0x0805 k with
    | none => Tab.set acc none k none
    | some r =>
      if !edmLive s || edmOk si (soOn s k) r.body then Tab.set acc none k none
      else match Tab.get acc none k with
        | none => Tab.set acc none k (some s.fr.t10)
        | some _ => acc) t

/-- The feedback of SO k has been wrong for more than T_EDM at T10 (16 R460). -/
def edmOver (s : State) (t : Tab (Option Nat)) (k : Nat) : Bool :=
  match Tab.get t none k with
  | none => false
  | some f => edmLive s && decide (f + u16 (sfBody s 0x0805 k) 4 * 100000 < s.fr.t10)

/-- An EDM fault of SO k (16 R461, 03 R80). -/
def edmFaultAt (s : State) (k : Nat) : State :=
  let s1 := sfEvent (openAll s) 2
  { s1 with
    sf := { s1.sf with fltEdm := bset s1.sf.fltEdm k }
    mram := { s1.mram with lockout := true }
    md := { s1.md with pendEdm := true } }

/-- The EDM faults that either channel sees at T10 (16 R460). -/
def edmCheck (s : State) : State :=
  (List.range 8).foldl (fun s k => if edmOver s s.sf.edmSc k || edmOver s s.sf.edmAt k then edmFaultAt s k else s) s

/-- EDM_FAULT (16 R460, R461). -/
def doEdmFault (s0 : State) (k dt : Nat) : State :=
  let s := advance s0 dt
  if edmOver s s.sf.edmSc k || edmOver s s.sf.edmAt k then edmFaultAt s k else s

def execEdmFault (k : Fin 8) (dt : Nat) (s : State) : Host.Outcome State Fault Refusal := done s (doEdmFault s k.val dt)

/-- A demand by the results of SC and of the snapshot (16 R450). -/
def demandOf (s : State) : Bool :=
  safetyLive s && decide (demandMask s &&& (255 - (s.sf.lsc &&& s.sf.lat).toNat) ≠ 0)

/-- The demand follows its condition; DEMAND_SEEN is set where it begins (16 R450, R485). -/
def setDemand (s : State) : State :=
  let d := demandOf s
  let s1 := if d && !s.sf.demand then sfEvent s 0 else s
  { s1 with sf := { s1.sf with demand := d } }

/-- Attar's snapshot at the first cycle start at or after tick + 4 us (16 R456). -/
def cycleSnapshot (s : State) : State :=
  if s.sf.latTaken || decide (s.fr.t10 < s.fr.tick + 400) || !safetyLive s then s
  else
    let s1 := { s with sf := { s.sf with lat := snapshotOf s, latTaken := true } }
    if s1.sf.scDone then setDemand s1 else s1

/-- ATTAR_CYCLE (16 R454, R455, R460): at its end low(k) is sent. -/
def doCycle (s0 : State) (dt : Nat) : State :=
  let s := advance s0 dt
  if !hasCfg s then s
  else
    let s1 := attarMsgs (cycleSnapshot s)
    let w := attarEval s1 (siAttar s1) (msgAt s1)
    let flags := w / 256
    let s2 := { s1 with sf := { s1.sf with
        latLive := BitVec.ofNat 8 (w % 256) &&& BitVec.ofNat 8 (soUsed s1)
        flags := BitVec.ofNat 8 flags
        timers := (List.range 16).foldl (fun acc k =>
          match findRec s1.sf.table 0x0804 k with
          | none => acc
          | some r => Tab.upd acc AtTimer.init k (timStep r.body s1.fr.t10 (flags.testBit (timFlag r.body)))) s1.sf.timers } }
    let s3 := { s2 with sf := { s2.sf with low := ofBits 8 (lowCmd s2), edmAt := edmWatch s2 (siAttar s2) s2.sf.edmAt } }
    (List.range 8).foldl (fun s k => if edmOver s s.sf.edmAt k then edmFaultAt s k else s) s3

def execAttarCycle (dt : Nat) (s : State) : Host.Outcome State Fault Refusal := done s (doCycle s dt)

/-- ATTAR_TIMER_EXPIRY (16 R455). -/
def doTimerExpiry (s0 : State) (k dt : Nat) : State :=
  let s := advance s0 dt
  match findRec s.sf.table 0x0804 k with
  | none => s
  | some r =>
    let x := Tab.get s.sf.timers AtTimer.init k
    if timRuns r.body x && timMay r.body (s.fr.t10 - x.since) then
      { s with sf := { s.sf with timers := Tab.set s.sf.timers AtTimer.init k { x with out := !timOff r.body } } }
    else s

def execAttarTimerExpiry (k : Fin 16) (dt : Nat) (s : State) : Host.Outcome State Fault Refusal := done s (doTimerExpiry s k.val dt)

/-! ### Cross-monitoring and switch faults (R457-R459) -/

/-- The SOs whose results differ, or did not both arrive, for the frame running (16 R457). -/
def discNow (s : State) : BitVec 8 :=
  if !safetyLive s then 0 else if s.sf.scDone then (s.sf.lsc ^^^ s.sf.lat) &&& BitVec.ofNat 8 (soUsed s) else BitVec.ofNat 8 (soUsed s)

/-- Both channels latch every SO of SO_USED off (16 R459). -/
def latchAll (s : State) : State :=
  let m : BitVec 8 := BitVec.ofNat 8 (soUsed s)
  let s := openSwitches s
  { s with sf := { s.sf with latchSc := s.sf.latchSc ||| m, latchAt := s.sf.latchAt ||| m } }

/-- A discrepancy fault of SO k (16 R457, R459). -/
def discFaultAt (s : State) (k : Nat) : State :=
  let s1 := latchAll { s with sf := { s.sf with fltDisc := bset s.sf.fltDisc k } }
  pendCause (sfEvent s1 1) 0x05

/-- A switch fault of SO k (16 R458, R459). -/
def switchFaultAt (s : State) (k : Nat) : State :=
  let s1 := latchAll { s with sf := { s.sf with fltSwitch := bset s.sf.fltSwitch k } }
  pendCause (sfEvent s1 6) 0x07

/-- A discrepancy of SO k has stood for more than 20 ms at the tick of the frame running (16 R457). -/
def discOver (s : State) (k : Nat) : Bool :=
  (discNow s).toNat.testBit k && (match Tab.get s.sf.discSince none k with | none => false | some a => decide (a + 2000000 < s.fr.tick))

/-- DISCREPANCY_FAULT (16 R457): once both results of the frame stand. -/
def doDiscFault (s0 : State) (k dt : Nat) : State :=
  let s := advance s0 dt
  if discOver s k then discFaultAt s k else s

def execDiscrepancyFault (so : Fin 8) (dt : Nat) (s : State) : Host.Outcome State Fault Refusal := done s (doDiscFault s so.val dt)

/-- The discrepancies of the frame that ends (16 R457), with the faults that were not reported in it. -/
def endDiscrepancy (s : State) : State :=
  let d := discNow s
  let s1 := (List.range 8).foldl (fun s k => if discOver s k then discFaultAt s k else s) s
  { s1 with sf := { s1.sf with
      disc := d
      discSince := (List.range 8).foldl (fun acc k =>
        if d.toNat.testBit k then (match Tab.get acc none k with | none => Tab.set acc none k (some s.fr.tick) | some _ => acc)
        else Tab.set acc none k none) s1.sf.discSince } }

/-- An SO switch test of SO k runs (18 R527, 17 R510). -/
def soTestRuns (s : State) (k : Nat) : Bool :=
  s.hl.running.any (fun r => (decide (r.test = 3) || decide (r.test = 12)) && decide (r.item = k))

/-- SO_SWITCH_FAULT (16 R458): a readback has differed from its command for more than 2 ms outside the tests. -/
def doSwitchFault (s0 : State) (k : Nat) (high : Bool) (dt : Nat) : State :=
  let s := advance s0 dt
  let rb := if high then s.sf.rbHigh.toNat.testBit k else s.sf.rbLow.toNat.testBit k
  if !safetyLive s || !soIn s k || soTestRuns s k then s
  else
    let s1 := { s with sf := { s.sf with
        rbHigh := if high then bput s.sf.rbHigh k (rb || !soHighOn s k) else s.sf.rbHigh
        rbLow := if high then s.sf.rbLow else bput s.sf.rbLow k (rb || !soLowOn s k) } }
    switchFaultAt s1 k

def execSoSwitchFault (so : Fin 8) (high : Bool) (dt : Nat) (s : State) : Host.Outcome State Fault Refusal :=
  done s (doSwitchFault s so.val high dt)

/-! ### The safety image (R472) -/

/-- A record as it stands in the image (04 R86). -/
def recImage (r : Rec) : List Byte := leBytes 2 r.ty ++ leBytes 2 r.body.length ++ leBytes 2 r.idx ++ leBytes 2 r.flags ++ r.body

/-- SAFETY_CRC over the records of TYPE 0x08xx (04 R89). -/
def safetyCrc (l : List Rec) : Nat := crc32 ((l.filter (fun r => decide (r.ty / 256 = 8))).flatMap recImage)

/-- The CRC of the term and timer records in SC's copy (16 R472). -/
def attarCrc (l : List Rec) : Nat := crc32 ((l.filter (fun r => decide (r.ty = 0x0803) || decide (r.ty = 0x0804))).flatMap recImage)

/-- A check of the running safety image differs (16 R472). -/
def imageMismatch (s : State) : State :=
  let s1 := sfEvent (openAll s) 7
  pendCause { s1 with sf := { s1.sf with agreed := false } } 0x0D

/-- ATTAR_CRC_CHECK (16 R472). -/
def doAttarCrc (s : State) (crc : Nat) : State :=
  if !safetyLive s then s
  else
    let s1 := { s with sf := { s.sf with attarCrc := crc } }
    if s.sf.agreed && decide (crc ≠ attarCrc s.sf.copy) then imageMismatch s1 else s1

def execAttarCrcCheck (crc : Nat) (s : State) : Host.Outcome State Fault Refusal := done s (doAttarCrc s crc)

/-- SC_IMAGE_CHECK (16 R472). -/
def doScImage (s : State) (ok : Bool) : State := if safetyLive s && s.sf.agreed && !ok then imageMismatch s else s

def execScImageCheck (ok : Bool) (s : State) : Host.Outcome State Fault Refusal := done s (doScImage s ok)

/-! ### The safety phase (R451-R453) -/

/-- An input of an SC block (16 R452). -/
def scIn (s : State) (r : Nat) : Bool :=
  let i := r % 4096
  let v := if r / 8192 = 0 then s.fr.img.si.toNat.testBit i
    else if r / 8192 = 1 then (let x := msgSc s (i / 32); x.valid && x.bits.toNat.testBit (i % 32))
    else if r / 8192 = 2 then s.sf.bits.toNat.testBit i
    else decide (i = 1)
  v != (r / 4096 % 2 == 1)

/-- A DELAY block with its input at a tick (16 R453). -/
def delayStep (off : Bool) (t ms : Nat) (v : Bool) (x : DelaySt) : DelaySt :=
  let run := v != off
  if !run then { since := none, out := off && (v || x.out) }
  else
    let a := if off && !x.out then none else some (x.since.getD t)
    let past := match a with | none => true | some f => decide (f + ms * 100000 ≤ t)
    { since := a, out := if off then !past else past }

/-- One SAFETY_BLOCK element at its position (16 R453). -/
def scBlock (s : State) (kb : Nat × List Byte) : State :=
  let b := kb.2
  let ins := (List.range (u8 b 1)).map (fun j => scIn s (u16 b (8 + 2 * j)))
  let opc := u8 b 0
  let out := u16 b 2
  let v0 := ins.getD 0 false
  let putB := fun (s : State) (v : Bool) => { s with sf := { s.sf with bits := bput s.sf.bits out v } }
  if opc = 1 then putB s (ins.all id)
  else if opc = 2 then putB s (ins.any id)
  else if opc = 3 ∨ opc = 4 then
    let x := delayStep (opc = 4) s.fr.tick (u32 b 4) v0 (Tab.get s.sf.delays DelaySt.init kb.1)
    putB { s with sf := { s.sf with delays := Tab.set s.sf.delays DelaySt.init kb.1 x } } x.out
  else if opc = 5 then { s with sf := { s.sf with lsc := bput s.sf.lsc out v0 } }
  else { s with sf := { s.sf with txBits := Tab.upd s.sf.txBits 0 (out / 32) (fun w => bput w (out % 32) v0) } }

/-- The elements of the block list with their positions (16 R477). -/
def scBlocks (s : State) : List (Nat × List Byte) := numbered ((elemsOf s.sf.copy 0x0802 24).map (·.2.2))

/-- The registers of the page and the fields of SAFETY_STATUS as they stand now (16 R486): DIAG_SO_STATE, SO_FAULT,
SAFETY_STATUS, DEG_LEFT_MS, SI_SUBST, MSG_VALID, MSG_FAULT, ATTAR_FLAGS, EDM_STATE, SO_HIGH, SO_LOW,
SO_READBACK, SI, DISCREPANCY, FRAME. -/
def sfRegs (s : State) : List Nat :=
  let S := s.sf
  let latched := S.latchSc ||| S.latchAt
  let st := b2n S.demand + 2 * b2n S.agreed + 4 * b2n (degCause s) + 16 * S.lost.toNat + 256 * b2n (singleNet s 0) + 512 * b2n (singleNet s 1) +
    1024 * b2n (!(substPairs s).isEmpty)
  [S.lsc.toNat + 2 ^ 8 * S.lat.toNat + 2 ^ 16 * S.rbHigh.toNat + 2 ^ 24 * S.rbLow.toNat,
   S.fltDisc.toNat + 2 ^ 8 * S.fltSwitch.toNat + 2 ^ 16 * S.fltEdm.toNat + 2 ^ 24 * b2n (latched != 0),
   st, degLeft s, (substPairs s).foldl (fun w p => orBit w p.1) 0,
   (rxMsgs s).foldl (fun w m => if (msgSc s m).valid then orBit w m else w) 0,
   (rxMsgs s).foldl (fun w m => if (msgSc s m).valid then w else orBit w m) 0,
   S.flags.toNat + 256 * (ofBits 16 (fun k => (Tab.get S.timers AtTimer.init k).out)).toNat,
   S.edmReg.toNat, S.high.toNat, (ofBits 8 (lowCmd s)).toNat, (ofBits 8 (soOn s)).toNat, s.fr.img.si.toNat,
   (discNow s ||| latched).toNat, s.fr.frame]

def showSafety (s : State) : State := { s with sf := { s.sf with shown := sfRegs s } }
def sfShown (s : State) (i : Nat) : Nat := s.sf.shown.getD i 0

/-- Bits of DIAG_SAFETY_EVENT whose condition still holds (16 R485). -/
def safetyLevels (s : State) : State :=
  let S := s.sf
  let f := fun i => (i = 1 && S.fltDisc != 0) || (i = 2 && S.fltEdm != 0) || (i = 3 && decide (s.md.mode = .degraded)) ||
    (i = 4 && (rxMsgs s).any (fun m => (msgSc s m).needReset)) || (i = 5 && S.lost != 0) || (i = 6 && S.fltSwitch != 0) ||
    (i = 7 && hasCfg s && !S.agreed)
  { s with sf := { S with event := S.event ||| ofBits 8 f } }

/-- The safety phase of the frame that begins at this tick, which ends `endAt` after it; where an overrun stops it, `late` is
the number of blocks that have run, which keep their state (02 R45, 16 R450, R451, R456, R486). -/
def safetyPhase (endAt : Nat) (late : Option Nat) (s0 : State) : State :=
  if !safetyLive s0 then
    let s := openSwitches s0
    showSafety { s with sf := { s.sf with
        demand := false, lsc := 0, lat := 0, scDone := false, latLive := 0, disc := 0, discSince := [], edmSc := [], edmAt := [],
        degFrom := none, edmReg := 0 } }
  else
    let s1 := watchPorts
      ((rxMsgs s0).foldl (fun s m => windowMsg (ageMsg (setMsg s false m (takeMsg (msgSc s m))) false m) false m) s0)
    let s2 := { s1 with sf := { s1.sf with latSi := siAttar s1, latMsgs := tickMsgs s1, latTaken := false } }
    let s3 := tickDegraded { s2 with sf := { s2.sf with lat := snapshotOf s2 } }
    match late with
    | some n =>
      let s4 := ((scBlocks s3).take n).foldl scBlock s3
      showSafety (safetyLevels { s4 with sf := { s4.sf with lsc := s3.sf.lsc, scDone := false, peak := max s4.sf.peak endAt } })
    | none =>
      let s4 := (scBlocks s3).foldl scBlock { s3 with sf := { s3.sf with lsc := 0 } }
      let s5 := { s4 with sf := { s4.sf with lsc := s4.sf.lsc &&& BitVec.ofNat 8 (soUsed s4), scDone := true, peak := max s4.sf.peak endAt } }
      let s6 := { s5 with sf := { s5.sf with
          high := ofBits 8 (highCmd s5)
          edmReg := ofBits 8 (fun k => match sfRec s5 0x0805 k with | none => true | some r => edmOk s5.fr.img.si (soOn s5 k) r.body)
          edmSc := edmWatch s5 s5.fr.img.si s5.sf.edmSc } }
      showSafety (safetyLevels (edmCheck (setDemand s6)))

/-! ### Reset and load (R459, R472, R473) -/

/-- Every configured feedback as it stands now, at the tick of effect, has its expected value for every SO off (16 R461,
R473). -/
def edmConsistent (s : State) : Bool := (recsOf s.sf.copy 0x0805).all (fun r => edmOk (siNow s) false r.body)

/-- The end of the reset wait (16 R466, R473). -/
def endResetWait (s : State) : State :=
  let f := fun (_ : Nat) (x : MsgCh) => if x.needReset then { x with resetDone := true } else x
  { s with sf := { s.sf with msgs := Tab.mapAll s.sf.msgs MsgCh.init f, msgsAt := Tab.mapAll s.sf.msgsAt MsgCh.init f } }

/-- The fault latches and DIAG_SO_FAULT are cleared (16 R459). -/
def clearLatches (s : State) : State :=
  { s with sf := { s.sf with latchSc := 0, latchAt := 0, fltDisc := 0, fltSwitch := 0, fltEdm := 0, hold := false } }

/-- SAFETY_RESET may take effect in the mode before the tick (16 R473, 03 R81). -/
def resetAllowed (s : State) (m : Mode) : Bool :=
  match m with
  | .lockout => edmConsistent s
  | .safeHold => edmConsistent s && s.sf.rbHigh == 0 && s.sf.rbLow == 0
  | _ => true

/-- The effect of SAFETY_RESET beside the mode change (16 R473, 03 R81). -/
def safetyReset (s : State) (m : Mode) : State :=
  match m with
  | .lockout => endResetWait (clearLatches { s with mram := { s.mram with lockout := false } })
  | .safeHold => endResetWait (clearLatches s)
  | _ => endResetWait s

/-- Stage 9 of a check loads the safety image of records `l` into SC and the term table into Attar, whose timers and flags
are 0 then (01 R18, 04 R98, 16 R455, R472). -/
def loadSafety (l : List Rec) (agreed : Bool) (s : State) : State :=
  { s with sf := { s.sf with
      copy := l.filter (fun r => decide (r.ty / 256 = 8)), table := l.filter (fun r => decide (r.ty = 0x0803) || decide (r.ty = 0x0804))
      timers := [], flags := 0, agreed := agreed } }

/-- The safety functions at the tick at which the module leaves CHECKING with a loaded image (16 R451, R466, R472): the fault
latches stay (R459), and what stage 9 loaded. -/
def startSafety (s : State) : State :=
  { s with sf := { SafetySt.init with
      copy := s.sf.copy, table := s.sf.table, timers := s.sf.timers, flags := s.sf.flags
      agreed := true, loadAt := s.fr.t10, latchSc := s.sf.latchSc, latchAt := s.sf.latchAt, fltDisc := s.sf.fltDisc,
      fltSwitch := s.sf.fltSwitch, fltEdm := s.sf.fltEdm, event := s.sf.event, rejects := s.sf.rejects, peak := s.sf.peak,
      rbHigh := s.sf.rbHigh, rbLow := s.sf.rbLow, txSeq := s.sf.txSeq, attarCrc := s.sf.attarCrc, shown := s.sf.shown } }

/-! ### Registers (R486) -/

def sfRead (s : State) (off : Nat) : Nat :=
  if off = 0x4F00 then s.sf.event.toNat
  else if off = 0x4F04 then sfShown s 0
  else if off = 0x4F08 then sfShown s 1
  else if off = 0x4F0C then sfShown s 2
  else if off = 0x4F10 then sfShown s 3
  else if off = 0x4F14 then (if hasCfg s then safetyCrc s.cfg.run else 0)
  else if off = 0x4F18 then s.sf.attarCrc
  else if off = 0x4F1C then sfShown s 4
  else if off = 0x4F20 then sfShown s 5
  else if off = 0x4F24 then sfShown s 6
  else if off = 0x4F28 then s.sf.rejects
  else if off = 0x4F2C then s.sf.peak
  else if off = 0x4F30 then sfShown s 7
  else if off = 0x4F34 then sfShown s 8
  else 0

def sfWrite (s : State) (off : Nat) (v : Word) : State :=
  if off = 0x4F00 then { s with sf := { s.sf with event := s.sf.event &&& ~~~ BitVec.ofNat 8 v.toNat } } else s

/-- The result data of SAFETY_STATUS, bytes 16 to 47 (06 R152). -/
def safetyStatusData (s : State) : List Byte :=
  let fl := b2n s.sf.demand + 2 * b2n s.mram.lockout + 4 * b2n (decide (s.md.mode = .degraded)) + 8 * b2n s.sf.agreed
  leBytes 1 (sfShown s 9) ++ leBytes 1 (sfShown s 10) ++ leBytes 1 (sfShown s 11) ++ leBytes 1 fl ++ leBytes 4 (sfShown s 12) ++
    leBytes 4 (sfRead s 0x4F14) ++ leBytes 4 (degLeft s) ++ leBytes 1 (sfShown s 13) ++ zeros 7 ++ leBytes 8 (sfShown s 14)

/-- Costs counted under the safety item of 02 R44, in ns (16 R453, R484). -/
def safetyCost (l : List Rec) : Nat :=
  ((elemsOf l 0x0802 24).map (fun e =>
    let o := u8 e.2.2 0
    if o = 1 ∨ o = 2 then 60 else if o = 3 ∨ o = 4 then 80 else 40)).sum + 100 * (recsOf l 0x0805).length +
    ((recsOf l 0x0806).map (fun r => if u8 r.body 0 = 0 then 200 else 150)).sum

end Sys2Proof.Machine
end

