-- ==== Sys2Proof/Machine/Health.lean ====
section
/-! DEFINITION. Drydown in-service test and health (18): the tests, their cycle, the health score, memory errors and
the fault log. -/

namespace Sys2Proof.Machine

def test (s : State) (t : Nat) : TestSt := Tab.get s.hl.tests TestSt.init t
def updTest (s : State) (t : Nat) (f : TestSt → TestSt) : State := { s with hl := { s.hl with tests := Tab.upd s.hl.tests TestSt.init t f } }

/-- Bit i of DIAG_HEALTH_EVENT (18 R540). -/
def hlEvent (s : State) (i : Nat) : State := { s with hl := { s.hl with event := bset s.hl.event i } }

/-- The items of the tests that have no memory to walk through (18 R526). -/
def testItems (s : State) (t : Nat) : List Nat :=
  if t = 0 then (List.range 64).filter (fun c => doFlag s c 2)
  else if t = 1 then (List.range 96).filter (fun c => (tpSource s 0x0201 c).isSome)
  else if t = 2 then (List.range 32).filter (fun c => (tpSource s 0x0202 c).isSome)
  else if t = 3 ∨ t = 12 then bitsSet (soUsed s) 8
  else if t = 8 then (List.range 32).filter (aoCfg s)
  else if t = 9 ∨ t = 10 then (if grouped s then [0, 1] else [])
  else if t = 11 then (List.range 64).filter (fun c => doFlag s c 1)
  else if t = 13 then
    ((recsOf s.cfg.run 0x0301).flatMap (fun r => (List.range 9).map (fun c => 9 * r.idx + c))) ++
      ((recsOf s.cfg.run 0x0303).flatMap (fun r => (List.range 5).map (fun c => 54 + 5 * r.idx + c)))
  else []

/-- Tests 4 to 7 walk through a memory in units: how many (18 R526, 01 R24, R27). -/
def testUnits (t : Nat) : Nat := if t = 4 then 786432 else if t = 5 then 16384 else if t = 6 then 134217728 else 567552

/-- The ends, in units of 256 bytes, of the items of test 7: banks A and B, configuration store, calibration store, boot record. -/
def storeEnds : List Nat := [262144, 524288, 565248, 567296, 567552]

/-- The number of items of a test (18 R526, R537). -/
def itemCount (s : State) (t : Nat) : Nat := if t = 4 ∨ t = 5 ∨ t = 6 then testUnits t else if t = 7 then 5 else (testItems s t).length

/-- Periods of the tests in T10 (18 R526); those of tests 1, 2 and 13 follow their generators and rotation. -/
def testPeriod (s : State) (t : Nat) : Nat :=
  if t = 0 ∨ t = 3 ∨ t = 8 ∨ t = 11 ∨ t = 12 then 6000000000
  else if t = 4 ∨ t = 5 ∨ t = 7 then 360000000000
  else if t = 6 then 60000000000
  else if t = 9 then 100000000
  else if t = 10 then 1000000000
  else if t = 1 ∨ t = 2 then ((List.range 8).map (tpPeriod s)).foldl min 100000000000
  else 200000000

/-- Modes of the hold class behind which a unit tests its outputs (17 R490, 18 R525). -/
def holdMode (m : Mode) : Bool := match m with | .safeHold => true | .service => true | .lockout => true | _ => false

/-- A test may run in the mode (18 R525). -/
def testAllowed (s : State) (t : Nat) : Bool :=
  match s.md.mode with
  | .reset => false
  | .boot => false
  | .checking => decide (t = 6)
  | .unconfigured => decide (4 ≤ t) && decide (t ≤ 7)
  | .configured => decide (4 ≤ t) && decide (t ≤ 7)
  | _ =>
    if t = 0 ∨ t = 3 then hasControl s
    else if t = 8 ∨ t = 11 ∨ t = 12 then gateShut s 0 && (s.gr.tracking || holdMode s.md.mode)
    else if t = 9 ∨ t = 10 then grouped s
    else decide (t < 14)

/-! ### Passes and verdicts -/

/-- A pass starts when it is due (18 R524). -/
def startPass (s : State) (t : Nat) : State :=
  let x := test s t
  if x.inPass ∨ s.fr.t10 < x.due then s
  else updTest s t (fun x => { x with inPass := true, pos := 0, passDue := x.due, passStart := s.fr.t10, passFirst := s.fr.frame, due := s.fr.t10 + testPeriod s t })

/-- When the pass that a test is in, or its next one, was or is due (18 R524). -/
def testDue (s : State) (t : Nat) : Nat := let x := test s t; if x.inPass then x.passDue else x.due

/-- A test waits to be served: it may run, and a pass stands or is due (18 R524, R525). -/
def testWaits (s : State) (t : Nat) : Bool := testAllowed s t && ((test s t).inPass || decide ((test s t).due ≤ s.fr.t10))

/-- Test `u` is served before test `t`: the earlier due time, of equal ones the lower number (18 R524). -/
def before (s : State) (u t : Nat) : Bool := decide (testDue s u < testDue s t) || (decide (testDue s u = testDue s t) && decide (u < t))

/-- A pass ends (18 R532, R537). -/
def endPass (s : State) (t : Nat) : State :=
  updTest s t (fun x => { x with
    inPass := false, passes := satInc32 x.passes, passFrame := s.fr.frame, cyclePass := x.cyclePass || decide (s.hl.cycleAt ≤ x.passStart)
    skipped := x.skipped.filter (fun i => !x.tested.contains i) })

/-- The verdict of a test for an item (18 R531, R537, R539). -/
def verdict (s : State) (t item : Nat) (ok : Bool) : State :=
  let s1 := updTest s t (fun x => { x with
    failed := if ok then x.failed.filter (fun i => decide (i ≠ item)) else if x.failed.contains item then x.failed else x.failed ++ [item]
    tested := if 4 ≤ t ∧ t ≤ 6 then x.tested else if x.tested.contains item then x.tested else x.tested ++ [item] })
  if ok then s1 else { s1 with hl := countFail s.fr.t10 s.fr.frame t item s1.hl }

/-- One unit of a memory walk: the item that its verdict concerns, none before the last unit of a store (18 R522, R526). -/
def unitItem (t pos : Nat) : Option Nat :=
  if t = 7 then storeEnds.findIdx? (fun e => decide (e = pos + 1)) else some pos

/-- The idle tail has room for a logic-side unit: the frame is committed, the point engine has caught up, and 0.4 us from
now end 2 us before the next tick (02 R47, 18 R522). -/
def tailFree (s : State) : Bool :=
  s.fr.commitDone && s.pt.queues.all (fun q => decide (s.fr.frame ≤ q.frame)) && decide (s.fr.t10 + 240 ≤ s.fr.next)

/-- One unit of test 4, 5, 6 or 7 (18 R522-R528). -/
def runUnit (s0 : State) (t : Nat) (ok : Bool) : State :=
  if !testAllowed s0 t then s0
  else
    let s := startPass s0 t
    let x := test s t
    if !x.inPass then s
    else
      let s1 := match unitItem t x.pos with
        | none => s
        | some i => verdict s t i ok
      let s2 := updTest s1 t (fun x => { x with pos := x.pos + 1, testedN := max x.testedN (x.pos + 1) })
      if x.pos + 1 < testUnits t then s2 else endPass s2 t

/-- A logic-side unit goes to the test among 4 and 7 that is due first (18 R524). -/
def unitServes (s : State) (t : Nat) : Bool := let u := if t = 4 then 7 else 4; !(testWaits s u && before s u t)

/-- DRYDOWN_UNIT: a unit of the SRAM march or of the flash and image CRC, in the idle tail (18 R522, R524). -/
def doDrydownUnit (s : State) (t : Nat) (ok : Bool) : State :=
  if (t = 4 ∨ t = 7) ∧ tailFree s = true ∧ unitServes s t = true then
    let s1 := runUnit s t ok
    if s1 = s then s else { s1 with hl := { s1.hl with units := s1.hl.units + 1 } }
  else s

def execDrydownUnit (test : Nat) (ok : Bool) (s : State) : Host.Outcome State Fault Refusal := done s (doDrydownUnit s test ok)

/-- SC_SRAM_MARCH_UNIT (18 R528). -/
def doScMarch (s : State) (ok : Bool) : State := runUnit s 5 ok

def execScSramMarchUnit (ok : Bool) (s : State) : Host.Outcome State Fault Refusal := done s (doScMarch s ok)

/-- DRAM_SCRUB_BURST (18 R523): a burst read, corrected and written back. -/
def doScrub (s : State) : State :=
  let s1 := runUnit s 6 true
  if (test s1 6).inPass ∨ (test s1 6).pos = (test s 6).pos then s1 else { s1 with hl := { s1.hl with scrubs := s1.hl.scrubs + 1 } }

def execDramScrubBurst (s : State) : Host.Outcome State Fault Refusal := done s (doScrub s)

/-! ### Field-side tests -/

/-- What the item of a field-side test is commanded (18 R531). -/
def testCmd (s : State) (t item : Nat) : F64 :=
  if t = 0 ∨ t = 11 then (doCh s item).cmd
  else if t = 8 then (aoCh s item).level
  else soCmd s item

def testRuns (s : State) (t item : Nat) : Bool := s.hl.running.any (fun r => decide (r.test = t) && decide (r.item = item))

/-- An item may be tested now; `peer` as in darkAllowed (18 R525-R529, 17 R509, R510, 08 R189). -/
def testable (s : State) (t item : Nat) (peer : Bool) : Bool :=
  let noneOf := fun (t : Nat) => !s.hl.running.any (fun r => decide (r.test = t))
  if t = 0 then darkAllowed s item peer
  else if t = 3 then
    s.md.mode != .lockout && !(s.sf.latchSc ||| s.sf.latchAt).toNat.testBit item && !(discNow s).toNat.testBit item && noneOf 3
  else if t = 8 then aoCfg s item && cutoffOpen s item && !testRuns s 8 item
  else if t = 11 then
    let d := doCh s item
    s.gr.tracking && doFlag s item 1 && d.cmd != 0 && decide (d.since + 10000000 ≤ s.fr.t10) &&
      (List.range 8).all (fun i => !testRuns s 11 (item / 8 * 8 + i))
  else if t = 12 then s.gr.tracking && soOn s item && (s.sf.lsc.toNat.testBit item || s.sf.latLive.toNat.testBit item) && noneOf 12
  else false

/-- Items that the pass leaves behind are skipped (18 R525). -/
def skipItems (s : State) (t : Nat) (l : List Nat) : State :=
  updTest s t (fun x => { x with skipped := x.skipped ++ l.filter (fun i => !x.skipped.contains i && !x.tested.contains i) })

/-- A waiting field-side test could start on an item of its pass, whatever its peers do (18 R524). -/
def couldStart (s : State) (t : Nat) : Bool :=
  let pos := if (test s t).inPass then (test s t).pos else 0
  testWaits s t && (testItems s t).any (fun i => decide (pos ≤ i) && testable s t i true)

/-- A field-side start goes to the test that is due first among those that could start (18 R524). -/
def fieldServes (s : State) (t : Nat) : Bool := [0, 3, 8, 11, 12].all (fun u => decide (u = t) || !(couldStart s u && before s u t))

/-- FIELD_TEST_START (18 R523-R525). -/
def doFieldStart (s0 : State) (t item : Nat) (peer : Bool) : State :=
  if !(t = 0 ∨ t = 3 ∨ t = 8 ∨ t = 11 ∨ t = 12) ∨ !testAllowed s0 t ∨ !fieldServes s0 t then s0
  else
    let s := startPass s0 t
    let x := test s t
    if !x.inPass ∨ !(testItems s t).contains item ∨ item < x.pos ∨ !testable s t item peer then s0
    else
      let s1 := skipItems s t ((testItems s t).filter (fun i => decide (x.pos ≤ i ∧ i < item)))
      let s2 := updTest s1 t (fun x => { x with pos := item + 1 })
      let s3 := { s2 with hl := { s2.hl with running := s2.hl.running ++ [{ test := t, item := item, step := 0, cmd := testCmd s t item }] } }
      if t = 0 then updDo s3 item (fun d => { d with dark := true }) else s3

def execFieldTestStart (test : Nat) (item : TestItem) (s : State) : Host.Outcome State Fault Refusal :=
  done s (doFieldStart s test item.item item.peer)

/-- A field-side test ends; the pass ends with its last item (18 R524). -/
def finishTest (s : State) (t item : Nat) (ok : Bool) : State :=
  let s1 := verdict { s with hl := { s.hl with running := s.hl.running.filter (fun r => !(decide (r.test = t) && decide (r.item = item))) } } t item ok
  if (test s1 t).inPass && (testItems s1 t).all (fun i => decide (i ≤ item)) then endPass s1 t else s1

/-- DARK_TEST_END (08 R189): the readback fell to low within DARK_US, or it did not. -/
def doDarkEnd (s : State) (c : Nat) (low : Bool) : State :=
  if !(doCh s c).dark then s
  else
    let s1 := updDo s c (fun d => { d with dark := false })
    let s2 := if low then s1 else { s1 with dio := { s1.dio with dark := bset s1.dio.dark c } }
    finishTest s2 0 c low

def execDarkTestEnd (ch : Fin 64) (low : Bool) (s : State) : Host.Outcome State Fault Refusal := done s (doDarkEnd s ch.val low)

/-- The test of SO k goes on from its high side to its low side. -/
def nextSide (s : State) (t k : Nat) : State :=
  { s with hl := { s.hl with running := s.hl.running.map (fun x => if x.test = t ∧ x.item = k then { x with step := 1 } else x) } }

/-- SO_SWITCH_TEST_STEP (18 R527): the high-side step, then in a later frame the low-side step. -/
def doSwitchStep (s : State) (k : Nat) (ok : Bool) : State :=
  match s.hl.running.find? (fun r => decide (r.test = 3) && decide (r.item = k)) with
  | none => s
  | some r =>
    if !ok then switchFaultAt (finishTest s 3 k false) k
    else if r.step = 0 then nextSide s 3 k
    else finishTest s 3 k true

def execSoSwitchTestStep (so : Fin 8) (ok : Bool) (s : State) : Host.Outcome State Fault Refusal := done s (doSwitchStep s so.val ok)

/-- AO_CROSS_CHECK_END (18 R529): within 0.2 mA of 12.000 mA. -/
def doCrossEnd (s : State) (c : Nat) (mA : F64) : State :=
  if testRuns s 8 c then finishTest s 8 c (F64.le (F64.abs (F64.sub mA (F64.ofNat 12))) (frac64 1 5)) else s

def execAoCrossCheckEnd (ch : Fin 32) (mA : F64) (s : State) : Host.Outcome State Fault Refusal := done s (doCrossEnd s ch.val mA)

/-- SHADOW_TEST_END (17 R509, R510): each switch of an SO alone, the high side first. -/
def doShadowEnd (s : State) (so : Bool) (item : Nat) (ok : Bool) : State :=
  let t := if so then 12 else 11
  if !testRuns s t item then s
  else if so && ok && decide (soStep s 12 item = some 0) then nextSide s 12 item
  else finishTest s t item ok

def execShadowTestEnd (so : Bool) (item : Nat) (ok : Bool) (s : State) : Host.Outcome State Fault Refusal := done s (doShadowEnd s so item ok)

/-- A test that passes over two items as their verdicts come (18 R524, R526). -/
def loopTest (s0 : State) (t item : Nat) (ok : Bool) : State :=
  if !testAllowed s0 t then s0
  else
    let s := startPass s0 t
    if !(test s t).inPass ∨ item < (test s t).pos then s
    else finishTest (updTest s t (fun x => { x with pos := item + 1 })) t item ok

/-- CLAIM_LOOPBACK (18 R530): in the idle tail of frames with FRAME_NO mod 4 = UNIT, its pulse over 2 us before the next tick
and sampled 100 ns after it. -/
def doLoopback (s : State) (line : Nat) (ok : Bool) : State :=
  if grouped s && decide (s.fr.frame % 4 = unitId s) && s.fr.commitDone && decide (s.fr.t10 + 190 ≤ s.fr.next) then loopTest s 9 line ok else s

def execClaimLoopback (line : Fin 2) (ok : Bool) (s : State) : Host.Outcome State Fault Refusal := done s (doLoopback s line.val ok)

/-- SYNC_ERROR_WINDOW (18 R526): more than 10 copies discarded in a 10 s window fail. -/
def doErrWindow (s : State) (port discarded : Nat) : State := loopTest s 10 port (decide (discarded ≤ 10))

def execSyncErrorWindow (port : Fin 2) (discarded : Nat) (s : State) : Host.Outcome State Fault Refusal := done s (doErrWindow s port.val discarded)

/-- A field-side test in progress is abandoned when its item's command changes or its SO demands (18 R531). -/
def testKept (s : State) (r : RunTest) : Bool :=
  decide (testCmd s r.test r.item = r.cmd) &&
    !((decide (r.test = 3) || decide (r.test = 12)) && (demandMask s).testBit r.item && !(s.sf.lsc &&& s.sf.lat).toNat.testBit r.item)

/-- The abandoned tests end without a verdict (18 R531). -/
def abandonTests (all : Bool) (s : State) : State :=
  let keep := s.hl.running.filter (fun r => !all && testKept s r)
  let s1 := { s with hl := { s.hl with running := keep } }
  if all then { s1 with dio := { s1.dio with ch := Tab.mapAll s1.dio.ch DoCh.init (fun _ d => { d with dark := false }) } } else s1

/-! ### The tick -/

/-- A field-side test whose remaining items may not be tested now skips them (18 R525). -/
def sweepTest (s0 : State) (t : Nat) : State :=
  if !testAllowed s0 t then s0
  else
    let s := startPass s0 t
    let x := test s t
    let rest := (testItems s t).filter (fun i => decide (x.pos ≤ i))
    if !x.inPass ∨ s.hl.running.any (fun r => decide (r.test = t)) ∨ rest.any (fun i => testable s t i false) then s
    else endPass (skipItems s t rest) t

/-- An item of a collected test has been tested since the pass started (18 R526). -/
def collectedNow (s : State) (t item : Nat) : Bool :=
  let x := test s t
  if t = 13 then
    let k := if item < 54 then Tab.get s.an.aiCal Cal.init item else Tab.get s.an.aoCal Cal.initAo (item - 54)
    decide (x.passFirst < k.calFrame)
  else
    match tpSource s (if t = 1 then 0x0201 else 0x0202) item with
    | none => true
    | some k => let g := tpGen s k; !g.pulse && (match g.prev with | none => false | some p => decide (x.passStart ≤ p))

/-- The collected tests at a tick (18 R526). -/
def collectTest (s0 : State) (t : Nat) : State :=
  if !testAllowed s0 t then s0
  else
    let s := startPass s0 t
    if !(test s t).inPass then s
    else
      let got := (testItems s t).filter (collectedNow s t)
      let s1 := updTest s t (fun x => { x with tested := x.tested ++ got.filter (fun i => !x.tested.contains i) })
      if got.length = (testItems s t).length then endPass s1 t else s1

/-- Items of a test that have failed and not passed since (18 R537). -/
def failedItems (s : State) (t : Nat) : List Nat := if t = 1 ∨ t = 2 ∨ t = 13 then collected s t else (test s t).failed

/-- The latest claim round shows a line fault (17 R495). -/
def lineFault (s : State) : Bool :=
  s.gr.round.isSome && (decide (bits s.gr.claimStatus 0 2 = 0) || decide (bits s.gr.claimStatus 2 2 = 0) || s.gr.claimStatus.testBit 10)

/-- AI and AO banks with a converter or SAR retired (18 R533). -/
def retiredBanks (s : State) : Nat :=
  ((List.range 6).filter (fun b => (List.range 9).any (fun c => (calOf s false b c).retired))).length +
    ((List.range 8).filter (fun g => (List.range 5).any (fun c => (calOf s true g c).retired))).length

/-- The classes that stand, in their order (18 R533). -/
def classesNow (s : State) : BitVec 9 :=
  let f := fun t => !(failedItems s t).isEmpty
  let run := if s.md.bank then 1 else 0
  let t := s.fr.t10
  ofBits 9 (fun i =>
    if i = 0 then f 0 || f 3 || f 8 || f 11 || f 12 || s.dio.ch.any (fun kv => kv.2.latchOff) || s.an.ao.any (fun kv => kv.2.mismatch)
    else if i = 1 then f 4 || f 5 || decide (16 < (s.hl.eccAt.filter (fun x => decide (t < x + 360000000000))).length)
    else if i = 2 then (test s 7).failed.any (fun x => decide (x = run) || decide (x = 2) || decide (x = 3))
    else if i = 3 then (test s 7).failed.contains (1 - run)
    else if i = 4 then decide (0 < retiredBanks s)
    else if i = 5 then s.an.ab.any (fun kv => kv.2.refFault) || s.an.ob.any (fun kv => kv.2.refFault)
    else if i = 6 then f 9 || f 10 || lineFault s || decide (10 < (s.hl.discards.filter (fun x => decide (t < x + 1000000000))).length)
    else if i = 7 then f 1 || f 2 || s.dio.ss != 0
    else (List.range 4).any (fun p => decide ((port s p).st = 5) || (pairUsed s (p / 2) && s.sf.lost.toNat.testBit p)))

/-- The health score of the classes (18 R533). -/
def scoreOf (s : State) (cl : BitVec 9) : Nat :=
  let pen := [6, 4, 4, 2, min (retiredBanks s) 3, 3, 2, 1, 2]
  15 - ((List.range 9).map (fun i => if cl.toNat.testBit i then pen.getD i 0 else 0)).sum

/-- The score changes at a tick (18 R533). -/
def tickScore (s : State) : State :=
  let cl := classesNow s
  let v := scoreOf s cl
  let s1 := { s with hl := { s.hl with classes := cl, score := v } }
  if v = s.hl.score then s1 else hlEvent s1 1

/-- The tests that may run now (18 R532). -/
def mayNow (s : State) : BitVec 14 := ofBits 14 (testAllowed s)

/-- The cycle at a tick (18 R532). -/
def tickCycle (s : State) : State :=
  let may := s.hl.may ||| mayNow s
  if s.md.mode = .reset ∨ s.md.mode = .boot then s
  else if may != 0 && (List.range 14).all (fun t => !may.toNat.testBit t || (test s t).cyclePass) then
    let s1 := { s with hl := { s.hl with
        cycles := s.hl.cycles + 1, cycleLast := (s.fr.t10 - s.hl.cycleAt) / 100000000, cycleAt := s.fr.t10, cycleFrame := s.fr.frame, may := 0
        tests := Tab.mapAll s.hl.tests TestSt.init (fun _ x =>
          { x with cyclePass := false, lastNotCovered := x.skipped.length, skipped := [], tested := [], testedN := 0 }) } }
    hlEvent s1 5
  else { s with hl := { s.hl with may := may } }

/-- The registers of the health page from 0x5304 on, in their order (18 R540). -/
def hlRegs (s : State) : List Nat :=
  let h := s.hl
  [h.score + 16 * h.classes.toNat, (ofBits 14 (fun t => !(failedItems s t).isEmpty)).toNat, h.cycles, (s.fr.tick - h.cycleAt) / 100000000,
   h.cycleLast, h.eccSram, h.eccDram, h.eccAddr, h.scrubs, (s.mram.logSeq - 1) % 4096, min s.mram.logSeq 0xFFFFFFFF, h.dropped, h.unitsLast]

/-- The health page shows the values of the tick (18 R540). -/
def showHealth (s : State) : State := { s with hl := { s.hl with shown := hlRegs s } }

/-- Drydown and health at a tick (18 R526, R532, R533, R535, R540). -/
def tickHealth (s : State) : State :=
  let s1 := [0, 3, 8, 11, 12].foldl sweepTest s
  let s2 := [1, 2, 13].foldl collectTest s1
  let s3 := if s2.md.mode.driven then
      updTest s2 8 (fun x => { x with
        tested := x.tested ++ (testItems s2 8).filter (fun i => !gateShut s2 (i / 4 + 1) && !x.tested.contains i) }) else s2
  let sec := s3.fr.t10 / 100000000
  let h := s3.hl
  let s4 := { s3 with hl := { h with
      written := 0
      unitsLast := if sec = h.unitsSec then h.unitsLast else if sec = h.unitsSec + 1 then h.units else 0
      units := if sec = h.unitsSec then h.units else 0, unitsSec := sec } }
  showHealth (tickScore (tickCycle s4))

/-! ### Memory errors and the fault log (R534-R536) -/

/-- ECC_CORRECTED (18 R534). -/
def doEccCorr (s : State) (dram : Bool) (_addr : Nat) : State :=
  hlEvent { s with hl := { s.hl with
      eccSram := if dram then s.hl.eccSram else satInc32 s.hl.eccSram
      eccDram := if dram then satInc32 s.hl.eccDram else s.hl.eccDram
      eccAt := (s.fr.t10 :: s.hl.eccAt).take 17 } } 2

def execEccCorrected (dram : Bool) (addr : Nat) (s : State) : Host.Outcome State Fault Refusal := done s (doEccCorr s dram addr)

/-- ECC_UNCORRECTABLE (18 R534): SAFE_HOLD at the next tick; the address in 64-byte units. -/
def doEccUnc (s : State) (_dram : Bool) (addr : Nat) : State :=
  pendCause (hlEvent { s with hl := { s.hl with eccAddr := addr / 64 } } 3) 0x0A

def execEccUncorrectable (dram : Bool) (addr : Nat) (s : State) : Host.Outcome State Fault Refusal := done s (doEccUnc s dram addr)

/-- The idle tail in which fault-log entries are written (02 R47, 18 R535); in BOOT, whose frames have no phases, all of the
frame is idle. -/
def logTail (s : State) : Bool := s.fr.commitDone || decide (s.md.mode = .boot)

/-- FAULT_LOG_ENTRY_WRITE (18 R535): in the idle tail, at most 16 in a frame. -/
def doLogWrite (s : State) : State :=
  match s.hl.queue with
  | [] => s
  | e :: r =>
    if 16 ≤ s.hl.written ∨ s.md.mode = .reset ∨ logTail s = false then s
    else
      let i := s.mram.logSeq % 4096
      let e1 : LogEntry := { e with mode := s.md.mode.num }
      let s1 := { s with
        mram := { s.mram with log := Tab.set s.mram.log none i (some e1), logSeq := s.mram.logSeq + 1 }
        hl := { s.hl with queue := r, written := s.hl.written + 1 } }
      if (i + 1) % 4096 = 0 then hlEvent s1 4 else s1

def execFaultLogEntryWrite (s : State) : Host.Outcome State Fault Refusal := done s (doLogWrite s)

/-- The SEQ of the entry at an index of the ring (18 R535, R536). -/
def logSeqAt (s : State) (i : Nat) : Nat :=
  let n := s.mram.logSeq
  if n = 0 then 0 else n - 1 - (n - 1 + 4096 - i) % 4096

/-- The 64 bytes of the entry at an index of the ring (18 R536). -/
def logBytes (s : State) (i : Nat) : List Byte :=
  match Tab.get s.mram.log none i with
  | none => zeros 64
  | some e =>
    let b := leBytes 4 (logSeqAt s i) ++ leBytes 2 e.code ++ leBytes 1 e.mode ++ leBytes 1 e.cause ++ leBytes 8 e.t10 ++ leBytes 8 e.frame ++
      leBytes 2 e.item ++ zeros 2 ++ leBytes 32 e.data
    b ++ leBytes 4 (crc32 b)

/-! ### Reports and registers (R537, R538, R540) -/

/-- STATE of a test in its report (18 R537). -/
def testState (s : State) (t : Nat) : Nat :=
  if !testAllowed s t then 0 else if !(failedItems s t).isEmpty then 3 else if (test s t).inPass then 1 else if 0 < (test s t).passes then 2 else 1

/-- A count in a field of two bytes; what the field shows of a larger one is not stated, a free value. -/
def u16Field (s : State) (k n : Nat) : List Byte := leBytes 2 (if n < 65536 then n else Config.freeValue (s.free + k) % 65536)

/-- The 32 bytes of a test in TEST_REPORT (18 R537). -/
def testBytes (s : State) (t : Nat) : List Byte :=
  let x := test s t
  let f := failedItems s t
  let first := f.foldl (fun (m : Option Nat) i => match m with | none => some i | some j => some (min i j)) none
  let tested := if 4 ≤ t ∧ t ≤ 6 then x.testedN else x.tested.length
  leBytes 1 t ++ leBytes 1 (testState s t) ++ u16Field s (4 * t) (itemCount s t) ++ u16Field s (4 * t + 1) tested ++ u16Field s (4 * t + 2) f.length ++
    u16Field s 0 x.lastNotCovered ++ (match first with | none => leBytes 2 0xFFFF | some i => u16Field s (4 * t + 3) i) ++ leBytes 4 x.passes ++
    leBytes 8 x.passFrame ++ leBytes 4 x.failCount ++ zeros 4

/-- The report of TEST_REPORT (18 R537). -/
def testReport (s : State) : List Byte :=
  let h := s.hl
  leBytes 2 14 ++ leBytes 1 h.score ++ leBytes 1 (h.classes.toNat % 256) ++ leBytes 4 h.cycles ++ leBytes 8 h.cycleFrame ++
    leBytes 4 ((s.fr.t10 - h.cycleAt) / 100000000) ++ leBytes 4 h.cycleLast ++ leBytes 1 (h.classes.toNat / 256) ++ zeros 39 ++
    (List.range 14).flatMap (testBytes s)

/-- ROLE of a converter in CAL_REPORT (18 R538). -/
def calRole (s : State) (ao : Bool) (b c : Nat) : Nat :=
  let B := bankOf s ao b
  if (calOf s ao b c).retired then 9
  else match posOf B c with
    | some p => p
    | none => if B.measuring = some c then 10 else 8

/-- Signed gain correction in 0.1 ppm against the nominal span 2^23 / 1.25 (18 R538, 09 R215). -/
def calGain (ao : Bool) (k : Cal) : Int :=
  let nom : Int := if ao then 200000000 else 67108864
  let span := k.u - k.z
  if span = 0 then 0 else Int.fdiv (2 * (nom - 10 * span) * 1000000 + span) (2 * span)

/-- The 48 bytes of a converter in CAL_REPORT (18 R538). -/
def calBytes (s : State) (ao : Bool) (b c : Nat) : List Byte :=
  let k := calOf s ao b c
  let i4 := fun (z : Int) => leBytes 4 (unsigned 32 z)
  leBytes 1 (calRole s ao b c) ++ leBytes 1 (b2n k.passed + 2 * b2n k.iFailed) ++ leBytes 2 k.iFails ++ i4 k.offset ++ i4 (calGain ao k) ++
    i4 k.z ++ i4 (if ao then 0 else k.h) ++ i4 k.u ++ i4 (if ao then 0 else k.i) ++ zeros 4 ++ leBytes 8 k.calFrame ++ leBytes 4 k.calCount ++ zeros 4

/-- A read of the health page, BAR0 0x5300-0x54FF (18 R540). -/
def hlRead (s : State) (off : Nat) : Nat :=
  if off = 0x5300 then s.hl.event.toNat
  else if 0x5304 ≤ off ∧ off < 0x5338 then (if s.hl.shown.isEmpty then hlRegs s else s.hl.shown).getD ((off - 0x5304) / 4) 0
  else 0

def hlWrite (s : State) (off : Nat) (v : Word) : State :=
  if off = 0x5300 then { s with hl := { s.hl with event := s.hl.event &&& ~~~ BitVec.ofNat 6 v.toNat } } else s

end Sys2Proof.Machine
end

