-- ==== Sys2Proof/Machine/Image.lean ====
section
/-! DEFINITION. The configuration image: its records, the identities it carries, and the syntax checks of CFG_CLOSE
and of stage 1 (04 R85-R92, R569). -/

namespace Sys2Proof.Machine

/-- The record whose header stands at offset `o` (04 R86). -/
def recAt (b : List Byte) (o : Nat) : Rec :=
  { ty := u16 b o, idx := u16 b (o + 4), flags := u16 b (o + 6), off := o, len := u16 b (o + 2), body := (b.drop (o + 8)).take (u16 b (o + 2)) }

/-- The records from offset `o` on, at most as many as the fuel says. -/
def recsFrom (b : List Byte) (o : Nat) : Nat → List Rec
  | 0 => []
  | n + 1 => if b.length < o + 8 then [] else let r := recAt b o; r :: recsFrom b (o + 8 + r.len) n

/-- The records of an image, framing records included (04 R85). -/
def imgRecs (b : List Byte) : List Rec := recsFrom b 0 (b.length / 8)

/-- Identities an image carries (04 R88, R89). -/
def imgConfigId (b : List Byte) : Nat := u32 b 24
def imgProgramId (b : List Byte) : Nat := u32 b 28
def imgSafetyCrc (b : List Byte) : Nat := u32 b 32
def imgCrc (b : List Byte) : Nat := u32 b (b.length - 8)
def imgIds (b : List Byte) : Nat × Nat × Nat := (imgConfigId b, imgCrc b, imgProgramId b)

/-- AGREE_CRC over every record with AGREE = 1 (04 R89). -/
def agreeCrc (l : List Rec) : Nat := crc32 ((l.filter (fun r => r.flags.testBit 0)).flatMap recImage)

/-- A refusal that no record causes (04 R95, R569). -/
def noRecord (code stage ty : Nat) : CheckRes := { CheckRes.none_ with reason := code, stage := stage, idx := 0xFFFF, ty := ty, off := 0xFFFFFFFF }

/-- A refusal against an element of a record (04 R102). -/
def atRecord (code stage : Nat) (r : Rec) (elem : Nat) : CheckRes :=
  { CheckRes.none_ with reason := code, stage := stage, idx := r.idx, ty := r.ty, elem := elem, off := r.off }

/-- The checks 0x0006 to 0x0009 on one record; `prev` is the TYPE before it (04 R92). -/
def recSyntax (n prev : Nat) (r : Rec) : Nat :=
  let fin := r.off + 8 + r.len
  let framing := decide (r.off = 0) || decide (fin = n)
  if r.len % 8 ≠ 0 ∨ n < fin then 0x0006
  else if !framing && (decide (r.ty / 256 < 1) || decide (0x0B < r.ty / 256)) then 0x0007
  else if !framing && decide (r.ty < prev) then 0x0008
  else if 1 < r.flags then 0x0009
  else 0

/-- The walk over the records: the first refusal, or the number of records with the last of them. -/
def walkRecs (n prev count : Nat) (last : Rec) : List Rec → Sum CheckRes (Nat × Rec)
  | [] => .inr (count, last)
  | r :: l => let c := recSyntax n prev r; if c ≠ 0 then .inl (atRecord c 1 r 0) else walkRecs n r.ty (count + 1) r l

/-- The syntax checks on the loaded bytes; the stage shown is 1 (04 R92, R569). -/
def syntaxCheck (b : List Byte) : CheckRes :=
  let n := b.length
  let h := recAt b 0
  if n < 64 ∨ n % 8 ≠ 0 then noRecord 0x0001 1 0
  else if h.ty ≠ 1 ∨ h.idx ≠ 0 ∨ h.len ≠ 40 then atRecord 0x0002 1 h 0
  else if u32 b 8 ≠ 0x43584449 ∨ u16 b 12 ≠ 1 then atRecord 0x0003 1 h 0
  else if u32 b 16 ≠ n then noRecord 0x0004 1 0
  else if imgCrc b ≠ crc32 (b.take (n - 8)) then noRecord 0x0005 1 0
  else match walkRecs n 0 0 h (imgRecs b) with
    | .inl x => x
    | .inr (count, last) =>
      if last.ty ≠ 0xFF ∨ last.idx ≠ 0 ∨ last.len ≠ 8 then atRecord 0x000A 1 last 0
      else if u32 b 20 ≠ count then noRecord 0x000B 1 0
      else if u16 b 14 ≠ 0 ∨ u32 b 44 ≠ 0 then atRecord 0x000C 1 h 0
      else if u32 b (n - 4) ≠ 0 then atRecord 0x000C 1 last 0
      else CheckRes.none_

/-- The bytes 16-47 of the result of ENABLE and CFG_CLOSE (04 R102). -/
def checkData (r : CheckRes) (configId crc : Nat) : List Byte :=
  leBytes 2 r.idx ++ leBytes 2 r.ty ++ leBytes 4 r.off ++ leBytes 4 r.elem ++ leBytes 1 r.stage ++ zeros 3 ++ leBytes 4 r.w ++ leBytes 4 r.lim
    ++ leBytes 4 configId ++ leBytes 4 crc

end Sys2Proof.Machine
end

