-- ==== Sys2Proof/Machine/Group.lean ====
section
/-! DEFINITION. The redundancy group (17): claim words and rounds, output gates, sync ring, tracking and its copies,
takeover and handover, and the group page. The frame work of a tracking standby stands in Frame.lean. -/

namespace Sys2Proof.Machine

/-- GROUP record fields (17 R518). -/
def dwellS (s : State) : Nat := u16 (cfgBody s 0x0901 0) 2
def prefOf (s : State) : Nat := u8 (cfgBody s 0x0901 0) (4 + unitId s)

/-- Bit i of DIAG_GROUP_EVENT (17 R521). -/
def grEvent (s : State) (i : Nat) : State := { s with gr := { s.gr with event := bset s.gr.event i } }

def peer (s : State) (u : Nat) : Peer := Tab.get s.gr.peers Peer.init u
def updPeer (s : State) (u : Nat) (f : Peer → Peer) : State := { s with gr := { s.gr with peers := Tab.upd s.gr.peers Peer.init u f } }

/-- The other units of the group (17 R487). -/
def peerUnits (s : State) : List Nat := (bitsSet (groupMask s) 4).filter (fun u => decide (u ≠ unitId s))

/-- Bits of DIAG_FRAME_STATUS: TB_LOCKED 6, TIME_MASTER 8 (02 R57). -/
def tbLocked (s : State) : Bool := s.fr.status.toNat.testBit 6
def timeMaster (s : State) : Bool := s.fr.status.toNat.testBit 8
def setStatus (s : State) (i : Nat) (v : Bool) : State := { s with fr := { s.fr with status := bput s.fr.status i v } }

/-- A unit without a group is its own time master (02 R57). -/
def ownTime (s : State) : State := setStatus (setStatus s 6 true) 8 true

/-- The timebase has lost lock: TB_LOCKED 0 and TIMEBASE_UNLOCKED (01 R23, 02 R49, R50). -/
def unlock (s : State) : State := { setStatus (setStatus s 6 false) 7 true with gr := { s.gr with synced := false } }

/-! ### Claim words (R490, R491) -/

/-- Class of a mode in the claim word: none, hold or operating (17 R490). -/
inductive ClaimClass where
  | none | hold | operating
deriving DecidableEq, Repr

def claimClass (s : State) : ClaimClass :=
  match s.md.mode with
  | .reset => .none | .boot => .none | .unconfigured => .none | .configured => .none
  | .checking => if s.md.fromHold then .hold else .none
  | .safeHold => .hold | .service => .hold | .lockout => .hold
  | .active => .operating | .standby => .operating | .handover => .operating | .degraded => .operating

/-- This unit yields to the target of an announced handover, the holder itself from the round after the one in which it announces
the target (17 R514). -/
def yielding (s : State) : Bool :=
  match s.gr.target with
  | none => false
  | some t => decide (t.1 ≠ unitId s) && decide (s.gr.reqFrame ≠ some s.fr.frame)

/-- HEALTH of the claim word (17 R490, R513). -/
def claimHealth (s : State) : Nat :=
  if claimClass s = .hold then 1 else if yielding s || s.gr.capped then 2 else max 2 s.hl.score

/-- The claim word of the frame that the mode governs; none when the unit drives neither line (17 R490, R491). -/
def claimWord (s : State) : Option Nat :=
  if !grouped s || claimClass s = .none || !(tbLocked s || timeMaster s) then none
  else
    let y := yielding s
    some (4096 * claimHealth s + 2048 * b2n (decide (claimClass s = .operating) && s.gr.synced) + (if y then 0 else 256 * prefOf s)
      + 128 * b2n (!y && decide (s.gr.latch = 1)) + unitId s)

/-! ### The claim round (R492-R495) -/

/-- Result of a round on a line: 0 FAULTY, 1 WON, 2 LOST, 3 NONE (17 R493). -/
def lineResult (own : Option Nat) (l : LineObs) : Nat :=
  if l.dominant || decide (bits l.word 2 5 ≠ 0) || (l.recessive && own.isSome) then 0
  else if own = some l.word then 1
  else if l.word ≠ 0 then 2 else 3

/-- The latch of a round from the two results: 0 VACANT, 1 CONTROL, 2 PEER (17 R494). -/
def latchOf (r0 r1 : Nat) : Nat := if r0 = 2 ∨ r1 = 2 then 2 else if r0 = 1 ∨ r1 = 1 then 1 else 0

/-- The holder that a round shows: this unit, or the UNIT of the word that won (17 R487). -/
def holderOf (s : State) (latch r0 : Nat) (w0 w1 : Nat) : Option Nat :=
  if latch = 1 then some (unitId s) else if latch = 2 then some ((if r0 = 2 then w0 else w1) % 4) else none

/-- The time master: the holder, else the present unit with the lowest UNIT; a lone unit itself (02 R50, 17 R499). -/
def masterUnit (s : State) : Nat :=
  if !grouped s then unitId s
  else s.gr.holder.getD (((peerUnits s).filter (fun u => (peer s u).present)).foldl min (unitId s))

/-- Units of the group that are present, this unit included (17 R501). -/
def presentBits (s : State) : Nat :=
  (List.range 4).foldl (fun n u => if u = unitId s ∨ ((peerUnits s).contains u && (peer s u).present) then orBit n u else n) 0

/-- Seconds of dwell left (17 R508). -/
def dwellLeft (s : State) : Nat :=
  if !s.gr.tracking || s.gr.dwellDone then 0
  else match s.gr.dwellFrom with
    | none => dwellS s
    | some f => (dwellS s * 100000000 - (s.fr.t10 - f) + 99999999) / 100000000

/-- DIAG_GROUP_STATE (17 R521). -/
def grState (s : State) : Nat :=
  unitId s + 4 * s.gr.latch + 16 * b2n s.gr.incumbent + 32 * b2n s.gr.synced + 64 * b2n s.gr.tracking + 128 * b2n s.gr.joining
    + 256 * b2n (grouped s && yielding s) + 512 * b2n s.cfg.staged.isSome + 1024 * masterUnit s + 4096 * s.gr.healthSent
    + 65536 * presentBits s + 1048576 * groupMask s + 16777216 * b2n s.mram.grouped

/-- The ring is closed: both ports up, and every present peer reached through each (17 R501, R521). -/
def ringClosed (s : State) : Bool :=
  let p := BitVec.ofNat 4 (presentBits s) &&& ~~~ BitVec.twoPow 4 (unitId s)
  s.gr.slUp == 3 && decide (s.gr.last0 = p) && decide (s.gr.last1 = p)

/-- Two sync protocol numbers have one in common (17 R506). -/
def protoMeets (a b : Nat) : Bool := decide (a ≤ b + 1) && decide (b ≤ a + 1)

/-- The sync protocol in use (17 R506). -/
def protoUsed (s : State) : Nat :=
  match s.gr.holder with
  | none => Config.syncProto % 16
  | some u => if u = unitId s || !protoMeets Config.syncProto (peer s u).proto then Config.syncProto % 16 else min Config.syncProto (peer s u).proto % 16

/-- DIAG_PEER_CLAIM of unit u (17 R521). -/
def peerClaim (s : State) (u : Nat) : Nat :=
  if !grouped s then 0
  else if u = unitId s then s.gr.own + 65536 * s.md.mode.num + 1048576
  else
    let p := peer s u
    p.claim + 65536 * p.mode + 1048576 * b2n p.present + 2097152 * b2n (s.gr.tracking && decide (s.gr.holder = some u))

/-- The registers that change at the end of a claim round: STATE, DWELL_LEFT, SYNC_ERRORS, SYNC_RING,
STATE_DIFF_COUNT, JOIN, TAKEOVER, PEER_CLAIM (17 R521). -/
def grRegs (s : State) : List Nat :=
  [grState s, dwellLeft s, s.gr.syncErrors,
   if grouped s then s.gr.slUp.toNat + 4 * b2n (ringClosed s) + 16 * s.gr.last0.toNat + 256 * s.gr.last1.toNat + 4096 * protoUsed s else 0,
   s.gr.diffs, s.gr.joinMib % 65536 + 65536 * (s.gr.joinAll % 65536), s.gr.takeover + 65536 * b2n s.gr.capped] ++ (List.range 4).map (peerClaim s)

/-- Abandons or ends the announced handover (17 R514). -/
def dropTarget (s : State) : State := { s with gr := { s.gr with target := none, reqFrame := none } }

/-- The command in progress with an opcode. -/
def cmdOf (s : State) (op : Op) : Option Cmd := s.cm.cmds.find? (fun c => decide (c.op = op))

/-- This unit's own HANDOVER_REQUEST completes (17 R514). -/
def endRequest (s : State) (a : Answer) : State := match cmdOf s .handoverRequest with | none => s | some c => complete s c a

/-- CLAIM_LATCH: the latch of the round of this frame, formed at T + 2 us (17 R493-R495), which opens the bus transmit gates with it (15 R429); its change abandons the
field-side tests (18 R531). -/
def doClaimLatch (s0 : State) (l0 l1 : LineObs) : State :=
  if !grouped s0 || decide (s0.gr.round = some s0.fr.frame) || s0.md.mode = .reset || s0.md.mode = .boot then s0
  else
    let s := advanceTo s0 (s0.fr.tick + 200)
    let g := s.gr
    let r0 := lineResult g.word l0
    let r1 := lineResult g.word l1
    let latch := latchOf r0 r1
    let w0 := l0.word % 65536
    let w1 := l1.word % 65536
    let differ := decide (r0 ≠ 0) && decide (r1 ≠ 0) && decide (w0 ≠ w1)
    let holder := holderOf s latch r0 w0 w1
    let vacant := if latch = 0 then g.vacant + 1 else 0
    let loses := g.claimed && (decide (latch = 2) || decide (2 ≤ vacant))
    let gained := decide (latch = 1) && decide (g.latch ≠ 1)
    let s1 := { s with gr := { g with
        latch := latch, vacant := vacant, round := some s.fr.frame
        claimed := if latch = 1 then true else if loses then false else g.claimed
        own := g.word.getD 0, word0 := w0, word1 := w1
        claimStatus := r0 + 4 * r1 + 16 * b2n l0.dominant + 32 * b2n l1.dominant + 64 * b2n (decide (bits w0 2 5 ≠ 0)) + 128 * b2n (decide (bits w1 2 5 ≠ 0))
          + 256 * b2n (l0.recessive && g.word.isSome) + 512 * b2n (l1.recessive && g.word.isSome) + 1024 * b2n differ
        faults0 := if r0 = 0 then satInc 0xFFFF g.faults0 else g.faults0
        faults1 := if r1 = 0 then satInc 0xFFFF g.faults1 else g.faults1
        incumbent := (g.word.getD 0).testBit 7, healthSent := (g.word.getD 0) / 4096
        gained := if gained then s.fr.frame else g.gained
        holder := holder, holderFrame := if holder = g.holder then g.holderFrame else s.fr.frame } }
    let s2 := cmpDrop (if gained then (List.range 4).foldl openInFrame (grEvent s1 0) else s1)
    let s3 := if loses then grEvent s2 1 else s2
    let s4 := if r0 = 0 ∨ r1 = 0 ∨ differ then grEvent s3 5 else s3
    let s5 := match s4.gr.target with
      | some t => if g.holder = some t.1 ∧ holder ≠ some t.1 then dropTarget s4 else s4
      | none => s4
    let s6 := if latch = g.latch then s5 else abandonTests true s5
    { s6 with gr := { s6.gr with shown := grRegs s6 } }

def execClaimLatch (l0 l1 : LineObs) (s : State) : Host.Outcome State Fault Refusal := done s (doClaimLatch s l0 l1)

/-! ### Output gates (R489, R496) -/

/-- Index of a receiver: the field controller 0, OB bank g + 1. -/
def rxIdx (rx : Option (Fin 8)) : Nat := match rx with | none => 0 | some g => g.val + 1

/-- The gate message of this round shows CONTROL (17 R496). -/
def gateControl (s : State) (arrived : Bool) : Bool := arrived && decide (s.gr.latch = 1) && decide (s.gr.round = some s.fr.frame)

/-- GATE_CLOSE at T + 3.0 us (17 R496); a receiver whose GROUPED setting is 0 has no closing gate (R489). -/
def doGateClose (s0 : State) (rx : Option (Fin 8)) (arrived : Bool) : State :=
  if !s0.mram.grouped then s0
  else
    let s := advanceTo s0 (s0.fr.tick + 300)
    if gateControl s arrived then s else cmpDrop { s with gr := { s.gr with gate := bset s.gr.gate (rxIdx rx) } }

def execGateClose (rx : Option (Fin 8)) (arrived : Bool) (s : State) : Host.Outcome State Fault Refusal := done s (doGateClose s rx arrived)

/-- The gate of a receiver opens: the currents of its bank are delivered since now (09 R224, R228, 17 R496). -/
def openGate (s : State) (k : Nat) : State :=
  if gateShut s k then
    { s with
      gr := { s.gr with gate := bclr s.gr.gate k }
      an := { s.an with
        ao := Tab.updMany s.an.ao AoCh.init ((List.range 32).filter (fun c => decide (c / 4 + 1 = k))) (fun _ x => { x with since := s.fr.t10 }) } }
  else s

/-- GATE_OPEN at T + 3.5 us (17 R496). -/
def doGateOpen (s0 : State) (rx : Option (Fin 8)) (arrived : Bool) : State :=
  if !s0.mram.grouped then s0
  else
    let s := advanceTo s0 (s0.fr.tick + 350)
    if gateControl s arrived then openGate s (rxIdx rx) else s

def execGateOpen (rx : Option (Fin 8)) (arrived : Bool) (s : State) : Host.Outcome State Fault Refusal := done s (doGateOpen s rx arrived)

/-! ### Sync ring (R499-R502) -/

/-- One copy discarded on a port (17 R501). -/
def syncDiscard (s : State) : State := grEvent { s with gr := { s.gr with syncErrors := satInc32 s.gr.syncErrors } } 4

/-- The modes in which a unit may step to the master's timebase (02 R49). -/
def mayStep (m : Mode) : Bool := match m with | .boot => true | .unconfigured => true | .configured => true | .checking => true | _ => false

/-- The sender of a section is the time master (02 R50, 17 R499). -/
def fromMaster (s : State) (u : Nat) (x : Section) : Bool :=
  decide (s.gr.holder = some u) || x.claim.testBit 7 || (s.gr.holder.isNone && decide (masterUnit s = u)) || (!groupKnown s && decide (u < unitId s))

/-- T10 and FRAME_NO of the master's next tick, once two sections of successive frames have shown its frame period (02 R49). -/
def masterNext (s : State) (x : Section) : Option (Nat × Nat) :=
  match s.gr.masterAt with
  | none => none
  | some m => if x.frame = m.2 + 1 ∧ m.1 < x.t10 then some (x.t10 + (x.t10 - m.1), x.frame + 1) else none

/-- The tick comparison with the master (02 R49, R50, R57). -/
def compareMaster (s : State) (x : Section) : State :=
  let same := decide (x.frame = s.fr.frame) && decide (x.t10 = s.fr.tick)
  let nxt := masterNext s x
  let s1 := { s with
    fr := { s.fr with syncErr := (s.fr.tick : Int) - x.t10 }
    gr := { s.gr with masterMiss := 0, agrees := same, masterAt := some (x.t10, x.frame) } }
  if same then s1
  else if mayStep s.md.mode then (if s.gr.stepped then s1 else { s1 with gr := { s1.gr with stepTo := nxt.or s1.gr.stepTo } })
  else if s.md.mode.allPhases then unlock s1 else s1

/-- What a section says of its unit (17 R502). -/
def notePeer (s : State) (u : Nat) (x : Section) : State :=
  updPeer s u (fun p => { p with
    present := true, missed := 0, lostSeen := false, mode := x.mode, claim := x.claim % 65536, score := x.score, synced := x.synced, staged := x.staged
    capped := x.capped, programId := x.programId, agreeCrc := x.agreeCrc, proto := x.proto, dwell := x.dwell })

/-- SYNC_SECTION_RECEIVED (17 R500-R502, R514): port 0 SL0, port 1 SL1. -/
def doSection (s : State) (u port : Nat) (crcOk : Bool) (x : Section) : State :=
  if s.md.mode = .reset || u = unitId s || (groupKnown s && !(grouped s && (peerUnits s).contains u)) then s
  else if !crcOk then syncDiscard s
  else
    let s1 := if (peer s u).present then s else grEvent s 3
    let s2 := notePeer s1 u x
    let s3 := if port = 0 then { s2 with gr := { s2.gr with reach0 := bset s2.gr.reach0 u } } else { s2 with gr := { s2.gr with reach1 := bset s2.gr.reach1 u } }
    let s4 := if fromMaster s u x && !timeMaster s then compareMaster s3 x
      else if !groupKnown s && fromMaster s u x then compareMaster s3 x else s3
    let isHolder := decide (s.gr.holder = some u)
    let s5 := if x.lockout && grouped s then { s4 with mram := { s4.mram with lockout := true }, md := { s4.md with pendEdm := true } } else s4
    let s6 := if !isHolder then s5
      else match x.announce with
        | some t => { s5 with gr := { s5.gr with target := some t } }
        | none => match s5.gr.target with
          | some t => if t.1 = u then s5 else dropTarget s5
          | none => s5
    let s7 := match s6.gr.target with | some t => if t.1 = u ∧ x.mode = 5 then dropTarget s6 else s6 | none => s6
    if isHolder && s7.gr.tracking && decide (x.frame = s7.fr.frame) then { s7 with gr := { s7.gr with part := x.part.or s7.gr.part } } else s7

def execSyncSectionReceived (unit : Fin 4) (port : Fin 2) (crcOk : Bool) (sec : Section) (s : State) : Host.Outcome State Fault Refusal :=
  done s (doSection s unit.val port.val crcOk sec)

/-- SYNC_EVENT_RECEIVED: a tracking standby stores the holder's frame, or keeps the holder's FIFO entry (17 R502, R503). -/
def doSyncEvent (s : State) (ev : SyncEvent) : State :=
  if !(grouped s && s.gr.tracking) then s
  else match ev with
    | .rxFrame p t10 ide id fdf data =>
      let r := lookupFrame { s with fr := { s.fr with t10 := t10 } } p.val ide id fdf data
      { r with fr := { r.fr with t10 := s.fr.t10 } }
    | .fifo ch e => { s with gr := { s.gr with fifo := Tab.upd s.gr.fifo [] ch.val (fun l => l ++ [e]) } }

def execSyncEventReceived (ev : SyncEvent) (s : State) : Host.Outcome State Fault Refusal := done s (doSyncEvent s ev)

/-- SYNC_PORT_DOWN: the ring is broken (17 R520, R521). -/
def doPortDown (s : State) (port : Nat) : State :=
  if !s.gr.slUp.toNat.testBit port then s
  else
    let s1 := { s with gr := { s.gr with slUp := bclr s.gr.slUp port } }
    if grouped s then grEvent s1 4 else s1

def execSyncPortDown (port : Fin 2) (s : State) : Host.Outcome State Fault Refusal := done s (doPortDown s port.val)

/-- SYNC_PORT_UP (17 R501, R521). -/
def doPortUp (s : State) (port : Nat) : State := { s with gr := { s.gr with slUp := bset s.gr.slUp port } }

def execSyncPortUp (port : Fin 2) (s : State) : Host.Outcome State Fault Refusal := done s (doPortUp s port.val)

/-- Peer u has been absent for 8 frames in a row, unreported (17 R520). -/
def lostNow (s : State) (u : Nat) : Bool := decide (8 ≤ (peer s u).missed) && !(peer s u).lostSeen && (peerUnits s).contains u

/-- PEER_LOST (17 R520). -/
def doPeerLost (s : State) (u : Nat) : State :=
  if lostNow s u then grEvent (updPeer s u (fun p => { p with lostSeen := true })) 2 else s

def execPeerLost (unit : Fin 4) (s : State) : Host.Outcome State Fault Refusal := done s (doPeerLost s unit.val)

/-- TIME_MASTER_FALLBACK: 8 frames without a comparison from the master (17 R499). -/
def doFallback (s : State) : State :=
  if grouped s && tbLocked s && !timeMaster s && decide (8 ≤ s.gr.masterMiss) then unlock s else s

def execTimeMasterFallback (s : State) : Host.Outcome State Fault Refusal := done s (doFallback s)

/-! ### Tracking and joining (R503-R508) -/

/-- Stops tracking; the standby joins again (17 R504). -/
def stopTracking (s : State) : State :=
  { s with gr := { s.gr with tracking := false, joining := false, joined := false, bgDone := false, dwellFrom := none, dwellDone := false } }

/-- A standby may join the holder (17 R505, R506). -/
def mayJoin (s : State) : Bool :=
  match s.gr.holder with
  | none => false
  | some u =>
    let p := peer s u
    decide (u ≠ unitId s) && p.present && protoMeets Config.syncProto p.proto && decide (p.programId = s.cfg.ids.2.2) && decide (p.agreeCrc = agreeCrc s.cfg.run)

/-- A present holder with another program, other agreed records or no common protocol cannot be tracked (17 R505, R506, R517). -/
def cannotTrack (s : State) : Bool :=
  match s.gr.holder with
  | none => false
  | some u => decide (u ≠ unitId s) && (peer s u).present && !mayJoin s

/-- The holder's tasks with this unit's own peaks, which are none of the tracked state (13 R391). -/
def ownPeaks (mine theirs : Tab TaskSt) : Tab TaskSt :=
  Tab.updMany theirs TaskSt.init ((theirs ++ mine).map (·.1)) (fun t x => { x with peak := (Tab.get mine TaskSt.init t).peak })

/-- Tracked state copied from the holder (17 R503, R505). -/
def loadTracked (s : State) (c : Tracked) : State :=
  { s with
    pg := { s.pg with vars := c.vars, insts := c.insts, tasks := ownPeaks s.pg.tasks c.tasks }
    ce := { s.ce with slots := c.slots, stages := c.stages, learners := c.learners }
    bus := { s.bus with hist := c.hist }
    sf := { s.sf with txSeq := c.seqs } }

/-- JOIN_COPY_DONE: tracking starts at the next tick (17 R505); a copy that fails is asked for again. -/
def doJoinCopy (s : State) (ok : Bool) (mib all : Nat) (c : Tracked) : State :=
  if !(s.gr.joining && !s.gr.joined && !s.gr.tracking) then s
  else if !ok then { s with gr := { s.gr with joining := false, joinMib := mib, joinAll := all } }
  else
    let s1 := loadTracked s c
    { s1 with gr := { s1.gr with joined := true, bgDone := false, joinMib := mib, joinAll := all } }

def execJoinCopyDone (ok : Bool) (mib all : Nat) (copy : Tracked) (s : State) : Host.Outcome State Fault Refusal := done s (doJoinCopy s ok mib all copy)

/-- BACKGROUND_COPY_DONE: the dwell starts counting (17 R505, R508). -/
def doBackground (s : State) (mib : Nat) (c : TrackedBg) : State :=
  if !(s.gr.tracking && !s.gr.bgDone) then s
  else { s with
    pt := { s.pt with recs := c.recs, rings := c.rings, journal := c.journal }
    gr := { s.gr with bgDone := true, joining := false, joinMib := mib, dwellFrom := some s.fr.t10 } }

def execBackgroundCopyDone (mib : Nat) (copy : TrackedBg) (s : State) : Host.Outcome State Fault Refusal := done s (doBackground s mib copy)

/-- The dwell is over at this T10 (17 R508). -/
def dwellOver (s : State) : Bool :=
  s.gr.tracking && s.gr.bgDone && !s.gr.dwellDone && (match s.gr.dwellFrom with | none => false | some f => decide (f + dwellS s * 100000000 ≤ s.fr.t10))

/-- SYNCED becomes 1 in a standby: RETURN_READY (17 R508). -/
def becomeSynced (s : State) : State := if s.gr.synced then s else grEvent { s with gr := { s.gr with synced := true } } 7

/-- DWELL_END (17 R508). -/
def doDwellEnd (s0 : State) (dt : Nat) : State :=
  let s := advance s0 dt
  if dwellOver s && decide (s.md.mode = .standby) then becomeSynced { s with gr := { s.gr with dwellDone := true } } else s

def execDwellEnd (dt : Nat) (s : State) : Host.Outcome State Fault Refusal := done s (doDwellEnd s dt)

/-- SYNCED at a tick (17 R508). -/
def syncedNow (s : State) : Bool :=
  grouped s && (match s.gr.holder with
  | none => decide (s.md.mode = .standby) && (tbLocked s || timeMaster s)
  | some u => if u = unitId s then tbLocked s || timeMaster s else decide (s.md.mode = .standby) && s.gr.tracking && s.gr.dwellDone && tbLocked s)

/-- PF offsets and REFERENCED between the holder's latch and this unit's own, at a tick (17 R507). -/
def notePfOffsets (s : State) (img : Image) : State :=
  let h := fun c => Tab.get img.pf PfImg.init c
  { s with gr := { s.gr with
      pfOff := (List.range 8).foldl (fun t c => Tab.set t 0 c (posDiff (h c).pos (pfCh s c).lPos)) []
      pfRef := some (ofBits 8 (fun c => (h c).referenced)) } }

/-- At the entry into HANDOVER the latest offsets are added, without a compare hit, and REFERENCED is taken past
(17 R507). -/
def applyPfOffsets (s : State) : State :=
  match s.gr.pfRef with
  | none => s
  | some ref =>
    let one := fun (s : State) c =>
      let d := BitVec.ofInt 48 (Tab.get s.gr.pfOff 0 c)
      if !(pfCh s c).decoded then s
      else
        let s1 := updPf s c (fun x => { x with r := x.r + d, c := x.c + d, moved := true })
        if ref.toNat.testBit c then pfReference s1 c else pfUnreference s1 c
    let s1 := (List.range 8).foldl one s
    { s1 with gr := { s1.gr with pfRef := none } }

/-! ### Takeover and handover (R512-R515) -/

/-- The first DO, AO and SO that fail the takeover check at this tick (17 R512). -/
def takeoverDo (s : State) : Option Nat :=
  (List.range 64).find? (fun c =>
    let d := doCh s c
    let g := doGrp s (c / 8)
    doCfg s c && !doFlag s c 0 && !d.held && !d.latchOff && !g.missing && !g.ackWait && s.dio.rbTick.toNat.testBit c != doIsOn s c)
def takeoverAo (s : State) : Option Nat :=
  (List.range 32).find? (fun c =>
    aoCounts s c && F64.gt (F64.abs (F64.sub (aoCh s c).readback (aoDelivers s c))) (frac64 2 10))
def takeoverSo (s : State) : Option Nat :=
  (List.range 8).find? (fun k => soIn s k && (s.sf.rbHigh.toNat.testBit k != soHighOn s k || s.sf.rbLow.toNat.testBit k != soLowOn s k))

/-- The takeover check at a tick of HANDOVER (17 R512, R513). -/
def takeoverCheck (s : State) : State :=
  let d := takeoverDo s
  let a := takeoverAo s
  let o := takeoverSo s
  match d.or (a.or o) with
  | none => s
  | some ch =>
    let t := s.gr.takeover
    let flags := b2n (d.isSome || t.testBit 0) + 2 * b2n (a.isSome || t.testBit 1) + 4 * b2n (o.isSome || t.testBit 2)
    let first := if t = 0 then ch else bits t 8 8
    grEvent { s with gr := { s.gr with takeover := flags + 256 * first, capped := true } } 8

/-- DIAG_GROUP_CAP_CLR: the cap ends at the next tick (17 R513, R521). -/
def doCapClr (s : State) (v : Word) : State := if v.toNat.testBit 0 then { s with gr := { s.gr with capClr := true } } else s

def execDiagGroupCapClr (v : Word) (s : State) : Host.Outcome State Fault Refusal := done s (hostAccess s (fun s => doCapClr s v))

/-- An eligible target of HANDOVER_REQUEST, else the DETAIL of REFUSED_GROUP (17 R514, R515). -/
def targetFault (s : State) (u : Nat) (program : Bool) : Nat :=
  let p := peer s u
  if u = unitId s then 5
  else if !((peerUnits s).contains u && p.present && decide (p.mode = 6)) then 2
  else if !p.synced then 3
  else if program && !p.staged then 4
  else if p.capped then 7 else 0

/-- The target that HANDOVER_REQUEST names: DETAIL 0 with the unit, or why not (17 R514, R515). -/
def handoverTarget (s : State) (toUnit : Nat) (program : Bool) : Nat × Nat :=
  if !grouped s then (1, 0)
  else if toUnit = 0xFF then
    match (peerUnits s).filter (fun u => decide (targetFault s u program = 0)) with
    | [] => (2, 0)
    | u :: l => (0, l.foldl (fun a b => if (peer s a).claim < (peer s b).claim then b else a) u)
  else (targetFault s toUnit program, toUnit)

def refusedGroup (d : Nat) : Answer := errA 0x32 d

/-- HANDOVER_ABANDON: the target has not won by round j + 8 (17 R514, R515). -/
def abandonNow (s : State) : Bool :=
  match s.gr.reqFrame with
  | none => false
  | some j => decide (s.gr.latch ≠ 2) && (match s.gr.round with | none => false | some r => decide (j + 8 ≤ r))

def doAbandon (s : State) : State := if abandonNow s then endRequest (dropTarget s) (refusedGroup 6) else s

def execHandoverAbandon (s : State) : Host.Outcome State Fault Refusal := done s (doAbandon s)

/-- The target of this unit's own HANDOVER_REQUEST has won (17 R514). -/
def wonTarget (s : State) : Option Nat :=
  match s.gr.target with
  | some t => if s.gr.reqFrame.isSome ∧ s.gr.holder = some t.1 then some t.1 else none
  | none => none

/-- The former holder has entered STANDBY: its own request completes where the target has won (17 R514). -/
def requestWon (s : State) : State :=
  match wonTarget s with
  | some t =>
    let s1 := endRequest s (okA (leBytes 1 t ++ zeros 7 ++ leBytes 8 s.gr.holderFrame))
    { s1 with gr := { s1.gr with reqFrame := none } }
  | none => s

/-- GROUP_STATUS (06 R151). -/
def groupStatusData (s : State) : List Byte :=
  let unit := fun u =>
    let own := decide (u = unitId s)
    let p := peer s u
    let pres := own || (grouped s && (peerUnits s).contains u && p.present)
    let holds := decide (s.gr.holder = some u)
    let flags := b2n pres + 2 * b2n (if own then s.gr.synced else p.synced) + 4 * b2n holds + 8 * b2n (decide (masterUnit s = u))
      + 16 * b2n (if own then s.cfg.staged.isSome else p.staged)
    let mode := if own then s.md.mode.num else p.mode
    leBytes 1 (if pres then mode else 0xFF) ++ leBytes 1 (if pres then flags else 0) ++ leBytes 2 (if own then s.gr.own else p.claim)
      ++ leBytes 2 (if !pres then 0 else if own then dwellLeft s else p.dwell) ++ zeros 2
  (List.range 4).flatMap unit ++ leBytes 1 (s.gr.holder.getD 0xFF) ++ zeros 7 ++ leBytes 8 s.gr.holderFrame

/-! ### The tick -/

/-- The bits of DIAG_GROUP_EVENT whose condition still holds are set again (17 R520): a peer absent for 8 frames, a broken ring. -/
def markGroup (s : State) : State :=
  let s1 := if (peerUnits s).any (fun u => decide (8 ≤ (peer s u).missed)) then grEvent s 2 else s
  if s1.gr.slUp = 3 then s1 else grEvent s1 4

/-- The sections of the frame that has ended (17 R501, R520). -/
def tickPeers (s : State) : State :=
  let got := s.gr.reach0 ||| s.gr.reach1
  let s1 := (List.range 4).foldl (fun s u =>
    if !(peerUnits s).contains u then s
    else if got.toNat.testBit u then s else updPeer s u (fun p => { p with present := false, missed := satInc 255 p.missed })) s
  let s2 := { s1 with gr := { s1.gr with last0 := s1.gr.reach0, last1 := s1.gr.reach1, reach0 := 0, reach1 := 0 } }
  markGroup ((List.range 4).foldl doPeerLost s2)

/-- The timebase in a group at a tick: the master, and frames without a comparison (02 R50, 17 R497, R499). -/
def tickMaster (s : State) : State :=
  let m := decide (masterUnit s = unitId s)
  let s1 := setStatus s 8 m
  if m then { setStatus s1 6 true with gr := { s1.gr with masterMiss := 0 } }
  else doFallback { s1 with gr := { s1.gr with masterMiss := satInc 255 s1.gr.masterMiss } }

/-- What a group does at a tick before the mode is chosen (17 R499, R501, R513, R514). -/
def tickGroup (s : State) : State :=
  if !grouped s then s
  else
    let s1 := tickMaster (tickPeers s)
    let s2 := if s1.gr.capClr then { s1 with gr := { s1.gr with capped := false, capClr := false } } else s1
    let s3 := doAbandon s2
    match s3.gr.target with
    | some t => if s3.gr.holder = some t.1 ∧ s3.gr.holderFrame + 4 ≤ s3.fr.frame then dropTarget s3 else s3
    | none => s3

/-- The latch loses (17 R494). -/
def claimLost (s : State) : Bool := grouped s && !s.gr.claimed

/-- Tracking, joining and SYNCED at a tick once the mode is known, and the word of the round (17 R491, R503-R508). -/
def tickTracking (s : State) : State :=
  if !grouped s then s
  else
    let s1 := if s.md.mode ≠ .standby ∨ (s.gr.tracking = true ∧ cannotTrack s = true) then stopTracking s
      else if s.gr.joined then { s with gr := { s.gr with joined := false, tracking := true, dwellDone := false, dwellFrom := none } }
      else if s.gr.tracking then s
      else { s with gr := { s.gr with joining := mayJoin s } }
    let s2 := if dwellOver s1 then { s1 with gr := { s1.gr with dwellDone := true } } else s1
    let v := syncedNow s2
    let s3 := if v && decide (s2.md.mode = .standby) then becomeSynced s2 else { s2 with gr := { s2.gr with synced := v } }
    { s3 with gr := { s3.gr with word := claimWord s3 } }

/-- A unit that loses the latch to a peer that has tracked it keeps tracking, and its dwell starts (17 R508). -/
def keepTracking (s : State) : State :=
  if mayJoin s && (match s.gr.holder with | some u => (peer s u).synced | none => false) then
    { s with gr := { s.gr with tracking := true, joining := false, joined := false, bgDone := true, dwellFrom := some s.fr.t10, dwellDone := false } }
  else s

/-- The group at the tick at which the module leaves CHECKING (17 R488, R489); `was` tells that it was grouped
before. -/
def startGroup (was : Bool) (s : State) : State :=
  let s1 := { s with mram := { s.mram with grouped := grouped s } }
  if grouped s then
    if was then s1
    else { s1 with gr := { s1.gr with latch := 0, vacant := 0, claimed := false, round := none, holder := none, holderFrame := s.fr.frame } }
  else
    let s2 := (List.range 9).foldl openGate s1
    ownTime { s2 with gr := { s2.gr with latch := 1, holder := some (unitId s), holderFrame := s.fr.frame, shown := [] } }

/-! ### Registers (R521) -/

/-- A read of the group page, BAR0 0x5100-0x52FF (17 R521). -/
def grRead (s : State) (off : Nat) : Nat :=
  let o := off - 0x5100
  let g := s.gr
  let reg := fun i => (if grouped s && !g.shown.isEmpty then g.shown else grRegs s).getD i 0
  if o = 0 then g.event.toNat
  else if o = 0x04 then reg 0
  else if o = 0x08 then g.own
  else if o = 0x0C then g.word0 + 65536 * g.word1
  else if o = 0x10 then g.claimStatus
  else if o = 0x14 then g.faults0 + 65536 * g.faults1
  else if o = 0x18 then reg 1
  else if o = 0x1C then reg 2
  else if o = 0x20 then reg 3
  else if o = 0x24 then reg 4
  else if o = 0x28 then reg 5
  else if o = 0x2C then g.gained % 4294967296
  else if o = 0x30 then reg 6
  else if 0x40 ≤ o ∧ o < 0x50 then reg (7 + (o - 0x40) / 4)
  else if 0x60 ≤ o ∧ o < 0x80 then sat31 (Tab.get g.pfOff 0 ((o - 0x60) / 4))
  else 0

/-- A write to the group page (17 R521). -/
def grWrite (s : State) (off : Nat) (v : Word) : State :=
  if off = 0x5100 then { s with gr := { s.gr with event := s.gr.event &&& ~~~ BitVec.ofNat 9 v.toNat } }
  else if off = 0x5134 then doCapClr s v else s

end Sys2Proof.Machine
end

