-- ==== Sys2Proof/Machine/Ranges.lean ====
section
/-! DEFINITION. Stages 2 and 3 of the enable check: presence and ranges (04 R94, R95, R103, R104), with the Range
columns of every record. -/

namespace Sys2Proof.Machine

/-- The code of the first condition that holds, 0 for none. -/
def firstBad : List (Bool × Nat) → Nat
  | [] => 0
  | (c, k) :: r => if c then k else firstBad r

/-- The first element that a test refuses: code and ELEMENT (04 R95). -/
def firstElem (f : Nat → List Byte → Nat) : Nat → List (List Byte) → Nat × Nat
  | _, [] => (0, 0)
  | k, b :: r => let c := f k b; if c ≠ 0 then (c, k) else firstElem f (k + 1) r

/-- The elements of a list record. -/
def elems (size : Nat) (r : Rec) : List (List Byte) := (List.range (r.body.length / size)).map (fun k => (r.body.drop (size * k)).take size)

/-- Runs a stage's tests over the records in image order: `f` takes the records before and the record (04 R95). -/
def scan (stage : Nat) (f : List Rec → Rec → Nat × Nat) (pre : List Rec) : List Rec → CheckRes
  | [] => CheckRes.none_
  | r :: l => let v := f pre r; if v.1 ≠ 0 then atRecord v.1 stage r v.2 else scan stage f (pre ++ [r]) l

/-- The records between the framing records (04 R85). -/
def innerRecs (b : List Byte) : List Rec := ((imgRecs b).drop 1).dropLast

/-- A byte of the `n` from offset `o` on is not 0: a reserved field (00 R16). -/
def nz (b : List Byte) (o n : Nat) : Bool := ((b.drop o).take n).any (fun x => x != 0)

/-- A number lies outside a range. -/
def outOf (x lo hi : Nat) : Bool := decide (x < lo) || decide (hi < x)
def outOfI (x lo hi : Int) : Bool := decide (x < lo) || decide (hi < x)

/-! ### Stage 2 -/

/-- A record type (04 R87): list type, element size or body length, items. -/
structure TyInfo where
  list : Bool
  size : Nat
  items : Nat

/-- The record types with their body sizes; the types whose length depends on a count give the fixed part. -/
def tyInfo (ty : Nat) : Option TyInfo :=
  if ty = 0x0101 then some ⟨false, 32, 1⟩
  else if ty = 0x0201 then some ⟨false, 8, 96⟩
  else if ty = 0x0202 then some ⟨false, 8, 32⟩
  else if ty = 0x0203 then some ⟨false, 8, 8⟩
  else if ty = 0x0204 then some ⟨false, 8, 64⟩
  else if ty = 0x0205 then some ⟨false, 8, 8⟩
  else if ty = 0x0206 then some ⟨false, 8, 1⟩
  else if ty = 0x0207 then some ⟨false, 8, 8⟩
  else if ty = 0x0301 then some ⟨false, 8, 6⟩
  else if ty = 0x0302 then some ⟨false, 8, 48⟩
  else if ty = 0x0303 then some ⟨false, 8, 8⟩
  else if ty = 0x0304 then some ⟨false, 8, 32⟩
  else if ty = 0x0401 then some ⟨false, 40, 8⟩
  else if ty = 0x0402 then some ⟨false, 8, 8⟩
  else if ty = 0x0403 then some ⟨false, 24, 8⟩
  else if ty = 0x0501 then some ⟨false, 24, 4⟩
  else if ty = 0x0502 then some ⟨true, 16, 0⟩
  else if ty = 0x0503 then some ⟨false, 24, 256⟩
  else if ty = 0x0601 then some ⟨false, 16, 64⟩
  else if ty = 0x0602 then some ⟨false, 64, 512⟩
  else if ty = 0x0603 then some ⟨false, 784, 64⟩
  else if ty = 0x0604 then some ⟨false, 32, 16⟩
  else if ty = 0x0605 then some ⟨false, 48, 16⟩
  else if ty = 0x0701 then some ⟨false, 16, 16⟩
  else if ty = 0x0702 then some ⟨true, 32, 0⟩
  else if ty = 0x0703 then some ⟨true, 16, 0⟩
  else if ty = 0x0801 then some ⟨false, 16, 1⟩
  else if ty = 0x0802 then some ⟨true, 24, 0⟩
  else if ty = 0x0803 then some ⟨true, 24, 0⟩
  else if ty = 0x0804 then some ⟨false, 8, 16⟩
  else if ty = 0x0805 then some ⟨false, 8, 8⟩
  else if ty = 0x0806 then some ⟨false, 24, 32⟩
  else if ty = 0x0807 then some ⟨false, 8, 1⟩
  else if ty = 0x0901 then some ⟨false, 16, 1⟩
  else if ty = 0x0A01 then some ⟨true, 32, 0⟩
  else if ty = 0x0A02 then some ⟨false, 56, 256⟩
  else if ty = 0x0A03 then some ⟨false, 8, 256⟩
  else if ty = 0x0B01 then some ⟨true, 8, 0⟩
  else if ty = 0x0B02 then some ⟨false, 16, 8⟩
  else none

/-- `n` rounded up to a multiple of 8. -/
def up8 (n : Nat) : Nat := (n + 7) / 8 * 8

/-- LENGTH suits the TYPE (04 R103; the counts of 10 R276, 11 R304, 13 R386, 16 R482). -/
def lengthOk (i : TyInfo) (r : Rec) : Bool :=
  let b := r.body
  if i.list then decide (r.len % i.size = 0)
  else if r.ty = 0x0402 then decide (8 ≤ r.len) && decide (r.len = 8 + 16 * u16 b 0)
  else if r.ty = 0x0601 then decide (16 ≤ r.len) && decide (r.len = 16 + 16 * u8 b 3)
  else if r.ty = 0x0701 then decide (16 ≤ r.len) && decide (r.len = up8 (16 + 4 * u16 b 8))
  else if r.ty = 0x0807 then decide (8 ≤ r.len) && decide (r.len = up8 (8 + 4 * u8 b 5))
  else decide (r.len = i.size)

/-- FLAGS.AGREE as 04 R87 requires. -/
def agreeOk (r : Rec) : Bool :=
  let h := r.ty / 256
  if h = 7 then !r.flags.testBit 0 else if h = 0x0B then true else r.flags.testBit 0

/-- Stage type codes that exist (11 R306). -/
def stageTypeOk (t : Nat) : Bool := decide (1 ≤ t) && decide (t ≤ 12) && decide (t ≠ 5)

/-- The tests of stage 2 on one record, in ascending byte order (04 R94, R95, R103). -/
def presence (pre : List Rec) (r : Rec) : Nat × Nat :=
  let g := r.ty / 256 * 256
  match tyInfo r.ty with
  | none => (g + 0xF0, 0)
  | some i =>
    let n := (recsOf pre r.ty).length
    let range := if i.list then decide (n < r.idx) else decide (i.items ≤ r.idx)
    let dup := if i.list then decide (r.idx < n) else (findRec pre r.ty r.idx).isSome
    (firstBad [
      (!lengthOk i r, g + 0xF1),
      (range, if r.ty = 0x0101 then 0x0102 else g + 0xF2),
      (dup, if r.ty = 0x0101 then 0x0102 else g + 0xF3),
      (!agreeOk r, g + 0xF6),
      (decide (r.ty = 0x0602) && !stageTypeOk (u8 r.body 0), 0x0602)], 0)

/-- Stage 2: the mandatory records first, then the records in image order. -/
def presenceStage (l : List Rec) : CheckRes :=
  if recsOf l 0x0101 = [] then noRecord 0x0101 2 0x0101
  else if recsOf l 0x0801 = [] then noRecord 0x0801 2 0x0801
  else if recsOf l 0x0901 = [] then noRecord 0x0901 2 0x0901
  else scan 2 presence [] l

/-! ### Stage 3 -/

/-- The body of a record of an image, empty where it is absent. -/
def bodyOf (l : List Rec) (ty idx : Nat) : List Byte := ((findRec l ty idx).map (·.body)).getD []
def hasRec (l : List Rec) (ty idx : Nat) : Bool := (findRec l ty idx).isSome

/-- F_US and COMMIT_PHASE of an image (02 R54). -/
def imgFUs (l : List Rec) : Nat := u32 (bodyOf l 0x0101 0) 0
def imgCommit (l : List Rec) : Nat := u16 (bodyOf l 0x0101 0) 4

/-- FRAME (02 R54, R55). -/
def rangeFrame (b : List Byte) : Nat :=
  let f := u32 b 0
  let pps := fun m => decide (2 < m) || (decide (m = 2) && decide (1000000 % f ≠ 0))
  firstBad [
    (outOf f 50 10000, 0x0103),
    (outOf (u16 b 4) 200 950, 0x0104),
    (outOf (u16 b 6) 250 1000 || decide (u16 b 6 < u16 b 4), 0x0105),
    (outOf (u8 b 8) 1 16, 0x0106),
    (pps (u8 b 9) || pps (u8 b 10) || decide (1 < u8 b 11) || outOf (u16 b 12) 1 255, 0x0107),
    (nz b 14 2, 0x010F),
    (outOfI (i32 b 16) (-100000) 100000 || decide (f * 50 ≤ (i32 b 16).natAbs), 0x0108),
    (decide (1000000 < u32 b 20), 0x010A),
    (nz b 24 8, 0x010F)]

/-- DI_CHANNEL and SI_CHANNEL (08 R199, R200). -/
def rangeInput (si : Bool) (b : List Byte) : Nat :=
  firstBad [
    (outOf (u16 b 0) 1 1023, 0x0201),
    (decide (u8 b 2 ≠ 1) && decide (u8 b 2 ≠ 3), 0x0202),
    (if si then nz b 3 1 else decide (1 < u8 b 3), if si then 0x02F4 else 0x0202),
    (decide (7 < u8 b 4) && decide (u8 b 4 ≠ 0xFF), 0x0203),
    (decide (1 < u8 b 5), 0x0202),
    (nz b 6 2, 0x02F4)]

/-- TEST_PULSE, DO_CHANNEL, DO_GROUP, FIELD_WATCHDOG, SO_CHANNEL (08 R201-R205). -/
def rangeDio (ty : Nat) (b : List Byte) : Nat :=
  if ty = 0x0203 then firstBad [(decide (3 < u8 b 0), 0x02F4), (decide (7 < u8 b 1), 0x02F4), (nz b 2 6, 0x02F4)]
  else if ty = 0x0204 then firstBad [
    (decide (7 < u8 b 0), 0x02F4), (decide (2 < u8 b 1), 0x0204), (decide (15 < u8 b 2), 0x0205), (decide (7 < u8 b 3), 0x02F4),
    (outOf (u16 b 4) 50 500, 0x0206), (nz b 6 2, 0x02F4)]
  else if ty = 0x0205 then firstBad [(decide (1 < u8 b 0), 0x0207), (nz b 1 7, 0x02F4)]
  else if ty = 0x0206 then firstBad [(outOf (u32 b 0) 100 100000, 0x0208), (nz b 4 4, 0x02F4)]
  else firstBad [(decide (1 < u8 b 0), 0x020A), (nz b 1 1, 0x02F4), (outOf (u16 b 2) 100 1000, 0x020A), (nz b 4 4, 0x02F4)]

/-- The conversion window of RATE_SEL in T10 (09 R209). -/
def rateWindow (k : Nat) : Nat := [10000, 20000, 50000, 100000, 200000, 500000, 1000000, 2000000].getD k 100000

/-- 9 times D_MAX of an AI bank exceeds ROT_PERIOD (09 R219). -/
def rotTooShort (l : List Rec) (bank : Nat) (b : List Byte) : Bool :=
  let w := ((List.range 8).map (fun i =>
    ((findRec l 0x0302 (8 * bank + i)).map (fun r => rateWindow (u8 r.body 1))).getD 100000)).foldl max 0
  decide (u16 b 0 * 100000000 < 9 * ((3 + u8 b 4) * w + 200 * imgFUs l + 3360000))

/-- AI_BANK, AI_CHANNEL, AO_BANK, AO_CHANNEL (09 R219, R235-R238). -/
def rangeAnalog (l : List Rec) (ty idx : Nat) (b : List Byte) : Nat :=
  if ty = 0x0301 then firstBad [
    (outOf (u16 b 0) 2 3600 || rotTooShort l idx b, 0x0303), (outOf (u16 b 2) 5 100, 0x0304), (decide (u8 b 4 < 4), 0x0304), (nz b 5 3, 0x03F4)]
  else if ty = 0x0302 then firstBad [(decide (1 < u8 b 0), 0x0301), (decide (7 < u8 b 1), 0x0302), (decide (1 < u8 b 2), 0x0301), (nz b 3 5, 0x03F4)]
  else if ty = 0x0303 then firstBad [(nz b 0 8, 0x03F4)]
  else firstBad [
    (decide (1 < u8 b 0), 0x0305), (decide (2 < u8 b 1), 0x0306), (decide (1 < u8 b 2), 0x0307), (decide (1 < u8 b 3), 0x0308),
    (decide (24000 < u32 b 4), 0x0306)]

/-- A 48-bit position held in 64 bits is out of range (10 R275-R277). -/
def pos48Bad (b : List Byte) (o : Nat) : Bool := outOfI (i64 b o) (-140737488355328) 140737488355327

/-- The serial fields of PF_CHANNEL (10 R250, R275, R278); for CRC_BITS = 16 the leading term has no place in the
field (notes/assumptions/101.md). -/
def serialBad (fUs : Nat) (b : List Byte) : Bool :=
  let clk := u16 b 24
  let d := u8 b 26
  let k := u8 b 31
  let bitBad := fun n => decide (n ≠ 0xFF) && (decide (63 < n) || decide (d ≤ n))
  outOf clk 80 10000 || outOf d 1 64 || outOf (u8 b 27) 1 48 || decide (d < u8 b 28 + u8 b 27) || decide (63 < u8 b 28)
  || bitBad (u8 b 29) || bitBad (u8 b 30) || (decide (k ≠ 0) && outOf k 4 16)
  || (decide (k ≠ 16) && decide (u16 b 32 / 2 ^ k ≠ 1))
  || (decide (u16 b 34 ≠ 0) && outOf (u16 b 34) 10 10000) || decide (u8 b 36 = 0) || decide (u8 b 37 = 0)
  || decide ((if u16 b 34 = 0 then fUs else u16 b 34) * clk < (d + k + 4) * 1000 + u8 b 36 * clk)

/-- PF_CHANNEL (10 R275, R278). -/
def rangePf (l : List Rec) (b : List Byte) : Nat :=
  let ser := decide (u8 b 0 = 2) || decide (u8 b 0 = 3)
  firstBad [
    (decide (3 < u8 b 0), 0x0401),
    (decide (127 < u8 b 1) || ((u8 b 1).testBit 0 && decide (u8 b 0 = 0)), 0x0401),
    (decide (2 < u8 b 3) || (ser && decide (u8 b 3 ≠ 0)), 0x0404), (decide (4 < u8 b 4), 0x0404),
    (outOf (u16 b 6) 1 10000, 0x0405), (decide (16777215 < u32 b 8), 0x0404), (decide (31 < u8 b 12), 0x0401),
    (decide (2 < u8 b 13), 0x0401), (outOf (u16 b 14) 1 1023, 0x0401), (pos48Bad b 16, 0x0404),
    (ser && serialBad (imgFUs l) b, 0x0403), (nz b 38 2, 0x04F4)]

/-- PF_COMPARE (10 R277, R278). -/
def rangeCompare (l : List Rec) (idx : Nat) (b : List Byte) : Nat :=
  let p := bodyOf l 0x0401 idx
  firstBad [
    (decide (u8 p 0 = 0), 0x0407), (pos48Bad b 0, 0x0407), (outOf (u32 b 8) 1 16777215, 0x0407), (outOf (u16 b 12) 1 10000, 0x0407),
    (decide (1 < u8 b 14), 0x0407), (nz b 15 1, 0x04F4), (nz b 20 4, 0x04F4)]

/-- The reserved fields of PF_SWITCH_TABLE (10 R276). -/
def rangeSwitch (b : List Byte) : Nat :=
  firstBad [(nz b 3 5, 0x04F4), ((List.range (u16 b 0)).any (fun e => nz b (23 + 16 * e) 1), 0x04F4)]

/-- BUS_PORT (15 R418, R443, R446). -/
def rangePort (b : List Byte) : Nat :=
  let fd := (u8 b 0).testBit 0
  let dn := u8 b 1 * (1 + u16 b 2 + u8 b 4)
  let dd := u8 b 6 * (1 + u8 b 7 + u8 b 8)
  let data := fun x lo hi => if fd then outOf x lo hi else decide (x ≠ 0)
  firstBad [
    (decide (31 < u8 b 0), 0x0501), (outOf (u8 b 1) 1 32, 0x0501), (outOf (u16 b 2) 2 256, 0x0501), (outOf (u8 b 4) 1 128, 0x0501),
    (decide (40000000 < 125000 * dn) || decide (1000000 * dn < 40000000), 0x0501),
    (outOf (u8 b 5) 1 (u8 b 4), 0x0501), (data (u8 b 6) 1 32, 0x0501), (data (u8 b 7) 1 32, 0x0501), (data (u8 b 8) 1 16, 0x0501),
    (data (u8 b 9) 1 (u8 b 8), 0x0501),
    (fd && (decide (dn < dd) || decide (8000000 * dd < 40000000)), 0x0501),
    (fd && !(u8 b 0).testBit 2 && decide (1000000 * dd < 40000000), 0x0501),
    (decide (127 < u8 b 10), 0x0501), (nz b 13 1, 0x05F4), (outOf (u16 b 14) 10 10000, 0x0506), (decide (10000 < u16 b 16), 0x0506),
    (nz b 18 6, 0x05F4)]

/-- A port with a record and FD = 0. -/
def classicPort (l : List Rec) (p : Nat) : Bool := hasRec l 0x0501 p && !(u8 (bodyOf l 0x0501 p) 0).testBit 0

/-- A payload length that only FDF allows (15 R444). -/
def fdLen (n : Nat) : Bool := [12, 16, 20, 24, 32, 48, 64].contains n

/-- The code of a LENGTH, 0 when it is in range (15 R444, R446). -/
def lenCode (classic fdf : Bool) (n : Nat) : Nat :=
  if n ≤ 8 then 0 else if !fdLen n then 0x0506 else if classic then 0x0501 else if fdf then 0 else 0x0506

/-- An identifier is beyond its format (15 R444). -/
def idBad (ide : Bool) (id : Nat) : Bool := decide ((if ide then 0x1FFFFFFF else 0x7FF) < id)

/-- STATIC_OBJECT, one element (15 R444, R446). -/
def rangeObj (l : List Rec) (b : List Byte) : Nat :=
  let f := u8 b 1
  let cls := classicPort l (u8 b 0)
  let tx := f.testBit 0
  let n := lenCode cls (f.testBit 2) (u8 b 2)
  firstBad [
    (decide (3 < u8 b 0), 0x0506), (decide (31 < f), 0x0506), (cls && (f.testBit 2 || f.testBit 3), 0x0501), (f.testBit 3 && !f.testBit 2, 0x0506),
    (decide (n ≠ 0), n), (if tx then decide (1 < u8 b 3) else decide (u8 b 3 ≠ 0), 0x0506), (idBad (f.testBit 1) (u32 b 4), 0x0502),
    (if tx then outOf (u16 b 8) 1 1000 else decide (u16 b 8 ≠ 0), 0x0506), (decide (u16 b 8 - 1 < u16 b 10), 0x0506),
    (if tx then decide (u16 b 12 ≠ 0) else decide (60000 < u16 b 12), 0x0506),
    (if tx then decide (2 < u8 b 14) else decide (u8 b 14 ≠ 0), 0x0506), (nz b 15 1, 0x05F4)]

/-- TEMPLATE (15 R445, R446). -/
def rangeTemplate (l pre : List Rec) (b : List Byte) : Nat :=
  let f := u8 b 1
  let cls := classicPort l (u8 b 0)
  let ide := f.testBit 1
  let n := lenCode cls (f.testBit 2) (u8 b 2)
  firstBad [
    (decide (f &&& 0xF9 ≠ 0), 0x05F4), (cls && f.testBit 2, 0x0501), (decide (n ≠ 0), n), (decide (15 < u8 b 3), 0x0506), (idBad ide (u32 b 4), 0x0502),
    (decide (28 < u8 b 8), 0x0502), (outOf (u8 b 9) 1 16 || decide ((if ide then 29 else 11) < u8 b 8 + u8 b 9), 0x0502),
    (outOf (u16 b 14) 10 60000 ||
      (recsOf pre 0x0503).any (fun t => decide (u8 t.body 3 = u8 b 3) && decide (u16 t.body 14 ≠ u16 b 14)), 0x0506),
    (decide (4096 < u16 b 16), 0x0506), (nz b 18 6, 0x05F4)]

/-- A slot number, 0xFFFF where it may be unused, is out of range (11 R304, R305). -/
def slotBad (x : Nat) : Bool := decide (4095 < x) && decide (x ≠ 0xFFFF)

/-- LOOP (11 R304, R311), with the element of the offending feed. -/
def rangeLoop (b : List Byte) : Nat × Nat :=
  let c := firstBad [
    (decide (511 < u16 b 0) && decide (u16 b 0 ≠ 0xFFFF), 0x0603), (decide (1 < u8 b 2), 0x0603), (decide (32 < u8 b 3), 0x0603), (nz b 4 4, 0x06F4),
    (!F64.isFinite (f64 b 8), 0x0603)]
  if c ≠ 0 then (c, 0)
  else firstElem (fun _ e =>
    let k := u8 e 2
    firstBad [
      (decide (4095 < u16 e 0), 0x0603), (decide (4 < k), 0x0603), (if k = 3 then decide (9 < u8 e 3) else decide (u8 e 3 ≠ 0), 0x0603),
      (decide (k = 0) && decide (u32 e 4 ≠ 0), 0x0603), (if k = 0 then !F64.isFinite (f64 e 8) else nz e 8 8, 0x0603)])
    0 ((List.range (u8 b 3)).map (fun i => (b.drop (16 + 16 * i)).take 16))

/-- How a stage type uses its ports: inputs it requires, inputs it may have, outputs it may have, valid FLAGS bits
(11 R292-R302, R305, 12 R349-R352). -/
def stageUse (ty : Nat) : List Nat × List Nat × List Nat × List Nat :=
  if ty = 0x01 then ([1], [0, 2, 3], [0, 1, 2, 3], [16, 17])
  else if ty = 0x02 then ([0, 1], [2], [0, 1, 2], [0, 2, 3])
  else if ty = 0x03 then ([0, 1], [2], [0, 1, 2], [0, 1, 2, 3, 4])
  else if ty = 0x04 then ([0, 1], [], [0, 1, 2], [0, 5])
  else if ty = 0x06 then ([0], [], [0], [8])
  else if ty = 0x07 then ([0], [1, 2], [0, 1], [])
  else if ty = 0x08 then ([0], [1, 2], [0, 1], [])
  else if ty = 0x09 then ([0, 1], [2, 3], [0, 1, 2, 3], [])
  else if ty = 0x0A then ([], [0, 1, 2, 3], [0], [])
  else if ty = 0x0B then ([0], [], [0, 1], [])
  else ([0], [], [], [])

/-- A required input is unused, or an input used where it must be unused (12 R349, R351, R355). -/
def inputBad (l : List Rec) (b : List Byte) (j : Nat) : Bool :=
  let ty := u8 b 0
  let x := u16 b (4 + 2 * j)
  let used := decide (x ≠ 0xFFFF)
  let U := stageUse ty
  let single := (u32 b 20).testBit 16
  let pos := (findRec l 0x0604 (u8 b 24)).map (fun r => decide (u8 r.body 0 = 1))
  slotBad x || (U.1.contains j && !used) || (!U.1.contains j && !U.2.1.contains j && used)
  || (decide (ty = 0x01) && decide (j = 0) && (single != used))
  || (decide (ty = 0x01) && decide (j = 3) && (u32 b 20).testBit 17 && !used)
  || (decide (ty = 0x08) && decide (j = 1) && (match pos with | none => false | some p => p != used))

/-- A shift is out of range (11 R287, R307, R308). -/
def shiftBad (b : List Byte) (o : Nat) : Bool := outOfI (i8 b o) (-16) 15

/-- A finite binary64 above 0. -/
def posFinite (x : F64) : Bool := F64.isFinite x && F64.gt x 0

/-- A frequency of INJECT: above 0 and at most 500,000 / F_US (12 R352). -/
def freqOk (fUs : Nat) (x : F64) : Bool :=
  posFinite x && !F64.dyLt { m := 500000, e := 0 } (F64.dyMul (F64.toDy x) { m := fUs, e := 0 })

/-- The parameters of a stage type, bytes 24-63 (11 R307-R309, 12 R349-R352). -/
def rangeParams (l : List Rec) (b : List Byte) : Nat :=
  let ty := u8 b 0
  if ty = 0x02 ∨ ty = 0x03 ∨ ty = 0x04 then
    let m := decide (ty = 0x04)
    firstBad [
      (decide (ty ≠ 0x03) && nz b 32 4, 0x0603), (shiftBad b 36 || shiftBad b 37 || shiftBad b 38, 0x0603),
      (decide (u8 b 39 ≠ 0xFF) && (m || decide (63 < u8 b 39)), 0x0603),
      (if m then nz b 40 8 else !F64.isFinite (f64 b 40), 0x0603), (if m then nz b 48 8 else !F64.gt (f64 b 48) (f64 b 40), 0x0603),
      (decide (ty = 0x03) && outOf (u32 b 56) 1 268435456, 0x0603)]
  else if ty = 0x06 then firstBad [(nz b 44 20, 0x06F4)]
  else if ty = 0x07 then firstBad [
    (!F64.isFinite (f64 b 24), 0x0603), (!F64.isFinite (f64 b 32) || F64.lt (f64 b 32) (f64 b 24), 0x0603),
    (!F64.isFinite (f64 b 40) || F64.lt (f64 b 40) 0, 0x0603), (!F64.isFinite (f64 b 48) || F64.lt (f64 b 48) 0, 0x0603), (nz b 56 8, 0x06F4)]
  else if ty = 0x0A then firstBad [(shiftBad b 40 || shiftBad b 41 || shiftBad b 42 || shiftBad b 43, 0x0603), (nz b 44 20, 0x06F4)]
  else if ty = 0x0C then
    let k := u8 b 24
    firstBad [
      (outOf k 1 4, 0x0603), (decide (1 < u8 b 25), 0x0603), (decide (3 < u8 b 26) || (decide (k ≠ 4) && decide (u8 b 26 ≠ 0)), 0x0603),
      (decide (63 < u8 b 27) || (decide (k ≠ 4) && decide (u8 b 27 ≠ 0)), 0x0603),
      (decide (k ≠ 4) && decide ((if k = 1 then 31 else if k = 2 then 63 else 33554431) < u32 b 28), 0x0603),
      (!F64.isFinite (f64 b 32), 0x0603), (!F64.isFinite (f64 b 40), 0x0603), (nz b 48 16, 0x06F4)]
  else if ty = 0x01 then firstBad [
    (!posFinite (f64 b 24) || !posFinite (f64 b 32) || !posFinite (f64 b 40), 0x0606), (outOf (u32 b 48) 1 65535, 0x0606), (nz b 52 4, 0x06F4),
    (pos48Bad b 56, 0x0606)]
  else if ty = 0x09 then firstBad [
    (decide (u32 b 24 = u32 b 28), 0x0607), ([32, 36, 40, 44, 48, 52].any (fun o => outOf (u32 b o) 1 2147483647), 0x0607),
    (outOf (u16 b 56) 1 5000, 0x0607), (decide (60000 < u16 b 58), 0x0607), (outOf (u8 b 60) 1 15, 0x0607), (outOf (u8 b 61) 5 50, 0x0607),
    (outOf (u8 b 62) 10 100, 0x0607), (nz b 63 1, 0x06F4)]
  else if ty = 0x08 then firstBad [(decide (15 < u8 b 24), 0x0603), (nz b 25 39, 0x06F4)]
  else if ty = 0x0B then
    let g := u8 b 24
    let f := imgFUs l
    firstBad [
      (decide (3 < g), 0x0609), (if g = 0 then outOf (u8 b 25) 7 15 else decide (u8 b 25 ≠ 0), 0x0609), (outOf (u16 b 26) 1 1000, 0x0609),
      (if g = 1 then outOf (u32 b 28) 1 3600000 else decide (u32 b 28 ≠ 0), 0x0609), (!posFinite (f64 b 32), 0x0609),
      (if g = 1 ∨ g = 3 then !freqOk f (f64 b 40) else !F64.isZero (f64 b 40), 0x0609),
      (if g = 1 then !freqOk f (f64 b 48) else !F64.isZero (f64 b 48), 0x0609), (nz b 56 8, 0x06F4)]
  else 0

/-- The 17th PROFILE, DOOR or INJECT stage (12 R355). -/
def seventeenth (pre : List Rec) (b : List Byte) : Nat :=
  let ty := u8 b 0
  if 16 ≤ ((recsOf pre 0x0602).filter (fun r => decide (u8 r.body 0 = ty))).length then
    if ty = 0x01 then 0x0606 else if ty = 0x09 then 0x0607 else if ty = 0x0B then 0x0609 else 0
  else 0

/-- STAGE (11 R305, R311, 12 R355). -/
def rangeStage (l pre : List Rec) (b : List Byte) : Nat :=
  let ty := u8 b 0
  let c := seventeenth pre b
  let noE := decide (ty = 0x04) || decide (ty = 0x0C)
  let U := stageUse ty
  let outBad := fun j => let x := u16 b (12 + 2 * j); slotBad x || (!U.2.2.1.contains j && decide (x ≠ 0xFFFF))
  let p := rangeParams l b
  firstBad [
    (decide (c ≠ 0), c), (decide (63 < u8 b 1), 0x0603), (!noE && (outOfI (i8 b 2) (-120) 127 || decide (i8 b 2 < i8 b 3)), 0x0603),
    (!noE && outOfI (i8 b 3) (-120) 120, 0x0603), ([0, 1, 2, 3].any (inputBad l b), 0x0603), ([0, 1, 2, 3].any outBad, 0x0603),
    ((bitsSet (u32 b 20) 32).any (fun i => !U.2.2.2.contains i), 0x0603), (decide (p ≠ 0), p)]

/-- LEARNER (12 R353, R355). -/
def rangeLearner (b : List Byte) : Nat :=
  let time := decide (u8 b 0 = 0)
  let e := i8 b 2
  firstBad [
    (decide (1 < u8 b 0), 0x0608), (outOfI e (-16) 40, 0x0608), (nz b 3 1, 0x06F4),
    (if time then outOf (u32 b 4) 2 1000000 else decide (u32 b 4 ≠ 0), 0x0608), (if time then decide (u32 b 8 ≠ 0) else decide (u32 b 8 < 16), 0x0608),
    (shiftBad b 16, 0x0608), (nz b 17 3, 0x06F4), (outOf (u32 b 20) 1 268435456, 0x0608),
    (!posFinite (f64 b 24) || !F64.dyLt (F64.toDy (f64 b 24)) { m := 1, e := e }, 0x0608)]

/-- CAPTURE (12 R354, R355). -/
def rangeCapture (b : List Byte) : Nat :=
  let n := u8 b 0
  firstBad [
    (outOf n 1 8, 0x060A), (decide (3 < u8 b 1), 0x060A), (outOf (u16 b 2) 1 1000, 0x060A), (outOf (u32 b 4) 16 65536, 0x060A),
    (decide (u32 b 4 ≤ u32 b 8), 0x060A), (if u8 b 1 = 0 then decide (u16 b 12 ≠ 0xFFFF) else decide (4095 < u16 b 12), 0x060A), (nz b 14 2, 0x06F4),
    (!F64.isFinite (f64 b 16), 0x060A),
    ((List.range 8).any (fun j => if j < n then decide (4095 < u16 b (24 + 2 * j)) else decide (u16 b (24 + 2 * j) ≠ 0xFFFF)), 0x060A),
    (nz b 40 8, 0x06F4)]

/-- TASK (13 R386, R389). -/
def rangeTask (b : List Byte) : Nat :=
  firstBad [
    (outOf (u16 b 0) 1 1000, 0x0701), (decide (u16 b 0 ≤ u16 b 2), 0x0701), (decide (15 < u8 b 4), 0x0702), (decide (3 < u8 b 5), 0x0702),
    (decide (1 < u8 b 6), 0x07F4), (nz b 7 1, 0x07F4), (nz b 10 6, 0x07F4), (nz b (16 + 4 * u16 b 8) 8, 0x07F4)]

/-- An SC input is out of range: KIND and INDEX (16 R452, R483). -/
def scInputBad (x : Nat) : Bool :=
  let k := x / 8192
  let i := x % 4096
  if k = 0 then decide (31 < i) else if k = 1 then decide (1023 < i) else if k = 2 then decide (511 < i) else if k = 3 then decide (1 < i) else true

/-- SAFETY_BLOCK, one element; `n` elements stand before it (16 R453, R477, R483). -/
def rangeSafety (n : Nat) (b : List Byte) : Nat :=
  let o := u8 b 0
  let k := u8 b 1
  firstBad [
    (outOf o 1 6 || decide (4096 ≤ n), 0x0802), (if o ≤ 2 then outOf k 1 8 else decide (k ≠ 1), 0x0802),
    (decide ((if o = 5 then 7 else if o = 6 then 1023 else 511) < u16 b 2), 0x0802),
    (if o = 3 ∨ o = 4 then outOf (u32 b 4) 1 60000 else decide (u32 b 4 ≠ 0), 0x0802),
    ((List.range 8).any (fun j => if j < k then scInputBad (u16 b (8 + 2 * j)) else decide (u16 b (8 + 2 * j) ≠ 0)), 0x0802)]

/-- SAFETY_HEADER (16 R476, R483). -/
def rangeHeader (l : List Rec) (b : List Byte) : Nat :=
  let outs := ((elemsOf l 0x0802 24).filter (fun e => decide (u8 e.2.2 0 = 5))).map (fun e => u16 e.2.2 2)
  firstBad [
    ((bitsSet (u8 b 0) 8).any (fun k => !hasRec l 0x0207 k || !outs.contains k), 0x0802), (decide (clearBits (u8 b 1) (u8 b 0) ≠ 0), 0x0802),
    (nz b 2 2, 0x08F4), (nz b 8 8, 0x08F4)]

/-- DEGRADED_POLICY (16 R482, R483). -/
def rangePolicy (l : List Rec) (b : List Byte) : Nat :=
  let n := u8 b 5
  let si := fun i => [u8 b (8 + 4 * i), u8 b (9 + 4 * i)]
  let seen := fun i => (List.range i).flatMap si
  let pairHas := fun q => (recsOf l 0x0806).any (fun r => decide (u8 r.body 1 = q))
  let pc := firstBad ((List.range n).flatMap (fun i => [
    ((si i).any (fun x => decide (31 < x) || (seen i).contains x) || decide (u8 b (8 + 4 * i) = u8 b (9 + 4 * i)), 0x0808), (nz b (10 + 4 * i) 2, 0x08F4)]))
  firstBad [
    (outOf (u32 b 0) 1 259200, 0x0808), (decide (3 < u8 b 4) || (bitsSet (u8 b 4) 2).any (fun q => !pairHas q), 0x0808), (decide (16 < n), 0x0808),
    (nz b 6 2, 0x08F4), (decide (pc ≠ 0), pc), (nz b (8 + 4 * n) 8, 0x08F4)]

/-- GROUP (17 R518, R519). -/
def rangeGroup (b : List Byte) : Nat :=
  firstBad [
    (nz b 1 1, 0x09F4), (outOf (u16 b 2) 1 600, 0x0903),
    ((List.range 4).any (fun u => decide (7 < u8 b (4 + u)) || (!(u8 b 0).testBit u && decide (u8 b (4 + u) ≠ 0))), 0x0904), (nz b 8 8, 0x09F4)]

/-- POINT_RANGE, one element; `pre` are the elements before it (14 R411, R414). -/
def rangePoints (pre : List (List Byte)) (b : List Byte) : Nat :=
  let f := rgFirst b
  let n := rgCount b
  firstBad [
    (decide (33554431 < f), 0x0A01), (outOf n 1 (33554432 - f) || pre.any (fun o => decide (rgFirst o < f + n) && decide (f < rgFirst o + rgCount o)), 0x0A01),
    (nz b 9 1, 0x0AF4), (nz b 22 2, 0x0AF4), (!F64.isFinite (f64 b 24) || F64.lt (f64 b 24) 0, 0x0A04)]

/-- ALARM_TEMPLATE (14 R412, R414). -/
def rangeAlarm (b : List Byte) : Nat :=
  let unset := fun o => F64.isNaN (f64 b o)
  firstBad [
    (!unset 0 && !unset 8 && !F64.lt (f64 b 8) (f64 b 0), 0x0A03), (!F64.isFinite (f64 b 16), 0x0A03), (!unset 24 && F64.lt (f64 b 24) 0, 0x0A03),
    (!unset 32 && !F64.gt (f64 b 32) 0, 0x0A03), (!F64.isFinite (f64 b 40) || F64.lt (f64 b 40) 0, 0x0A03), (decide (1 < u8 b 50), 0x0A03), (nz b 51 5, 0x0AF4)]

/-- HEC_ROUTE, one element (07 R171, R173). -/
def rangeRoute (hostsel : Bool) (b : List Byte) : Nat :=
  firstBad [
    (decide (u8 b 0 < 16), 0x0B01), (decide ((if hostsel then 3 else 7) < u8 b 1), 0x0B02), (decide (15 < u8 b 2), 0x0B03), (decide (3 < u8 b 3), 0x0BF4),
    (nz b 4 4, 0x0BF4)]

/-- HEC_TARGET (07 R172, R173). -/
def rangeTarget (hostsel : Bool) (idx : Nat) (b : List Byte) : Nat :=
  firstBad [
    (hostsel && decide (3 < idx), 0x0B02), (decide (15 < u8 b 0), 0x0B04), (nz b 1 1, 0x0BF4), (decide (1023 < u16 b 2), 0x0B04),
    ((u8 b 4).testBit 0, 0x0BF4), (nz b 5 3, 0x0BF4), (decide (u8 b 8 % 16 ≠ 0), 0x0BF4), (nz b 12 4, 0x0BF4)]

/-- The tests of stage 3 on one record (04 R94, R104): `l` are the records of the image, `pre` those before. -/
def ranges (hostsel : Bool) (l pre : List Rec) (r : Rec) : Nat × Nat :=
  let b := r.body
  let ty := r.ty
  let one := fun (c : Nat) => (c, 0)
  if ty = 0x0101 then one (rangeFrame b)
  else if ty = 0x0201 then one (rangeInput false b)
  else if ty = 0x0202 then one (rangeInput true b)
  else if ty < 0x0300 then one (rangeDio ty b)
  else if ty < 0x0400 then one (rangeAnalog l ty r.idx b)
  else if ty = 0x0401 then one (rangePf l b)
  else if ty = 0x0402 then one (rangeSwitch b)
  else if ty = 0x0403 then one (rangeCompare l r.idx b)
  else if ty = 0x0501 then one (rangePort b)
  else if ty = 0x0502 then firstElem (fun _ e => rangeObj l e) 0 (elems 16 r)
  else if ty = 0x0503 then one (rangeTemplate l pre b)
  else if ty = 0x0601 then rangeLoop b
  else if ty = 0x0602 then one (rangeStage l pre b)
  else if ty = 0x0603 then one (firstBad [(nz b 780 4, 0x06F4)])
  else if ty = 0x0604 then one (rangeLearner b)
  else if ty = 0x0605 then one (rangeCapture b)
  else if ty = 0x0701 then one (rangeTask b)
  else if ty = 0x0702 then firstElem (fun _ e => firstBad [((findBlk (iOpc e)).isNone, 0x0704), (decide (15 < iFlags e), 0x07F4)]) 0 (elems 32 r)
  else if ty = 0x0703 then firstElem (fun _ e => firstBad [(nz e 6 2, 0x07F4)]) 0 (elems 16 r)
  else if ty = 0x0801 then one (rangeHeader l b)
  else if ty = 0x0802 then firstElem (fun k e => rangeSafety ((elemsOf pre 0x0802 24).length + k) e) 0 (elems 24 r)
  else if ty = 0x0803 then firstElem (fun _ e => firstBad [(nz e 2 2, 0x08F4), (nz e 20 4, 0x08F4)]) 0 (elems 24 r)
  else if ty = 0x0804 then one (firstBad [(decide (7 < u8 b 0), 0x0805), (decide (1 < u8 b 1), 0x0805), (nz b 2 2, 0x08F4), (outOf (u32 b 4) 1 60000, 0x0805)])
  else if ty = 0x0805 then one (firstBad [(decide (3 < u8 b 2), 0x08F4), (nz b 3 1, 0x08F4), (nz b 6 2, 0x08F4)])
  else if ty = 0x0806 then one (firstBad [(nz b 3 1, 0x08F4), (nz b 20 4, 0x08F4)])
  else if ty = 0x0807 then one (rangePolicy l b)
  else if ty = 0x0901 then one (rangeGroup b)
  else if ty = 0x0A01 then firstElem (fun k e => rangePoints ((elemsOf pre 0x0A01 32).map (·.2.2) ++ (elems 32 r).take k) e) 0 (elems 32 r)
  else if ty = 0x0A02 then one (rangeAlarm b)
  else if ty = 0x0A03 then one (firstBad [(outOf (u8 b 0) 4 24, 0x0A06), (nz b 1 1, 0x0AF4), (nz b 4 4, 0x0AF4)])
  else if ty = 0x0B01 then firstElem (fun _ e => rangeRoute hostsel e) 0 (elems 8 r)
  else if ty = 0x0B02 then one (rangeTarget hostsel r.idx b)
  else (0, 0)

end Sys2Proof.Machine
end

