-- ==== Sys2Proof/Machine/Check.lean ====
section
/-! DEFINITION. Stages 4 to 10 of the enable check, and the check as a whole (04 R94-R99). -/

namespace Sys2Proof.Machine

/-! ### What an image writes and reads -/

/-- The output slots of a stage. -/
def stageOuts (b : List Byte) : List Nat := ([0, 1, 2, 3].map (fun j => u16 b (12 + 2 * j))).filter (fun x => decide (x ≠ 0xFFFF))

/-- The output references of a block instance (13 R361, R363). -/
def blockOuts (b : List Byte) : List Nat :=
  match findBlk (iOpc b) with
  | none => []
  | some L => (List.range L.outs.length).map (fun j => iPort b (L.ins.length + j))

/-- The slots that have a writer (11 R282). -/
def slotWriters (l : List Rec) : List Nat :=
  (recsOf l 0x0601).flatMap (fun r => (feedsOf r).map (·.1))
  ++ (recsOf l 0x0602).flatMap (fun r => if stType r.body = 0x0C then [] else stageOuts r.body)
  ++ (instElems l).flatMap (fun b => (blockOuts b).filterMap (fun r => if refSpace r = 6 then some (refIdx r) else none))

/-- The STAMP slots (11 R284). -/
def stampSlots (l : List Rec) : List Nat :=
  (recsOf l 0x0601).flatMap (fun r => (feedsOf r).filterMap (fun f => if f.2.1 = 3 ∧ f.2.2.1 = 3 then some f.1 else none))

/-- The points that a stage or a block writes, each once (01 R28). -/
def pointWriters (l : List Rec) : List Nat :=
  ((recsOf l 0x0602).filterMap (fun r => if stType r.body = 0x0C ∧ u8 r.body 24 = 3 then some (u32 r.body 28) else none)
    ++ (instElems l).flatMap (fun b => (blockOuts b).filterMap (fun r => if refSpace r = 7 then some (refIdx r) else none))).eraseDups

/-- Bytes of an encoding of 13 R362 (and 11 R309). -/
def encBytes (e : Nat) : Nat := if e = 0 then 2 else if e = 1 ∨ e = 2 then 4 else if e = 3 then 8 else 1

/-- The STATIC_OBJECT element of a number (15 R423). -/
def objElem (l : List Rec) (n : Nat) : Option (List Byte) := (objElems l)[n]?

/-- The direction of an object and a field of it exist: 13 R362. -/
def objRefOk (l : List Rec) (tx : Bool) (i : Nat) : Bool :=
  let e := bits i 4 3
  match objElem l (bits i 13 14) with
  | none => false
  | some b => (soFlag b 0 == tx) && decide (e ≤ 5) && decide (bits i 7 6 + encBytes e ≤ soLen b) && (if e = 5 then decide (i % 16 ≤ 7) else decide (i % 16 = 0))

/-- The type code of what a reference names, none where 13 R389 refuses it with 0x0706. -/
def refTy (l : List Rec) (slots stamps : List Nat) (out : Bool) (r : Nat) : Option Nat :=
  let sp := refSpace r
  let i := refIdx r
  let ok := fun (c : Bool) (t : Nat) => if c then some t else none
  if sp = 1 then ((varElems l)[i]?).map vType
  else if sp = 2 then ok (!out && hasRec l 0x0201 i) 0
  else if sp = 3 then ok (!out && hasRec l 0x0202 i) 0
  else if sp = 4 then ok (!out && hasRec l 0x0302 i) 2
  else if sp = 5 then ok (!out && hasRec l 0x0401 (i / 16) && decide (i % 16 ≤ 9)) ([2, 3, 2, 0, 0, 0, 0, 0, 0, 1].getD (i % 16) 0)
  else if sp = 6 then ok (decide (i ≤ 4095) && (out || slots.contains i)) (if stamps.contains i then 3 else 2)
  else if sp = 7 then ok (decide (i ≤ 33554431)) 2
  else if sp = 8 then ok (objRefOk l out i) (let e := bits i 4 3; if e = 2 ∨ e = 3 then 2 else if e = 5 then 0 else 1)
  else if sp = 9 then ok (out && hasRec l 0x0204 i) (if (u8 (bodyOf l 0x0204 i) 0).testBit 0 then 2 else 0)
  else if sp = 10 then ok (out && hasRec l 0x0304 i) 2
  else if sp = 11 then ok (!out && decide (i ≤ 8)) ([3, 2, 1, 0, 1, 3, 0, 1, 0].getD i 0)
  else none

/-! ### Stage 4 -/

/-- One port of an instance (13 R363, R389). -/
def portCode (l : List Rec) (slots stamps : List Nat) (L : Blk) (b : List Byte) (j : Nat) : Nat :=
  let r := iPort b j
  let n := L.ins.length
  let out := decide (n ≤ j)
  if n + L.outs.length ≤ j then (if r = 0 then 0 else 0x0706)
  else if r = 0 then (if j < L.req then 0x0706 else 0)
  else
    let ty := if out then L.outs.getD (j - n) .b else L.ins.getD j .b
    if ty = .obj then (if refSpace r = 8 ∧ objRefOk l false (refIdx r) then 0 else 0x0706)
    else match refTy l slots stamps out r with
      | none => 0x0706
      | some t => if t = ty.code (iFlags b % 4) then 0 else 0x0705

/-- The KEY values of instances and variables that stand before (13 R389). -/
def keysOf (pre : List Rec) : List Nat := (instElems pre).map iKey ++ (varElems pre).map vKey

/-- BLOCK_INSTANCE, one element (13 R389). -/
def xrefBlock (l : List Rec) (slots stamps keys : List Nat) (b : List Byte) : Nat :=
  match findBlk (iOpc b) with
  | none => 0x0704
  | some L =>
    let ps := [0, 1, 2, 3, 4, 5].map (portCode l slots stamps L b)
    firstBad ([
      (!hasRec l 0x0701 (iTask b), 0x0706), (!L.tys.contains (iFlags b % 4), 0x0705), (decide (iKey b = 0) || keys.contains (iKey b), 0x0707)]
      ++ ps.map (fun c => (decide (c ≠ 0), c)))

/-- VARIABLE, one element (13 R388, R389). -/
def xrefVar (keys : List Nat) (b : List Byte) : Nat :=
  firstBad [
    (decide (vKey b = 0) || keys.contains (vKey b), 0x0707), (decide (3 < vType b) || decide (2 < vKind b) || !validVal (vType b) (f64 b 8), 0x0705)]

/-- TASK (13 R386, R389). -/
def xrefTask (l : List Rec) (idx : Nat) (b : List Byte) : Nat :=
  let n := u16 b 8
  let sl := (u8 b 6).testBit 0
  let k := ((instElems l).filter (fun e => decide (iTask e = idx))).length
  let first := fun i => u32 b (16 + 4 * i)
  firstBad [
    ((sl && decide (u16 b 0 = 1)) || decide (n ≠ if sl then u16 b 0 else 0)
      || (List.range n).any (fun i => if i = 0 then decide (first 0 ≠ 0) else decide (first i ≤ first (i - 1)))
      || (decide (0 < n) && decide (k ≤ first (n - 1))), 0x0703)]

/-- PF_SWITCH_TABLE (10 R276, R278); equal positions count as ascending (DESIGN CHOICE, notes/assumptions/158.md). -/
def xrefSwitch (l : List Rec) (idx : Nat) (b : List Byte) : Nat :=
  let n := u16 b 0
  let pos := fun e => i64 b (8 + 16 * e)
  let win := fun e => u32 b (16 + 16 * e)
  let same := fun e f => decide (u8 b (20 + 16 * e) = u8 b (20 + 16 * f)) && decide (u8 b (21 + 16 * e) = u8 b (21 + 16 * f))
  firstBad [
    (outOf n 1 256 || decide (1 < u8 b 2)
      || (List.range n).any (fun e => pos48Bad b (8 + 16 * e) || outOf (win e) 1 16777215 || decide (3 < u8 b (20 + 16 * e)) || decide (1 < u8 b (21 + 16 * e))
        || decide (2 < u8 b (22 + 16 * e)) || (decide (0 < e) && decide (pos e < pos (e - 1)))
        || (List.range e).any (fun f => same e f && decide (pos e - pos f ≤ (win e + win f : Nat))))
      || !(u8 (bodyOf l 0x0401 idx) 1).testBit 0, 0x0406)]

/-- The identifiers of a TEMPLATE, with the node number (15 R431). -/
def tmplCovers (t : List Byte) (port : Nat) (ide : Bool) (id : Nat) : Bool :=
  let n := bits id (u8 t 8) (u8 t 9)
  decide (u8 t 0 = port) && ((u8 t 1).testBit 1 == ide) && decide (id - n * 2 ^ u8 t 8 = u32 t 4) && decide (u16 t 10 ≤ n) && decide (n ≤ u16 t 12)

/-- The identifiers of a TEMPLATE. -/
def tmplIds (t : List Byte) : List Nat := (List.range (u16 t 12 + 1 - u16 t 10)).map (fun k => u32 t 4 + (u16 t 10 + k) * 2 ^ u8 t 8)

/-- TEMPLATE (15 R431, R446). -/
def xrefTemplate (l pre : List Rec) (b : List Byte) : Nat :=
  let m := 2 ^ u8 b 9
  let ide := (u8 b 1).testBit 1
  firstBad [
    (!hasRec l 0x0501 (u8 b 0), 0x0503), (decide (bits (u32 b 4) (u8 b 8) (u8 b 9) ≠ 0), 0x0505), (decide (m ≤ u16 b 10), 0x0505),
    (decide (u16 b 12 < u16 b 10) || decide (m ≤ u16 b 12), 0x0505),
    ((recsOf pre 0x0503).any (fun t => (tmplIds b).any (tmplCovers t.body (u8 b 0) ide))
      || (objElems l).any (fun o => tmplCovers b (soPort o) (soFlag o 1) (u32 o 4)), 0x0505)]

/-- STAGE (11 R311, 12 R355). -/
def xrefStage (l pre : List Rec) (b : List Byte) : Nat :=
  let ty := stType b
  let slots := slotWriters l
  let stamps := stampSlots l
  let inBad := fun j => let x := stIn b j; decide (x ≠ 0xFFFF) && (!slots.contains x || (decide (ty ≠ 0x0C) && stamps.contains x))
  let peers := (recsOf pre 0x0602).filter (fun r => decide (stLoop r.body = stLoop b))
  firstBad [
    (!hasRec l 0x0601 (stLoop b) || decide (8 ≤ peers.length), 0x0601), ([0, 1, 2, 3].any inBad, 0x0604),
    ((decide (ty = 2) || decide (ty = 3)) && decide (u8 b 39 ≠ 0xFF) && !hasRec l 0x0603 (u8 b 39), 0x0605),
    (decide (ty = 8) && !hasRec l 0x0604 (u8 b 24), 0x0604),
    (decide (ty = 0x0C) && decide (u8 b 24 = 4) &&
      (match objElem l (u32 b 28) with | none => true | some o => decide (soLen o < u8 b 27 + encBytes (u8 b 26))), 0x0604)]

/-- LOOP (11 R311). -/
def xrefLoop (l : List Rec) (r : Rec) : Nat × Nat :=
  let b := r.body
  let ctl := match findRec l 0x0602 (u16 b 0) with
    | none => false
    | some t => decide (2 ≤ stType t.body) && decide (stType t.body ≤ 4) && decide (stLoop t.body = r.idx)
  if u16 b 0 ≠ 0xFFFF ∧ ctl = false then (0x0604, 0)
  else firstElem (fun _ e =>
    firstBad [(decide ((let k := u8 e 2; if k = 0 then 0 else if k = 1 then 47 else if k = 2 then 95 else if k = 3 then 7 else 33554431) < u32 e 4), 0x0604)])
    0 ((List.range (u8 b 3)).map (fun i => (b.drop (16 + 16 * i)).take 16))

/-- GAIN_TABLE (11 R310, R311). -/
def xrefGain (l : List Rec) (idx : Nat) (b : List Byte) : Nat :=
  let x := fun i => f64 b (8 * i)
  firstBad [
    ((List.range 65).any (fun i => !F64.isFinite (x i) || (decide (0 < i) && !F64.lt (x (i - 1)) (x i)))
      || !(recsOf l 0x0602).any (fun r => (decide (stType r.body = 2) || decide (stType r.body = 3)) && decide (u8 r.body 39 = idx)), 0x0605)]

/-- CAPTURE (12 R355). -/
def xrefCapture (l : List Rec) (b : List Byte) : Nat :=
  let slots := slotWriters l
  let stamps := stampSlots l
  let bad := fun x => decide (x ≠ 0xFFFF) && (!slots.contains x || stamps.contains x)
  firstBad [(bad (u16 b 12) || (List.range 8).any (fun j => bad (u16 b (24 + 2 * j))), 0x0604)]

/-- A safe-message bit: 0x0804 where its message is absent, 0x0807 where its direction is wrong (16 R483). -/
def smbCode (l : List Rec) (tx i : Nat) : Nat :=
  match findRec l 0x0806 (i / 32) with
  | none => 0x0804
  | some m => if u8 m.body 0 = tx then 0 else 0x0807

/-- An SC input or an Attar literal of KIND 0 or 1 (16 R483). -/
def litCode (l : List Rec) (x : Nat) : Nat :=
  let k := x / 8192
  let i := x % 4096
  if k = 0 then (if hasRec l 0x0202 i then 0 else 0x0804) else if k = 1 then smbCode l 0 i else 0

/-- SAFETY_BLOCK, one element (16 R483). -/
def xrefSafety (l : List Rec) (b : List Byte) : Nat :=
  let o := if u8 b 0 = 6 then smbCode l 1 (u16 b 2) else 0
  firstBad ((decide (o ≠ 0), o) :: (List.range (u8 b 1)).map (fun j => let c := litCode l (u16 b (8 + 2 * j)); (decide (c ≠ 0), c)))

/-- ATTAR_TERM, one element (16 R452, R478, R483). -/
def xrefTerm (l : List Rec) (b : List Byte) : Nat :=
  firstBad ((List.range 8).map (fun j =>
    let x := u16 b (4 + 2 * j)
    let c := if u8 b 1 ≤ j then (if x = 0 then 0 else 0x0804)
      else if x / 8192 = 4 then (if hasRec l 0x0804 (x % 4096) then 0 else 0x0804)
      else if x / 8192 < 2 then litCode l x else 0x0804
    (decide (c ≠ 0), c)))

/-- EDM (16 R480, R483). -/
def xrefEdm (l : List Rec) (idx : Nat) (b : List Byte) : Nat :=
  let si := fun x => hasRec l 0x0202 x
  firstBad [
    (!(u8 (bodyOf l 0x0801 0) 0).testBit idx || !si (u8 b 0) || (decide (u8 b 1 ≠ 0xFF) && !si (u8 b 1)) || outOf (u16 b 4) 10 2000, 0x0806)]

/-- SAFE_MESSAGE (16 R481, R483): copy A on the first port of the pair, copy B on the second. -/
def xrefMessage (l : List Rec) (b : List Byte) : Nat :=
  let tx := decide (u8 b 0 = 1)
  let ide := (u8 b 2).testBit 0
  let p := 2 * u8 b 1
  let fd := fun q => (u8 (bodyOf l 0x0501 q) 0).testBit 0
  let clash := fun q id => (objElems l).any (fun o => decide (soKey o = canKey q ide id))
    || (recsOf l 0x0503).any (fun t => (u8 t.body 1).testBit 2 && decide (u8 t.body 2 = 16) && tmplCovers t.body q ide id)
  firstBad [
    (decide (1 < u8 b 0) || decide (1 < u8 b 1) || !fd p || !fd (p + 1) || decide (3 < u8 b 2) || ((u8 b 2).testBit 1 && tx)
      || idBad ide (u32 b 4) || idBad ide (u32 b 8) || clash p (u32 b 4) || clash (p + 1) (u32 b 8) || decide (u16 b 12 = 0)
      || (if tx then decide (u16 b 14 ≠ 0) else outOf (u16 b 14) 1 1000)
      || (if tx then decide (u16 b 16 ≠ 0) else outOf (u16 b 16) (u16 b 14 + 1) 10000)
      || (if tx then outOf (u16 b 18) 1 1000 else decide (u16 b 18 ≠ 0)), 0x0807)]

/-- A source reference of a POINT_RANGE exists (14 R393, R414). -/
def sourceOk (l : List Rec) (k i : Nat) : Bool :=
  if k = 2 then decide (i ≤ 95) else if k = 3 then decide (i ≤ 31) else if k = 4 then decide (i ≤ 47) else if k = 5 then decide (i ≤ 31)
  else if k = 6 then decide (i < 128) && (decide (i % 16 = 0) || (decide (2 ≤ i % 16) && decide (i % 16 ≤ 8)))
  else if k = 7 then decide (i < 134217728) && objRefOk l false i
  else if k = 8 then decide (i ≤ 63) else if k = 9 then decide (i ≤ 4095) else true

/-- POINT_RANGE, one element (14 R411, R414). -/
def xrefPoints (l : List Rec) (b : List Byte) : Nat :=
  let k := rgKind b
  let st := u32 b 16
  let inside := ((pointWriters l).filter (fun p => decide (rgFirst b ≤ p) && decide (p < rgFirst b + rgCount b))).length
  firstBad [
    (outOf k 1 10, 0x0A02), (outOf (rgM b) 1 1000 || (decide (k = 1) && decide (rgM b ≠ 1)), 0x0A02),
    ((decide (k = 1) || decide (k = 10)) && decide (u32 b 12 ≠ 0), 0x0A02), (decide (134217727 < st), 0x0A02),
    (!(List.range (if st = 0 then 1 else rgCount b)).all (fun i => sourceOk l k (u32 b 12 + i * st)), 0x0A02),
    (if k = 10 then decide (inside ≠ rgCount b) else decide (inside ≠ 0), 0x0A02),
    (decide (u8 b 20 ≠ 0xFF) && !hasRec l 0x0A02 (u8 b 20), 0x0A02), (decide (u8 b 21 ≠ 0xFF) && !hasRec l 0x0A03 (u8 b 21), 0x0A02)]

/-- The tests of stage 4 on one record (04 R94, R104). -/
def xrefs (unit : Nat) (l pre : List Rec) (r : Rec) : Nat × Nat :=
  let b := r.body
  let ty := r.ty
  let one := fun (c : Nat) => (c, 0)
  if ty = 0x0201 ∨ ty = 0x0202 then one (firstBad [(decide (u8 b 4 ≠ 0xFF) && !hasRec l 0x0203 (u8 b 4), 0x0203)])
  else if ty = 0x0204 then
    one (firstBad [((u8 b 0).testBit 1 != decide (2 ≤ (bitsSet (u8 (bodyOf l 0x0901 0) 0) 4).length), 0x0209)])
  else if ty = 0x0206 then one (firstBad [(decide (u32 b 0 ≤ 2 * imgFUs l), 0x0208)])
  else if ty = 0x0302 then one (firstBad [(!hasRec l 0x0301 (r.idx / 8), 0x0309)])
  else if ty = 0x0304 then one (firstBad [(!hasRec l 0x0303 (r.idx / 4), 0x0309)])
  else if ty = 0x0402 then one (xrefSwitch l r.idx b)
  else if ty = 0x0502 then
    firstElem (fun k e => firstBad [
      (!hasRec l 0x0501 (soPort e), 0x0503),
      ((((elemsOf pre 0x0502 16).map (·.2.2)) ++ (elems 16 r).take k).any (fun o => decide (soKey o = soKey e)), 0x0504)]) 0 (elems 16 r)
  else if ty = 0x0503 then one (xrefTemplate l pre b)
  else if ty = 0x0601 then xrefLoop l r
  else if ty = 0x0602 then one (xrefStage l pre b)
  else if ty = 0x0603 then one (xrefGain l r.idx b)
  else if ty = 0x0605 then one (xrefCapture l b)
  else if ty = 0x0701 then one (xrefTask l r.idx b)
  else if ty = 0x0702 then
    firstElem (fun k e => xrefBlock l (slotWriters l) (stampSlots l) (keysOf pre ++ ((elems 32 r).take k).map iKey) e) 0 (elems 32 r)
  else if ty = 0x0703 then firstElem (fun k e => xrefVar (keysOf pre ++ ((elems 16 r).take k).map vKey) e) 0 (elems 16 r)
  else if ty = 0x0802 then firstElem (fun _ e => xrefSafety l e) 0 (elems 24 r)
  else if ty = 0x0803 then firstElem (fun _ e => xrefTerm l e) 0 (elems 24 r)
  else if ty = 0x0805 then one (xrefEdm l r.idx b)
  else if ty = 0x0806 then one (xrefMessage l b)
  else if ty = 0x0901 then one (firstBad [(outOf (u8 b 0) 1 15 || !(u8 b 0).testBit unit, 0x0902)])
  else if ty = 0x0A01 then firstElem (fun _ e => xrefPoints l e) 0 (elems 32 r)
  else (0, 0)

/-! ### Stage 5 -/

/-- What a record writes or claims: target, ELEMENT, code. Target kinds: 1 slot, 2 AO, 3 DO, 4 point, 5 variable, 6 payload
byte, 7 SO, 8 learner, 9 feedback SI (04 R96). One EDM record whose two feedbacks name one SI clashes with itself; R96 speaks of two
records (DESIGN CHOICE, notes/assumptions/157.md). -/
def claims (r : Rec) : List ((Nat × Nat) × Nat × Nat) :=
  let b := r.body
  let payload := fun (o off n elem code : Nat) => (List.range n).map (fun k => ((6, 64 * o + off + k), elem, code))
  if r.ty = 0x0601 then (feedsOf r).zipIdx.map (fun f => ((1, f.1.1), f.2, 0x060B))
  else if r.ty = 0x0602 then
    if stType b = 0x0C then
      if u8 b 24 = 4 then payload (u32 b 28) (u8 b 27) (encBytes (u8 b 26)) 0 0x060B
      else [(((if u8 b 24 = 1 then 2 else if u8 b 24 = 2 then 3 else 4), u32 b 28), 0, 0x060B)]
    else (stageOuts b).map (fun x => ((1, x), 0, 0x060B)) ++ (if stType b = 8 then [((8, u8 b 24), 0, 0x060B)] else [])
  else if r.ty = 0x0702 then
    (elems 32 r).zipIdx.flatMap (fun e => (blockOuts e.1).flatMap (fun x =>
      let i := refIdx x
      let sp := refSpace x
      if sp = 8 then payload (bits i 13 14) (bits i 7 6) (encBytes (bits i 4 3)) e.2 0x0708
      else if sp = 0 then [] else [(((if sp = 6 then 1 else if sp = 10 then 2 else if sp = 9 then 3 else if sp = 7 then 4 else 5), i), e.2, 0x0708)]))
  else if r.ty = 0x0802 then (elems 24 r).zipIdx.filterMap (fun e => if u8 e.1 0 = 5 then some ((7, u16 e.1 2), e.2, 0x0809) else none)
  else if r.ty = 0x0805 then (9, u8 b 0, 0) :: [(9, u8 b 1, 0)] |>.filter (fun x => decide (x.2.1 ≠ 0xFF)) |>.map (fun x => ((x.1, x.2.1), 0, 0x0809))
  else []

/-- The first claim of a target already taken (04 R96). -/
def clash (taken : List (Nat × Nat)) : List ((Nat × Nat) × Nat × Nat) → Nat × Nat
  | [] => (0, 0)
  | (t, e, c) :: r => if taken.contains t then (c, e) else clash (t :: taken) r

/-- The SIs that SC inputs and Attar literals name (16 R483). -/
def siInputs (l : List Rec) : List Nat :=
  let si := fun (b : List Byte) (n o : Nat) => (List.range n).filterMap (fun j => let x := u16 b (o + 2 * j); if x / 8192 = 0 then some (x % 4096) else none)
  (elemsOf l 0x0802 24).flatMap (fun e => si e.2.2 (u8 e.2.2 1) 8) ++ (elemsOf l 0x0803 24).flatMap (fun e => si e.2.2 (min (u8 e.2.2 1) 8) 4)

/-- The objects that OUTPUT stages write (15 R446). -/
def stageObjs (l : List Rec) : List Nat :=
  (recsOf l 0x0602).filterMap (fun r => if stType r.body = 0x0C ∧ u8 r.body 24 = 4 then some (u32 r.body 28) else none)

/-- The tests of stage 5 on one record (04 R96, R104). -/
def writers (l pre : List Rec) (r : Rec) : Nat × Nat :=
  let taken := (pre.flatMap claims).map (·.1)
  if r.ty = 0x0202 then
    (firstBad [(decide (u8 r.body 4 ≠ 0xFF) && (recsOf pre 0x0201).any (fun d => decide (u8 d.body 4 = u8 r.body 4)), 0x020B)], 0)
  else if r.ty = 0x0502 then
    let n := (elemsOf pre 0x0502 16).length
    firstElem (fun k e => firstBad [(!soFlag e 0 && (stageObjs l).contains (n + k), 0x0507)]) 0 (elems 16 r)
  else if r.ty = 0x0702 then
    let c := clash taken (claims r)
    let k := firstElem (fun _ e => firstBad [((blockOuts e).any (fun x =>
      decide (refSpace x = 1) && decide (((varElems l)[refIdx x]?).map vKind = some 2)), 0x0708)]) 0 (elems 32 r)
    if k.1 ≠ 0 ∧ (c.1 = 0 ∨ k.2 ≤ c.2) then k else c
  else if r.ty = 0x0805 then
    if [u8 r.body 0, u8 r.body 1].any (fun x => (siInputs l).contains x) then (0x0809, 0) else clash taken (claims r)
  else clash taken (claims r)

/-! ### Stages 6 and 7 -/

/-- The larger of RETAIN sizes allowed (13 R375). -/
def journalLimit (l : List Rec) : Nat := min 2097152 (400 * imgFUs l)

/-- An instance is retained (13 R374). -/
def retained (b : List Byte) : Bool := (iFlags b).testBit 2 && retainOp (iOpc b)

/-- The tests of stage 6 on one record (01 R24, 04 R104, 14 R414). -/
def capacity (l pre : List Rec) (r : Rec) : Nat × Nat :=
  let store := fun (ni nv : Nat) => decide (12582912 < 40 * ni + 16 * nv)
  let ni := (instElems pre).length
  let nv := (varElems pre).length
  let jr := ((instElems pre).filter retained).length
  let jv := ((varElems pre).filter (fun b => decide (vKind b = 1))).length
  if r.ty = 0x0101 then (firstBad [(decide (126 * imgFUs l < ptUnits l), 0x0A05)], 0)
  else if r.ty = 0x0502 then
    let n := (objElems pre).length
    let res := ((recsOf l 0x0503).map (fun t => u16 t.body 16)).sum
    firstElem (fun k _ => firstBad [(decide (16384 < n + k + 1 + res), 0x0508)]) 0 (elems 16 r)
  else if r.ty = 0x0503 then
    (firstBad [(decide (16384 < (objElems l).length + ((recsOf pre 0x0503).map (fun t => u16 t.body 16)).sum + u16 r.body 16), 0x0508)], 0)
  else if r.ty = 0x0702 then
    firstElem (fun k e => firstBad [
      (decide (262144 < ni + k + 1), 0x0709), (store (ni + k + 1) nv, 0x07F5),
      (retained e && decide (journalLimit l < 64 + 16 * (jr + (((elems 32 r).take (k + 1)).filter retained).length) + 8 * jv), 0x070A)]) 0 (elems 32 r)
  else if r.ty = 0x0703 then
    firstElem (fun k e => firstBad [
      (store ni (nv + k + 1), 0x07F5),
      (decide (vKind e = 1) &&
        decide (journalLimit l < 64 + 16 * jr + 8 * (jv + (((elems 16 r).take (k + 1)).filter (fun b => decide (vKind b = 1))).length)), 0x070A)])
      0 (elems 16 r)
  else if r.ty = 0x0A01 then
    let n := (rangeElems pre).length
    firstElem (fun k _ => firstBad [(decide (1048576 < Config.compiledBytes (n + k + 1)), 0x0AF5)]) 0 (elems 32 r)
  else if r.ty = 0x0803 then
    let before := (elemsOf pre 0x0803 24).map (·.2.2)
    firstElem (fun k e =>
      let all := before ++ (elems 24 r).take k
      firstBad [
        (decide (256 ≤ all.length) || decide (15 < u8 e 0) || outOf (u8 e 1) 1 8
          || decide (16 ≤ (all.filter (fun x => decide (u8 x 0 = u8 e 0))).length), 0x0803)]) 0 (elems 24 r)
  else (0, 0)

/-- The sum of the costs of a list of instances, in ns (13 R373). -/
def blkCost (l : List (List Byte)) : Nat := (l.map (fun b => ((findBlk (iOpc b)).map (·.cost)).getD 0)).sum

/-- The worst case of a task in a frame, in ns (02 R44). -/
def taskCost (l : List Rec) (r : Rec) : Nat :=
  let is := (instElems l).filter (fun b => decide (iTask b = r.idx))
  let n := u16 r.body 8
  if (u8 r.body 6).testBit 0 then
    ((List.range n).map (fun k =>
      let a := u32 r.body (16 + 4 * k)
      let z := if k + 1 < n then u32 r.body (20 + 4 * k) else is.length
      blkCost ((is.drop a).take (z - a)))).foldl max 0
  else blkCost is

/-- The worst case of the program phase, in ns (02 R44). -/
def progCost (l : List Rec) : Nat :=
  ([0, 1, 2, 3].map (fun c =>
    let ts := (recsOf l 0x0701).filter (fun r => decide (u8 r.body 5 = c))
    if ts = [] then 0 else 1500 + (ts.map (taskCost l)).sum)).foldl max 0

/-- Updates a frame of the ranges of some kinds: ceil(count / update_m) each (14 R398). -/
def kindUpdates (l : List Rec) (lo hi : Nat) : Nat :=
  ((rangeElems l).map (fun b => if rgKind b < lo ∨ hi < rgKind b then 0 else (rgCount b + max (rgM b) 1 - 1) / max (rgM b) 1)).sum

/-- W in T10 (02 R43, R44): the sum in ns, rounded up. -/
def budgetW (l : List Rec) : Nat :=
  let gather := 4000 + 8 * (prefetched l).length + 4 * kindUpdates l 2 7
  let safety := 2000 + safetyCost l
  let engine := 1000 + 100 * (recsOf l 0x0602).length
  let transfer := 4000 + 4 * kindUpdates l 8 10
  (gather + safety + engine + progCost l + transfer + 9) / 10

/-- The limit of 02 R43, in T10. -/
def budgetLimit (l : List Rec) : Nat := imgFUs l * imgCommit l / 10 - imgFUs l * 5

/-! ### Stages 8 to 10 -/

/-- The tests of stage 8 on one record (04 R97, 14 R405, 15 R435). -/
def placement (l pre : List Rec) (r : Rec) : Nat × Nat :=
  if r.ty = 0x0502 then
    let n := (objElems pre).length
    firstElem (fun k _ => firstBad [(decide ((staticPlaces l).length ≤ n + k), 0x0509)]) 0 (elems 16 r)
  else if r.ty = 0x0A01 then
    let before := ((rangeElems pre).map (fun b => rgCount b * ringLen l b)).sum
    firstElem (fun k _ =>
      firstBad [(decide (134217728 < before + (((elems 32 r).take (k + 1)).map (fun b => rgCount b * ringLen l b)).sum), 0x0A06)]) 0 (elems 32 r)
  else (0, 0)

/-- A refusal against the record of a TYPE and INDEX. -/
def atType (code stage : Nat) (l : List Rec) (ty idx : Nat) : CheckRes :=
  match findRec l ty idx with
  | none => noRecord code stage ty
  | some r => atRecord code stage r 0

/-- Stage 9 (04 R98). ELEMENT of a 0x080B against an ATTAR_TERM list record is not stated (DESIGN CHOICE,
notes/assumptions/154.md): 0. -/
def safetyStage (prog : Bool) (s : State) (c : CheckIn) (img : List Byte) : CheckRes :=
  let l := innerRecs img
  let crc := safetyCrc l
  if crc ≠ imgSafetyCrc img ∨ (prog = true ∧ crc ≠ safetyCrc s.cfg.run) then atType 0x080A 9 l 0x0801 0
  else if prog then CheckRes.none_
  else if c.scDiff then atType 0x080B 9 l 0x0801 0
  else match c.attarDiff with
    | none => CheckRes.none_
    | some none => atType 0x080B 9 l 0x0801 0
    | some (some (ty, idx)) =>
      if (ty = 0x0803 ∨ ty = 0x0804) ∧ hasRec l ty idx = true then atType 0x080B 9 l ty idx else atType 0x080B 9 l 0x0801 0

/-- The sync link shows a peer in ACTIVE, STANDBY, HANDOVER or DEGRADED (04 R99). -/
def peerShown (s : State) (u : Nat) : Bool := (peer s u).present && decide (5 ≤ (peer s u).mode) && decide ((peer s u).mode ≤ 8)

/-- A unit that stage 10 asks (04 R99, 17 R487, R516): of the image's group, shown in modes 5 to 8, for PROG_STAGE every present one. -/
def peerAsked (prog : Bool) (s : State) (l : List Rec) (u : Nat) : Bool :=
  (u8 (bodyOf l 0x0901 0) 0).testBit u && (if prog then (peer s u).present else peerShown s u)

/-- Stage 10 (04 R99, 17 R516): peers in unit order, tests in ascending code order. Two points are open (DESIGN CHOICE): the
answer of a unit that it does not ask is taken, with all tests, when it reports this unit's own UNITID (notes/assumptions/155.md);
AGREE_CRC leaves the framing records out, whatever their AGREE (notes/assumptions/156.md). -/
def peerStage (prog : Bool) (s : State) (c : CheckIn) (img : List Byte) : CheckRes :=
  let l := innerRecs img
  let b := bodyOf l 0x0101 0
  let code := fun (a : PeerAns) => firstBad [
    (decide (a.fUs ≠ u32 b 0) || decide (a.commit ≠ u16 b 4) || decide (a.out ≠ u16 b 6), 0x0905),
    (decide (a.agree ≠ agreeCrc l), 0x0906), (!prog && decide (a.program ≠ imgProgramId img), 0x0907), (decide (a.unitId = unitId s), 0x0908)]
  let heard := [0, 1, 2, 3].flatMap (fun u => c.answers.filter (fun a => decide (a.unit.val = u) && (peerAsked prog s l u || decide (a.unitId = unitId s))))
  let k := firstBad (heard.map (fun a => (decide (code a ≠ 0), code a)))
  if k = 0 then CheckRes.none_ else atType k 10 l 0x0901 0

/-- The first result of a list of stages that refuses. -/
def firstRefusal : List (Unit → CheckRes) → CheckRes
  | [] => CheckRes.none_
  | f :: r => let x := f (); if x.reason ≠ 0 then x else firstRefusal r

/-- The enable check (04 R94): `prog` for a check started by PROG_STAGE, which runs against the enabled configuration. -/
def runCheck (prog : Bool) (s : State) (c : CheckIn) (img : List Byte) : CheckRes :=
  let l := innerRecs img
  let early := firstRefusal [
    fun _ => syntaxCheck img, fun _ => presenceStage l, fun _ => scan 3 (ranges s.md.straps.hostsel l) [] l, fun _ => scan 4 (xrefs (unitId s) l) [] l,
    fun _ => scan 5 (writers l) [] l, fun _ => scan 6 (capacity l) [] l]
  if early.reason ≠ 0 then early
  else
    let late := firstRefusal [
      fun _ => if budgetLimit l < budgetW l then atType 0x0109 7 l 0x0101 0 else CheckRes.none_,
      fun _ => scan 8 (placement l) [] l, fun _ => safetyStage prog s c img, fun _ => peerStage prog s c img]
    { late with w := budgetW l, lim := budgetLimit l }

end Sys2Proof.Machine
end

