-- ==== Sys2Proof/Machine/Regs.lean ====
section
/-! DEFINITION. The registers of BAR0 (05 R116-R118, 02 R57, 03 R84, 04 R105), the Quad-SPI port (05 R112-R115) and
the resets and power states of the PCI Express endpoint (05 R107, R109). -/

namespace Sys2Proof.Machine

/-- Flash bank `b` passes its CRC (03 R76). -/
def bankOk (s : State) (b : Bool) : Bool := if b then s.mram.okB else s.mram.okA

/-- SET_CRC of the set in a bank (06 R153). -/
def bankSet (s : State) (b : Bool) : Nat := if b then s.mram.setB else s.mram.setA

/-- The version word of the running set; 0 until it is loaded (05 R118). -/
def fwVersionNow (s : State) : Word := if s.md.fwLoaded then Config.fwVersion s.md.bank (bankSet s s.md.bank) else 0

/-- DIAG_MODE (03 R84): the latch and the store are read in the last BOOT step (03 R73; notes/assumptions/133.md). -/
def diagMode (s : State) : Nat :=
  s.md.mode.num + 16 * s.md.prev.num + 256 * s.md.cause + 65536 * b2n (s.md.ready && s.mram.lockout) + 131072 * b2n (s.md.ready && s.mram.enabled)

/-- DIAG_STRAPS (03 R84). -/
def diagStraps (p : Straps) : Nat :=
  b2n p.almsel + 2 * (p.unitId % 4) + 8 * b2n p.hostsel + 16 * b2n p.bootsel + 32 * b2n (!p.coldN)

/-- DIAG_BOOT (03 R84): 0 until the boot record has been read (03 R73; notes/assumptions/133.md). -/
def diagBoot (s : State) : Nat :=
  if !s.md.bootRead then 0
  else b2n s.md.bank + 2 * b2n (!s.md.confirmed) + 4 * (s.mram.trialLeft % 4) + 16 * b2n s.md.fallback +
    32 * b2n (bankOk s (!s.md.bank)) + 64 * (s.md.startKind % 8)

/-- DIAG_CHECK_STATUS (04 R105). -/
def diagCheck (c : CfgSt) : Nat :=
  c.last.reason % 65536 + 65536 * (c.last.stage % 16) + 1048576 * c.origin.num + 8388608 * b2n c.running

/-- DIAG_TIME_SNAP (02 R57): bit 0 takes the snapshot, bit 1 clears the peak. -/
def timeSnap (s : State) (v : Word) : State :=
  let s1 := if v.toNat.testBit 0 then { s with fr := { s.fr with snapT10 := s.fr.t10, snapFrame := s.fr.frame } } else s
  if v.toNat.testBit 1 then { s1 with fr := { s1.fr with peak := 0 } } else s1

/-- A read of the frame page (02 R57). -/
def frRead (s : State) (off : Nat) : Nat :=
  let f := s.fr
  if off = 0x4004 then f.fUs
  else if off = 0x4008 then f.snapT10 % 2 ^ 32
  else if off = 0x400C then bits f.snapT10 32 32
  else if off = 0x4010 then f.snapFrame % 2 ^ 32
  else if off = 0x4014 then bits f.snapFrame 32 16
  else if off = 0x4018 then f.status.toNat
  else if off = 0x401C then f.ovrCount
  else if off = 0x4020 then min f.ovrRun 31
  else if off = 0x4024 then f.budgetW % 2 ^ 32
  else if off = 0x4028 then f.budgetL % 2 ^ 32
  else if off = 0x402C then f.peak % 2 ^ 32
  else if off = 0x4030 then sat31 f.syncErr
  else 0

/-- A write to the frame page: the W1C bits of DIAG_FRAME_STATUS are 0, 2, 4, 5, 7 and 9 (02 R57). -/
def frWrite (s : State) (off : Nat) (v : Word) : State :=
  if off = 0x4000 then timeSnap s v
  else if off = 0x4018 then { s with fr := { s.fr with status := s.fr.status &&& ~~~ (v &&& 0x2B5#32) } }
  else s

/-- A read of the mode page (03 R84). -/
def mdRead (s : State) (off : Nat) : Nat :=
  if off = 0x4040 then diagMode s
  else if off = 0x4044 then s.md.status.toNat
  else if off = 0x4048 then s.md.frame % 2 ^ 32
  else if off = 0x404C then diagStraps s.md.straps
  else if off = 0x4050 then diagBoot s
  else 0

/-- A write to the mode page (03 R84). -/
def mdWrite (s : State) (off : Nat) (v : Word) : State :=
  if off = 0x4044 then { s with md := { s.md with status := s.md.status &&& ~~~ BitVec.ofNat 6 v.toNat } } else s

/-- A read of the configuration page (04 R105). -/
def cfgRead (s : State) (off : Nat) : Nat :=
  let c := s.cfg
  if off = 0x4080 then diagCheck c
  else if off = 0x4084 then c.last.idx % 65536 + 65536 * (c.last.ty % 65536)
  else if off = 0x4088 then c.last.elem
  else if off = 0x408C then c.last.off
  else if off = 0x4090 then c.frame % 2 ^ 32
  else if off = 0x4094 then c.ids.1
  else if off = 0x4098 then c.ids.2.1
  else if off = 0x409C then c.ids.2.2
  else if off = 0x40A0 then c.stg
  else if off = 0x40A4 then c.bytes.length
  else 0

/-- HIF_ID (05 R118, R570). -/
def hifId : Nat := 0x01002880

/-- HIF_STATUS (05 R118). -/
def hifStatus (s : State) : Nat :=
  b2n s.md.ready + 2 * b2n s.md.straps.hostsel + 4 * b2n s.md.recovery + 8 * b2n (s.hp.linkUp && s.hp.gen2) + 256 * s.md.mode.num

/-- A read of the HIF registers (05 R118). -/
def hifRead (s : State) (off : Nat) : Nat :=
  let h := s.hp
  if off = 0x00 then hifId
  else if off = 0x04 then (fwVersionNow s).toNat
  else if off = 0x08 then hifStatus s
  else if off = 0x0C then h.scratch.toNat
  else if off = 0x10 then h.head.val
  else if off = 0x14 then h.tail.val
  else if off = 0x1C then h.cmdError.toNat
  else if off = 0x20 then h.cmdErrCount
  else if off = 0x24 then h.event.toNat
  else if off = 0x28 then h.accessErr
  else if off = 0x2C then h.linkDown
  else if 0x60 ≤ off ∧ off < 0x80 then (tgtStatus s ((off - 0x60) / 4)).toNat
  else 0

/-- A write to the HIF registers (05 R118). -/
def hifWrite (s : State) (off : Nat) (v : Word) : State :=
  if off = 0x0C then { s with hp := { s.hp with scratch := v } }
  else if off = 0x18 then doRelease s v
  else if off = 0x24 then { s with hp := { s.hp with event := s.hp.event &&& ~~~ BitVec.ofNat 2 v.toNat } }
  else if 0x40 ≤ off ∧ off < 0x60 then doDoorbell s ((off - 0x40) / 4) v
  else if 0x60 ≤ off ∧ off < 0x80 then
    { s with hp := { s.hp with tgt := Tab.upd s.hp.tgt 0 ((off - 0x60) / 4) (fun w => w &&& ~~~ BitVec.ofNat 3 v.toNat) } }
  else s

/-- A read of the WIN control registers (05 R128). -/
def winRead (s : State) (off : Nat) : Nat :=
  if off = 0x800 then s.hp.viol
  else if off = 0x804 then s.hp.violLast.toNat
  else if off = 0x80C then deviceOwned s
  else if off = 0x810 then s.hp.shareLast
  else if off = 0x814 then s.hp.tailLast
  else 0

/-- The directory word of segment n (05 R122). -/
def dirWord (s : State) (n : Nat) : Nat :=
  let d := dirOf s n
  d.gen % 65536 + 16777216 * (d.kind % 128) + 2147483648 * b2n d.dev

/-- A read of one word of BAR0 (05 R116, R117); a word no block claims reads 0 (00 R13). In Quad-SPI mode the MSI-X table reads
0: DESIGN CHOICE (notes/assumptions/128.md). -/
def barRead (s : State) (off : Nat) : Word :=
  BitVec.ofNat 32 (
    if off < 0x800 then hifRead s off
    else if off < 0x900 then winRead s off
    else if off < 0x1000 then 0
    else if off < 0x2000 then dirWord s ((off - 0x1000) / 4)
    else if off < 0x3800 then hecRead s off
    else if off < 0x4000 then 0
    else if off < 0x4040 then frRead s off
    else if off < 0x4080 then mdRead s off
    else if off < 0x4100 then cfgRead s off
    else if off < 0x4300 then dioRead s off
    else if off < 0x4500 then anRead s off
    else if off < 0x4700 then pfRead s off
    else if off < 0x4900 then ceRead s off
    else if off < 0x4B00 then pgRead s off
    else if off < 0x4D00 then ptRead s off
    else if off < 0x4F00 then busRead s off
    else if off < 0x5100 then sfRead s off
    else if off < 0x5300 then grRead s off
    else if off < 0x5500 then hlRead s off
    else if off < 0x8000 then 0
    else if off < 0x8080 then (if s.md.straps.hostsel then 0 else (msixWord s ((off - 0x8000) / 4)).toNat)
    else if off = 0x8800 then s.hp.pba.toNat
    else 0)

/-- A write of one whole word of BAR0 (05 R116, R117). In Quad-SPI mode a write to the MSI-X table is dropped: DESIGN CHOICE
(notes/assumptions/128.md). -/
def barWrite (s : State) (off : Nat) (v : Word) : State :=
  if off < 0x800 then hifWrite s off v
  else if off < 0x900 then (if off = 0x808 then doReclaim s v else s)
  else if off < 0x1000 then s
  else if off < 0x2000 then doDirWrite s ((off - 0x1000) / 4) v
  else if off < 0x3800 then hecWrite s off v
  else if off < 0x4000 then s
  else if off < 0x4040 then frWrite s off v
  else if off < 0x4080 then mdWrite s off v
  else if off < 0x4100 then s
  else if off < 0x4300 then dioWrite s off v
  else if off < 0x4500 then anWrite s off v
  else if off < 0x4700 then pfWrite s off v
  else if off < 0x4900 then ceWrite s off v
  else if off < 0x4B00 then pgWrite s off v
  else if off < 0x4D00 then ptWrite s off v
  else if off < 0x4F00 then busWrite s off v
  else if off < 0x5100 then sfWrite s off v
  else if off < 0x5300 then grWrite s off v
  else if off < 0x5500 then hlWrite s off v
  else if off < 0x8000 then s
  else if off < 0x8080 then (if s.md.straps.hostsel then s else doMsixTable s ((off - 0x8000) / 4) v)
  else s

/-- One more access error (05 R118). -/
def accessErr (s : State) : State := { s with hp := { s.hp with accessErr := satInc32 s.hp.accessErr } }

/-- The whole words of a write request, none where its byte enables leave part of a word uncovered (05 R108). -/
def wholeWords : List (Option Byte) → Option (List Word)
  | [] => some []
  | some a :: some b :: some c :: some d :: r =>
    (wholeWords r).map (fun l => BitVec.ofNat 32 (a.toNat + 256 * b.toNat + 65536 * c.toNat + 16777216 * d.toNat) :: l)
  | _ => none

/-- Writes words from `off` on, the lower address first (05 R108). -/
def barWrites (s : State) (off : Nat) (ws : List Word) : State :=
  (ws.zipIdx).foldl (fun s x => barWrite s (off + 4 * x.2) x.1) s

/-- REGISTER_WRITE (00 R11, 05 R108): whole aligned words take effect by their access codes; any other request is dropped
whole and counts once. -/
def doRegisterWrite (s : State) (off : Nat) (data : List (Option Byte)) : State :=
  match (if off % 4 = 0 then wholeWords data else none) with
  | some ws => barWrites s off ws
  | none => accessErr s

def execRegisterWrite (dt : Nat) (off : Nat) (data : List (Option Byte)) (s : State) : Host.Outcome State Fault Refusal :=
  done s (hostAccess s (fun s => doRegisterWrite (advance s dt) off data))

/-- DIAG_TIME_SNAP (02 R57). -/
def execDiagTimeSnap (dt : Nat) (v : Word) (s : State) : Host.Outcome State Fault Refusal :=
  done s (hostAccess s (fun s => timeSnap (advance s dt) v))

/-- PHASE_PEAK_CLEAR (02 R57). -/
def execPhasePeakClear (dt : Nat) (v : Word) (s : State) : Host.Outcome State Fault Refusal :=
  done s (hostAccess s (fun s => timeSnap (advance s dt) v))

/-- The address lies in the BAR2 window of the Quad-SPI map (05 R113). -/
def qspiBar2 (a : Nat) : Bool := decide (0x04000000 ≤ a ∧ a < 0x08000000)

/-- One word of a Quad-SPI read (05 R113). -/
def qspiWord (s : State) (a : Nat) : Word :=
  if a < 0x10000 then barRead s a
  else if qspiBar2 a then BitVec.ofNat 32 (leAt (winBytes s (a - 0x04000000) 4) 0 4)
  else 0

/-- A word cut short by CS# is counted (05 R113). -/
def cutWord (s : State) (cut : Bool) : State := if cut then accessErr s else s

/-- QSPI_READ (05 R112-R114). -/
def doQspiRead (s : State) (a n : Nat) (cut : Bool) : State :=
  if !s.md.straps.hostsel then s
  else if a % 4 ≠ 0 then accessErr s
  else
    let as_ := (List.range n).map (fun i => a + 4 * i)
    cutWord { s with hp := { s.hp with
        qspi := as_.map (qspiWord s), share := s.hp.share + 4 * (as_.filter qspiBar2).length } } cut

def execQspiRead (addr : Nat) (words : Nat) (cut : Bool) (s : State) : Host.Outcome State Fault Refusal :=
  done s (hostAccess s (fun s => doQspiRead s addr words cut))

/-- One word of a Quad-SPI write (05 R113, R114). -/
def qspiPut (s : State) (a : Nat) (v : Word) : State :=
  if a < 0x10000 then barWrite s a v
  else if qspiBar2 a then doBar2 s (a - 0x04000000) ((leBytes 4 v.toNat).map some)
  else s

/-- QSPI_WRITE (05 R112-R114). -/
def doQspiWrite (s : State) (a : Nat) (data : List Word) (cut : Bool) : State :=
  if !s.md.straps.hostsel then s
  else if a % 4 ≠ 0 then accessErr s
  else cutWord ((data.zipIdx).foldl (fun s x => qspiPut s (a + 4 * x.2) x.1) s) cut

def execQspiWrite (dt : Nat) (addr : Nat) (data : List Word) (cut : Bool) (s : State) : Host.Outcome State Fault Refusal :=
  done s (hostAccess s (fun s => doQspiWrite (advance s dt) addr data cut))

/-- QSPI_READ_ID (05 R112). -/
def doQspiReadId (s : State) : State :=
  if s.md.straps.hostsel then { s with hp := { s.hp with qspi := [BitVec.ofNat 32 hifId] } } else s

def execQspiReadId (s : State) : Host.Outcome State Fault Refusal := done s (hostAccess s doQspiReadId)

/-- QSPI_BAD_TRANSACTION (05 R113). -/
def doQspiBad (s : State) : State := if s.md.straps.hostsel then accessErr s else s

def execQspiBadTransaction (s : State) : Host.Outcome State Fault Refusal := done s (hostAccess s doQspiBad)

/-- Words 0 and 2 of the PCI configuration space: Vendor and Device ID, class code with revision 0 (05 R106, R570). -/
def pciIds : Nat := 0x28801E5A
def pciClass : Nat := 0x11800000

/-- The PCI Express link goes down; counted when it was up, never in Quad-SPI mode (05 R118). -/
def linkDown (s : State) : State :=
  if s.md.straps.hostsel || !s.hp.linkUp then s
  else { s with hp := { s.hp with linkUp := false, gen2 := false, linkDown := satInc32 s.hp.linkDown } }

/-- PERST# and Function Level Reset (05 R107): configuration space, MSI-X table and pending bits at reset, link retrained. -/
def pciReset (s : State) : State :=
  if s.md.straps.hostsel then s
  else
    let s1 := linkDown s
    { s1 with hp := { s1.hp with d3 := false, msixEn := false, msixFm := false, msix := [], pba := 0, mps := 128, aspmL1 := false, aerUnc := 0, aerCor := 0,
                                   pmeEn := false, pmeStatus := false } }

/-- PERST (05 R107). -/
def execPerst (s : State) : Host.Outcome State Fault Refusal := done s (pciReset s)

/-- FUNCTION_LEVEL_RESET (05 R107). -/
def execFunctionLevelReset (s : State) : Host.Outcome State Fault Refusal := done s (pciReset s)

/-- PCIE_LINK_DOWN (05 R118). -/
def execPcieLinkDown (s : State) : Host.Outcome State Fault Refusal := done s (linkDown s)

/-- PCIE_LINK_UP (05 R118): the link comes up at the rate trained; the lanes stay idle in Quad-SPI mode (05 R112). -/
def doLinkUp (s : State) (gen2 : Bool) : State :=
  if s.md.straps.hostsel ∨ s.md.mode = .reset then s else { s with hp := { s.hp with linkUp := true, gen2 := gen2 } }

def execPcieLinkUp (gen2 : Bool) (s : State) : Host.Outcome State Fault Refusal := done s (doLinkUp s gen2)

/-- POWER_STATE_CHANGE (05 R109): the endpoint moves between D0 and D3hot. -/
def doPowerState (s : State) (d3 : Bool) : State :=
  if s.md.straps.hostsel ∨ s.md.mode = .reset then s else { s with hp := { s.hp with d3 := d3 } }

def execPowerStateChange (d3 : Bool) (s : State) : Host.Outcome State Fault Refusal := done s (doPowerState s d3)

end Sys2Proof.Machine
end

