-- ==== Sys2Proof/Machine/Accept.lean ====
section
/-! DEFINITION. Acceptance of a command packet (06 R131-R133, R138, R139, R141, R147-R152, R572). -/

namespace Sys2Proof.Machine

/-- Every host command. -/
def allOps : List Op :=
  [.nop, .identify, .getMode, .cfgOpen, .cfgLoad, .cfgClose, .cfgReadback, .enable, .disable, .restart, .safeHoldEnter, .safeHoldLeave,
   .serviceEnter, .serviceLeave, .pointRead, .pointWrite, .pointSubscribe, .pointUnsubscribe, .alarmAck, .trendRead, .forceSet, .forceClear,
   .forceList, .valueChange, .progStage, .handoverRequest, .groupStatus, .captureArm, .captureRead, .injectStart, .injectStop, .learnControl,
   .loopMode, .stopQueueEdit, .pfArm, .testReport, .faultLogRead, .calReport, .fwStage, .fwActivate, .busPortCtrl, .nodeTableRead,
   .safetyStatus, .safetyReset]

/-- The command of an OPCODE (06 R146). -/
def opOf (code : Nat) : Option Op := allOps.find? (fun o => decide (o.code = code))

/-- The mode commands (06 R141). -/
def Op.isMode : Op → Bool
  | .cfgOpen => true | .cfgClose => true | .enable => true | .disable => true | .restart => true | .safeHoldEnter => true
  | .safeHoldLeave => true | .serviceEnter => true | .serviceLeave => true | .safetyReset => true | .progStage => true
  | .handoverRequest => true | .fwActivate => true | _ => false

/-- P, the parameter length of an opcode (06 R147-R152); VALUE_CHANGE takes 8 + 16 x COUNT (R150). -/
def Op.plen (count : Nat) : Op → Nat
  | .cfgLoad => 16 | .cfgReadback => 20 | .restart => 8 | .serviceEnter => 8 | .pointRead => 20 | .pointWrite => 16
  | .pointSubscribe => 16 | .pointUnsubscribe => 8 | .alarmAck => 8 | .trendRead => 28 | .forceSet => 16 | .forceClear => 8
  | .forceList => 16 | .valueChange => 8 + 16 * count | .handoverRequest => 8 | .captureArm => 8 | .captureRead => 20
  | .injectStart => 16 | .injectStop => 8 | .learnControl => 8 | .loopMode => 16 | .stopQueueEdit => 16 | .pfArm => 8
  | .testReport => 12 | .faultLogRead => 16 | .calReport => 16 | .fwStage => 24 | .fwActivate => 8 | .busPortCtrl => 8
  | .nodeTableRead => 16
  | _ => 0

/-- The largest parameter length (06 R150): 56 in a packet, 1,032 in a block. -/
def Op.plenMax (inSeg : Bool) (op : Op) : Nat := if op = .valueChange then (if inSeg then 1032 else 56) else op.plen 0

/-- One field of a parameter layout: its packet byte, its size, whether it is in range, and the DETAIL of the
opcode's own for it, 0 where it has none. -/
structure Fld where
  pos : Nat
  size : Nat
  ok : Bool
  own : Nat
deriving DecidableEq, Repr

/-- A parameter at packet byte b, from the parameters' bytes. -/
def p8 (p : List Byte) (b : Nat) : Nat := u8 p (b - 8)
def p16 (p : List Byte) (b : Nat) : Nat := u16 p (b - 8)
def p32 (p : List Byte) (b : Nat) : Nat := u32 p (b - 8)
def p64 (p : List Byte) (b : Nat) : Nat := u64 p (b - 8)
def pF (p : List Byte) (b : Nat) : F64 := f64 p (b - 8)

/-- A field without a range of its own. -/
def fAny (b n : Nat) : Fld := { pos := b, size := n, ok := true, own := 0 }
/-- A field that must meet a condition. -/
def fIn (b n : Nat) (ok : Bool) : Fld := { pos := b, size := n, ok := ok, own := 0 }

/-- A reserved field of several bytes: one field of the layout, 0 (06 R130, R132). -/
def fZero (p : List Byte) (b n : Nat) : Fld := fIn b n (decide (leAt p (b - 8) n = 0))

/-- The fields of a SEGREF at byte b, LENGTH at least `lo`; `twice` is the segment of the parameter block (06 R132,
R133, R572); CFG_LOAD has a DETAIL of its own for OFFSET and LENGTH (04 R91). -/
def segFlds (p : List Byte) (twice : Option Nat) (b lo own : Nat) : List Fld :=
  let sg := p16 p b
  let off := p32 p (b + 4)
  let len := p32 p (b + 8)
  [fIn b 2 (decide (2 ≤ sg ∧ sg ≤ 1023) && decide (twice ≠ some sg)), fZero p (b + 2) 2,
   { pos := b + 4, size := 4, ok := decide (off ≤ 65535), own := own },
   { pos := b + 8, size := 4, ok := decide (1 ≤ len ∧ off + len ≤ 65536 ∧ lo ≤ len), own := own }]

/-- The entries of VALUE_CHANGE (06 R149). -/
def vcCount (p : List Byte) : Nat := p16 p 8

/-- The fields of an opcode's parameter layout (06 R147-R152). -/
def Op.flds (op : Op) (p : List Byte) (twice : Option Nat) : List Fld :=
  match op with
  | .cfgLoad => segFlds p twice 8 0 0x0013 ++ [fAny 20 4]
  | .cfgReadback => [fIn 8 1 (decide (p8 p 8 ≤ 1)), fAny 12 4] ++ segFlds p twice 16 0 0
  | .restart => [fIn 8 1 (decide (p8 p 8 ≤ 1))]
  | .serviceEnter => [fIn 8 1 (decide (p8 p 8 ≤ 1))]
  | .pointRead =>
    let n := p32 p 12
    [fIn 8 4 (decide (p32 p 8 < 33554432)), fIn 12 4 (decide (1 ≤ n ∧ n ≤ 512 ∧ p32 p 8 + n ≤ 33554432))] ++
      (if p16 p 16 = 0 then [fIn 16 2 (decide (n = 1)), fZero p 18 2, fIn 20 4 (decide (p32 p 20 = 0)), fIn 24 4 (decide (p32 p 24 = 0))]
       else segFlds p twice 16 (128 * n) 0)
  | .pointWrite => [fAny 8 4, fAny 16 8]
  | .pointSubscribe =>
    let f := p16 p 16
    let n := p16 p 18
    [fAny 8 4, fIn 12 2 (decide (1 ≤ p16 p 12 ∧ p16 p 12 ≤ 512)), fIn 14 2 (decide (1 ≤ p16 p 14 ∧ p16 p 14 ≤ 1000)),
     fIn 16 2 (decide (2 ≤ f ∧ f ≤ 1023) && !(twice.any (fun t => decide (f ≤ t ∧ t < f + n)))),
     fIn 18 2 (decide (2 ≤ n ∧ n ≤ 16 ∧ f + n ≤ 1024))]
  | .pointUnsubscribe => [fAny 8 2]
  | .alarmAck => [fAny 8 4, fIn 12 4 (decide (1 ≤ p32 p 12 ∧ p32 p 12 ≤ 65536))]
  | .trendRead =>
    let n := p32 p 12
    [fAny 8 4, fIn 12 4 (decide (1 ≤ n ∧ n ≤ 4096)), fAny 16 8] ++ segFlds p twice 24 (16 * n) 0
  | .forceSet =>
    let k := p8 p 8
    let v := pF p 16
    [fIn 8 1 (decide (1 ≤ k ∧ k ≤ 5)), fAny 12 4,
     fIn 16 8 (if k = 1 ∨ k = 4 then decide (p64 p 16 ≤ 1) else if k = 5 then F64.ge v 0 && F64.le v c24 else true)]
  | .forceClear => [fIn 8 1 (decide (p8 p 8 ≤ 5)), fIn 12 4 (decide (p8 p 8 ≠ 0 ∨ p32 p 12 = 0))]
  | .forceList => [fIn 8 2 (decide (p16 p 8 ≤ 1023))] ++ segFlds p twice 12 0 0
  | .valueChange =>
    [fIn 8 2 (decide (1 ≤ vcCount p ∧ vcCount p ≤ 64))] ++
      (List.range (min (vcCount p) 64)).flatMap (fun e =>
        let b := 16 + 16 * e
        [fAny b 4, fAny (b + 4) 2, fIn (b + 6) 1 (decide (p8 p (b + 6) ≤ 3)), fAny (b + 8) 8])
  | .handoverRequest => [fIn 8 1 (decide (p8 p 8 ≤ 3 ∨ p8 p 8 = 0xFF)), fIn 9 1 (decide (p8 p 9 ≤ 1))]
  | .captureArm => [fAny 8 1, fIn 9 1 (decide (p8 p 9 ≤ 2))]
  | .captureRead => [fAny 8 1, fIn 9 1 (decide (p8 p 9 ≤ 7)), fIn 12 4 (decide (p32 p 12 ≤ 65535))] ++ segFlds p twice 16 0 0
  | .injectStart => [fAny 8 2, fAny 12 4, fIn 16 8 (F64.gt (pF p 16) 0 && F64.le (pF p 16) F64.one)]
  | .injectStop => [fAny 8 2]
  | .learnControl => [fIn 8 1 (decide (p8 p 8 ≤ 15)), fIn 9 1 (decide (p8 p 9 ≤ 3))]
  | .loopMode => [fIn 8 1 (decide (p8 p 8 ≤ 63)), fIn 9 1 (decide (p8 p 9 ≤ 1)), fAny 16 8]
  | .stopQueueEdit =>
    let z := signed 64 (p64 p 16)
    [fAny 8 2, fIn 10 1 (decide (p8 p 10 ≤ 2)), fIn 16 8 (decide (-140737488355328 ≤ z ∧ z ≤ 140737488355327))]
  | .pfArm => [fIn 8 1 (decide (p8 p 8 ≤ 7)), fIn 9 1 (decide (p8 p 9 ≤ 1))]
  | .testReport => segFlds p twice 8 0 0
  | .faultLogRead =>
    let n := p16 p 10
    [fIn 8 2 (decide (p16 p 8 ≤ 4095)), fIn 10 2 (decide (1 ≤ n ∧ n ≤ 1024))] ++ segFlds p twice 12 (64 * n) 0
  | .calReport =>
    [fIn 8 1 (decide (p8 p 8 ≤ 1)), fIn 9 1 (decide (p8 p 9 ≤ (if p8 p 8 = 0 then 5 else 7)))] ++ segFlds p twice 12 0 0
  | .fwStage =>
    segFlds p twice 8 0 0 ++ [fAny 20 4, fIn 24 4 (decide (1 ≤ p32 p 24 ∧ p32 p 24 ≤ 67108864)), fAny 28 4]
  | .fwActivate => [fIn 8 1 (decide (p8 p 8 ≤ 1))]
  | .busPortCtrl => [fIn 8 1 (decide (p8 p 8 ≤ 3)), fIn 9 1 (decide (p8 p 9 ≤ 3))]
  | .nodeTableRead => [fIn 8 2 (decide (p16 p 8 ≤ 4095)), fIn 10 2 (decide (1 ≤ p16 p 10 ∧ p16 p 10 ≤ 4096))] ++ segFlds p twice 12 0 0
  | _ => []

/-- The segments a command names beside its parameter block, each with the packet byte of the field that names it. -/
def Op.named (op : Op) (p : List Byte) : List (Nat × Nat) :=
  match op with
  | .cfgLoad => [(p16 p 8, 8)] | .cfgReadback => [(p16 p 16, 16)] | .trendRead => [(p16 p 24, 24)] | .forceList => [(p16 p 12, 12)]
  | .pointRead => if p16 p 16 = 0 then [] else [(p16 p 16, 16)]
  | .pointSubscribe => (List.range (p16 p 18)).map (fun i => (p16 p 16 + i, 16))
  | .captureRead => [(p16 p 16, 16)] | .testReport => [(p16 p 8, 8)] | .faultLogRead => [(p16 p 12, 12)] | .calReport => [(p16 p 12, 12)]
  | .fwStage => [(p16 p 8, 8)] | .nodeTableRead => [(p16 p 12, 12)]
  | _ => []

/-- The first failing byte of a layout, with the DETAIL of the opcode's own: a field out of range, or a byte of no
field that is nonzero (06 R138, R139). -/
def badField (fs : List Fld) (p : List Byte) : Option (Nat × Nat) :=
  let bad := (fs.filter (fun f => !f.ok)).map (fun f => (f.pos, f.own)) ++
    ((List.range p.length).filter (fun k => p.getD k 0 != 0 && !(fs.any (fun f => decide (f.pos ≤ 8 + k ∧ 8 + k < f.pos + f.size))))).map
      (fun k => (8 + k, 0))
  bad.foldl (fun (m : Option (Nat × Nat)) x => match m with | none => some x | some y => if x.1 < y.1 then some x else some y) none

/-- A ring entry with every field cut to its width (06 R131). -/
def cutEntry (e : Entry) : Entry :=
  { target := e.target % 8, ring := e.ring % 1024, tag := e.tag % 65536, length := e.length % 65536, flags := e.flags % 256, rsv := e.rsv % 256
    par := fit 56 e.par }

def usesSeg (e : Entry) : Bool := e.flags.testBit 0

/-- The bytes of the parameter block that a packet names, none where its SEGREF names no bytes of a segment (06 R133). -/
def paramBlock (s : State) (e : Entry) : List Byte :=
  let sg := p16 e.par 8
  let off := p32 e.par 12
  if 2 ≤ sg ∧ sg ≤ 1023 ∧ off ≤ 65535 then winBytes s (65536 * sg + off) (min (p32 e.par 16) (65536 - off)) else []

/-- The parameters, from layout byte 8 on. -/
def params (s : State) (e : Entry) : List Byte := if usesSeg e then paramBlock s e else e.par

/-- The DETAIL of a field at layout byte b (06 R138). -/
def dOff (inSeg : Bool) (b : Nat) : Nat := if inSeg then 0x8000 + b else b

/-- COUNT as step 3 reads it (06 R150): packet byte 8, or segment byte OFFSET whatever LENGTH the SEGREF gives; 0 where
the SEGREF names no byte of a segment (log 12). -/
def countField (s : State) (e : Entry) : Nat :=
  let sg := p16 e.par 8
  let off := p32 e.par 12
  if !usesSeg e then p16 e.par 8
  else if 2 ≤ sg ∧ sg ≤ 1023 ∧ off ≤ 65535 then u16 (winBytes s (65536 * sg + off) (min 2 (65536 - off))) 0 else 0

/-- Step 3 of R139: LENGTH, PARAM_SEG and the parameter length. -/
def lengthStep (s : State) (op : Op) (e : Entry) : Option Answer :=
  let want := op.plen (countField s e)
  let top := op.plenMax (usesSeg e)
  if usesSeg e then
    if want = 0 then some (errA 0x11 0)
    else if e.length ≠ 12 then some (errA 0x11 12)
    else if top < want then some (errA 0x11 top)
    else if p32 e.par 16 ≠ want then some (errA 0x11 want) else none
  else if top < want then some (errA 0x11 top)
  else if e.length ≠ want then some (errA 0x11 want) else none

/-- The answer of VALUE_CHANGE (06 R149, R150). -/
def vcAnswer (inSeg : Bool) (n : Nat) : Option (Nat × Nat) → Answer
  | none => okA (leBytes 2 n ++ leBytes 2 0xFFFF)
  | some x => { status := 0x12, detail := dOff inSeg x.2, data := leBytes 2 0 ++ leBytes 2 x.1 }

/-- The answer to a failing field of a layout: of a VALUE_CHANGE with the entry the field stands in, 0xFFFF for the bytes
before the entries (06 R150; log 141). -/
def fieldAnswer (op : Op) (inSeg : Bool) (b detail : Nat) : Answer :=
  if op = .valueChange then { vcAnswer inSeg 0 (some (if b < 16 then 0xFFFF else (b - 16) / 16, b)) with detail := detail }
  else badParam detail

/-- Step 4 of R139: reserved fields and ranges in ascending byte order. -/
def rangeStep (s : State) (op : Op) (e : Entry) : Option Answer :=
  let p := params s e
  if e.flags / 2 ≠ 0 then some (fieldAnswer op false 6 6)
  else if e.rsv ≠ 0 then some (fieldAnswer op false 7 7)
  else
    let code := fun (x : Nat × Nat) (seg : Bool) => fieldAnswer op seg x.1 (if x.2 ≠ 0 then x.2 else dOff seg x.1)
    match (if usesSeg e then badField (segFlds e.par none 8 0 0) e.par else none) with
    | some x => some (fieldAnswer op false 8 (dOff false x.1))
    | none => (badField (op.flds p (if usesSeg e then some (p16 e.par 8) else none)) p).map (fun x => code x (usesSeg e))

/-- Step 5 of R139: mode permission; a force of an output outside SERVICE (06 R146, R149). -/
def modeStep (s : State) (op : Op) (p : List Byte) : Option Answer :=
  if !permits op s.md.mode s.md.recovery then some wrongMode
  else if op = .forceSet ∧ 4 ≤ p8 p 8 ∧ s.md.mode ≠ .service then some wrongMode else none

/-- A force names an item there is (06 R149). -/
def forceItem (s : State) (kind item : Nat) : Bool :=
  if kind = 1 then decide (item < 96) else if kind = 2 then decide (item < 48)
  else if kind = 3 then decide (item < (varElems s.cfg.run).length)
  else if kind = 4 then decide (item < 64) else decide (item < 32)

/-- The value of a force suits its variable (13 R382). -/
def forceValue (s : State) (kind item : Nat) (v : F64) : Bool :=
  decide (kind ≠ 3) || validVal (vType ((varElems s.cfg.run).getD item [])) v

/-- The first failing entry of a VALUE_CHANGE with the layout byte of its field (13 R379). -/
def vcFault (s : State) (p : List Byte) : Option (Nat × Nat) :=
  let one := fun (e : Nat) =>
    let b := 16 + 16 * e
    match vcTarget s (p32 p b) (p16 p (b + 4)) with
    | (false, _) => some (e, b)
    | (true, none) => some (e, b + 4)
    | (true, some v) =>
      let ty := vType ((varElems s.cfg.run).getD v [])
      if p8 p (b + 6) ≠ ty then some (e, b + 6) else if !validVal ty (pF p (b + 8)) then some (e, b + 8) else none
  (List.range (vcCount p)).findSome? one

/-- The stored point kinds a POINT_WRITE may not write (14 R396): NONE does not exist, another kind has a module writer. -/
def writeFault (s : State) (n : Nat) (inSeg : Bool) : Option Answer :=
  if ptKind s n = 0 then some (badParam (dOff inSeg 8)) else if ptKind s n = 1 then none else some (errA 0x22 (dOff inSeg 8))

/-- A slot has a trend (14 R406); slot 2^25 is the alarm journal. -/
def hasTrend (s : State) (n : Nat) : Bool :=
  decide (n = 33554432) || (decide (n < 33554432) && ((rangeOf s.cfg.run n).map (fun b => decide (0 < ringLen s.cfg.run b))).getD false)

/-- The length of the image a CFG_READBACK reads, none where it is absent (06 R147). -/
def sourceImage (s : State) (src : Nat) : Option (List Byte) :=
  if src = 0 then (if s.mram.enabled then some s.mram.image else none) else if s.cfg.stg = 0 then none else some s.cfg.bytes

/-- Why FW_STAGE's chunk does not fit the set, 0 where it does (06 R153). -/
def fwFault (s : State) (p : List Byte) : Nat :=
  let off := p32 p 20
  let n := p32 p 16
  let total := p32 p 24
  if off = 0 then (if total < n then 0x0102 else 0)
  else if off ≠ s.cm.fwBytes.length then 0x0101
  else if total < off + n then 0x0102
  else if total ≠ s.cm.fwTotal then 0x0103 else 0

/-- What an opcode of kind T would answer now, for the references that acceptance tests. -/
def trial (s : State) (op : Op) (p : List Byte) : Answer :=
  match op with
  | .captureArm => (capArm s (p8 p 8) (p8 p 9)).2
  | .injectStart => (injStart s (p16 p 8) (p32 p 12) (pF p 16)).2
  | .injectStop => (injStopCmd s (p16 p 8)).2
  | .learnControl => (learnControl s (p8 p 8) (p8 p 9)).2
  | .loopMode => (setLoopMode s (p8 p 8) (decide (p8 p 9 = 1)) (pF p 16)).2
  | .stopQueueEdit => (stopEdit s (p16 p 8) (p8 p 10) (signed 64 (p64 p 16))).2
  | .pfArm => let x := (pfArmAt s (p8 p 8) (decide (p8 p 9 = 0))).2; if x = 0 then okA [] else badParam x
  | .busPortCtrl => (portCtrl s (p8 p 8) (p8 p 9)).2
  | _ => okA []

/-- Step 6 of R139: references to the enabled configuration and to present state. -/
def refStep (s : State) (op : Op) (p : List Byte) (inSeg : Bool) : Option Answer :=
  let bad := fun (c : Bool) (b : Nat) => if c then some (badParam (dOff inSeg b)) else none
  match op with
  | .cfgLoad => if s.cfg.stg = 1 then none else some (badParam 0x0010)
  | .cfgReadback => bad (sourceImage s (p8 p 8)).isNone 8
  | .restart => bad (!s.mram.enabled) 8
  | .serviceEnter => bad (decide (p8 p 8 = 1) && !s.mram.enabled) 8
  | .pointWrite => bad (decide (ptKind s (p32 p 8) = 0)) 8
  | .pointSubscribe =>
    if 33554432 ≤ p32 p 8 then bad true 8 else bad (decide (33554432 < p32 p 8 + p16 p 12)) 12
  | .pointUnsubscribe => bad (Tab.get s.cm.subs none (p16 p 8)).isNone 8
  | .alarmAck => if 33554432 ≤ p32 p 8 then bad true 8 else bad (decide (33554432 < p32 p 8 + p32 p 12)) 12
  | .trendRead => bad (!hasTrend s (p32 p 8)) 8
  | .forceSet => if !forceItem s (p8 p 8) (p32 p 12) then bad true 12 else bad (!forceValue s (p8 p 8) (p32 p 12) (pF p 16)) 16
  | .forceClear => bad (decide (p8 p 8 ≠ 0) && !forceItem s (p8 p 8) (p32 p 12)) 12
  | .valueChange => match vcFault s p with | none => none | some x => some (vcAnswer inSeg 0 (some x))
  | .captureRead =>
    if (cfgRec s 0x0605 (p8 p 8)).isNone then bad true 8 else bad (decide (u8 (cfgBody s 0x0605 (p8 p 8)) 0 ≤ p8 p 9)) 9
  | .fwStage => if fwFault s p = 0 then none else some (badParam (fwFault s p))
  | .fwActivate => if s.cm.fwDone then none else some (badParam 0x0105)
  | _ => let a := trial s op p; if a.status = 0x12 then bad true a.detail else none

/-- Step 7 of R139: the segments named must be device-owned and not held (05 R127). -/
def segStep (s : State) (named : List (Nat × Nat)) : Option Answer :=
  named.findSome? (fun x => if !(dirOf s x.1).dev then some (errA 0x22 x.2) else if segHeld s x.1 then some (errA 0x21 1) else none)

/-- The sum of COUNT / DECIMATION over the subscriptions and one more stays within 4 x F_US (14 R409). -/
def subRoom (s : State) (count decim : Nat) : Bool :=
  let l := (liveSubs s).map (fun x => (x.2.count, max x.2.decim 1)) ++ [(count, max decim 1)]
  let den := (l.map (·.2)).foldl (· * ·) 1
  decide ((l.map (fun x => x.1 * (den / x.2))).sum ≤ 4 * s.fr.fUs * den)

/-- Room for one more force on an item (06 R149). -/
def forceRoom (s : State) (kind item : Nat) : Bool := decide (s.cm.forces.length < 1024) || (forceOf s kind item).isSome

/-- Step 8 of R139: serialisation and table space. -/
def busyStep (s : State) (op : Op) (p : List Byte) : Option Answer :=
  if op.isMode && op ≠ .safeHoldEnter && s.cm.cmds.any (fun c => c.op.isMode) then some (errA 0x21 2)
  else if op = .fwStage ∧ s.cm.cmds.any (fun c => decide (c.op = .fwStage)) then some (errA 0x21 3)
  else if op = .pointSubscribe ∧ (32 ≤ (liveSubs s).length ∨ !subRoom s (p16 p 12) (p16 p 14)) then some (errA 0x21 4)
  else if op = .forceSet ∧ !forceRoom s (p8 p 8) (p32 p 12) then some (errA 0x21 4)
  else if op = .stopQueueEdit ∧ (trial s op p).status = 0x21 then some (errA 0x21 4)
  else none

/-- OFFLINE of a safe-message port is refused in ACTIVE, HANDOVER and DEGRADED (06 R152). -/
def offlineRefused (s : State) (port act : Nat) : Bool :=
  decide (act = 1) && pairUsed s (port / 2) && s.md.mode.driven

/-- Step 9 of R139: the refusals named in the opcode tables. -/
def refuseStep (s : State) (op : Op) (p : List Byte) (inSeg : Bool) : Option Answer :=
  match op with
  | .pointWrite => writeFault s (p32 p 8) inSeg
  | .serviceEnter => if s.sf.demand then some refusedSafety else none
  | .forceSet => if 4 ≤ p8 p 8 ∧ s.sf.demand then some refusedSafety else none
  | .injectStart => if s.sf.demand then some refusedSafety else none
  | .busPortCtrl => if offlineRefused s (p8 p 8) (p8 p 9) then some refusedSafety else none
  | .handoverRequest =>
    let t := handoverTarget s (p8 p 8) (decide (p8 p 9 = 1))
    if t.1 = 0 then none else some (refusedGroup t.1)
  | _ => none

/-- Every segment a packet names, the parameter block first, each with the DETAIL of its field. -/
def segsOf (s : State) (op : Op) (e : Entry) : List (Nat × Nat) :=
  (if usesSeg e then [(p16 e.par 8, 8)] else []) ++ (op.named (params s e)).map (fun x => (x.1, dOff (usesSeg e) x.2))

/-- Steps 3 to 9 of R139, in order: the answer of the first that fails. -/
def acceptSteps (s : State) (op : Op) (e : Entry) : Option Answer :=
  let p := params s e
  match lengthStep s op e with
  | some a => some a
  | none => match rangeStep s op e with
    | some a => some a
    | none => match modeStep s op p with
      | some a => some a
      | none => match refStep s op p (usesSeg e) with
        | some a => some a
        | none => match segStep s (segsOf s op e) with
          | some a => some a
          | none => match busyStep s op p with
            | some a => some a
            | none => refuseStep s op p (usesSeg e)

/-- The command that a packet becomes once it has passed acceptance. -/
def acceptedCmd (s : State) (op : Op) (e : Entry) (ph : Phase) : Cmd :=
  { op := op, tag := e.tag, target := e.target, par := params s e, inSeg := usesSeg e, segs := (segsOf s op e).map (·.1), ph := ph, num := 0, ans := 0 }

/-- The module takes a packet into its slot (06 R135). -/
def takeSlot (s : State) (tag status : Nat) : State := setSlot s (tag % 256) { Slot.empty with tag := tag, st := 1, status := status }

/-- A command joins those in progress. -/
def addCmd (s : State) (c : Cmd) : State := { s with cm := { s.cm with cmds := s.cm.cmds ++ [c] } }

end Sys2Proof.Machine
end

