-- ==== Sys2Proof/Machine/Copy.lean ====
section
/-! DEFINITION. Copy commands and the staging of firmware (06 R140, R147-R153, 05 R129, 04 R91, 14 R406, 12 R347). -/

namespace Sys2Proof.Machine

/-- The first command in acceptance order that waits for its copy (06 R140). -/
def waiting (s : State) : Option Cmd := s.cm.cmds.find? (fun c => decide (c.ph = .wait))

/-- The command whose copy runs. -/
def copying (s : State) : Option Cmd := s.cm.cmds.find? (fun c => decide (c.ph = .copying))

/-- CFG_CLOSE has passed its checks and waits for its tick (04 R92). -/
def closing (s : State) : Bool := s.cm.cmds.any (fun c => decide (c.op = .cfgClose))

/-- The tests made when a copy starts (06 R139): the failing answer, if any. -/
def startFault (s : State) (c : Cmd) : Option Answer :=
  let loaded := leBytes 4 s.cfg.bytes.length
  match c.op with
  | .cfgLoad =>
    let n := s.cfg.bytes.length
    if s.cfg.stg ≠ 1 ∨ closing s then some { status := 0x12, detail := 0x0010, data := loaded }
    else if p32 c.par 20 ≠ n then some { status := 0x12, detail := 0x0011, data := loaded }
    else if 10485760 < n + p32 c.par 16 then some { status := 0x12, detail := 0x0012, data := loaded }
    else none
  | .cfgReadback => if (sourceImage s (p8 c.par 8)).isNone then some (badParam (dOff c.inSeg 8)) else none
  | _ => none

/-- The bank FW_STAGE writes: the one that does not run (06 R153). -/
def stageBank (s : State) : Bool := !s.md.bank

/-- Sets whether the bank passes its CRC, with the SET_CRC of the set it holds. -/
def setBankSet (s : State) (b ok : Bool) (crc : Nat) : State :=
  { s with mram := if b then { s.mram with okB := ok, setB := crc } else { s.mram with okA := ok, setA := crc } }

/-- A BANK_OFFSET of 0 starts a new set and erases the bank (06 R153). -/
def fwErase (s : State) (c : Cmd) : State :=
  if c.op = .fwStage ∧ p32 c.par 20 = 0 then
    setBankSet { s with cm := { s.cm with fwBytes := [], fwTotal := p32 c.par 24, fwCrc := p32 c.par 28, fwDone := false } } (stageBank s) false 0
  else s

/-- COPY_START (06 R139, R140): the next copy in acceptance order starts when none runs. -/
def doCopyStart (s : State) : State :=
  match copying s, waiting s with
  | none, some c =>
    match startFault s c with
    | some a => complete s c a
    | none => fwErase (replaceCmd s c { c with ph := .copying }) c
  | _, _ => s

def execCopyStart (s : State) : Host.Outcome State Fault Refusal := done s (doCopyStart s)

/-! ### What each copy carries -/

/-- The bytes of the segment a SEGREF at byte b names. -/
def segBytes (s : State) (p : List Byte) (b : Nat) : List Byte := winBytes s (65536 * p16 p b + p32 p (b + 4)) (p32 p (b + 8))

/-- Writes into the segment a SEGREF at byte b names, never more than its LENGTH. -/
def segPut (s : State) (p : List Byte) (b : Nat) (x : List Byte) : State :=
  winWrite s (65536 * p16 p b + p32 p (b + 4)) (x.take (p32 p (b + 8)))

/-- How many of `n` items of `size` bytes a SEGREF at byte b holds. -/
def segRoom (p : List Byte) (b size n : Nat) : Nat := min n (p32 p (b + 8) / size)

/-- CFG_LOAD (04 R91); the content that CFG_CLOSE has checked stays as it is (R92). A copy that runs when CFG_OPEN empties the
area appends its bytes there: DESIGN CHOICE (notes/assumptions/132.md). -/
def copyLoad (s : State) (p : List Byte) : State × Answer :=
  if s.cfg.stg ≠ 1 ∨ closing s then (s, { status := 0x12, detail := 0x0010, data := leBytes 4 s.cfg.bytes.length })
  else
  let s1 := { s with cfg := { s.cfg with bytes := s.cfg.bytes ++ segBytes s p 8 } }
  (s1, okA (leBytes 4 s1.cfg.bytes.length))

/-- CFG_READBACK (06 R147). -/
def copyReadback (s : State) (p : List Byte) : State × Answer :=
  let img := (sourceImage s (p8 p 8)).getD []
  let x := (img.drop (p32 p 12)).take (p32 p 24)
  let crc := if p8 p 8 = 1 ∧ s.cfg.stg ≠ 2 then 0 else imgCrc img
  (segPut s p 16 x, okA (leBytes 4 x.length ++ leBytes 4 img.length ++ leBytes 4 crc))

/-- POINT_READ (06 R148). -/
def copyPoints (s : State) (p : List Byte) : State × Answer :=
  let n := p32 p 8
  let r := recBytes s n
  let seg := decide (p16 p 16 ≠ 0)
  let s1 := if seg then segPut s p 16 ((List.range (p32 p 12)).flatMap (fun i => recBytes s (n + i))) else s
  (s1, okA (r.take 10 ++ zeros 2 ++ (r.drop 12).take 12 ++ leBytes 4 (if seg then p32 p 12 else 0)))

/-- The samples of a slot, oldest first, with those overwritten since the start; slot 2^25 is the alarm journal (14 R406). -/
def trendOf (s : State) (n : Nat) : List Sample × Nat :=
  if n = 33554432 then (s.pt.journal, s.pt.journalN - s.pt.journal.length)
  else
    let r := Tab.get s.pt.rings [] n
    (r, (point s n).ringHead - r.length)

/-- T10 of a sample: STAMP[59:0] (14 R403, R404). -/
def sampleT10 (x : Sample) : Nat := x.a.toNat % 2 ^ 60

/-- TREND_READ (14 R406). -/
def copyTrend (s : State) (p : List Byte) : State × Answer :=
  let t := trendOf s (p32 p 8)
  let from_ := p64 p 16
  let l := (t.1.filter (fun x => decide (from_ ≤ sampleT10 x))).take (segRoom p 24 16 (p32 p 12))
  let lost := match t.1 with | [] => 0 | x :: _ => if 0 < t.2 ∧ from_ < sampleT10 x then t.2 else 0
  let first := (l.head?.map sampleT10).getD 0
  let next := (l.getLast?.map (fun x => sampleT10 x + 1)).getD from_
  (segPut s p 24 (l.flatMap (fun x => leBytes 8 x.a.toNat ++ leBytes 8 x.b.toNat)),
   okA (leBytes 4 l.length ++ leBytes 4 lost ++ leBytes 8 first ++ leBytes 8 next))

/-- FORCE_LIST (06 R149). -/
def copyForces (s : State) (p : List Byte) : State × Answer :=
  let l := (s.cm.forces.drop (p16 p 8)).take (segRoom p 12 16 1024)
  (segPut s p 12 (l.flatMap (fun f => leBytes 1 f.kind ++ zeros 3 ++ leBytes 4 f.item ++ leBytes 8 f.value.toNat)),
   okA (leBytes 2 s.cm.forces.length ++ leBytes 2 l.length))

/-- CAPTURE_READ (12 R347). -/
def copyCapture (s : State) (p : List Byte) : State × Answer :=
  let x := capture s (p8 p 8)
  let l := if x.st = 3 then ((x.ring.map (fun r => r.getD (p8 p 9) 0)).drop (p32 p 12)).take (segRoom p 16 8 65536) else []
  (segPut s p 16 (l.flatMap (fun v => leBytes 8 v.toNat)),
   okA (leBytes 4 l.length ++ zeros 4 ++ leBytes 8 x.trigFrame ++ leBytes 4 x.trigSample ++ leBytes 1 x.st))

/-- TEST_REPORT (18 R537): the report draws the free values its two-byte fields may need. -/
def copyTests (s : State) (p : List Byte) : State × Answer :=
  let x := (testReport s).take (p32 p 16)
  (segPut { s with free := s.free + 64 } p 8 x, okA (leBytes 4 x.length ++ leBytes 1 s.hl.score ++ zeros 3 ++ leBytes 4 s.hl.cycles))

/-- FAULT_LOG_READ (06 R152, 18 R535); the index of the newest entry of an empty log is not stated, a free value. -/
def copyLog (s : State) (p : List Byte) : State × Answer :=
  let n := s.mram.logSeq
  let x := (List.range (p16 p 10)).flatMap (fun i => logBytes s ((p16 p 8 + i) % 4096))
  let newest := if n = 0 then Config.freeValue s.free % 65536 else (n - 1) % 4096
  (segPut { s with free := s.free + b2n (decide (n = 0)) } p 12 x,
   okA (leBytes 2 (p16 p 10) ++ leBytes 2 newest ++ leBytes 4 (min n 0xFFFFFFFF)))

/-- CAL_REPORT (18 R538). -/
def copyCal (s : State) (p : List Byte) : State × Answer :=
  let ao := decide (p8 p 8 = 1)
  let b := p8 p 9
  let n := if ao then 5 else 9
  let st := bits (anRead s (if ao then 0x4328 else 0x4320)) (4 * b) 4
  let x := (leBytes 1 (p8 p 8) ++ leBytes 1 b ++ leBytes 1 n ++ leBytes 1 st ++ leBytes 4 (bankOf s ao b).count ++ zeros 8 ++
    (List.range n).flatMap (calBytes s ao b)).take (p32 p 20)
  (segPut s p 12 x, okA (leBytes 4 x.length ++ leBytes 1 n))

/-- NODE_TABLE_READ (15 R441). -/
def copyNodes (s : State) (p : List Byte) : State × Answer :=
  let f := p16 p 8
  let n := segRoom p 12 128 (min (p16 p 10) (4096 - f))
  (segPut s p 12 ((List.range n).flatMap (fun i => nodeBytes (node s (f + i)))),
   okA (leBytes 2 n ++ leBytes 2 (s.bus.nodes.filter (fun x => decide (x.2.st ≠ 0))).length))

/-- The effect of a copy that has ended, with the answer of its command. -/
def copyEffect (s : State) (c : Cmd) : State × Answer :=
  match c.op with
  | .cfgLoad => copyLoad s c.par
  | .cfgReadback => copyReadback s c.par
  | .pointRead => copyPoints s c.par
  | .trendRead => copyTrend s c.par
  | .forceList => copyForces s c.par
  | .captureRead => copyCapture s c.par
  | .testReport => copyTests s c.par
  | .faultLogRead => copyLog s c.par
  | .calReport => copyCal s c.par
  | .nodeTableRead => copyNodes s c.par
  | _ => (s, okA [])

/-- COPY_COMPLETE (06 R140, 05 R129): `share` and `tail` bytes of it ran in the host share and in the idle tail of
this frame. A FW_STAGE goes on to program its chunk. -/
def doCopyComplete (s0 : State) (share tail : Nat) : State :=
  match copying s0 with
  | none => s0
  | some c =>
    let s := { s0 with hp := { s0.hp with share := s0.hp.share + share, tailB := s0.hp.tailB + tail } }
    if c.op = .fwStage then replaceCmd s c { c with ph := .long }
    else
      let x := copyEffect s c
      complete x.1 c x.2

def execCopyComplete (share tail : Nat) (s : State) : Host.Outcome State Fault Refusal := done s (doCopyComplete s share tail)

/-- The index that the next entry queued for the fault log will have (18 R535, INTERNAL_FAULT), free where the queue is
full and the entry is lost. -/
def nextEntry (s : State) : Nat :=
  if s.hl.queue.length < 64 then (s.mram.logSeq + s.hl.queue.length) % 4096 else Config.freeValue (s.free + 1) % 4096

/-- FW_CHUNK_PROGRAMMED (06 R153): the chunk is programmed and read back; the chunk that reaches TOTAL_LENGTH completes
the set, whose CRC is checked. A chunk that does not read back is an internal fault, with an entry in the fault log whose
CODE the table of 18 R536 does not give: a free value (log 15). -/
def doFwProgrammed (s : State) (ok : Bool) : State :=
  match s.cm.cmds.find? (fun c => decide (c.op = .fwStage ∧ c.ph = .long)) with
  | none => s
  | some c =>
    let bank := leBytes 1 (b2n (stageBank s))
    let all := s.cm.fwBytes ++ segBytes s c.par 8
    let data := fun (n : Nat) (d : Bool) => leBytes 4 n ++ bank ++ leBytes 1 (b2n d)
    if !ok then
      complete { pushLog s (Config.freeValue s.free % 65536) 0xFFFF 0 with free := s.free + 2 } c
        { status := 0x40, detail := nextEntry s, data := data s.cm.fwBytes.length false }
    else if all.length < s.cm.fwTotal then
      complete { s with cm := { s.cm with fwBytes := all } } c (okA (data all.length false))
    else if crc32 all = p32 c.par 28 then
      complete (setBankSet { s with cm := { s.cm with fwBytes := all, fwDone := true, fwCrc := p32 c.par 28 } } (stageBank s) true (p32 c.par 28)) c
        (okA (data all.length true))
    else
      complete { s with cm := { s.cm with fwBytes := [], fwTotal := 0, fwDone := false } } c
        { status := 0x12, detail := 0x0104, data := data 0 false }

def execFwChunkProgrammed (ok : Bool) (s : State) : Host.Outcome State Fault Refusal := done s (doFwProgrammed s ok)

end Sys2Proof.Machine
end

