-- ==== Sys2Proof/Machine/Commands.lean ====
section
/-! DEFINITION. The host commands from the packet on (06 R139-R154): acceptance, the commands that complete at once, and
the effects at a tick of those that change no mode. -/

namespace Sys2Proof.Machine

/-! ### Commands that complete in their row (kind I) -/

/-- IDENTIFY (06 R147, 05 R570). -/
def identifyData (s : State) : List Byte :=
  leBytes 2 0x1E5A ++ leBytes 2 0x2880 ++ leBytes 1 0 ++ leBytes 1 (unitId s) ++ leBytes 1 (b2n Config.variant) ++ zeros 1 ++
    leBytes 8 Config.serial ++ leBytes 4 (fwVersionNow s).toNat ++ leBytes 4 (diagBoot s) ++ leBytes 4 s.cfg.ids.1 ++ leBytes 4 s.cfg.ids.2.1 ++
    leBytes 4 s.cfg.ids.2.2

/-- GET_MODE (06 R147). -/
def getModeData (s : State) : List Byte :=
  leBytes 1 s.md.mode.num ++ leBytes 1 s.md.prev.num ++ leBytes 1 s.md.cause ++
    leBytes 1 (b2n s.mram.lockout + 2 * b2n s.mram.enabled + 4 * b2n s.sf.demand) ++ zeros 4 ++ leBytes 8 s.md.frame ++
    leBytes 4 (if s.md.mode = .degraded then degLeft s else 0)

/-- FW_ACTIVATE (06 R154, 03 R76): the boot record names the staged bank, on trial. -/
def fwActivate (s : State) (p : List Byte) : State × Answer :=
  ({ s with
      mram := { s.mram with bank := stageBank s, trial := true, trialLeft := 2 }
      md := { s.md with fwReset := s.md.fwReset || decide (p8 p 8 = 1) } },
   okA (leBytes 1 (b2n (stageBank s))))

/-- What a command of kind I does, with its answer. -/
def instantEffect (s : State) (op : Op) (p : List Byte) : State × Answer :=
  match op with
  | .identify => (s, okA (identifyData s))
  | .getMode => (s, okA (getModeData s))
  | .groupStatus => (s, okA (groupStatusData s))
  | .safetyStatus => (s, okA (safetyStatusData s))
  | .fwActivate => fwActivate s p
  | _ => (s, okA [])

/-! ### What acceptance itself does -/

/-- The staging area takes a state with its content (04 R90-R92, R573). -/
def setStaging (s : State) (st : Nat) (b : List Byte) : State := { s with cfg := { s.cfg with stg := st, bytes := b } }

/-- The syntax checks of CFG_CLOSE and PROG_STAGE (04 R92): on a failure the staging area is discarded, and the answer of
R102 shows STAGE 0, and 0 as CONFIG_ID and IMAGE_CRC of an image that is not one: DESIGN CHOICE (notes/assumptions/127.md). -/
def closeFault (s : State) : Option Answer :=
  let r := syntaxCheck s.cfg.bytes
  if r.reason = 0 then none else some { status := 0x12, detail := r.reason, data := checkData { r with stage := 0 } 0 0 }

/-- PROG_STAGE starts its check (06 R151, 17 R516): the area is CLOSED, an earlier staged program is discarded. -/
def progStart (s : State) : State :=
  { s with cfg := { s.cfg with stg := 2, staged := none, running := true, cur := .progStage, img := s.cfg.bytes, cold := false, done := none } }

/-- How a command past acceptance waits (06 R140). -/
def startPhase (op : Op) : Phase :=
  match op.kind with
  | .i => .due | .t => .due | .c => .wait
  | .l => if op = .fwStage then .wait else if op = .progStage then .long else .due

/-- A command has passed acceptance (06 R139, R140). -/
def startCmd (s : State) (op : Op) (e : Entry) : State :=
  let c := acceptedCmd s op e (startPhase op)
  let s1 := addCmd s c
  match op.kind with
  | .i => let x := instantEffect s1 op c.par; complete x.1 c x.2
  | .t =>
    if op = .cfgOpen then setStaging s1 1 []
    else if op = .cfgClose then
      match closeFault s1 with
      | some a => complete (setStaging s1 0 []) c a
      | none => s1
    else s1
  | .c => s1
  | .l =>
    if op = .progStage then
      match closeFault s1 with
      | some a => complete (setStaging s1 0 []) c a
      | none => progStart (takeSlot s1 e.tag 1)
    else takeSlot s1 e.tag 1

/-- The module reads a ring entry with an OPCODE and decides it (06 R135, R137, R139, R144-R146). -/
def runEntry (s : State) (opc : Nat) (e0 : Entry) : State :=
  let e := cutEntry e0
  if s.md.mode = .reset ∨ (s.md.ready || s.md.recovery) = false then s
  else if (slotAt s (e.tag % 256)).st ≠ 0 then cmdError s e.tag e.ring 1 e.target
  else
    let s1 := takeSlot s e.tag 0
    match opOf (opc % 65536) with
    | none => answerSlot s1 e.tag e.target (errA 0x10 0)
    | some op =>
      match acceptSteps s1 op e with
      | some a => answerSlot s1 e.tag e.target a
      | none => startCmd s1 op e

/-- The command of an opcode as a ring entry. -/
def runOp (s : State) (op : Op) (e : Entry) : State := runEntry s op.code e

def execNop (e : Entry) (s : State) : Host.Outcome State Fault Refusal := done s (runOp s .nop e)
def execIdentify (e : Entry) (s : State) : Host.Outcome State Fault Refusal := done s (runOp s .identify e)
def execGetMode (e : Entry) (s : State) : Host.Outcome State Fault Refusal := done s (runOp s .getMode e)
def execCfgOpen (e : Entry) (s : State) : Host.Outcome State Fault Refusal := done s (runOp s .cfgOpen e)
def execCfgLoad (e : Entry) (s : State) : Host.Outcome State Fault Refusal := done s (runOp s .cfgLoad e)
def execCfgClose (e : Entry) (s : State) : Host.Outcome State Fault Refusal := done s (runOp s .cfgClose e)
def execCfgReadback (e : Entry) (s : State) : Host.Outcome State Fault Refusal := done s (runOp s .cfgReadback e)
def execEnable (e : Entry) (s : State) : Host.Outcome State Fault Refusal := done s (runOp s .enable e)
def execDisable (e : Entry) (s : State) : Host.Outcome State Fault Refusal := done s (runOp s .disable e)
def execRestart (e : Entry) (s : State) : Host.Outcome State Fault Refusal := done s (runOp s .restart e)
def execSafeHoldEnter (e : Entry) (s : State) : Host.Outcome State Fault Refusal := done s (runOp s .safeHoldEnter e)
def execSafeHoldLeave (e : Entry) (s : State) : Host.Outcome State Fault Refusal := done s (runOp s .safeHoldLeave e)
def execServiceEnter (e : Entry) (s : State) : Host.Outcome State Fault Refusal := done s (runOp s .serviceEnter e)
def execServiceLeave (e : Entry) (s : State) : Host.Outcome State Fault Refusal := done s (runOp s .serviceLeave e)
def execPointRead (e : Entry) (s : State) : Host.Outcome State Fault Refusal := done s (runOp s .pointRead e)
def execPointWrite (e : Entry) (s : State) : Host.Outcome State Fault Refusal := done s (runOp s .pointWrite e)
def execPointSubscribe (e : Entry) (s : State) : Host.Outcome State Fault Refusal := done s (runOp s .pointSubscribe e)
def execPointUnsubscribe (e : Entry) (s : State) : Host.Outcome State Fault Refusal := done s (runOp s .pointUnsubscribe e)
def execAlarmAck (e : Entry) (s : State) : Host.Outcome State Fault Refusal := done s (runOp s .alarmAck e)
def execTrendRead (e : Entry) (s : State) : Host.Outcome State Fault Refusal := done s (runOp s .trendRead e)
def execForceSet (e : Entry) (s : State) : Host.Outcome State Fault Refusal := done s (runOp s .forceSet e)
def execForceClear (e : Entry) (s : State) : Host.Outcome State Fault Refusal := done s (runOp s .forceClear e)
def execForceList (e : Entry) (s : State) : Host.Outcome State Fault Refusal := done s (runOp s .forceList e)
def execValueChange (e : Entry) (s : State) : Host.Outcome State Fault Refusal := done s (runOp s .valueChange e)
def execProgStage (e : Entry) (s : State) : Host.Outcome State Fault Refusal := done s (runOp s .progStage e)
def execHandoverRequest (e : Entry) (s : State) : Host.Outcome State Fault Refusal := done s (runOp s .handoverRequest e)
def execGroupStatus (e : Entry) (s : State) : Host.Outcome State Fault Refusal := done s (runOp s .groupStatus e)
def execCaptureArm (e : Entry) (s : State) : Host.Outcome State Fault Refusal := done s (runOp s .captureArm e)
def execCaptureRead (e : Entry) (s : State) : Host.Outcome State Fault Refusal := done s (runOp s .captureRead e)
def execInjectStart (e : Entry) (s : State) : Host.Outcome State Fault Refusal := done s (runOp s .injectStart e)
def execInjectStop (e : Entry) (s : State) : Host.Outcome State Fault Refusal := done s (runOp s .injectStop e)
def execLearnControl (e : Entry) (s : State) : Host.Outcome State Fault Refusal := done s (runOp s .learnControl e)
def execLoopMode (e : Entry) (s : State) : Host.Outcome State Fault Refusal := done s (runOp s .loopMode e)
def execStopQueueEdit (e : Entry) (s : State) : Host.Outcome State Fault Refusal := done s (runOp s .stopQueueEdit e)
def execPfArm (e : Entry) (s : State) : Host.Outcome State Fault Refusal := done s (runOp s .pfArm e)
def execTestReport (e : Entry) (s : State) : Host.Outcome State Fault Refusal := done s (runOp s .testReport e)
def execFaultLogRead (e : Entry) (s : State) : Host.Outcome State Fault Refusal := done s (runOp s .faultLogRead e)
def execCalReport (e : Entry) (s : State) : Host.Outcome State Fault Refusal := done s (runOp s .calReport e)
def execFwStage (e : Entry) (s : State) : Host.Outcome State Fault Refusal := done s (runOp s .fwStage e)
def execFwActivate (e : Entry) (s : State) : Host.Outcome State Fault Refusal := done s (runOp s .fwActivate e)
def execBusPortCtrl (e : Entry) (s : State) : Host.Outcome State Fault Refusal := done s (runOp s .busPortCtrl e)
def execNodeTableRead (e : Entry) (s : State) : Host.Outcome State Fault Refusal := done s (runOp s .nodeTableRead e)
def execSafetyStatus (e : Entry) (s : State) : Host.Outcome State Fault Refusal := done s (runOp s .safetyStatus e)
def execSafetyReset (e : Entry) (s : State) : Host.Outcome State Fault Refusal := done s (runOp s .safetyReset e)

/-- BAD_OPCODE: an entry with an opcode that the table of R146 does not define (06 R139). -/
def execBadOpcode (opc : Nat) (e : Entry) (s : State) : Host.Outcome State Fault Refusal := done s (runEntry s opc e)

/-- The ring entry that stands at HEAD, in segment 0 of the window (05 R119, 06 R131): its OPCODE and the rest. -/
def ringEntry (s : State) : Nat × Entry :=
  let b := winBytes s (64 * s.hp.head.val) 64
  (u16 b 0, { target := Tab.get s.hp.reqTgt 0 s.hp.head.val, ring := s.hp.head.val, tag := u16 b 2, length := u16 b 4, flags := u8 b 6, rsv := u8 b 7
              par := b.drop 8 })

/-- RING_ENTRY_READ (05 R119). -/
def doRingRead (s : State) : State :=
  if s.md.mode = .reset ∨ (s.md.ready || s.md.recovery) = false ∨ s.hp.head = s.hp.tail then s
  else
    let x := ringEntry s
    runEntry (ringAdvance s) x.1 x.2

def execRingEntryRead (s : State) : Host.Outcome State Fault Refusal := done s (doRingRead s)

/-! ### Effects at a tick (kind T) of commands that change no mode -/

/-- Sets a force: a second one of an item replaces its value (13 R382). -/
def setForce (s : State) (kind item : Nat) (v : F64) : State :=
  { s with cm := { s.cm with forces :=
      if (forceOf s kind item).isSome then s.cm.forces.map (fun f => if f.kind = kind ∧ f.item = item then { f with value := v } else f)
      else s.cm.forces ++ [{ kind := kind, item := item, value := v }] } }

/-- Keeps the forces that meet a condition. -/
def keepForces (s : State) (f : Force → Bool) : State := { s with cm := { s.cm with forces := s.cm.forces.filter f } }

/-- Every force of an output ends (03 R70, 06 R147). -/
def clearOutForces (s : State) : State := keepForces s (fun f => !(decide (f.kind = 4) || decide (f.kind = 5)))

/-- FORCES: how many forces are in place (06 R149). -/
def forcesA (s : State) : Answer := okA (leBytes 2 s.cm.forces.length)

/-- The lowest free SUB_ID (14 R407). -/
def freeSub (s : State) : Option Nat := (List.range 32).find? (fun i => (Tab.get s.cm.subs none i).isNone)

/-- What a due command leaves: the state, the point writes of the tick, and its answer, none while it goes on. -/
structure Due where
  st : State
  writes : List (Nat × F64)
  ans : Option Answer
deriving DecidableEq, Repr

/-- The effect of an operation whose answer stands at once. -/
def Due.of (w : List (Nat × F64)) (x : State × Answer) : Due := { st := x.1, writes := w, ans := some x.2 }

/-- The effect at a tick of a command of kind T that changes no mode (06 R147-R152). `tag` is none for a request of the
holder that a tracking standby carries out (17 R503); `w` are the points written at this tick so far. -/
def dueEffect (s : State) (w : List (Nat × F64)) (tag : Option Nat) (target : Nat) (op : Op) (p : List Byte) (inSeg : Bool) : Due :=
  match op with
  | .pointWrite =>
    if hostMax s ≤ w.length then Due.of w (s, errA 0x21 4) else { st := s, writes := w ++ [(p32 p 8, pF p 16)], ans := some (okA []) }
  | .pointSubscribe =>
    match freeSub s with
    | none => Due.of w (s, errA 0x21 4)
    | some id =>
      if subRoom s (p16 p 12) (p16 p 14) then
        let x : Sub := { first := p32 p 8, count := p16 p 12, decim := p16 p 14, segFirst := p16 p 16, segCount := p16 p 18, target := target
                         n0 := s.fr.frame, next := 0, seq := 0, missed := 0, handled := s.fr.frame }
        Due.of w ({ s with cm := { s.cm with subs := Tab.set s.cm.subs none id (some x) } }, okA (leBytes 2 id))
      else Due.of w (s, errA 0x21 4)
  | .pointUnsubscribe => Due.of w (endSub s (p16 p 8), okA [])
  | .alarmAck =>
    { st := { s with pt := { s.pt with acks := s.pt.acks ++
        [{ tag := tag, slot := p32 p 8, left := p32 p 12, acked := 0, frame := s.fr.frame, tick := s.fr.tick }] } }, writes := w, ans := none }
  | .forceSet =>
    if 4 ≤ p8 p 8 ∧ s.sf.demand then Due.of w (s, refusedSafety)
    else if forceRoom s (p8 p 8) (p32 p 12) then
      let s1 := setForce s (p8 p 8) (p32 p 12) (pF p 16)
      Due.of w (s1, forcesA s1)
    else Due.of w (s, errA 0x21 4)
  | .forceClear =>
    let s1 := if p8 p 8 = 0 then keepForces s (fun _ => false)
      else keepForces s (fun f => !(decide (f.kind = p8 p 8) && decide (f.item = p32 p 12)))
    Due.of w (s1, forcesA s1)
  | .valueChange =>
    match vcFault s p with
    | some x => Due.of w (s, vcAnswer inSeg 0 (some x))
    | none =>
      let n := vcCount p
      Due.of w ((List.range n).foldl (fun s e =>
        match (vcTarget s (p32 p (16 + 16 * e)) (p16 p (20 + 16 * e))).2 with
        | some v => setConst s v (pF p (24 + 16 * e))
        | none => s) s, vcAnswer inSeg n none)
  | .captureArm => Due.of w (capArm s (p8 p 8) (p8 p 9))
  | .injectStart => if s.sf.demand then Due.of w (s, refusedSafety) else Due.of w (injStart s (p16 p 8) (p32 p 12) (pF p 16))
  | .injectStop => Due.of w (injStopCmd s (p16 p 8))
  | .learnControl => Due.of w (learnControl s (p8 p 8) (p8 p 9))
  | .loopMode => Due.of w (setLoopMode s (p8 p 8) (decide (p8 p 9 = 1)) (pF p 16))
  | .stopQueueEdit => Due.of w (stopEdit s (p16 p 8) (p8 p 10) (signed 64 (p64 p 16)))
  | .pfArm =>
    let x := pfArmAt s (p8 p 8) (decide (p8 p 9 = 0))
    Due.of w (x.1, if x.2 = 0 then okA (leBytes 1 (b2n (pfCh x.1 (p8 p 8)).armed)) else badParam x.2)
  | .busPortCtrl => Due.of w (portCtrl s (p8 p 8) (p8 p 9))
  | _ => Due.of w (s, okA [])

/-- A DETAIL that names a layout byte stands in the parameter block where the parameters do (06 R138). -/
def inBlock (c : Cmd) (a : Answer) : Answer :=
  if c.inSeg && decide (a.status = 0x12) && decide (a.detail < 0x8000) && decide (c.op ≠ .valueChange) then { a with detail := 0x8000 + a.detail } else a

/-- The segments handed back with a command: a subscription that has begun keeps its own (06 R148). -/
def handSegs (c : Cmd) (a : Answer) : Cmd :=
  if c.op = .pointSubscribe ∧ a.status = 0 then { c with segs := if c.inSeg then c.segs.take 1 else [] } else c

/-- One due command at its tick: re-checked against the mode that governs the frame (03 R63, 06 R142), then carried out. -/
def takeDue (x : State × List (Nat × F64)) (c : Cmd) : State × List (Nat × F64) :=
  let s := x.1
  if !permits c.op s.md.mode s.md.recovery then (complete s c wrongMode, x.2)
  else
    let d := dueEffect s x.2 (some c.tag) c.target c.op c.par c.inSeg
    match d.ans with
    | none => (replaceCmd d.st c { c with ph := .work }, d.writes)
    | some a => let k := handSegs c a; (complete (replaceCmd d.st c k) k (inBlock c a), d.writes)

/-- The due mode commands that the tick did not select and that its mode forbids (06 R142): the others wait for the next tick. -/
def refuseDue (s : State) : State :=
  (s.cm.cmds.filter (fun c => decide (c.ph = .due) && c.op.isMode && !permits c.op s.md.mode s.md.recovery)).foldl
    (fun s c => complete s c wrongMode) s

/-- PF_ARM acts before the frame latch of its tick (10 R253). -/
def earlyOp (op : Op) : Bool := decide (op = .pfArm)

/-- The due commands that change no mode, in acceptance order (06 R142): those that act before the latch, or the rest. -/
def runDue (early : Bool) (s : State) : State × List (Nat × F64) :=
  (s.cm.cmds.filter (fun c => decide (c.ph = .due) && !c.op.isMode && (earlyOp c.op == early))).foldl takeDue (s, [])

/-- ALARM_ACK commands whose records have been acknowledged complete at the next tick; with `all`, those whose work a mode
change ends complete with WRONG_MODE and what has been acknowledged (14 R396, 06 R143). -/
def finishAcks (all : Bool) (s : State) : State :=
  let s1 := (s.cm.cmds.filter (fun c => decide (c.ph = .work))).foldl (fun s c =>
    match s.pt.acks.find? (fun j => decide (j.tag = some c.tag)) with
    | none => complete s c (okA (leBytes 4 0))
    | some j =>
      if j.left = 0 ∨ all = true then
        complete { s with pt := { s.pt with acks := s.pt.acks.filter (fun k => decide (k.tag ≠ some c.tag)) } } c
          { status := if j.left = 0 then 0 else 0x20, detail := 0, data := leBytes 4 j.acked }
      else s) s
  dropBlockAcks s1

end Sys2Proof.Machine
end

