-- ==== Sys2Proof/Machine/Modes.lean ====
section
/-! DEFINITION. The modes: their changes, the mode commands at a tick, the enable check's start and end, BOOT and RESET
(03, 04 R93, R100, R573, 06 R141-R147). -/

namespace Sys2Proof.Machine

/-! ### A mode change -/

/-- SAFE_HOLD and LOCKOUT, whose entries have a cause (03 R82). -/
def causeMode (m : Mode) : Bool := decide (m = .safeHold) || decide (m = .lockout)

/-- The modes whose first entry after BOOT confirms a trial bank (03 R77). -/
def confirms (m : Mode) : Bool :=
  match m with
  | .active => true | .standby => true | .unconfigured => true | .configured => true | .lockout => true | _ => false

/-- The modes at whose entry subscriptions end (06 R148). -/
def endsSubs (m : Mode) : Bool := decide (m = .checking) || decide (m = .unconfigured) || decide (m = .configured)

/-- The running bank is confirmed at the first entry into a confirming mode (03 R77). -/
def confirmTrial (s : State) : State :=
  if s.md.confirmed then s
  else { s with
    md := { s.md with confirmed := true }
    mram := if s.mram.bank = s.md.bank then { s.mram with trial := false } else s.mram }

/-- Commands of kind C or L that the new mode forbids complete with WRONG_MODE, but for the one that made the change
(06 R143). -/
def abortCmds (keep : Option Op) (s : State) : State :=
  (s.cm.cmds.filter (fun c =>
    (decide (c.op.kind = .c) || decide (c.op.kind = .l)) && decide (keep ≠ some c.op) && !permits c.op s.md.mode s.md.recovery)).foldl
    (fun s c => complete s c wrongMode) s

/-- A check of PROG_STAGE ends with the mode that runs it: the staging area becomes IDLE (04 R573). -/
def dropProgCheck (s : State) : State :=
  if s.cfg.running && decide (s.cfg.cur = .progStage) then
    { s with cfg := { s.cfg with running := false, cur := .none, done := none, stg := 0, bytes := [] } }
  else s

/-- What a mode change records (03 R65, R82-R84, 17 R516); when CHECKING is left, every SC bit is 0 and every receive message in
FAULT (16 R451, R466). -/
def recordMode (s : State) (new : Mode) (cause : Nat) : State :=
  let st := bset s.md.status 0
  let s1 := { s with
    md := { s.md with
      strapHold := decide (new = .safeHold) && (decide (s.md.mode = .unconfigured) || decide (s.md.mode = .configured))
      mode := new, prev := s.md.mode, frame := s.fr.frame, cause := if causeMode new then cause else s.md.cause
      status := if new = .safeHold then bset st 1 else if new = .lockout then bset st 2 else st }
    sf := if s.md.mode = .checking then { s.sf with bits := 0, msgs := [], msgsAt := [] } else s.sf
    cfg := { s.cfg with staged := if s.md.mode = .standby ∧ new = .handover then s.cfg.staged else none } }
  if causeMode new then pushLog s1 (0x0100 + cause) 0xFFFF 0 else s1

/-- The module enters a mode other than RESET and BOOT at a tick (03 R60, R61), by the command `keep` or by none. -/
def setMode (s : State) (new : Mode) (cause : Nat) (keep : Option Op) : State :=
  let old := s.md.mode
  let s1 := recordMode s new cause
  let s2 := if confirms new then confirmTrial s1 else s1
  let s3 := if old = .standby then dropProgCheck s2 else s2
  let s4 := abortCmds keep s3
  let s5 := if s4.gr.reqFrame.isSome && (cmdOf s4 .handoverRequest).isNone then dropTarget s4 else s4
  let s6 := if endsSubs new then endSubs (finishAcks true s5) else s5
  let s7 := if new = .checking then { s6 with pt := { s6.pt with queues := [], acks := [] } } else s6
  let s8 := if old = .configured ∧ new ≠ .checking ∧ s7.cfg.stg = 2 then setStaging s7 0 [] else s7
  abandonTests true (injStopAll s8)

/-! ### The enable check (04 R93-R102) -/

/-- CHECKING begins with an image (04 R93, 03 R66, R78). -/
def startCheck (s : State) (o : Origin) (img : List Byte) (cold hold : Bool) (keep : Option Op) : State :=
  let s1 := setMode s .checking 0 keep
  { s1 with
    md := { s1.md with fromHold := hold }
    cfg := { s1.cfg with running := true, cur := o, img := img, cold := cold, done := none } }

/-- Begins to write the configuration store: the marker is cleared and the image written; the next tick sets the marker again
(04 R100). -/
def beginStore (s : State) (img : List Byte) : State :=
  { s with cfg := { s.cfg with storing := true }, mram := { s.mram with enabled := false, image := img } }

/-- What stage 9 of an ended check has loaded: nothing where it refused with 0x080A or found SC's copy different (04 R98). -/
def stageNine (s : State) (c : CheckIn) (r : CheckRes) : State :=
  if r.reason = 0 ∨ r.stage = 10 then loadSafety (imgRecs s.cfg.img) true s
  else if r.reason = 0x080B then (if c.scDiff then { s with sf := { s.sf with agreed := false } } else loadSafety (imgRecs s.cfg.img) false s)
  else s

/-- CHECK_COMPLETE (04 R94, R98-R101): the stages on the frozen image, with what stage 9 loads; a passed ENABLE clears the marker of the store and
writes the image, and the marker is set again by the next tick, at which the result takes effect. -/
def doCheckComplete (s : State) (c : CheckIn) : State :=
  if !s.cfg.running || s.cfg.done.isSome then s
  else
    let prog := decide (s.cfg.cur = .progStage)
    let r := runCheck prog s c s.cfg.img
    let s0 := if prog then s else stageNine s c r
    let s1 := { s0 with cfg := { s0.cfg with done := some r } }
    if r.reason = 0 ∧ s.cfg.cur = .enable then beginStore s1 s.cfg.img else s1

/-- The marker of the store is set again (04 R100). -/
def finishStore (s : State) : State :=
  if s.cfg.storing then { s with cfg := { s.cfg with storing := false }, mram := { s.mram with enabled := true } } else s

def execCheckComplete (c : CheckIn) (s : State) : Host.Outcome State Fault Refusal := done s (doCheckComplete s c)

/-- The kind that SYS START and START_KIND show after a check (03 R84, 13 R362). -/
def kindAfter (s : State) : Nat :=
  match s.cfg.cur with
  | .restart => if s.cfg.cold then 5 else 4
  | .safeHoldLeave => 4
  | _ => s.md.startKind

/-- The registers of the latest check, the budget figures and the kind of the start (04 R105, 02 R57, 03 R78, R84). -/
def noteCheck (s : State) (r : CheckRes) : State :=
  let valid := decide (r.reason = 0) && decide (s.cfg.cur ≠ .progStage)
  let s1 := { s with md := { s.md with startKind := kindAfter s }, cfg := { s.cfg with last := r, origin := s.cfg.cur, frame := s.fr.frame, running := false, done := none } }
  setStatus { s1 with fr := { s1.fr with budgetW := r.w, budgetL := r.lim } } 10 valid

/-- The frame takes the settings of a FRAME record; the next tick falls one new frame period after this one (02 R48). -/
def frameSettings (s : State) : State :=
  let b := cfgBody s 0x0101 0
  { s with fr := { s.fr with
      fUs := u32 b 0, next := s.fr.tick + 100 * u32 b 0, commit := u16 b 4, out := u16 b 6, ovrLimit := u8 b 8, syncIn := u8 b 9, syncOut := u8 b 10
      syncFall := decide (u8 b 11 = 1), missLimit := u16 b 12, syncOff := i32 b 16, mark := u32 b 20 } }

/-- The settings without an enabled configuration (02 R571). -/
def frameDefaults (s : State) : State :=
  { s with fr := { s.fr with
      fUs := 1000, next := s.fr.tick + 100000, commit := 800, out := 1000, ovrLimit := 3, syncIn := 0, syncOut := 0, missLimit := 3, syncOff := 0
      syncFall := false, mark := 0 } }

/-- Both journal buffers are invalid after a COLD restart or a COLD power-up (03 R78). -/
def dropJournals (s : State) : State :=
  { s with mram := { s.mram with jA := { s.mram.jA with valid := false }, jB := { s.mram.jB with valid := false } } }

/-- A program restores its retained items (03 R78, R79, 13 R377): after an ENABLE where the newest buffer carries its
PROGRAM_ID, after an autostart where the power-up is WARM, after a restart where it is WARM. -/
def restores (s : State) : Bool :=
  let m := s.mram
  let j := if newestB m then m.jB else m.jA
  match s.cfg.cur with
  | .enable => j.valid && decide (j.programId = imgProgramId s.cfg.img)
  | _ => !s.cfg.cold

/-- Every part starts with the configuration that has passed, at the tick at which the module leaves CHECKING (03 R78, 04
R100, 02 R48, 07 R173, 08 R176, 10 R242, 11 R285, 13 R377, 14 R410, 15 R419, 16 R472, 17 R488). -/
def startConfig (s0 : State) : State :=
  let old := s0.cfg.started
  let was := grouped s0
  let cold := s0.cfg.cold
  let kind := kindAfter s0
  let restore := restores s0
  let s := { s0 with
    cfg := { s0.cfg with run := imgRecs s0.cfg.img, started := imgRecs s0.cfg.img, ids := imgIds s0.cfg.img }
    cm := { s0.cm with forces := [] }
    fr := { s0.fr with page := Page.init } }
  let s1 := applyHecRecords (frameSettings s)
  let s2 := storeModes (startDio old s1)
  let s3 := (List.range 8).foldl (startPf old (!cold)) s2
  let s4 := startProgram restore kind (startEngine cold (if cold then dropJournals s3 else s3))
  let s5 := startSafety (startBus (startPoints cold old s4))
  let s6 := if s0.cfg.cur = .enable then
      { s5 with dio := { s5.dio with ch := Tab.mapAll s5.dio.ch DoCh.init (fun _ d => { d with last := 0 }) } } else s5
  startGroup was s6

/-- The answer of ENABLE and PROG_STAGE (04 R93, R102, 06 R151). -/
def checkAnswer (img : List Byte) (r : CheckRes) : Answer :=
  { status := if r.reason = 0 then 0 else 0x30, detail := r.reason, data := checkData r (imgConfigId img) (imgCrc img) }

/-- The command of an opcode completes, if one is in progress. -/
def endCmd (s : State) (op : Op) (a : Answer) : State := match cmdOf s op with | none => s | some c => complete s c a

/-- The mode that follows a passed check (03 R60). -/
def modeAfter (s : State) : Mode := if s.mram.lockout then .lockout else if grouped s then .standby else .active

/-- A check has passed: the module leaves CHECKING (03 R60, R80). -/
def checkPassed (s : State) (r : CheckRes) : State :=
  let o := s.cfg.cur
  let img := s.cfg.img
  let s1 := startConfig (noteCheck s r)
  let s2 := if o = .enable then setStaging s1 0 [] else s1
  let s3 := setMode s2 (modeAfter s2) 0x21 (if o = .enable then some .enable else if o = .restart then some .restart else none)
  if o = .enable then endCmd s3 .enable (checkAnswer img r) else if o = .restart then endCmd s3 .restart (okA []) else s3

/-- A check has been refused (03 R60, 04 R573). -/
def checkRefused (s : State) (r : CheckRes) : State :=
  let o := s.cfg.cur
  let img := s.cfg.img
  let s1 := noteCheck s r
  match o with
  | .enable => endCmd (setMode s1 .configured 0 (some .enable)) .enable (checkAnswer img r)
  | .autostart =>
    let s2 := setMode (setStaging s1 2 img) .configured 0 none
    { s2 with md := { s2.md with status := bset s2.md.status 5 } }
  | .restart => endCmd (setMode s1 .safeHold 0x09 (some .restart)) .restart (okA [])
  | _ => setMode s1 .safeHold 0x09 none

/-- The enabled configuration is the image of a passed ENABLE, though the module leaves CHECKING by a fault (03 R59). -/
def takeEnabled (s : State) : State := { s with cfg := { s.cfg with run := imgRecs s.cfg.img, ids := imgIds s.cfg.img } }

/-- A fault takes the module out of CHECKING (03 R60, 04 R105): a check that has ended keeps its result, one that has not is
abandoned; RESTART completes with the tick. -/
def abandonCheck (s : State) (new : Mode) (cause : Nat) : State :=
  if s.cfg.running && decide (s.cfg.cur ≠ .progStage) then
    let o := s.cfg.cur
    let s1 := match s.cfg.done with
      | none => { s with cfg := { s.cfg with running := false } }
      | some r => if r.reason = 0 ∧ o = .enable then takeEnabled (noteCheck s r) else noteCheck s r
    let s2 := setMode (if o = .enable then setStaging s1 0 [] else s1) new cause none
    if o = .restart then endCmd s2 .restart (okA []) else s2
  else setMode s new cause none

/-- A check of PROG_STAGE ends at the tick (06 R151, 17 R516): a passed image is the staged program. -/
def tickProgCheck (s : State) : State :=
  match s.cfg.done with
  | none => s
  | some r =>
    if s.cfg.cur = .progStage then
      let img := s.cfg.img
      let s1 := setStaging (noteCheck s r) 0 []
      let s2 := { s1 with cfg := { s1.cfg with staged := if r.reason = 0 then some img else none } }
      endCmd s2 .progStage (checkAnswer img r)
    else s

/-! ### Mode commands at a tick (03 R60, 06 R147) -/

/-- DISABLE removes the enabled configuration (03 R59, 02 R57, R571, 17 R513, R516). -/
def dropConfig (s : State) : State :=
  let s := injStopAll s
  let s1 := { s with
    mram := { s.mram with enabled := false }
    cfg := { s.cfg with run := [], ids := (0, 0, 0), staged := none }
    gr := { s.gr with capped := false } }
  ownTime (setStatus (frameDefaults (dropSafety s1)) 10 false)
where
  /-- Without a configuration no safety image is loaded (16 R472). -/
  dropSafety (s : State) : State :=
    { s with sf := { s.sf with
        agreed := false, lsc := 0, lat := 0, latLive := 0, high := 0, low := 0, swHigh := 0, swLow := 0, demand := false, degFrom := none, msgs := [], msgsAt := [], lost := 0
        disc := 0, discSince := [], edmSc := [], edmAt := [] } }

/-- HANDOVER_REQUEST at tick j (17 R514): the target is tested again and announced. -/
def handoverStart (s : State) (c : Cmd) : State :=
  let prog := decide (p8 c.par 9 = 1)
  let t := handoverTarget s (p8 c.par 8) prog
  if t.1 ≠ 0 then complete s c (refusedGroup t.1)
  else
    let s1 := replaceCmd s c { c with ph := .long }
    { s1 with gr := { s1.gr with target := some (t.2, prog), reqFrame := some s1.fr.frame } }

/-- A mode command takes effect at its tick (03 R60, R63): checked against the mode before the tick, which permits it. -/
def modeCommand (s : State) (c : Cmd) : State :=
  let m := s.md.mode
  let fin := fun (s : State) => complete s c (okA [])
  match c.op with
  | .cfgOpen => fin (if m = .configured then setMode s .unconfigured 0 (some c.op) else s)
  | .cfgClose =>
    let img := s.cfg.bytes
    complete (setMode (setStaging s 2 img) .configured 0 (some c.op)) c (okA (checkData CheckRes.none_ (imgConfigId img) (imgCrc img)))
  | .enable => replaceCmd (startCheck s .enable s.cfg.bytes false false (some .enable)) c { c with ph := .long }
  | .disable =>
    let s1 := dropConfig s
    fin (if m = .standby ∨ m = .safeHold then setMode s1 .unconfigured 0 (some c.op) else s1)
  | .restart =>
    let s1 := { s with gr := { s.gr with capped := false } }
    replaceCmd (startCheck s1 .restart s1.mram.image (decide (p8 c.par 8 = 1)) true (some .restart)) c { c with ph := .long }
  | .safeHoldEnter => fin (setMode s .safeHold 0x01 (some c.op))
  | .safeHoldLeave =>
    fin (if s.mram.enabled then startCheck s .safeHoldLeave s.mram.image false true (some c.op) else setMode s .unconfigured 0 (some c.op))
  | .serviceEnter =>
    if s.sf.demand then complete s c refusedSafety
    else fin (setMode { s with md := { s.md with alarmCh := decide (p8 c.par 8 = 1) } } .service 0 (some c.op))
  | .serviceLeave =>
    let s1 := clearOutForces s
    fin (if s1.mram.enabled then setMode s1 .safeHold 0x0C (some c.op) else setMode s1 .unconfigured 0 (some c.op))
  | .safetyReset =>
    if resetAllowed s m then
      let s1 := safetyReset s m
      fin (if m = .lockout then setMode s1 .safeHold 0x0B (some c.op) else s1)
    else complete s c refusedSafety
  | .handoverRequest => handoverStart s c
  | _ => s

/-! ### The mode of a frame (03 R62) -/

/-- The modes that a fault cause takes to SAFE_HOLD, and an EDM fault to LOCKOUT (03 R60). -/
def faultMode (m : Mode) : Bool := decide (2 ≤ m.num) && (decide (m.num ≤ 8) || decide (m = .service))
def edmMode (m : Mode) : Bool := decide (4 ≤ m.num) && decide (m.num ≤ 10)

/-- The links whose input transfer of this tick was discarded: bit 0 the field link, bit g + 1 that of OB bank g (01 R20). -/
def staleLinks (s : State) : BitVec 9 :=
  ofBits 9 (fun k => if k = 0 then s.dio.stale else s.an.stale.toNat.testBit (5 + k))

/-- The logic side learns of a trip over the link of the tripped part (08 R194, 09 R233). -/
def tripLearnt (s : State) : Bool := decide (s.dio.tripNews &&& ~~~ staleLinks s ≠ 0)

/-- The fault cause of SAFE_HOLD at this tick: what waits, a field watchdog that has tripped, OVERRUN_LIMIT reached; the
lowest code of several. -/
def faultCause (s : State) : Option Nat :=
  let l := s.md.pendFault ++ (if tripLearnt s then [0x08] else []) ++ (if s.fr.ovrLimit ≤ s.fr.ovrRun ∧ 0 < s.fr.ovrRun then [0x02] else [])
  match l with
  | [] => none
  | a :: r => some (r.foldl min a)

/-- The first due mode command that the mode before the tick permits. -/
def dueMode (s : State) (only : Op → Bool) : Option Cmd :=
  s.cm.cmds.find? (fun c => decide (c.ph = .due) && c.op.isMode && only c.op && permits c.op s.md.mode s.md.recovery)

/-- Loss of the claim latch (17 R494, R508, R514): a request whose target has won completes in STANDBY. -/
def loseClaim (s : State) : State :=
  keepTracking (requestWon (setMode s .standby 0 ((wonTarget s).map (fun _ => .handoverRequest))))

/-- The latch wins: HANDOVER begins (17 R507, R512, R517). -/
def enterHandover (s : State) : State :=
  let prog := match s.gr.target with | some t => decide (t.1 = unitId s) && t.2 | none => false
  let s1 := setMode (applyPfOffsets s) .handover 0 none
  let s2 := { s1 with gr := { s1.gr with takeover := 0 } }
  match (if prog then s2.cfg.staged else none) with
  | none => s2
  | some img =>
    let old := s2.cfg.run
    let s3 := beginStore { s2 with cfg := { s2.cfg with run := imgRecs img, started := imgRecs img, ids := imgIds img } } img
    let s4 := exchangeProgram old s3
    setStatus { s4 with cfg := { s4.cfg with staged := none } } 10 true

/-- The fault causes that waited for this tick have been served (03 R62, R82). -/
def clearPend (s : State) : State :=
  { s with md := { s.md with pendEdm := false, pendFault := [] }, dio := { s.dio with tripNews := s.dio.tripNews &&& staleLinks s } }

/-- The boot record has been read: DIAG_BOOT shows it, and a fallback raises FW_FALLBACK (03 R73, R77, R83). -/
def readBoot (s : State) : State :=
  { s with md := { s.md with
      bootRead := true, status := if s.md.fallback && !s.md.bootRead then bset s.md.status 3 else s.md.status } }

/-- A tick of BOOT shows what its steps have done by then, at their times of R73 (notes/assumptions/133.md). -/
def bootTick (s : State) : State :=
  let s1 := if 500000 ≤ s.fr.t10 then readBoot s else s
  { s1 with md := { s1.md with fwLoaded := s1.md.fwLoaded || (!s1.md.recovery && decide (34500000 ≤ s1.fr.t10)) } }

/-- BOOT ends at this tick (03 R60, R73; 09 R213, 18 R532). -/
def leaveBoot (s : State) : State :=
  let img := s.mram.image
  let s1 := { s with
    md := { s.md with bootDue := false }
    cfg := { s.cfg with run := if s.mram.enabled then imgRecs img else [] }
    an := { s.an with bootEnd := s.fr.t10 }
    hl := { s.hl with cycleAt := s.fr.t10, cycleFrame := s.fr.frame } }
  if !s1.mram.enabled then setMode s1 .unconfigured 0 none
  else if s1.md.straps.bootsel then setMode (setStaging s1 2 img) .configured 0 none
  else startCheck s1 .autostart img (decide (s1.md.startKind ≠ 1)) false none

/-- What the tick selects among the causes of a mode change, in the order of R62, and applies. -/
def selectMode (s : State) : State :=
  let m := s.md.mode
  if m = .reset then s
  else if m = .boot then (if s.md.bootDue then leaveBoot s else s)
  else if s.md.pendEdm && edmMode m then
    clearPend (abandonCheck { s with mram := { s.mram with lockout := true } } .lockout 0x20)
  else
    match (if faultMode m then faultCause s else none) with
    | some f => clearPend (abandonCheck s .safeHold f)
    | none =>
      let s0 := clearPend s
      match dueMode s0 (fun o => decide (o = .safeHoldEnter)) with
      | some c => modeCommand s0 c
      | none =>
        if m.driven && claimLost s0 then loseClaim s0
        else if m = .active ∧ degCause s0 then setMode s0 .degraded 0 none
        else if m = .degraded ∧ !degCause s0 then setMode s0 .active 0 none
        else if m = .checking then
          match s0.cfg.done with
          | some r => if r.reason = 0 then checkPassed s0 r else checkRefused s0 r
          | none => s0
        else if m = .standby ∧ grouped s0 ∧ s0.gr.latch = 1 then enterHandover s0
        else if m = .handover ∧ s0.md.frame + 3 ≤ s0.fr.frame ∧ s0.gr.latch = 1 then setMode s0 .active 0 none
        else
          match dueMode s0 (fun _ => true) with
          | some c => modeCommand s0 c
          | none => s0

end Sys2Proof.Machine
end

