-- ==== Sys2Proof/Machine/Boot.lean ====
section
/-! DEFINITION. RESET and BOOT (00 R14, 03 R71-R79, 06 R144, R154, 08 R193). -/

namespace Sys2Proof.Machine

/-! ### Entry into RESET -/

/-- The field side in the strap state: every DO and test pulse off, every AO bank on its alarm level, no watchdog running,
no image held (03 R64, 08 R193). -/
def strapField (s : State) : State :=
  { s with
    fr := { s.fr with arrived := [], pend := [] }
    an := { s.an with drv := 0, ao := Tab.mapAll s.an.ao AoCh.init (fun _ x => setAoLevel s.fr.t10 0 { x with parallel := false }) }
    dio := { s.dio with
      arm := 0, trip := 0
      tp := Tab.mapAll s.dio.tp TpGen.init (fun _ g => { g with on := false, pulse := false, prev := none, holdEnd := 0 })
      ch := Tab.mapAll s.dio.ch DoCh.init (fun _ d => { setDoCmd s.fr.t10 0 d with period := 0, dark := false }) } }

/-- MRAM where a reset cuts the writing of the store: whether its marker had been set again is a free value (04 R100;
notes/assumptions/126.md). -/
def cutStore (s : State) : MramSt :=
  if s.cfg.storing then { s.mram with enabled := decide (Config.freeValue s.free % 2 = 1) } else s.mram

/-- MISMATCH ends at RESET (09 R230). -/
def endMismatch (a : AnSt) : AnSt :=
  { a with ao := Tab.mapAll a.ao AoCh.init (fun _ x => { x with mismatch := false, misClear := false, cutOpen := false }) }

/-- The module enters RESET at once: every command is discarded, what is not held in MRAM or on the field side is at its
reset value, and the gates of a grouped unit are closed (03 R61, 06 R144, 17 R489). -/
def enterReset (internal : Bool) (s : State) : State :=
  if s.md.mode = .reset then s
  else { State.reset with
    mram := cutStore s, pending := s.pending, free := s.free + b2n s.cfg.storing, dio := s.dio, an := endMismatch s.an
    fr := { FrameSt.init with arrived := s.fr.arrived, pend := s.fr.pend }
    gr := { GroupSt.init with gate := if s.mram.grouped then 0x1FF else 0 }
    md := { ModeSt.init with
      mode := .reset, prev := s.md.mode, straps := s.md.straps, almPin := s.md.almPin, internal := internal } }

/-- RESET_ASSERT (03 R60, R61). -/
def execResetAssert (s : State) : Host.Outcome State Fault Refusal := done s (enterReset false s)

/-- The supply supervisor asserts reset: the logic supply, which feeds the AO banks, has gone (19 R543, R544, 03 R60, 09 R224). -/
def doSupervisor (s : State) : State :=
  let s1 := enterReset false s
  { s1 with an := { s1.an with supplied := false } }

def execSupplySupervisorReset (s : State) : Host.Outcome State Fault Refusal := done s (doSupervisor s)

/-- FC_SUPERVISORY_TIMEOUT: an internal reset (03 R75). -/
def doFcTimeout (s : State) : State := enterReset true s

def execFcSupervisoryTimeout (s : State) : Host.Outcome State Fault Refusal := done s (doFcTimeout s)

/-- FW_ACTIVATE_RESET: 100 ms after FW_ACTIVATE with ACTION 1 became READY (06 R154). -/
def doFwReset (s : State) : State := if s.md.fwReset then enterReset true s else s

def execFwActivateReset (s : State) : Host.Outcome State Fault Refusal := done s (doFwReset s)

/-- LINK_RESET_CODE: the links carry the reset code while the module is in RESET; a bank that takes its strap state on it has its
supply (08 R193, 09 R224; notes/assumptions/142.md). -/
def doLinkReset (s : State) : State :=
  if s.md.mode = .reset then strapField { s with an := { s.an with supplied := true } } else s

def execLinkResetCode (s : State) : Host.Outcome State Fault Refusal := done s (doLinkReset s)

/-- ALMSEL_CHANGE: the AO banks follow the pin while the module is in RESET (03 R71). -/
def doAlmsel (s : State) (v : Bool) : State := { s with md := { s.md with almPin := v } }

def execAlmselChange (v : Bool) (s : State) : Host.Outcome State Fault Refusal := done s (doAlmsel s v)

/-! ### Leaving RESET -/


/-- What the boot ROM makes of the boot record (03 R76): the record, whether it fell back, and whether a set loads. -/
structure BankPick where
  mram : MramSt
  fallback : Bool
  loads : Bool
deriving DecidableEq, Repr

/-- Bank A or B passes its CRC. -/
def bankLoads (m : MramSt) (b : Bool) : Bool := if b then m.okB else m.okA

/-- The bank selection of 03 R76. -/
def pickBank (m : MramSt) : BankPick :=
  let spent := m.trial && decide (m.trialLeft = 0)
  let bank := if spent then !m.bank else m.bank
  let m1 := if spent then { m with trial := false } else if m.trial then { m with trialLeft := m.trialLeft - 1 } else m
  if bankLoads m bank then { mram := { m1 with bank := bank }, fallback := spent, loads := true }
  else if bankLoads m (!bank) then { mram := { m1 with bank := !bank, trial := false }, fallback := true, loads := true }
  else { mram := m1, fallback := spent, loads := false }

/-- A bank's rotation begins anew after RESET; its converters keep their places (09 R212, R213, R226). -/
def restartBank (ao : Bool) (B : RotBank) : RotBank :=
  { (if ao then RotBank.ao else RotBank.ai) with assign := B.assign, spare := B.spare.or (if B.restore.isNone then B.measuring else none) }

/-- What the AI and AO banks keep over RESET: calibrations, converters in use, SINK or SOURCE (09 R215, R222, R226). -/
def keepAnalog (a : AnSt) : AnSt :=
  { AnSt.init with
    supplied := true
    aiCal := Tab.mapAll a.aiCal Cal.init (fun _ k => { k with iFails := 0 }), aoCal := Tab.mapAll a.aoCal Cal.initAo (fun _ k => { k with iFails := 0 })
    ab := Tab.mapAll a.ab RotBank.ai (fun _ B => restartBank false B), ob := Tab.mapAll a.ob RotBank.ao (fun _ B => restartBank true B)
    ao := Tab.mapAll a.ao AoCh.init (fun _ x => { AoCh.init with sink := x.sink }) }

/-- LEAVE_RESET (00 R14, 02 R32, 03 R71-R77): straps latched, T10 and FRAME_NO 0, the bank chosen, BOOT. What HOLD keeps lasts
as long as the configuration is enabled (03 R65; notes/assumptions/125.md). -/
def doLeaveReset (s : State) (p : Straps) : State :=
  if s.md.mode ≠ .reset then s
  else
    let k := pickBank s.mram
    let s1 := { State.reset with
      mram := k.mram, pending := s.pending, free := s.free, an := keepAnalog s.an
      dio := { DioSt.init with ch := Tab.mapAll s.dio.ch DoCh.init (fun _ d => { DoCh.init with last := d.last }) }
      gr := { GroupSt.init with gate := if k.mram.grouped then 0x1FF else 0 }
      md := { ModeSt.init with
        straps := { p with unitId := p.unitId % 4 }, almPin := p.almsel, bank := k.mram.bank, fallback := k.fallback
        confirmed := !k.mram.trial, recovery := !k.loads, ready := !k.loads } }
    let s2 := if s.md.internal then pushLog s1 0x0301 0xFFFF 0 else s1
    if k.loads then s2 else readBoot (pushLog s2 0x0300 0xFFFF 0)

def execLeaveReset (p : Straps) (s : State) : Host.Outcome State Fault Refusal := done s (doLeaveReset s p)

/-! ### BOOT -/

/-- BOOT_STEP_FAIL: the recovery interpreter runs (03 R74). -/
def doBootFail (s : State) : State :=
  if s.md.mode = .boot ∧ s.md.recovery = false ∧ s.md.bootDue = false then
    readBoot (pushLog { s with md := { s.md with recovery := true, ready := true } } 0x0300 0xFFFF 0)
  else s

def execBootStepFail (s : State) : Host.Outcome State Fault Refusal := done s (doBootFail s)

/-- A journal buffer serves a WARM power-up: valid, with the image CRC of the enabled configuration (03 R79). -/
def journalServes (m : MramSt) (j : Journal) : Bool := m.enabled && j.valid && decide (j.imageCrc = imgCrc m.image)

/-- The kind of a power-up (03 R79, R84). -/
def powerKind (s : State) : Nat :=
  if !s.md.straps.coldN then 2 else if journalServes s.mram s.mram.jA || journalServes s.mram s.mram.jB then 1 else 3

/-- BOOT_COMPLETE (03 R73, R79, 04 R105, 05 R118): the last BOOT step has ended, and the command ring is ready; BOOT ends at the
next tick. -/
def doBootComplete (s : State) : State :=
  if s.md.mode ≠ .boot ∨ s.md.recovery = true ∨ s.md.bootDue = true then s
  else
    let kind := powerKind s
    readBoot { s with
      md := { s.md with
        fwLoaded := true, ready := true, bootDue := true, startKind := kind
        status := if kind = 3 ∧ s.mram.enabled then bset s.md.status 4 else s.md.status }
      cfg := { s.cfg with ids := if s.mram.enabled then imgIds s.mram.image else (0, 0, 0) } }

def execBootComplete (s : State) : Host.Outcome State Fault Refusal := done s (doBootComplete s)

end Sys2Proof.Machine
end

