-- ==== Sys2Proof/Machine/Links.lean ====
section
/-! DEFINITION. The links across the isolation barriers, the clocks, and SYNC_IN (01 R19-R23, 02 R49-R53). -/

namespace Sys2Proof.Machine

/-! ### Link transfers (R19-R21) -/

/-- A transfer of a link has failed twice and is discarded: counted, and its time kept for the health class LINKS
(01 R20, 08 R207, 09 R240, 18 R533). -/
def linkDiscard (s : State) (l : Link) : State :=
  let late := { s with hl := { s.hl with discards := (s.fr.t10 :: s.hl.discards).take 11 } }
  match l with
  | .field => dioEvent { late with dio := { s.dio with linkErr := satInc32 s.dio.linkErr } } 29
  | .attar => { s with dio := { s.dio with attarErr := satInc32 s.dio.attarErr } }
  | .ab _ => { late with an := { s.an with linkErr := satInc32 s.an.linkErr } }
  | .ob _ => { late with an := { s.an with linkErr := satInc32 s.an.linkErr } }

/-- The receiver of an output image on a link: the field controller 0, OB bank g the number g + 1. -/
def imgReceiver (l : Link) : Option Nat := match l with | .field => some 0 | .ob g => some (g.val + 1) | _ => none

/-- The number of a link: field link 0, Attar link 1, ABn 2 + n, OBn 8 + n. -/
def linkNo (l : Link) : Nat := match l with | .field => 0 | .attar => 1 | .ab b => 2 + b.val | .ob g => 8 + g.val

/-- A transfer to the field side has arrived: on the field link and the OB links the output image, on the field link and the
Attar link the SO commands, which the field controller applies as they arrive (01 R19, R21, 08 R196). -/
def linkOut (s : State) (l : Link) : State :=
  let s1 := match imgReceiver l, s.fr.outImg with
    | some k, some img => { s with fr := { s.fr with arrived := Tab.set s.fr.arrived none k (some img) } }
    | _, _ => s
  match l with
  | .field => { s1 with sf := { s1.sf with swHigh := s1.sf.high } }
  | .attar => { s1 with sf := { s1.sf with swLow := s1.sf.low } }
  | .ab b => bankLinkBack s1 b.val
  | .ob _ => s1

/-- A transfer of the field side has arrived (01 R19, R20, 09 R225, R232). -/
def linkIn (s0 : State) (l : Link) (p : Payload) : State :=
  let s := { s0 with fr := { s0.fr with inFrame := Tab.set s0.fr.inFrame none (linkNo l) (some p.frame) } }
  match l with
  | .field =>
    { s with dio := { s.dio with rb := p.word, stale := false }, sf := { s.sf with rbHigh := p.high, rbLow := p.low } }
  | .attar => { s with dio := { s.dio with attarStale := false }, sf := { s.sf with rbHigh := p.high, rbLow := p.low } }
  | .ab b =>
    { s with an := { s.an with stale := bclr s.an.stale b.val, fresh := bset s.an.fresh b.val, miss := Tab.set s.an.miss 0 b.val 0, linkBad := bclr s.an.linkBad b.val } }
  | .ob g =>
    { s with an := { s.an with
        stale := bclr s.an.stale (6 + g.val), fresh := bset s.an.fresh (6 + g.val)
        ao := Tab.updMany s.an.ao AoCh.init ((List.range 4).map (fun i => 4 * g.val + i)) (fun c x =>
          match p.vals[c % 4]? with
          | none => x
          | some v => { x with rbLive := v.1, satLive := v.2 }) } }

/-- An input transfer is discarded: the values of the frame before stay, STALE at the tick (01 R20). -/
def linkStale (s : State) (l : Link) : State :=
  match l with
  | .field => { s with dio := { s.dio with stale := true } }
  | .attar => { s with dio := { s.dio with attarStale := true } }
  | .ab b => { s with an := { s.an with stale := bset s.an.stale b.val, fresh := bclr s.an.fresh b.val } }
  | .ob g => { s with an := { s.an with stale := bset s.an.stale (6 + g.val), fresh := bclr s.an.fresh (6 + g.val) } }

/-- LINK_TRANSFER (01 R20): `out` is the direction to the field side; the repeat counts where the first copy fails its
CRC. In RESET the links carry the reset code and no transfer (08 R193). -/
def doLink (s : State) (l : Link) (out crcOk repeatOk : Bool) (p : Payload) : State :=
  if s.md.mode = .reset then s
  else if crcOk || repeatOk then (if out then linkOut s l else linkIn s l p)
  else
    let s1 := linkDiscard s l
    if out then s1 else linkStale s1 l

def execLinkTransfer (l : Link) (out crcOk repeatOk : Bool) (p : Payload) (s : State) : Host.Outcome State Fault Refusal :=
  done s (doLink s l out crcOk repeatOk p)

/-! ### Clocks and the timebase (R22, R49, R50) -/

/-- CLOCK_FAULT (01 R22): the sound channel opens every switch, SAFE_HOLD follows at the next tick. -/
def doClockFault (s0 : State) (dt : Nat) : State :=
  if s0.md.mode = .reset then s0
  else pendCause (openAll (setStatus (advance s0 dt) 9 true)) 0x03

def execClockFault (dt : Nat) (_clock : Fin 6) (s : State) : Host.Outcome State Fault Refusal := done s (doClockFault s dt)

/-- A tick error in T10 within the 100 ns of R50. -/
def within100 (err : Int) : Bool := decide (-10 ≤ err) && decide (err ≤ 10)

/-- TIMEBASE_LOCK_LOST (02 R50): a unit that is not its own time master. -/
def doLockLost (s : State) (err : Int) : State :=
  if s.md.mode = .reset || timeMaster s || within100 err then s
  else
    let s1 := { s with fr := { s.fr with syncErr := err } }
    if tbLocked s1 then unlock s1 else s1

def execTimebaseLockLost (err : Int) (s : State) : Host.Outcome State Fault Refusal := done s (doLockLost s err)

/-- TIMEBASE_LOCK_REGAINED (02 R50): the latest comparison has found T10 and FRAME_NO equal to the master's. -/
def doLockRegained (s : State) (err : Int) : State :=
  if s.md.mode = .reset || timeMaster s || !within100 err || !s.gr.agrees then s
  else setStatus { s with fr := { s.fr with syncErr := err }, gr := { s.gr with masterMiss := 0 } } 6 true

def execTimebaseLockRegained (err : Int) (s : State) : Host.Outcome State Fault Refusal := done s (doLockRegained s err)

/-! ### SYNC_IN (R51-R53) -/

/-- Frames from one expected edge to the next: every tick, or the ticks on a second (02 R52). -/
def edgePeriod (s : State) (mode : Nat) : Nat := if mode = 2 then max (1000000 / max s.fr.fUs 1) 1 else 1

/-- An edge is expected, or a pulse emitted, at the tick of frame n. -/
def edgeFrame (s : State) (mode n : Nat) : Bool := decide (mode ≠ 0) && decide (n % edgePeriod s mode = 0)

/-- The frame of the expected edge nearest to now, shifted by SYNC_IN_OFFSET, and the error to its tick in T10 (02 R51). -/
def edgeError (s : State) : Nat × Int :=
  let p := edgePeriod s s.fr.syncIn
  let r := s.fr.frame % p
  let f : Int := s.fr.fUs * 100
  let e0 := (s.fr.t10 : Int) + s.fr.syncOff - ((s.fr.tick : Int) - r * f)
  let e1 := e0 - p * f
  if e1.natAbs < e0.natAbs then (s.fr.frame - r + p, e1) else (s.fr.frame - r, e0)

/-- SYNC_IN_EDGE (02 R51-R54): `ppm` is the frequency correction the time master takes; it steps its tick phase once in
CONFIGURED or CHECKING where `step` says so. An edge of the other direction than SYNC_IN_EDGE is none. -/
def doSyncEdge (s0 : State) (dt : Nat) (rising : Bool) (ppm : Int) (step : Bool) : State :=
  if s0.fr.syncIn = 0 ∨ s0.md.mode = .reset ∨ rising = s0.fr.syncFall then s0
  else
    let s := advance s0 dt
    let e := edgeError s
    if s.fr.fUs * 25 < e.2.natAbs then setStatus s 5 true
    else
      let s1 := { s with fr := { s.fr with syncErr := e.2, syncMiss := 0, syncEdge := e.1 + 1 } }
      if !timeMaster s1 then s1
      else
        let s2 := setStatus { s1 with fr := { s1.fr with ppm := clampI ppm (-200) 200 } } 3 (within100 e.2)
        let may := decide (s2.md.mode = .configured) || decide (s2.md.mode = .checking)
        if step && may && !s2.fr.stepped then
          { s2 with fr := { s2.fr with stepped := true, next := max (((s2.fr.next : Int) + e.2).toNat) (s2.fr.t10 + 1) } }
        else s2

def execSyncInEdge (edge : SyncEdge) (ppm : Int) (step : Bool) (s : State) : Host.Outcome State Fault Refusal :=
  done s (doSyncEdge s edge.dt edge.rising ppm step)

/-- The edge expected at the tick of the frame running has not come. -/
def edgeMissing (s : State) : Bool := edgeFrame s s.fr.syncIn s.fr.frame && decide (s.fr.syncEdge ≤ s.fr.frame)

/-- SYNC_IN_LOST (02 R52): SYNC_MISS_LIMIT expected edges in a row are missing. -/
def doSyncLost (s : State) : State :=
  if s.fr.syncIn ≠ 0 ∧ s.fr.missLimit ≤ s.fr.syncMiss + b2n (edgeMissing s) then setStatus (setStatus s 4 true) 3 false else s

def execSyncInLost (s : State) : Host.Outcome State Fault Refusal := done s (doSyncLost s)

/-- The edge of the frame that ends is counted where it is missing (02 R52). -/
def countMissing (s : State) : State :=
  if edgeMissing s then
    let s1 := { s with fr := { s.fr with syncMiss := satInc 255 s.fr.syncMiss } }
    if s1.fr.syncMiss = s1.fr.missLimit then setStatus (setStatus s1 4 true) 3 false else s1
  else s

end Sys2Proof.Machine
end

