-- ==== Sys2Proof/Machine/Outputs.lean ====
section
/-! DEFINITION. The output image of each mode, the output transfer slot, commit and apply (01 R20, R21, 02 R35-R37, R45, R46,
03 R64-R69, 08 R185, R195, 09 R223-R227). -/

namespace Sys2Proof.Machine

/-! ### The output image (03 R66) -/

/-- A duty resolved to 1 us of its period; which way it is rounded is not stated (08 R185; notes/assumptions/44.md). -/
def resolveDuty (us : Nat) (v : F64) : F64 :=
  let x := F64.dyMul (F64.toDy v) { m := us, e := 0 }
  let n := F64.dyFloor x
  let whole := decide (F64.dyFloor { x with m := -x.m } = -n)
  F64.div (F64.ofInt (if whole then n else n + b2n (Config.dutyUp v us))) (F64.ofNat us)

/-- A DO value as its channel takes it: a duty clipped and resolved, a NaN duty 0 (08 R185). -/
def doClip (s : State) (c : Nat) (v : F64) : F64 :=
  if !doFlag s c 0 then v
  else if F64.gt v 0 then (if F64.ge v F64.one then F64.one else resolveDuty (pwmUs s c) v) else 0

/-- The configured safe state of DO c (03 R65, 08 R185). -/
def doSafeValue (s : State) (c : Nat) : F64 := if doSafe s c = 0 then 0 else if doSafe s c = 1 then F64.one else (doCh s c).last

/-- DO c in the output image of the mode (03 R66, R69; 08 R198). -/
def imgDo (s : State) (c : Nat) : F64 :=
  if strapMode s || !doCfg s c then 0
  else if s.md.mode.allPhases then doClip s c (Tab.get s.fr.page.dos 0 c)
  else if s.md.mode = .service then
    match forceOf s 4 c with
    | some v => F64.ofBool (v != 0)
    | none => doSafeValue s c
  else doSafeValue s c

/-- An AO command: clipped to 0-24 mA, the alarm choice for a value that is not finite (09 R223). -/
def aoCommand (s : State) (c : Nat) (v : F64) : F64 :=
  if !F64.isFinite v then aoAlarmLevel s c else if F64.lt v 0 then 0 else if F64.gt v c24 then c24 else v

/-- AO c in the output image of the mode, in mA; of two cases the lower of the table decides (09 R227). -/
def imgAo (s : State) (c : Nat) : F64 :=
  aoLowAlarm s c (aoCh s c) <|
  if strapMode s || !aoCfg s c then almLevel s
  else if s.md.mode.allPhases then aoCommand s c (Tab.get s.fr.page.aos F64.nan c)
  else if s.md.mode = .checking then almLevel s
  else if s.md.mode = .service then
    match forceOf s 5 c with
    | some v => aoCommand s c v
    | none => if s.md.alarmCh then aoSafeLevel s c else almLevel s
  else aoSafeLevel s c

/-- The output image of the frame; one built in a mode that drives no outputs carries the SAFE marker (08 R195). -/
def buildImg (s : State) : OutImg :=
  { frame := s.fr.frame, driven := s.md.mode.driven, strap := strapMode s
    dos := Tab.updMany [] 0 (List.range 64) (fun c _ => imgDo s c), aos := Tab.updMany [] 0 (List.range 32) (fun c _ => imgAo s c) }

/-! ### The apply instant (02 R36, R37) -/

/-- The images that the receivers hold reach the pins: of a tripped receiver only one with the SAFE marker (08 R195). -/
def pinImg (s : State) (k : Nat) : Option OutImg :=
  match Tab.get s.fr.pend none k with
  | none => none
  | some img => if s.dio.trip.toNat.testBit k && img.driven then none else some img

/-- The field controller drives its pending DO values (02 R37, 03 R65, 08 R207). -/
def applyDo (t : Nat) (s : State) : State :=
  match pinImg s 0 with
  | none => s
  | some img =>
    { s with dio := { s.dio with
        ch := Tab.updMany s.dio.ch DoCh.init (List.range 64) (fun c d =>
          let v := Tab.get img.dos 0 c
          let d1 := setDoCmd t v d
          if img.driven then { d1 with last := v } else d1)
        cmdReg := ofBits 64 (fun c => Tab.get img.dos 0 c != 0) } }

/-- OB bank g drives its pending levels (02 R37, 09 R223). -/
def applyAo (t : Nat) (s : State) (g : Nat) : State :=
  match pinImg s (g + 1) with
  | none => s
  | some img =>
    { s with an := { s.an with
        drv := bset s.an.drv g
        ao := Tab.updMany s.an.ao AoCh.init ((List.range 4).map (fun i => 4 * g + i)) (fun c x =>
          let v := Tab.get img.aos 0 c
          if x.level = v && s.an.drv.toNat.testBit g then x else setAoLevel t v x) } }

/-- What an apply instant releases: groups whose supply has returned, latched channels, cutoffs (08 R183, R191, R192, 09 R230). -/
def applyRelease (t : Nat) (s : State) : State :=
  { s with
    dio := { s.dio with
      grp := Tab.mapAll s.dio.grp DoGroup.init (fun _ g => if g.off && decide (g.from_ < t) then { g with off := false } else g)
      ch := Tab.updMany s.dio.ch DoCh.init (List.range 64) (fun c d =>
        let g := doGrp s (c / 8)
        let back := (g.off && decide (g.from_ < t)) || decide (2 ≤ d.release ∧ d.release < t + 2)
        let d1 := if decide (2 ≤ d.release ∧ d.release < t + 2) then { d with latchOff := false, release := 0, retries := 0, held := false } else d
        if back && d.cmd != 0 then { d1 with since := t } else d1) }
    an := { s.an with ao := Tab.mapAll s.an.ao AoCh.init (fun _ x => if x.cutOpen && !x.mismatch && decide (x.cutFrom < t) then { x with cutOpen := false, since := t } else x) } }

/-- The bus objects and safe messages of a frozen page are queued under the mode of its frame (15 R428, 16 R468). -/
def applySend (f : Frozen) (s : State) : State :=
  let m := s.md.mode
  let s1 := { s with md := { s.md with mode := f.mode } }
  let s2 := sendMsgs f.frame f.at_ (applyObjs f.frame f.page.objs s1)
  { s2 with md := { s2.md with mode := m } }

/-- The apply of a frame (02 R36, R37). -/
def applyFrame (f : Frozen) (s0 : State) : State :=
  let s := advanceTo { s0 with fr := { s0.fr with toApply := none } } f.at_
  let t := s.fr.t10
  let s1 := (List.range 8).foldl (applyAo t) (applyDo t s)
  let s2 := applyRelease t { s1 with fr := { s1.fr with pend := [] } }
  abandonTests false (applySend f s2)

/-- APPLY (02 R37): at OUT_PHASE of the frame whose page has been committed; an apply that falls on the next tick is
carried out by TICK, after its latch. -/
def doApply (s : State) : State :=
  match s.fr.toApply with
  | none => s
  | some f => if s.md.mode = .reset ∨ s.fr.next ≤ f.at_ then s else applyFrame f s

/-- The apply that falls on a tick, once the tick has latched its inputs (02 R37). -/
def tickApply (s : State) : State :=
  match s.fr.toApply with
  | none => s
  | some f => applyFrame { f with at_ := s.fr.t10 } s

def execApply (s : State) : Host.Outcome State Fault Refusal := done s (doApply s)

/-! ### The output transfer slot (01 R21, 02 R35, R45) -/

/-- T10 of the commit of the frame (02 R36). -/
def commitT (s : State) : Nat := s.fr.tick + s.fr.fUs * s.fr.commit / 10

/-- An overrun (02 R45, 18 R536). -/
def overrun (s : State) : State :=
  let s1 := overrunReqs s
  let s2 := setStatus (setStatus s1 0 true) 1 true
  pushLog { s2 with fr := { s2.fr with ovrCount := satInc32 s2.fr.ovrCount, ovrRun := satInc 31 s2.fr.ovrRun } } 0x0303 0xFFFF s2.fr.late

/-- The working page is frozen and sent, and the output kinds are queued (02 R35, R45, 14 R394). -/
def freeze (s : State) : State :=
  let img := buildImg s
  queueOuts (fun c => Tab.get img.dos 0 c) { s with fr := { s.fr with
    outImg := some img
    frozen := some { frame := s.fr.frame, mode := s.md.mode, page := s.fr.page, at_ := s.fr.tick + s.fr.fUs * s.fr.out / 10 } } }

/-- The slot once every phase of the frame has had its time: captures sample, then the overrun test (12 R345, 02 R45). -/
def slotBody (s0 : State) : State :=
  let s := capSampleAll (advanceTo s0 (commitT s0 - 400))
  let s1 := { s with fr := { s.fr with slotDone := true, frozen := none, outImg := none } }
  if s1.fr.late = 0 then freeze s1 else overrun s1

end Sys2Proof.Machine
end

