-- ==== Sys2Proof/Machine/Frame.lean ====
section
/-! DEFINITION. The frame: the tick with its latch, mode and commands, the phases, the tracking deadline, the slot and the
commit (02 R32-R48, 03 R61-R63, 06 R142, 17 R503, R504). -/

namespace Sys2Proof.Machine

/-! ### The phases of a frame (02 R35, R45) -/

/-- The start of the output transfer slot, relative to the tick (02 R45). -/
def slotOff (s : State) : Nat := commitT s - 400 - s.fr.tick

/-- The phase that has not ended at the slot, among those of the mode: 1 gather, 2 safety, 3 engine, 4 program (02 R45). -/
def latePhase (s : State) (i : TickIn) : Nat :=
  let o := slotOff s
  if !(hasCfg s && s.md.mode.gathers) then 0
  else if o < i.gatherEnd then 1
  else if o < i.safetyEnd then 2
  else if !s.md.mode.allPhases then 0
  else if o < i.engineEnd then 3
  else if o < i.progEnd then 4 else 0

/-- Engine and program with the input image of the frame; a phase that is late stops where it was, and those after it do
not start (02 R35, R45, R57). -/
def computePhases (i : TickIn) (s : State) : State :=
  if s.fr.late = 2 then s
  else
    let pts := prefetch s
    let o := slotOff s
    let n := (stageOrder s).length
    if s.fr.late = 3 then enginePhase (min i.stages n) o s
    else
      let s1 := enginePhase n i.engineEnd s
      let s2 := programPhase pts (if s.fr.late = 4 then some i.blocks else none) i.runs s1
      { s2 with fr := { s2.fr with peak := max s2.fr.peak (min i.progEnd o) } }

/-- Gather, engine and program, once the inputs and requests of the frame stand; `w` are the points written at its tick. The
feeds run in the modes of the engine phase, and not in a frame whose gather is late (02 R35, R45, 11 R281;
notes/assumptions/139.md). -/
def runPhases (i : TickIn) (w : List (Nat × F64)) (s : State) : State :=
  let s1 := openQueue (if s.fr.late = 1 then some i.updates else none) w (markLate s.fr.frame s)
  if !(hasCfg s1 && s1.md.mode.allPhases) ∨ s1.fr.late = 1 then s1 else computePhases i (feedGather (prefetch s1) s1)

/-! ### The tracking deadline (17 R503, R504) -/

/-- The requests of a holder that a tracking standby carries out with its own state (17 R503). -/
def trackedOp (op : Op) : Bool :=
  match op with
  | .alarmAck => true | .forceSet => true | .forceClear => true | .valueChange => true | .injectStart => true | .injectStop => true
  | .learnControl => true | .loopMode => true | .stopQueueEdit => true | _ => false

/-- One host command of the holder, with its effect at the tick and no answer. -/
def trackCmd (x : State × List (Nat × F64)) (c : Nat × List Byte) : State × List (Nat × F64) :=
  match opOf c.1 with
  | none => x
  | some op => if trackedOp op then let d := dueEffect x.1 x.2 none 0 op c.2 false; (d.st, d.writes) else x

/-- The FIFO entries of the holder that belong to this frame come with its channels; later ones wait (17 R502). -/
def trackFifo (s : State) (img : Image) : State × Image :=
  let mine := fun c => (Tab.get s.gr.fifo [] c).filter (fun e => decide (e.stamp ≤ s.fr.tick))
  ({ s with gr := { s.gr with fifo := Tab.mapAll s.gr.fifo [] (fun _ l => l.filter (fun e => decide (s.fr.tick < e.stamp))) } },
   { img with pf := Tab.updMany img.pf PfImg.init (List.range 8) (fun c g => { g with fifo := mine c }) })

/-- The frame runs with the holder's inputs and requests; SI and safe messages stay the unit's own (17 R503, R507). -/
def runTracked (p : TickPart) (i : TickIn) (s0 : State) : State :=
  let x := trackFifo s0 { p.img with si := s0.fr.img.si, siQ := s0.fr.img.siQ, tick := s0.fr.tick, frame := s0.fr.frame }
  let s := { x.1 with
    fr := { x.1.fr with img := x.2 }
    bus := { x.1.bus with hist := p.hist }
    sf := { x.1.sf with txSeq := p.seqs }
    pg := { x.1.pg with reqs := p.reqs } }
  let r := p.cmds.foldl trackCmd (s, p.writes)
  let s1 := tickReqs false blockAck (tickReqs true blockAck (notePfOffsets r.1 p.img))
  runPhases i r.2 (tickForces s1)

/-- The standby stops tracking and goes on with its own inputs in this frame (17 R504): event bit 4 SYNC_LINK_ERROR, 6
STATE_DIFFERENCE. -/
def runUntracked (bit : Nat) (i : TickIn) (s : State) : State :=
  let s1 := grEvent (stopTracking s) bit
  runPhases i [] (tickReqs false blockAck (tickReqs true blockAck s1))

/-- TRACKING_DEADLINE (17 R504): at T + 3.8 us, with the unit's own digest of the frame before. -/
def doDeadline (s0 : State) (digest : Option Nat) : State :=
  if !s0.gr.waiting then s0
  else
    let s1 := advanceTo s0 (s0.fr.tick + 380)
    let s := { s1 with gr := { s1.gr with waiting := false, tickIn := none } }
    let i := s0.gr.tickIn.getD { gatherEnd := 0, safetyEnd := 0, engineEnd := 0, progEnd := 0, updates := 0, sblocks := 0, stages := 0, share := 0, tail := 0, blocks := [], runs := [] }
    match s.gr.part, digest with
    | some p, some d =>
      if p.digest = d then runTracked p i s
      else runUntracked 6 i { s with gr := { s.gr with diffs := satInc32 s.gr.diffs } }
    | _, _ => runUntracked 4 i s

def execTrackingDeadline (digest : Nat) (s : State) : Host.Outcome State Fault Refusal := done s (doDeadline s (some digest))

/-! ### The slot and the commit (01 R20, R21, 02 R35-R37, R45) -/

/-- OUTPUT_TRANSFER_SLOT (02 R35, R45): a standby whose holder has not been heard by now goes on by itself. -/
def doSlot (s : State) : State :=
  if s.md.mode = .reset ∨ s.md.mode = .boot ∨ s.fr.slotDone = true then s else slotBody (doDeadline s none)

def execOutputTransferSlot (s : State) : Host.Outcome State Fault Refusal := done s (doSlot s)

/-- OVERRUN_LIMIT_REACHED (02 R46): SAFE_HOLD at the next tick. -/
def doOverrunLimit (s : State) : State := if s.fr.ovrLimit ≤ s.fr.ovrRun ∧ 0 < s.fr.ovrRun then pendCause s 0x02 else s

def execOverrunLimitReached (s : State) : Host.Outcome State Fault Refusal := done s (doOverrunLimit s)

/-- One receiver at the commit (01 R21, 08 R194, R195): an image that arrived complete with the current FRAME_NO is moved
to the pending registers; after a trip only one with the SAFE marker, which ends the trip. -/
def moveImg (s : State) (k : Nat) : State :=
  match Tab.get s.fr.arrived none k with
  | none => s
  | some img =>
    if img.frame ≠ s.fr.frame ∨ (s.dio.trip.toNat.testBit k && img.driven) then s
    else { s with
      fr := { s.fr with pend := Tab.set s.fr.pend none k (some img) }
      dio := { s.dio with lastImg := Tab.set s.dio.lastImg 0 k s.fr.t10, arm := bset s.dio.arm k, trip := bclr s.dio.trip k } }

/-- COMMIT (01 R21, 02 R36, 13 R372, R374). -/
def doCommit (s0 : State) (journalOk : Bool) : State :=
  if s0.md.mode = .reset ∨ s0.md.mode = .boot ∨ s0.fr.commitDone = true then s0
  else
    let sa := doSlot s0
    let sb := match sa.fr.toApply with | some f => if f.at_ < commitT sa then doApply sa else sa | none => sa
    let s := advanceTo sb (commitT sb)
    let s1 := (List.range 9).foldl moveImg s
    let s2 := { s1 with fr := { s1.fr with arrived := [], toApply := s1.fr.frozen, frozen := none, commitDone := true } }
    match s1.fr.frozen with
    | none => s2
    | some _ =>
      if s2.md.mode.allPhases && hasCfg s2 then commitEvents (writeJournal journalOk s2) else s2

def execCommit (journalOk : Bool) (s : State) : Host.Outcome State Fault Refusal := done s (doCommit s journalOk)

/-! ### The latch (02 R34) -/

/-- The input image of the tick, with the forces in place before it (02 R34, R40; 08 R176, R198; 09 R212). -/
def latchImg (forces : List Force) (pf : Tab PfImg) (objs : Tab ObjSnap) (s : State) : Image :=
  let force : Nat → Nat → Option F64 := fun k c => (forces.find? (fun f => decide (f.kind = k ∧ f.item = c))).map (·.value)
  let old := s.fr.img
  { tick := s.fr.tick, frame := s.fr.frame
    di := ofBits 96 (fun c => match force 1 c with
      | some v => v != 0
      | none => (cfgRec s 0x0201 c).isSome && (if s.dio.stale then old.di.toNat.testBit c else (diFilt s c).state))
    diQ := Tab.updMany [] .good (List.range 96) (fun c _ => if (force 1 c).isSome then .forced else diQual s c)
    diStamp := if s.dio.stale then old.diStamp else Tab.updMany [] 0 (List.range 96) (fun c _ => (diFilt s c).stamp)
    si := siNow s
    siQ := Tab.updMany [] .good (List.range 32) (fun c _ => siQual s c)
    siStamp := if s.dio.stale then old.siStamp else Tab.updMany [] 0 (List.range 32) (fun c _ => (siFilt s c).stamp)
    ai := Tab.updMany [] { v := 0, q := .bad } (List.range 48) (fun c _ => match force 2 c with
      | some v => { v := v, q := .forced }
      | none => if aiCfg s c then { v := (aiCh s c).latched, q := aiQual s c } else { v := 0, q := .bad })
    aiStamp := Tab.updMany [] 0 (List.range 48) (fun c _ => (aiCh s c).latchedStamp)
    pf := pf, objs := objs
    aoRb := Tab.updMany [] 0 (List.range 32) (fun c _ => (aoCh s c).readback)
    aoQ := Tab.updMany [] .good (List.range 32) (fun c _ => aoQual s c)
    doQ := Tab.updMany [] .good (List.range 64) (fun c _ => doQual s c) }

/-- The conditions that the latch of a tick completes: an AI bank without a valid transfer in the frame is STALE (09 R229, R230,
R232). -/
def tickAnalog (s0 : State) : State :=
  let s := { s0 with an := { s0.an with stale := s0.an.stale ||| ofBits 14 (fun b => decide (b < 6) && !s0.an.fresh.toNat.testBit b) } }
  let s1 := tickAo (tickAi ((List.range 6).foldl (fun s b => if s.an.stale.toNat.testBit b then doBankBad s b else s) s))
  markAo ((List.range 32).foldl (fun s c => doMismatch (doComplEnd (doComplEnter s c) c) c) s1)

/-- The latch of a tick (02 R34, R37): readbacks, filtered inputs, conversions, PF frame latches, bus snapshot; then the
transfers of the next frame begin. -/
def latchFrame (forces : List Force) (s : State) : State :=
  let s1 := tickAnalog (tickGenerators (tickDio s))
  let p := tickPf s1
  let o := tickObjs p.1
  let s2 := tickBus o.1
  { s2 with fr := { s2.fr with img := latchImg forces p.2 o.2 s2 } }

/-- The transfers of the frame have been used. -/
def clearTransfers (s : State) : State :=
  { s with dio := { s.dio with stale := false, attarStale := false }, an := { s.an with stale := 0, fresh := 0 } }

/-! ### The tick -/

/-- What was due before this tick and has not been reported is done first (02 R35-R37, 07 R164, 08 R194). -/
def catchUp (s : State) : State :=
  let s1 := doCommit s true
  let s2 := match s1.fr.toApply with | some f => if f.at_ < s1.fr.next then doApply s1 else s1 | none => s1
  endWindows ((List.range 9).foldl doTrip s2)

/-- A frame that ends without an overrun ends the run of overruns (02 R46). -/
def endOverruns (s : State) : State :=
  if s.fr.late = 0 then setStatus { s with fr := { s.fr with ovrRun := 0 } } 1 false else s

/-- T10, FRAME_NO and what follows them (02 R32, R33, R46, R48, R49, 05 R128). -/
def startFrame (s0 : State) : State :=
  let s := endOverruns (countMissing s0)
  let F := s.fr.fUs * 100
  let step := match s.gr.stepTo with | some x => if mayStep s.md.mode then some x else none | none => none
  let t := match step with | some x => x.1 | none => s.fr.next
  let n := match step with | some x => x.2 | none => s.fr.frame + 1
  let calm := s.md.mode ≠ .configured ∧ s.md.mode ≠ .checking
  let s1 := { s with
    fr := { s.fr with
      t10 := t, tick := t, next := t + F, frame := n, slotDone := false, commitDone := false, late := 0, outImg := none, frozen := none
      prevGov := s.md.mode, stepped := if calm then false else s.fr.stepped }
    gr := { s.gr with stepTo := none, stepped := s.gr.stepped || step.isSome, agrees := s.gr.agrees || step.isSome }
    hp := { s.hp with shareLast := s.hp.share, share := 0, tailLast := s.hp.tailB, tailB := 0 } }
  let s2 := if step.isSome then pushLog s1 0x0302 0xFFFF 0 else if s.gr.stepTo.isSome then unlock s1 else s1
  { s2 with hl := { s2.hl with written := 0 } }

/-- FRAME_MARK and SYNC_OUT of the tick, under the settings that its mode change leaves in use (02 R51, R56, R571). -/
def frameMarks (s : State) : State :=
  let n := s.fr.frame
  let s1 := if s.fr.mark ≠ 0 ∧ n % s.fr.mark = 0 then setStatus s 2 true else s
  if edgeFrame s1 s1.fr.syncOut n then { s1 with fr := { s1.fr with syncOutN := s1.fr.syncOutN + 1, syncOutAt := s1.fr.tick } } else s1

/-- The mode of the frame and what ends with the frame before (03 R61, R62, R70; 04 R100; 06 R142; 17 R501, R516). -/
def tickMode (s : State) : State :=
  let s1 := tickGroup (finishStore s)
  let s2 := if s1.md.mode = .service ∧ s1.sf.demand = true then clearOutForces s1 else s1
  finishAcks false (tickReclaim (refuseDue (frameMarks (tickProgCheck (selectMode s2)))))

/-- A tracking standby leaves its phases to the deadline (17 R503). -/
def deferPhases (i : TickIn) (s : State) : State := { s with gr := { s.gr with waiting := true, tickIn := some i } }

/-- Commands and requests of the tick that act before the latch (06 R142, 10 R253, R270, 08 R192). -/
def earlyDue (s : State) : State :=
  let s1 := (runDue true s).1
  if s1.gr.tracking then s1 else tickReqs true blockAck s1

/-- The safety blocks that have run where an overrun stops the frame in its gather or safety phase (02 R45). -/
def cutBlocks (s : State) (i : TickIn) : Option Nat := if s.fr.late = 1 then some 0 else if s.fr.late = 2 then some i.sblocks else none

/-- The rest of a tick in a mode after BOOT, once the mode is known. -/
def tickWork (i : TickIn) (forces : List Force) (s0 : State) : State :=
  let s := tickTracking s0
  let s1 := tickApply (latchFrame forces (earlyDue s))
  let s2 := if s1.md.mode = .handover ∧ s1.fr.frame < s1.md.frame + 3 then takeoverCheck s1 else s1
  let s3 := (List.range 16).foldl doCapComplete (injTick s2)
  let r := runDue false s3
  let sf := tickForces r.1
  let s4 := { sf with fr := { sf.fr with late := latePhase sf i }, gr := { sf.gr with part := none } }
  let s5 := safetyPhase (min i.safetyEnd (slotOff s4)) (cutBlocks s4 i) s4
  let s6 := abandonTests false (if s5.sf.demand then injStopAll s5 else s5)
  let s7 := if s6.gr.tracking then deferPhases i s6
    else runPhases i r.2 (tickReqs false blockAck { s6 with gr := { s6.gr with fifo := [] } })
  tickHealth (clearTransfers s7)

/-- The frame running ends: what was due in it is done, the bytes that running copies and reads have moved in it are counted
(05 R128, R129), and its discrepancies are closed (16 R457). -/
def endFrame (i : TickIn) (s : State) : State :=
  let s0 := catchUp s
  endDiscrepancy { s0 with hp := { s0.hp with share := s0.hp.share + i.share, tailB := s0.hp.tailB + i.tail } }

/-- TICK (02 R34): the tick at the end of the frame running. In RESET there is none, and in BOOT nothing but the count, until
its last step has ended. -/
def doTick (s : State) (i : TickIn) : State :=
  if s.md.mode = .reset then s
  else
    let s1 := startFrame (endFrame i s)
    if s1.md.mode = .boot ∧ s1.md.bootDue = false then tickReclaim (bootTick s1) else tickWork i s1.cm.forces (tickMode s1)

def execTick (i : TickIn) (s : State) : Host.Outcome State Fault Refusal := done s (doTick s i)

end Sys2Proof.Machine
end

