-- ==== Sys2Proof/Machine/Dispatch.lean ====
section
/-! DEFINITION. What each command does: one call of its meaning for every constructor of Instr. -/

namespace Sys2Proof.Machine

open Sys2Proof

def exec (i : Instr) (s : State) : Host.Outcome State Fault Refusal :=
  match i with
  | .nop e => Sys2Proof.Machine.execNop e s
  | .identify e => Sys2Proof.Machine.execIdentify e s
  | .getMode e => Sys2Proof.Machine.execGetMode e s
  | .cfgOpen e => Sys2Proof.Machine.execCfgOpen e s
  | .cfgLoad e => Sys2Proof.Machine.execCfgLoad e s
  | .cfgClose e => Sys2Proof.Machine.execCfgClose e s
  | .cfgReadback e => Sys2Proof.Machine.execCfgReadback e s
  | .enable e => Sys2Proof.Machine.execEnable e s
  | .disable e => Sys2Proof.Machine.execDisable e s
  | .restart e => Sys2Proof.Machine.execRestart e s
  | .safeHoldEnter e => Sys2Proof.Machine.execSafeHoldEnter e s
  | .safeHoldLeave e => Sys2Proof.Machine.execSafeHoldLeave e s
  | .serviceEnter e => Sys2Proof.Machine.execServiceEnter e s
  | .serviceLeave e => Sys2Proof.Machine.execServiceLeave e s
  | .pointRead e => Sys2Proof.Machine.execPointRead e s
  | .pointWrite e => Sys2Proof.Machine.execPointWrite e s
  | .pointSubscribe e => Sys2Proof.Machine.execPointSubscribe e s
  | .pointUnsubscribe e => Sys2Proof.Machine.execPointUnsubscribe e s
  | .alarmAck e => Sys2Proof.Machine.execAlarmAck e s
  | .trendRead e => Sys2Proof.Machine.execTrendRead e s
  | .forceSet e => Sys2Proof.Machine.execForceSet e s
  | .forceClear e => Sys2Proof.Machine.execForceClear e s
  | .forceList e => Sys2Proof.Machine.execForceList e s
  | .valueChange e => Sys2Proof.Machine.execValueChange e s
  | .progStage e => Sys2Proof.Machine.execProgStage e s
  | .handoverRequest e => Sys2Proof.Machine.execHandoverRequest e s
  | .groupStatus e => Sys2Proof.Machine.execGroupStatus e s
  | .captureArm e => Sys2Proof.Machine.execCaptureArm e s
  | .captureRead e => Sys2Proof.Machine.execCaptureRead e s
  | .injectStart e => Sys2Proof.Machine.execInjectStart e s
  | .injectStop e => Sys2Proof.Machine.execInjectStop e s
  | .learnControl e => Sys2Proof.Machine.execLearnControl e s
  | .loopMode e => Sys2Proof.Machine.execLoopMode e s
  | .stopQueueEdit e => Sys2Proof.Machine.execStopQueueEdit e s
  | .pfArm e => Sys2Proof.Machine.execPfArm e s
  | .testReport e => Sys2Proof.Machine.execTestReport e s
  | .faultLogRead e => Sys2Proof.Machine.execFaultLogRead e s
  | .calReport e => Sys2Proof.Machine.execCalReport e s
  | .fwStage e => Sys2Proof.Machine.execFwStage e s
  | .fwActivate e => Sys2Proof.Machine.execFwActivate e s
  | .busPortCtrl e => Sys2Proof.Machine.execBusPortCtrl e s
  | .nodeTableRead e => Sys2Proof.Machine.execNodeTableRead e s
  | .safetyStatus e => Sys2Proof.Machine.execSafetyStatus e s
  | .safetyReset e => Sys2Proof.Machine.execSafetyReset e s
  | .badOpcode opc e => Sys2Proof.Machine.execBadOpcode opc e s
  | .copyStart => Sys2Proof.Machine.execCopyStart s
  | .copyComplete share tail => Sys2Proof.Machine.execCopyComplete share tail s
  | .checkComplete c => Sys2Proof.Machine.execCheckComplete c s
  | .fwChunkProgrammed ok => Sys2Proof.Machine.execFwChunkProgrammed ok s
  | .fwActivateReset => Sys2Proof.Machine.execFwActivateReset s
  | .hifDoorbell t v => Sys2Proof.Machine.execHifDoorbell t v s
  | .ringEntryRead => Sys2Proof.Machine.execRingEntryRead s
  | .hifRelease v => Sys2Proof.Machine.execHifRelease v s
  | .winDirectoryWrite seg v => Sys2Proof.Machine.execWinDirectoryWrite seg v s
  | .bar2Write addr data => Sys2Proof.Machine.execBar2Write addr data s
  | .winReclaim v => Sys2Proof.Machine.execWinReclaim v s
  | .diagTimeSnap dt v => Sys2Proof.Machine.execDiagTimeSnap dt v s
  | .phasePeakClear dt v => Sys2Proof.Machine.execPhasePeakClear dt v s
  | .hecClaim t v => Sys2Proof.Machine.execHecClaim t v s
  | .hecComplete t dt v => Sys2Proof.Machine.execHecComplete t dt v s
  | .hecStackReset v => Sys2Proof.Machine.execHecStackReset v s
  | .hecSetpend t v => Sys2Proof.Machine.execHecSetpend t v s
  | .hecClrpend t v => Sys2Proof.Machine.execHecClrpend t v s
  | .hecSeten w v => Sys2Proof.Machine.execHecSeten w v s
  | .hecClren w v => Sys2Proof.Machine.execHecClren w v s
  | .hecPseten t v => Sys2Proof.Machine.execHecPseten t v s
  | .hecPclren t v => Sys2Proof.Machine.execHecPclren t v s
  | .hecSleepWrite t v => Sys2Proof.Machine.execHecSleepWrite t v s
  | .diagDoLatchedRelease w v => Sys2Proof.Machine.execDiagDoLatchedRelease w v s
  | .diagDoGroupAck v => Sys2Proof.Machine.execDiagDoGroupAck v s
  | .complianceClear v => Sys2Proof.Machine.execComplianceClear v s
  | .mismatchClear v => Sys2Proof.Machine.execMismatchClear v s
  | .aiConverterRestore w v => Sys2Proof.Machine.execAiConverterRestore w v s
  | .aoSarRestore w v => Sys2Proof.Machine.execAoSarRestore w v s
  | .diagPfSnap v => Sys2Proof.Machine.execDiagPfSnap v s
  | .diagStageSnap v => Sys2Proof.Machine.execDiagStageSnap v s
  | .diagProfileSnap v => Sys2Proof.Machine.execDiagProfileSnap v s
  | .diagTaskPeakClr v => Sys2Proof.Machine.execDiagTaskPeakClr v s
  | .diagGroupCapClr v => Sys2Proof.Machine.execDiagGroupCapClr v s
  | .registerWrite dt off data => Sys2Proof.Machine.execRegisterWrite dt off data s
  | .qspiRead addr words cut => Sys2Proof.Machine.execQspiRead addr words cut s
  | .qspiWrite dt addr data cut => Sys2Proof.Machine.execQspiWrite dt addr data cut s
  | .qspiReadId => Sys2Proof.Machine.execQspiReadId s
  | .qspiBadTransaction => Sys2Proof.Machine.execQspiBadTransaction s
  | .perst => Sys2Proof.Machine.execPerst s
  | .functionLevelReset => Sys2Proof.Machine.execFunctionLevelReset s
  | .msixEnableChange en fm => Sys2Proof.Machine.execMsixEnableChange en fm s
  | .msixUnmask t => Sys2Proof.Machine.execMsixUnmask t s
  | .pmeEnWrite v => Sys2Proof.Machine.execPmeEnWrite v s
  | .pcieLinkDown => Sys2Proof.Machine.execPcieLinkDown s
  | .resetAssert => Sys2Proof.Machine.execResetAssert s
  | .supplySupervisorReset => Sys2Proof.Machine.execSupplySupervisorReset s
  | .leaveReset p => Sys2Proof.Machine.execLeaveReset p s
  | .almselChange v => Sys2Proof.Machine.execAlmselChange v s
  | .bootComplete => Sys2Proof.Machine.execBootComplete s
  | .bootStepFail => Sys2Proof.Machine.execBootStepFail s
  | .fcSupervisoryTimeout => Sys2Proof.Machine.execFcSupervisoryTimeout s
  | .tick x0 => Sys2Proof.Machine.execTick x0 s
  | .outputTransferSlot => Sys2Proof.Machine.execOutputTransferSlot s
  | .overrunLimitReached => Sys2Proof.Machine.execOverrunLimitReached s
  | .captureComplete k => Sys2Proof.Machine.execCaptureComplete k s
  | .commit journalOk => Sys2Proof.Machine.execCommit journalOk s
  | .apply => Sys2Proof.Machine.execApply s
  | .clockFault dt clock => Sys2Proof.Machine.execClockFault dt clock s
  | .timebaseLockLost err => Sys2Proof.Machine.execTimebaseLockLost err s
  | .timebaseLockRegained err => Sys2Proof.Machine.execTimebaseLockRegained err s
  | .syncInEdge edge ppm step => Sys2Proof.Machine.execSyncInEdge edge ppm step s
  | .syncInLost => Sys2Proof.Machine.execSyncInLost s
  | .linkTransfer l out crcOk repeatOk p => Sys2Proof.Machine.execLinkTransfer l out crcOk repeatOk p s
  | .linkResetCode => Sys2Proof.Machine.execLinkResetCode s
  | .fieldWatchdogTrip bank => Sys2Proof.Machine.execFieldWatchdogTrip bank s
  | .testPulseStart k dt => Sys2Proof.Machine.execTestPulseStart k dt s
  | .testPulseEnd k => Sys2Proof.Machine.execTestPulseEnd k s
  | .tpGeneratorFault k => Sys2Proof.Machine.execTpGeneratorFault k s
  | .sensorSupplyFault x0 => Sys2Proof.Machine.execSensorSupplyFault x0 s
  | .sensorSupplySound x0 => Sys2Proof.Machine.execSensorSupplySound x0 s
  | .doOverload ch dt => Sys2Proof.Machine.execDoOverload ch dt s
  | .doRetry ch dt => Sys2Proof.Machine.execDoRetry ch dt s
  | .doRetryCountReset ch => Sys2Proof.Machine.execDoRetryCountReset ch s
  | .pwmPeriodStart ch dt => Sys2Proof.Machine.execPwmPeriodStart ch dt s
  | .extFeed ch dt => Sys2Proof.Machine.execExtFeed ch dt s
  | .darkTestStart item dt => Sys2Proof.Machine.execDarkTestStart item dt s
  | .darkTestEnd ch low => Sys2Proof.Machine.execDarkTestEnd ch low s
  | .groupSupplyLow g => Sys2Proof.Machine.execGroupSupplyLow g s
  | .groupSupplyLowEnd g => Sys2Proof.Machine.execGroupSupplyLowEnd g s
  | .groupSupplyMissing g => Sys2Proof.Machine.execGroupSupplyMissing g s
  | .groupSupplyMissingEnd g dt => Sys2Proof.Machine.execGroupSupplyMissingEnd g dt s
  | .aiConversionResult b c dt code => Sys2Proof.Machine.execAiConversionResult b c dt code s
  | .aiShuntOpen ch => Sys2Proof.Machine.execAiShuntOpen ch s
  | .aiShuntRetest ch still => Sys2Proof.Machine.execAiShuntRetest ch still s
  | .rotationStepStart b => Sys2Proof.Machine.execRotationStepStart b s
  | .referenceMeasurementDone ao b z h u x5 => Sys2Proof.Machine.execReferenceMeasurementDone ao b z h u x5 s
  | .disagreementRecheckDone ao b z u => Sys2Proof.Machine.execDisagreementRecheckDone ao b z u s
  | .aiBankLinkTimeout b => Sys2Proof.Machine.execAiBankLinkTimeout b s
  | .aiBankLinkBad b => Sys2Proof.Machine.execAiBankLinkBad b s
  | .spareSarStep g diff => Sys2Proof.Machine.execSpareSarStep g diff s
  | .complianceEnter ch => Sys2Proof.Machine.execComplianceEnter ch s
  | .complianceEnd ch => Sys2Proof.Machine.execComplianceEnd ch s
  | .mismatchDetect ch => Sys2Proof.Machine.execMismatchDetect ch s
  | .spareParallelDone ch spare => Sys2Proof.Machine.execSpareParallelDone ch spare s
  | .aoSupplyLow g => Sys2Proof.Machine.execAoSupplyLow g s
  | .aoSupplyLowEnd g => Sys2Proof.Machine.execAoSupplyLowEnd g s
  | .pfQuadStep ch dt ab => Sys2Proof.Machine.execPfQuadStep ch dt ab s
  | .cmpWidthEnd ch => Sys2Proof.Machine.execCmpWidthEnd ch s
  | .pfIndexEdge ch dt z nz => Sys2Proof.Machine.execPfIndexEdge ch dt z nz s
  | .pfLatchEdge ch dt rising => Sys2Proof.Machine.execPfLatchEdge ch dt rising s
  | .pfSwitchEdge ch dt sw level => Sys2Proof.Machine.execPfSwitchEdge ch dt sw level s
  | .pfSerialStart ch dt => Sys2Proof.Machine.execPfSerialStart ch dt s
  | .pfSerialWord ch dt data crc => Sys2Proof.Machine.execPfSerialWord ch dt data crc s
  | .pfSerialTimeout ch dt => Sys2Proof.Machine.execPfSerialTimeout ch dt s
  | .pfSerialBad ch => Sys2Proof.Machine.execPfSerialBad ch s
  | .pfLineFault ch => Sys2Proof.Machine.execPfLineFault ch s
  | .pfLineFaultEnd ch => Sys2Proof.Machine.execPfLineFaultEnd ch s
  | .pfEncoderSupplyFault ch => Sys2Proof.Machine.execPfEncoderSupplyFault ch s
  | .pfEncoderSupplySound ch => Sys2Proof.Machine.execPfEncoderSupplySound ch s
  | .injectEnded stage => Sys2Proof.Machine.execInjectEnded stage s
  | .pointEngineQueue => Sys2Proof.Machine.execPointEngineQueue s
  | .pointQueueLate => Sys2Proof.Machine.execPointQueueLate s
  | .subscriptionSnapshot id => Sys2Proof.Machine.execSubscriptionSnapshot id s
  | .canFrameReceived p dt ide id fdf rtr data => Sys2Proof.Machine.execCanFrameReceived p dt ide id fdf rtr data s
  | .canTxComplete p dt => Sys2Proof.Machine.execCanTxComplete p dt s
  | .canTxError p dt ackErr dominant => Sys2Proof.Machine.execCanTxError p dt ackErr dominant s
  | .busOffRecoveryStart p dt => Sys2Proof.Machine.execBusOffRecoveryStart p dt s
  | .busOffRecoveryDone p dt => Sys2Proof.Machine.execBusOffRecoveryDone p dt s
  | .joinEnd p dt => Sys2Proof.Machine.execJoinEnd p dt s
  | .nodeLost n => Sys2Proof.Machine.execNodeLost n s
  | .portAlone p dt => Sys2Proof.Machine.execPortAlone p dt s
  | .attarCycle dt => Sys2Proof.Machine.execAttarCycle dt s
  | .attarTimerExpiry k dt => Sys2Proof.Machine.execAttarTimerExpiry k dt s
  | .discrepancyFault so dt => Sys2Proof.Machine.execDiscrepancyFault so dt s
  | .soSwitchFault so high dt => Sys2Proof.Machine.execSoSwitchFault so high dt s
  | .edmFault k dt => Sys2Proof.Machine.execEdmFault k dt s
  | .discWindowExpiry m attar dt => Sys2Proof.Machine.execDiscWindowExpiry m attar dt s
  | .safeMsgMaxAge m attar dt => Sys2Proof.Machine.execSafeMsgMaxAge m attar dt s
  | .safeNetTimeout p dt => Sys2Proof.Machine.execSafeNetTimeout p dt s
  | .degradedTimerExpiry dt => Sys2Proof.Machine.execDegradedTimerExpiry dt s
  | .attarCrcCheck crc => Sys2Proof.Machine.execAttarCrcCheck crc s
  | .scImageCheck ok => Sys2Proof.Machine.execScImageCheck ok s
  | .claimLatch l0 l1 => Sys2Proof.Machine.execClaimLatch l0 l1 s
  | .gateClose rx arrived => Sys2Proof.Machine.execGateClose rx arrived s
  | .gateOpen rx arrived => Sys2Proof.Machine.execGateOpen rx arrived s
  | .syncSectionReceived unit port crcOk sec => Sys2Proof.Machine.execSyncSectionReceived unit port crcOk sec s
  | .syncEventReceived ev => Sys2Proof.Machine.execSyncEventReceived ev s
  | .trackingDeadline digest => Sys2Proof.Machine.execTrackingDeadline digest s
  | .peerLost unit => Sys2Proof.Machine.execPeerLost unit s
  | .timeMasterFallback => Sys2Proof.Machine.execTimeMasterFallback s
  | .joinCopyDone ok mib all copy => Sys2Proof.Machine.execJoinCopyDone ok mib all copy s
  | .dwellEnd dt => Sys2Proof.Machine.execDwellEnd dt s
  | .handoverAbandon => Sys2Proof.Machine.execHandoverAbandon s
  | .drydownUnit test ok => Sys2Proof.Machine.execDrydownUnit test ok s
  | .fieldTestStart test item => Sys2Proof.Machine.execFieldTestStart test item s
  | .soSwitchTestStep so ok => Sys2Proof.Machine.execSoSwitchTestStep so ok s
  | .aoCrossCheckEnd ch mA => Sys2Proof.Machine.execAoCrossCheckEnd ch mA s
  | .shadowTestEnd so item ok => Sys2Proof.Machine.execShadowTestEnd so item ok s
  | .claimLoopback line ok => Sys2Proof.Machine.execClaimLoopback line ok s
  | .syncErrorWindow port discarded => Sys2Proof.Machine.execSyncErrorWindow port discarded s
  | .dramScrubBurst => Sys2Proof.Machine.execDramScrubBurst s
  | .eccCorrected dram addr => Sys2Proof.Machine.execEccCorrected dram addr s
  | .eccUncorrectable dram addr => Sys2Proof.Machine.execEccUncorrectable dram addr s
  | .faultLogEntryWrite => Sys2Proof.Machine.execFaultLogEntryWrite s
  | .hecArbitration => Sys2Proof.Machine.execHecArbitration s
  | .moderationWindowEnd t => Sys2Proof.Machine.execModerationWindowEnd t s
  | .sillageWake => Sys2Proof.Machine.execSillageWake s
  | .wakeRelease => Sys2Proof.Machine.execWakeRelease s
  | .diSiSample di si => Sys2Proof.Machine.execDiSiSample di si s
  | .canRxError p dt n => Sys2Proof.Machine.execCanRxError p dt n s
  | .pcieLinkUp gen2 => Sys2Proof.Machine.execPcieLinkUp gen2 s
  | .syncPortDown port => Sys2Proof.Machine.execSyncPortDown port s
  | .syncPortUp port => Sys2Proof.Machine.execSyncPortUp port s
  | .backgroundCopyDone mib copy => Sys2Proof.Machine.execBackgroundCopyDone mib copy s
  | .pmPmeRepeat => Sys2Proof.Machine.execPmPmeRepeat s
  | .pmeStatusClear => Sys2Proof.Machine.execPmeStatusClear s
  | .powerStateChange d3 => Sys2Proof.Machine.execPowerStateChange d3 s
  | .scSramMarchUnit ok => Sys2Proof.Machine.execScSramMarchUnit ok s

end Sys2Proof.Machine
end

