-- ==== Sys2Proof/Safety.lean ====
section
/-! DEFINITION. What holds of every state a run reaches: the terms the claims use. -/

namespace Sys2Proof.Machine

open Sys2Proof

/-- What few commands may change: the commands waiting, the mode with its record (03 R58, R84), the latched straps
(03 R71), the timebase and the frame (02 R32, R33), and the ENABLED marker with its image (04 R100). -/
structure Anchor where
  pending : List Instr
  mode : Mode
  prev : Mode
  cause : Nat
  modeFrame : Nat
  straps : Straps
  t10 : Nat
  tick : Nat
  next : Nat
  frame : Nat
  enabled : Bool
  image : List Byte
deriving DecidableEq, Repr

/-- The anchor of a state. -/
def State.anchor (s : State) : Anchor :=
  { pending := s.pending, mode := s.md.mode, prev := s.md.prev, cause := s.md.cause, modeFrame := s.md.frame, straps := s.md.straps,
    t10 := s.fr.t10, tick := s.fr.tick, next := s.fr.next, frame := s.fr.frame, enabled := s.mram.enabled, image := s.mram.image }

/-- Device time has not passed the next tick (02 R31). -/
def State.TimeOk (s : State) : Prop := s.fr.t10 ≤ s.fr.next

/-- The rows that are one host command each (06 R146): what builds the row from a ring entry, and the command. -/
def hostCommands : List ((Entry → Instr) × Op) :=
  [(.nop, .nop), (.identify, .identify), (.getMode, .getMode), (.cfgOpen, .cfgOpen), (.cfgLoad, .cfgLoad),
   (.cfgClose, .cfgClose), (.cfgReadback, .cfgReadback), (.enable, .enable), (.disable, .disable), (.restart, .restart),
   (.safeHoldEnter, .safeHoldEnter), (.safeHoldLeave, .safeHoldLeave), (.serviceEnter, .serviceEnter), (.serviceLeave, .serviceLeave), (.pointRead, .pointRead),
   (.pointWrite, .pointWrite), (.pointSubscribe, .pointSubscribe), (.pointUnsubscribe, .pointUnsubscribe), (.alarmAck, .alarmAck), (.trendRead, .trendRead),
   (.forceSet, .forceSet), (.forceClear, .forceClear), (.forceList, .forceList), (.valueChange, .valueChange), (.progStage, .progStage),
   (.handoverRequest, .handoverRequest), (.groupStatus, .groupStatus), (.captureArm, .captureArm), (.captureRead, .captureRead), (.injectStart, .injectStart),
   (.injectStop, .injectStop), (.learnControl, .learnControl), (.loopMode, .loopMode), (.stopQueueEdit, .stopQueueEdit), (.pfArm, .pfArm),
   (.testReport, .testReport), (.faultLogRead, .faultLogRead), (.calReport, .calReport), (.fwStage, .fwStage), (.fwActivate, .fwActivate),
   (.busPortCtrl, .busPortCtrl), (.nodeTableRead, .nodeTableRead), (.safetyStatus, .safetyStatus), (.safetyReset, .safetyReset)]

/-- The module reads ring entries: it is out of RESET, and READY or in the boot recovery interpreter (05 R118, 06 R144). -/
def takesEntries (s : State) : Bool := s.md.mode != .reset && (s.md.ready || s.md.recovery)

/-- What every step keeps: device time lies within the frame running (02 R31, R32), the queue of fault-log entries holds at most 64
(18 R535), and the table of the targets of the host event controller is in its canonical form. -/
def State.Inv (s : State) : Prop :=
  s.fr.tick ≤ s.fr.t10 ∧ s.fr.t10 ≤ s.fr.next ∧ s.hl.queue.length ≤ 64 ∧ Tab.wf Target.init s.hec.tgt = true

/-- The transitions of 03 R60 that take effect at a tick: the end of BOOT, and those of commands, of a check, of the claim latch,
of the degraded causes and of faults. -/
def tickModes : List (Mode × Mode) :=
  [(.boot, .unconfigured), (.boot, .configured), (.boot, .checking), (.unconfigured, .configured), (.configured, .unconfigured), (.configured, .checking), (.checking, .active), (.checking, .standby), (.checking, .lockout),
   (.checking, .configured), (.checking, .safeHold), (.standby, .handover), (.handover, .active), (.handover, .standby), (.active, .standby),
   (.degraded, .standby), (.active, .degraded), (.degraded, .active), (.unconfigured, .safeHold), (.configured, .safeHold), (.active, .safeHold),
   (.standby, .safeHold), (.handover, .safeHold), (.degraded, .safeHold), (.service, .safeHold), (.safeHold, .checking), (.safeHold, .unconfigured),
   (.standby, .checking), (.standby, .unconfigured), (.unconfigured, .service), (.safeHold, .service), (.service, .unconfigured), (.active, .lockout),
   (.standby, .lockout), (.handover, .lockout), (.degraded, .lockout), (.safeHold, .lockout), (.service, .lockout), (.lockout, .safeHold)]

/-- The commands that may take the module into RESET (03 R60, R75, 06 R154, 19 R543). -/
def resets (c : Instr) : Bool :=
  match c with
  | .resetAssert => true
  | .supplySupervisorReset => true
  | .fcSupervisoryTimeout => true
  | .fwActivateReset => true
  | _ => false

end Sys2Proof.Machine
end

