-- ==== Sys2Proof/Certificates/Slice0/Obligations.lean ====
section
/-! DEFINITION. The statements for the provers, one per behaviour of the block. -/

open Sys2Proof Sys2Proof.Machine

/-- A step carries out the command at the front of the queue with the rest of the queue; with none waiting the block idles
(the idling is the model's choice, notes/assumptions/8.md). -/
def Obligations.AStepCarriesOutTheFrontCommand : Prop :=
  (∀ (c : Instr) (r : List Instr) (s : State), step { s with pending := c :: r } = exec c { s with pending := r }) ∧
  (∀ s : State, s.pending = [] → step s = .next s)

/-- Every command of the table answers a next state, whatever the state and its operands, and leaves the commands that wait as they are: each of the
forms that does not apply in a state has the effect the spec gives it there, or none. What a command settles beside its own effect is
the fault log, the failure counts of collected tests and the rankings of the claims.
The model's own choices in it: notes/assumptions/4.md, notes/assumptions/11.md. -/
def Obligations.EveryCommandAnswersANextState : Prop :=
  (∀ (c : Instr) (s : State), ∃ t, exec c s = .next t ∧ t.pending = s.pending) ∧
  (∀ a b : State, settle a b = { b with hl := (settle a b).hl, hec := { b.hec with tgt := (settle a b).hec.tgt } } ∧
    (settle a b).hl = { b.hl with queue := (settle a b).hl.queue, dropped := (settle a b).hl.dropped, tests := (settle a b).hl.tests, event := (settle a b).hl.event } ∧
    (∀ i, test (settle a b) i = { test b i with failCount := (test (settle a b) i).failCount }) ∧
    (∀ i, 0 < i → (settle a b).hl.event.getLsbD i = b.hl.event.getLsbD i) ∧
    (∀ t, hecTgt (settle a b) t = { hecTgt b t with rank := (hecTgt (settle a b) t).rank } ∧
      ∀ x ∈ (hecTgt (settle a b) t).rank, x ∈ (hecTgt b t).rank))

/-- The state after reset is the entry into BOOT with nothing waiting, and LEAVE_RESET leads there from RESET with the straps latched and the fields at the
values of the Reset columns: frame and T10 0 with the frame period 1,000 us, the mode record 0, no target enabled in the host event controller, the
score 15, no configuration running; what MRAM holds stays (00 R14, 03 R61, R71, R84, 18 R540). -/
def Obligations.ResetLeavesTheResetColumn : Prop :=
  State.reset.pending = [] ∧ State.reset.md.mode = .boot ∧
  (∀ (p : Straps) (s : State), s.md.mode = .reset → ∃ u, exec (.leaveReset p) s = .next (settle s u) ∧
    u.md.mode = .boot ∧ u.pending = s.pending ∧ u.fr = FrameSt.init ∧ u.fr.t10 = 0 ∧ u.fr.frame = 0 ∧ u.fr.fUs = 1000 ∧ u.md.cause = 0 ∧ u.md.frame = 0 ∧
    u.md.straps = { p with unitId := p.unitId % 4 } ∧ u.hl.score = 15 ∧ u.hl.classes = 0 ∧ u.hec = HecSt.init ∧ u.hp = HostSt.init ∧ u.cfg.run = [] ∧
    u.mram.enabled = s.mram.enabled ∧ u.mram.image = s.mram.image ∧ u.mram.lockout = s.mram.lockout ∧ u.mram.log = s.mram.log)

/-- The state after reset meets the invariant (02 R31, R32, 18 R535). -/
def Obligations.TheResetStateMeetsTheInvariant : Prop := State.reset.Inv

/-- Device time stays within the frame running, the queue of the fault log within its 64 entries and the table of the targets in its canonical
form, at every step from every state that has them so (02 R31, R32, 18 R535). -/
def Obligations.EveryStepKeepsTheInvariant : Prop :=
  ∀ s t : State, s.Inv → step s = .next t → t.Inv

/-- The mode changes only by the transitions of the table: RESET by its causes alone, BOOT by leaving RESET, and every other pair of
the table at a tick, the three modes after BOOT among them; no other command changes the mode (03 R60, R61).
The model's own choices in it: notes/assumptions/25.md. -/
def Obligations.TheModeChangesByTheTableAlone : Prop :=
  ∀ (c : Instr) (s t : State), exec c s = .next t → t.md.mode ≠ s.md.mode →
    (resets c = true ∧ t.md.mode = .reset) ∨
    ((∃ p, c = .leaveReset p) ∧ s.md.mode = .reset ∧ t.md.mode = .boot) ∨
    ((∃ x, c = .tick x) ∧ (s.md.mode, t.md.mode) ∈ tickModes)

/-- Of several causes of a mode change at one tick the first of the order takes effect: an EDM fault leads to LOCKOUT with cause 0x20, then
a fault cause to SAFE_HOLD with the lowest code, then SAFE_HOLD_ENTER with cause 0x01, then the loss of the claim latch to STANDBY, then the entry
into DEGRADED or its exit, then the rest; the mode before, the frame and the cause are recorded (03 R60, R62, R82-R84).
The model's own choices in it: notes/assumptions/24.md, notes/assumptions/26.md. -/
def Obligations.CausesOfAModeChangeHaveAnOrder : Prop :=
  ∀ s : State, s.md.mode ≠ .reset → s.md.mode ≠ .boot →
    let m := s.md.mode
    let u := selectMode s
    let edm := s.md.pendEdm = true ∧ edmMode m = true
    let fault := if faultMode m then faultCause s else none
    let hold := dueMode (clearPend s) (fun o => decide (o = .safeHoldEnter))
    let lost := m.driven = true ∧ claimLost (clearPend s) = true
    let recorded := u.md.prev = m ∧ u.md.frame = s.fr.frame
    (edm → u.md.mode = .lockout ∧ u.md.cause = 0x20 ∧ recorded) ∧
    (∀ f, ¬ edm → fault = some f → u.md.mode = .safeHold ∧ u.md.cause = f ∧ recorded) ∧
    (∀ c, ¬ edm → fault = none → hold = some c → u.md.mode = .safeHold ∧ u.md.cause = 0x01 ∧ recorded) ∧
    (¬ edm → fault = none → hold = none → lost → u.md.mode = .standby ∧ recorded) ∧
    (¬ edm → fault = none → hold = none → ¬ lost → m = .active → degCause (clearPend s) = true → u.md.mode = .degraded ∧ recorded) ∧
    (¬ edm → fault = none → hold = none → ¬ lost → m = .degraded → degCause (clearPend s) = false → u.md.mode = .active ∧ recorded)

/-- The host's writes to the event controller. HEC_SETEN or HEC_CLREN word w sets, or clears, the enables of the shared
sources 32w + b whose bit b is 1; sources 0-15 have none here. On the page of a target, HEC_SETPEND and HEC_CLRPEND act on
the SOFT latches of bits 4-7, HEC_PSETEN and HEC_PCLREN on the private enables of bits 1-7, HEC_SLEEP takes bit 0; a
target that does not exist drops them. HEC_STACK_RESET empties the stack and closes the window of every target whose bit
is 1. Nothing else changes (07 R155, R157, R163, R165, R169, R170). -/
def Obligations.HecWritesActOnEnablesAndTargets : Prop :=
  (∀ (w : Fin 8) (v : Word) (s : State), hostUp s = true →
      exec (.hecSeten w v) s = .next (settle s { s with hec := { s.hec with
        en := ofBits 256 fun n => s.hec.en.getLsbD n || (decide (16 ≤ n) && decide (n / 32 = w.val) && v.getLsbD (n % 32)) } }) ∧
      exec (.hecClren w v) s = .next (settle s { s with hec := { s.hec with
        en := ofBits 256 fun n => s.hec.en.getLsbD n && !(decide (16 ≤ n) && decide (n / 32 = w.val) && v.getLsbD (n % 32)) } })) ∧
  (∀ (t : Fin 8) (v : Word) (s : State), hostUp s = true →
      (tgtExists s t = true →
        exec (.hecSetpend t v) s = .next (settle s (updTgt s t fun T =>
          { T with soft := ofBits 8 fun i => T.soft.getLsbD i || (decide (4 ≤ i) && v.getLsbD i) })) ∧
        exec (.hecClrpend t v) s = .next (settle s (updTgt s t fun T =>
          { T with soft := ofBits 8 fun i => T.soft.getLsbD i && !(decide (4 ≤ i) && v.getLsbD i) })) ∧
        exec (.hecPseten t v) s = .next (settle s (updTgt s t fun T =>
          { T with pen := ofBits 8 fun i => T.pen.getLsbD i || (decide (1 ≤ i) && v.getLsbD i) })) ∧
        exec (.hecPclren t v) s = .next (settle s (updTgt s t fun T =>
          { T with pen := ofBits 8 fun i => T.pen.getLsbD i && !(decide (1 ≤ i) && v.getLsbD i) })) ∧
        exec (.hecSleepWrite t v) s = .next (settle s (updTgt s t fun T => { T with sleep := v.getLsbD 0 }))) ∧
      (tgtExists s t = false →
        ∀ c ∈ [Instr.hecSetpend t v, .hecClrpend t v, .hecPseten t v, .hecPclren t v, .hecSleepWrite t v],
          exec c s = .next (settle s s))) ∧
  (∀ (v : Word) (s : State), hostUp s = true →
      ∃ u, exec (.hecStackReset v) s = .next (settle s u) ∧ u = { s with hec := { s.hec with tgt := u.hec.tgt } } ∧
        ∀ t, hecTgt u t =
          if t < 8 ∧ v.getLsbD t = true ∧ tgtExists s t = true then { hecTgt s t with stack := [], window := none }
          else hecTgt s t)

/-- A claim takes the winner of the latest arbitration where nothing of it has changed since and its priority exceeds that of the entry
it would stand on; past it, the first source of that arbitration's order that is still deliverable at the priority it had. It pushes
the source with that priority and writes HEC_CLAIMED with it and the next SEQ; with none it writes 0 and 0 and pushes nothing; a
write with bit 0 clear does nothing. The ranking that a claim goes through holds no source that has changed (07 R161).
HEC_COMPLETE with the source of the top entry pops it, and opens a moderation window of HEC_MOD microseconds unless the
stack is then empty or HEC_MOD is 0; with another number, or on an empty stack, the stack stays, HEC_FAULT is
written and ORDER_FAULT set (07 R162, R164). -/
def Obligations.ClaimPushesTheBestAndCompletePopsIt : Prop :=
  (∀ (t : Fin 8) (v : Word) (s : State), hostUp s = true → tgtExists s t = true →
      let passed := fun (x : Nat × Nat) =>
        if x.1 = (hecTgt s t).best then x.2 ≤ topPrio (hecTgt s t) else deliverPrio s t x.1 ≠ x.2
      (v.getLsbD 0 = true →
        (∀ (a b : List (Nat × Nat)) (n p : Nat), (hecTgt s t).rank = a ++ (n, p) :: b →
          (∀ x ∈ a, passed x) → ¬ passed (n, p) →
          exec (.hecClaim t v) s = .next (settle s (updTgt s t fun T =>
            { T with claimedSrc := n, claimedPrio := p, seq := (T.seq + 1) % 65536, stack := T.stack ++ [(n, p)] }))) ∧
        ((∀ x ∈ (hecTgt s t).rank, passed x) →
          exec (.hecClaim t v) s = .next (settle s (updTgt s t fun T =>
            { T with claimedSrc := 0, claimedPrio := 0, seq := (T.seq + 1) % 65536 })))) ∧
      (v.getLsbD 0 = false → exec (.hecClaim t v) s = .next (settle s s))) ∧
  (∀ (t : Fin 8) (dt : Nat) (v : Word) (s : State), hostUp s = true → tgtExists s t = true →
      (∀ (l : List (Nat × Nat)) (p : Nat), (hecTgt s t).stack = l ++ [(v.toNat % 256, p)] →
        exec (.hecComplete t dt v) s = .next (settle s (updTgt (advance s dt) t fun T =>
          { T with
            stack := l
            window := if l = [] ∨ T.modUs = 0 then none else some ((advance s dt).fr.t10 + 100 * T.modUs) }))) ∧
      ((∀ (l : List (Nat × Nat)) (p : Nat), (hecTgt s t).stack ≠ l ++ [(v.toNat % 256, p)]) →
        let u := updTgt (advance s dt) t fun T =>
          { T with
            faultWritten := v.toNat % 256
            faultTop := (T.stack.getLast?.map (·.1)).getD 0
            faultCount := if T.faultCount < 65535 then T.faultCount + 1 else 65535 }
        exec (.hecComplete t dt v) s = .next (settle s { u with hec := { u.hec with
          order := ofBits 8 fun i => u.hec.order.getLsbD i || decide (i = t.val) } })))

/-- An arbitration, at the next T10 count that is a multiple of 10, makes the request line of every target that exists active
exactly where some source is deliverable, and its winner the deliverable source of the highest priority, the lowest
number among equals. There is one for each such count; past the next tick, and in RESET, there is none (07 R159, R160).
The end of a moderation window closes it, where it comes before the next tick; with none open nothing happens (07 R164).
The model's own choices in it: notes/assumptions/5.md. -/
def Obligations.ArbitrationPicksTheHighestPriority : Prop :=
  (∀ (s : State),
      let c := (s.fr.t10 / 10 + 1) * 10
      (s.md.mode = .reset ∨ s.fr.next < c ∨ s.hec.lastArb = c → exec .hecArbitration s = .next (settle s s)) ∧
      (s.md.mode ≠ .reset → c ≤ s.fr.next → s.hec.lastArb ≠ c →
      ∃ u, exec .hecArbitration s = .next (settle s u) ∧
        u = { s with
              hec := { s.hec with tgt := u.hec.tgt, lastArb := c }
              hp := { s.hp with pba := u.hp.pba, sent := u.hp.sent }
              fr := (advanceTo s c).fr } ∧
        ∀ t < 8, tgtExists s t = true →
          let T := hecTgt u t
          T = { hecTgt s t with rank := T.rank, best := T.best, bestPrio := T.bestPrio, req := T.req } ∧
          (T.req = true ↔ ∃ n < 256, deliverPrio s t n ≠ 0) ∧
          (T.req = true → T.best < 256 ∧ deliverPrio s t T.best = T.bestPrio ∧
            ∀ n < 256, deliverPrio s t n < T.bestPrio ∨ (deliverPrio s t n = T.bestPrio ∧ T.best ≤ n)) ∧
          (T.req = false → T.best = 0 ∧ T.bestPrio = 0))) ∧
  (∀ (t : Fin 8) (s : State),
      (∀ e, (hecTgt s t).window = some e → s.fr.t10 < e → s.fr.next ≤ e → exec (.moderationWindowEnd t) s = .next (settle s s)) ∧
      (∀ e, (hecTgt s t).window = some e → e ≤ s.fr.t10 ∨ e < s.fr.next →
        exec (.moderationWindowEnd t) s = .next (settle s (updTgt (advanceTo s e) t fun T => { T with window := none }))) ∧
      ((hecTgt s t).window = none → exec (.moderationWindowEnd t) s = .next (settle s s)))

/-- Sillage drives WAKE# when a target sleeps with a source of its wake set pending, sets WAKE_SEEN and, with PCI Express,
PME_Status with one PM_PME when PME_En is 1; WAKE# is released when no such condition stands; the host's write of
PME_En, its clearing of PME_Status and the repeat of the message act as the PCI Express Base Specification gives
(07 R166). -/
def Obligations.SillageWakesTheHost : Prop :=
  ∀ (s : State) (b : Bool),
    (s.md.mode ≠ .reset → s.hec.wake = false → anyWake s = true →
      let u : State := { s with hec := { s.hec with wake := true, wakeSeen := true } }
      (s.md.straps.hostsel = true ∨ s.hp.pmeStatus = true → exec .sillageWake s = .next (settle s u)) ∧
      (s.md.straps.hostsel = false → s.hp.pmeStatus = false → exec .sillageWake s = .next (settle s { u with
        hp := { s.hp with pmeStatus := true, pmeSent := if s.hp.pmeEn = true then s.hp.pmeSent + 1 else s.hp.pmeSent } }))) ∧
    (s.hec.wake = true ∨ anyWake s = false → exec .sillageWake s = .next (settle s s)) ∧
    (anyWake s = false → exec .wakeRelease s = .next (settle s { s with hec := { s.hec with wake := false } })) ∧
    (anyWake s = true → exec .wakeRelease s = .next (settle s s)) ∧
    (s.md.straps.hostsel = false → exec (.pmeEnWrite b) s = .next (settle s { s with hp := { s.hp with
      pmeEn := b
      pmeSent := if b = true ∧ s.hp.pmeEn = false ∧ s.hp.pmeStatus = true then s.hp.pmeSent + 1 else s.hp.pmeSent } })) ∧
    (s.md.straps.hostsel = false → exec .pmPmeRepeat s = .next (settle s { s with hp := { s.hp with
      pmeSent := if s.hp.pmeStatus = true ∧ s.hp.pmeEn = true then s.hp.pmeSent + 1 else s.hp.pmeSent } })) ∧
    exec .pmeStatusClear s = .next (settle s { s with hp := { s.hp with pmeStatus := false } })

/-- What unmasking does to a vector with its pending bit set: the bit clears, and the message goes out when the request of
the target is still active. While MSI-X Enable is 0 no pending bit stands (05 R111).
The model's own choices in it: notes/assumptions/134.md. -/
def Obligations.MsixUnmaskSendsWhatIsPending : Prop :=
  ∀ (t : Fin 8) (s : State) (en fm : Bool), s.md.straps.hostsel = false →
    (hostUp s = true → s.hp.msixEn = true → s.hp.msixFm = false → s.hp.pba.getLsbD t = true →
      exec (.msixUnmask t) s = .next (settle s { s with hp := { s.hp with
        msix := Tab.set s.hp.msix 1 (4 * t + 3) 0
        pba := bclr s.hp.pba t
        sent := if (hecTgt s t).req = true then Tab.upd s.hp.sent 0 t (· + 1) else s.hp.sent } })) ∧
    (hostUp s = true → s.hp.msixEn = false ∨ s.hp.msixFm = true ∨ s.hp.pba.getLsbD t = false →
      exec (.msixUnmask t) s = .next (settle s { s with hp := { s.hp with msix := Tab.set s.hp.msix 1 (4 * t + 3) 0 } })) ∧
    (∃ u, exec (.msixEnableChange en fm) s = .next (settle s u) ∧
      u = { s with hp := { s.hp with msixEn := en, msixFm := fm, pba := u.hp.pba, sent := u.hp.sent } } ∧
      (en = false → u.hp.pba = 0 ∧ u.hp.sent = s.hp.sent) ∧
      (en = true → s.hp.msixEn = false ∨ s.hp.msixFm = false ∨ fm = true → u.hp.pba = s.hp.pba ∧ u.hp.sent = s.hp.sent) ∧
      (s.hp.msixEn = true → s.hp.msixFm = true → en = true → fm = false → ∀ k < 8,
        let own := s.hp.pba.getLsbD k && !(msixWord s (4 * k + 3)).getLsbD 0
        u.hp.pba.getLsbD k = (s.hp.pba.getLsbD k && !own) ∧
        Tab.get u.hp.sent 0 k = if own && (hecTgt s k).req then Tab.get s.hp.sent 0 k + 1 else Tab.get s.hp.sent 0 k))

/-- A ring entry of a host command whose slot is not EMPTY is not carried out and is recorded as TAG_IN_USE; else the tests of
R139 run in the order of its table and the first that fails gives the answer, written into the READY slot at
once; an opcode that is not defined is answered BAD_OPCODE (06 R137, R139). -/
def Obligations.PacketsAreTestedInTheOrderOfTheTable : Prop :=
  ∀ (e : Entry) (s : State), takesEntries s = true →
    let c := cutEntry e
    (∀ x ∈ hostCommands,
      ((slotAt s (c.tag % 256)).st ≠ 0 → exec (x.1 e) s = .next (settle s { s with hp := { s.hp with
        cmdError := BitVec.ofNat 32 (c.tag + 65536 * c.ring + 67108864 * 1 + 536870912 * c.target)
        cmdErrCount := satInc32 s.hp.cmdErrCount
        event := bset s.hp.event 0 } })) ∧
      ((slotAt s (c.tag % 256)).st = 0 → ∀ a, acceptSteps (takeSlot s c.tag 0) x.2 c = some a →
        exec (x.1 e) s = .next (settle s (answerSlot s c.tag c.target a)))) ∧
    (∀ opc, (∀ o ∈ allOps, o.code ≠ opc % 65536) → (slotAt s (c.tag % 256)).st = 0 →
      exec (.badOpcode opc e) s = .next (settle s (answerSlot s c.tag c.target { status := 0x10, detail := 0, data := [] }))) ∧
    (∀ (u : State) (op : Op) (d : Entry), acceptSteps u op d =
      [lengthStep u op d, rangeStep u op d, modeStep u op (params u d), refStep u op (params u d) (usesSeg d),
       segStep u (segsOf u op d), busyStep u op (params u d), refuseStep u op (params u d) (usesSeg d)].findSome? id)

/-- NOP, IDENTIFY, GET_MODE, GROUP_STATUS and SAFETY_STATUS without parameters, in a mode that permits them, answer DONE with
their data in a READY slot and change nothing else; FW_ACTIVATE on a complete set makes the boot record name the staged
bank, on trial with two starts, and schedules an internal reset for ACTION 1 (06 R140, R147, R151, R152, R154).
The model's own choices in it: notes/assumptions/2.md. -/
def Obligations.InstantCommandsAnswerAtOnce : Prop :=
  ∀ (e : Entry) (s : State), takesEntries s = true → cutEntry e = e → (slotAt s (e.tag % 256)).st = 0 →
    (∀ c ∈ s.cm.cmds, c.tag ≠ e.tag) → e.flags = 0 → e.rsv = 0 →
    (e.length = 0 → e.par = zeros 56 →
      ∀ x ∈ ([(Instr.nop, Op.nop, []), (.identify, .identify, identifyData s), (.getMode, .getMode, getModeData s),
              (.groupStatus, .groupStatus, groupStatusData s), (.safetyStatus, .safetyStatus, safetyStatusData s)] :
              List ((Entry → Instr) × Op × List Byte)),
        permits x.2.1 s.md.mode s.md.recovery = true →
        exec (x.1 e) s = .next (settle s (answerSlot s e.tag e.target { status := 0, detail := 0, data := x.2.2 }))) ∧
    (∀ action : Byte, action.toNat ≤ 1 → e.length = 8 → e.par = action :: zeros 55 → s.cm.fwDone = true →
      permits .fwActivate s.md.mode s.md.recovery = true → (∀ c ∈ s.cm.cmds, c.op.isMode = false) →
      exec (.fwActivate e) s = .next (settle s { answerSlot s e.tag e.target
          { status := 0, detail := 0, data := leBytes 1 (b2n (stageBank s)) } with
        mram := { s.mram with bank := stageBank s, trial := true, trialLeft := 2 }
        md := { s.md with fwReset := s.md.fwReset || decide (action.toNat = 1) } }))

/-- A command that takes effect at a tick, waits for its copy or goes on as a long command joins the commands in progress, in
acceptance order, with its slot PENDING and, for a long command, ACCEPTED in STATUS; CFG_OPEN opens an empty staging
area (06 R135, R139, R140, 04 R90). -/
def Obligations.AcceptedCommandsJoinTheQueue : Prop :=
  ∀ (e : Entry) (s : State), takesEntries s = true → (slotAt s ((cutEntry e).tag % 256)).st = 0 →
    let c := cutEntry e
    let joined := fun (op : Op) (st : Nat) => { s with cm := { s.cm with
      slots := Tab.set s.cm.slots Slot.empty (c.tag % 256) { Slot.empty with tag := c.tag, st := 1, status := st }
      cmds := s.cm.cmds ++ [acceptedCmd (takeSlot s c.tag 0) op c (startPhase op)] } }
    (∀ x ∈ hostCommands, x.2.kind = .t → x.2 ≠ .cfgOpen → x.2 ≠ .cfgClose →
      acceptSteps (takeSlot s c.tag 0) x.2 c = none → exec (x.1 e) s = .next (settle s (joined x.2 0))) ∧
    (∀ x ∈ hostCommands, x.2.kind = .c →
      acceptSteps (takeSlot s c.tag 0) x.2 c = none → exec (x.1 e) s = .next (settle s (joined x.2 0))) ∧
    (∀ x ∈ hostCommands, x.2.kind = .l → x.2 ≠ .progStage →
      acceptSteps (takeSlot s c.tag 0) x.2 c = none → exec (x.1 e) s = .next (settle s (joined x.2 1))) ∧
    (acceptSteps (takeSlot s c.tag 0) .cfgOpen c = none →
      exec (.cfgOpen e) s = .next (settle s { joined .cfgOpen 0 with cfg := { s.cfg with stg := 1, bytes := [] } }))

/-- CFG_CLOSE and PROG_STAGE run the syntax checks on the staged bytes at acceptance: an image that passes lets CFG_CLOSE wait
for its tick and starts the check of PROG_STAGE on the closed area; one that fails discards the staging area and is
answered BAD_PARAM with the reason (04 R92, R102, 06 R147, R151). -/
def Obligations.StagedImagesAreCheckedForSyntax : Prop :=
  ∀ (e : Entry) (s : State), takesEntries s = true → (slotAt s ((cutEntry e).tag % 256)).st = 0 →
    let c := cutEntry e
    let r := syntaxCheck s.cfg.bytes
    let slot := fun (st : Nat) => Tab.set s.cm.slots Slot.empty (c.tag % 256) { Slot.empty with tag := c.tag, st := 1, status := st }
    let cmd := fun (op : Op) => acceptedCmd (takeSlot s c.tag 0) op c (startPhase op)
    (acceptSteps (takeSlot s c.tag 0) .cfgClose c = none → r.reason = 0 →
      exec (.cfgClose e) s = .next (settle s { s with cm := { s.cm with slots := slot 0, cmds := s.cm.cmds ++ [cmd .cfgClose] } })) ∧
    (acceptSteps (takeSlot s c.tag 0) .progStage c = none → r.reason = 0 →
      exec (.progStage e) s = .next (settle s { s with
        cm := { s.cm with slots := slot 1, cmds := s.cm.cmds ++ [cmd .progStage] }
        cfg := { s.cfg with stg := 2, staged := none, running := true, cur := .progStage, img := s.cfg.bytes, cold := false, done := none } })) ∧
    (∀ x ∈ ([(Instr.cfgClose, Op.cfgClose), (.progStage, .progStage)] : List ((Entry → Instr) × Op)),
      acceptSteps (takeSlot s c.tag 0) x.2 c = none → r.reason ≠ 0 → usesSeg c = false → (∀ d ∈ s.cm.cmds, d.tag ≠ c.tag) →
      exec (x.1 e) s = .next (settle s { answerSlot s c.tag c.target
          { status := 0x12, detail := r.reason, data := checkData { r with stage := 0 } 0 0 } with
        cfg := { s.cfg with stg := 0, bytes := [] } }))

/-- An access from the host while the module is in RESET, or with PCI Express while the endpoint is in D3hot, is an unsupported
request and changes nothing (05 R109). -/
def Obligations.UnsupportedRequestsChangeNothing : Prop :=
  ∀ (s : State) (t w8 : Fin 8) (w2 : Fin 2) (seg : Fin 1024) (dt a n : Nat) (v : Word) (bs : List (Option Byte)) (ws : List Word) (cut : Bool),
    s.md.mode = .reset ∨ (s.md.straps.hostsel = false ∧ s.hp.d3 = true) →
    ∀ c ∈ [Instr.hifDoorbell t v, .hifRelease v, .winDirectoryWrite seg v, .bar2Write a bs, .winReclaim v, .diagTimeSnap dt v,
           .phasePeakClear dt v, .hecClaim t v, .hecComplete t dt v, .hecStackReset v, .hecSetpend t v, .hecClrpend t v, .hecSeten w8 v,
           .hecClren w8 v, .hecPseten t v, .hecPclren t v, .hecSleepWrite t v, .diagDoLatchedRelease w2 v, .diagDoGroupAck v,
           .complianceClear v, .mismatchClear v, .aiConverterRestore w2 v, .aoSarRestore w2 v, .diagPfSnap v, .diagStageSnap v,
           .diagProfileSnap v, .diagTaskPeakClr v, .diagGroupCapClr v, .registerWrite dt a bs, .qspiRead a n cut, .qspiWrite dt a ws cut,
           .qspiReadId, .qspiBadTransaction, .msixUnmask t],
      exec c s = .next (settle s s)

/-- A doorbell of target t with value v is accepted when the advance (v - TAIL) mod 1024 is at least 1 and at most
1023 - ((TAIL - HEAD) mod 1024): TAIL becomes v and t the requesting target of the entries from the old TAIL up to v - 1;
another value raises CMD_ERROR with DOORBELL_RANGE, one with bits 31-10 set with DOORBELL_RESERVED. Reading the entry at HEAD
advances HEAD, acknowledges every doorbell whose tail it reaches, and decides the entry as the row of its command does
(05 R118, R119). -/
def Obligations.DoorbellsAndTheRing : Prop :=
  (∀ (t : Fin 8) (v : Word) (s : State), hostUp s = true →
    let n := v.toNat % 1024
    let adv := (n + 1024 - s.hp.tail.val) % 1024
    let fails := fun (cause : Nat) => { s with hp := { s.hp with
      cmdError := BitVec.ofNat 32 (65536 * n + 67108864 * cause + 536870912 * t.val)
      cmdErrCount := satInc32 s.hp.cmdErrCount
      event := bset s.hp.event 0 } }
    (v.toNat < 1024 → 1 ≤ adv → adv ≤ 1023 - (s.hp.tail.val + 1024 - s.hp.head.val) % 1024 →
      ∃ u, exec (.hifDoorbell t v) s = .next (settle s u) ∧
        u = { s with hp := { s.hp with tail := Fin.ofNat 1024 v.toNat, bells := s.hp.bells ++ [(t.val, n)], reqTgt := u.hp.reqTgt } } ∧
        (∀ i < 1024,
          Tab.get u.hp.reqTgt 0 i = if (i + 1024 - s.hp.tail.val) % 1024 < adv then t.val else Tab.get s.hp.reqTgt 0 i)) ∧
    (v.toNat < 1024 → adv = 0 ∨ 1023 - (s.hp.tail.val + 1024 - s.hp.head.val) % 1024 < adv →
      exec (.hifDoorbell t v) s = .next (settle s (fails 2))) ∧
    (1024 ≤ v.toNat → exec (.hifDoorbell t v) s = .next (settle s (fails 3)))) ∧
  (∀ (s : State), takesEntries s = true → s.hp.head ≠ s.hp.tail →
    let b := winBytes s (64 * s.hp.head.val) 64
    let e : Entry := { target := Tab.get s.hp.reqTgt 0 s.hp.head.val, ring := s.hp.head.val, tag := u16 b 2, length := u16 b 4, flags := u8 b 6,
                       rsv := u8 b 7, par := b.drop 8 }
    let h := (s.hp.head + 1).val
    ∃ r u, exec .ringEntryRead s = .next (settle s u) ∧
      r = { s with hp := { s.hp with head := s.hp.head + 1, bells := s.hp.bells.filter (fun x => decide (x.2 ≠ h)), tgt := r.hp.tgt } } ∧
      (∀ x ∈ s.hp.bells, x.2 = h → (tgtStatus r x.1).getLsbD 1 = true) ∧
      (∀ x ∈ hostCommands, x.2.code = u16 b 0 → exec (x.1 e) r = .next (settle r u)) ∧
      ((∀ o ∈ allOps, o.code ≠ u16 b 0 % 65536) → exec (.badOpcode (u16 b 0) e) r = .next (settle r u)))

/-- A write of a TAG to HIF_RELEASE empties slot TAG & 0xFF when that slot is READY and holds the same TAG; any other write to
it has no effect (06 R136). -/
def Obligations.ReleaseEmptiesTheReadySlot : Prop :=
  ∀ (v : Word) (s : State), hostUp s = true →
    let tag := v.toNat % 65536
    ((slotAt s (tag % 256)).st = 2 ∧ (slotAt s (tag % 256)).tag = tag →
      exec (.hifRelease v) s = .next (settle s { s with cm := { s.cm with slots := Tab.set s.cm.slots Slot.empty (tag % 256) Slot.empty } })) ∧
    (¬ ((slotAt s (tag % 256)).st = 2 ∧ (slotAt s (tag % 256)).tag = tag) → exec (.hifRelease v) s = .next (settle s s)) ∧
    slotBytes Slot.empty = zeros 64

/-- A host write to the directory word of a host-owned segment other than 0 and 1 changes KIND alone, or with OWNER = 1 hands the
segment to the module and increments GEN; one to a device-owned segment, or to segment 0 or 1, is ignored, counted,
recorded with DIR = 1 and raises WIN_VIOLATION. WIN_RECLAIM with bit 0 set waits for the tick with its return target
(05 R124, R128). -/
def Obligations.DirectoryWritesFollowTheOwner : Prop :=
  ∀ (seg : Fin 1024) (v : Word) (s : State), hostUp s = true →
    (2 ≤ seg.val → (dirOf s seg).dev = false → v.getLsbD 31 = false →
      exec (.winDirectoryWrite seg v) s = .next (settle s { s with hp := { s.hp with
        dir := Tab.set s.hp.dir Dir.init seg { dirOf s seg with kind := bits v.toNat 24 7 } } })) ∧
    (2 ≤ seg.val → (dirOf s seg).dev = false → v.getLsbD 31 = true →
      exec (.winDirectoryWrite seg v) s = .next (settle s { s with hp := { s.hp with
        dir := Tab.set s.hp.dir Dir.init seg { dev := true, kind := bits v.toNat 24 7, gen := ((dirOf s seg).gen + 1) % 65536 } } })) ∧
    (seg.val < 2 ∨ (dirOf s seg).dev = true →
      exec (.winDirectoryWrite seg v) s = .next (settle s { s with hp := { s.hp with
        viol := satInc32 s.hp.viol
        violLast := BitVec.ofNat 32 (65536 * seg.val + 67108864)
        event := bset s.hp.event 1 } })) ∧
    (v.getLsbD 0 = true → exec (.winReclaim v) s = .next (settle s { s with hp := { s.hp with reclaim := some (bits v.toNat 1 3) } })) ∧
    (v.getLsbD 0 = false → exec (.winReclaim v) s = .next (settle s s))

/-- A write into the window writes its bytes in host-owned segments and drops its bytes in device-owned segments; every other
byte of the window reads as before. A request with dropped bytes counts once in WIN_VIOL, records its lowest dropped byte and
raises WIN_VIOLATION (05 R123).
The model's own choices in it: notes/assumptions/6.md. -/
def Obligations.WindowWritesReachHostOwnedSegments : Prop :=
  ∀ (a : Nat) (data : List (Option Byte)) (s : State), hostUp s = true → s.md.ready = true →
    ∃ u, exec (.bar2Write a data) s = .next (settle s u) ∧
      u = { s with hp := { s.hp with
            win := u.hp.win, share := s.hp.share + (data.filter Option.isSome).length, viol := u.hp.viol, violLast := u.hp.violLast, event := u.hp.event } } ∧
      (Tab.wf 0 s.hp.win = true → Tab.wf 0 u.hp.win = true) ∧
      (∀ k, Tab.get u.hp.win 0 k =
        if a ≤ k ∧ (dirOf s (k / 65536)).dev = false then (data.getD (k - a) none).getD (Tab.get s.hp.win 0 k) else Tab.get s.hp.win 0 k) ∧
      (∀ k, (data.getD k none).isSome = true → (dirOf s ((a + k) / 65536)).dev = true →
        (∀ j < k, (data.getD j none).isSome = true → (dirOf s ((a + j) / 65536)).dev = false) →
        u.hp.viol = satInc32 s.hp.viol ∧ u.hp.event = bset s.hp.event 1 ∧
        u.hp.violLast = BitVec.ofNat 32 ((a + k) % 65536 + 65536 * ((a + k) / 65536))) ∧
      ((∀ k, (data.getD k none).isSome = true → (dirOf s ((a + k) / 65536)).dev = false) →
        u.hp.viol = s.hp.viol ∧ u.hp.event = s.hp.event ∧ u.hp.violLast = s.hp.violLast)

/-- A register write of whole aligned words writes them in ascending order; any other request is dropped whole and counts once in
HIF_ACCESS_ERR. HIF_SCRATCH keeps the word written, and a write of ones clears the bits of HIF_EVENT_STATUS, DIAG_FRAME_STATUS
and DIAG_MODE_STATUS whose access is W1C (00 R11, 05 R108, R118, 02 R57, 03 R84).
The model's own choices in it: notes/assumptions/5.md. -/
def Obligations.RegisterWritesNeedWholeWords : Prop :=
  ∀ (dt off : Nat) (data : List (Option Byte)) (v : Word) (s : State), hostUp s = true →
    let word := (leBytes 4 v.toNat).map some
    let a := advance s dt
    (off % 4 ≠ 0 ∨ data.length % 4 ≠ 0 ∨ none ∈ data →
      exec (.registerWrite dt off data) s = .next (settle s { a with hp := { s.hp with accessErr := satInc32 s.hp.accessErr } })) ∧
    (∀ (ws : List Word) (z : State), off % 4 = 0 → exec (.registerWrite dt off (ws.flatMap fun w => (leBytes 4 w.toNat).map some)) s = .next z →
      z = settle s ((ws.zipIdx).foldl (fun u x => barWrite u (off + 4 * x.2) x.1) a)) ∧
    exec (.registerWrite dt 0x000C word) s = .next (settle s { a with hp := { s.hp with scratch := v } }) ∧
    exec (.registerWrite dt 0x0024 word) s = .next (settle s { a with hp := { s.hp with event := s.hp.event &&& ~~~ v.setWidth 2 } }) ∧
    exec (.registerWrite dt 0x4018 word) s = .next (settle s { a with fr := { a.fr with
      status := s.fr.status &&& ~~~ (v &&& 0x2B5#32) } }) ∧
    exec (.registerWrite dt 0x4044 word) s = .next (settle s { a with md := { s.md with status := s.md.status &&& ~~~ v.setWidth 6 } })

/-- The rows that write one register are the whole-word write of that register: the two commands have one outcome in every state
(05 R108, R116, R117). -/
def Obligations.RegisterRowsAreWritesOfTheirRegister : Prop :=
  ∀ (s : State) (v : Word) (dt : Nat) (t : Fin 8) (w : Fin 2) (n : Fin 1024), hostUp s = true →
    let reg := fun (dt off : Nat) => exec (.registerWrite dt off ((leBytes 4 v.toNat).map some)) s
    reg 0 0x0018 = exec (.hifRelease v) s ∧ reg 0 (0x0040 + 4 * t) = exec (.hifDoorbell t v) s ∧
    reg 0 0x0808 = exec (.winReclaim v) s ∧ reg 0 (0x1000 + 4 * n) = exec (.winDirectoryWrite n v) s ∧
    reg 0 0x2004 = exec (.hecStackReset v) s ∧ reg 0 (0x2040 + 4 * t) = exec (.hecSeten t v) s ∧
    reg 0 (0x2060 + 4 * t) = exec (.hecClren t v) s ∧ reg 0 (0x3000 + 256 * t) = exec (.hecClaim t v) s ∧
    reg dt (0x3008 + 256 * t) = exec (.hecComplete t dt v) s ∧ reg 0 (0x3014 + 256 * t) = exec (.hecSleepWrite t v) s ∧
    reg 0 (0x3028 + 256 * t) = exec (.hecSetpend t v) s ∧ reg 0 (0x302C + 256 * t) = exec (.hecClrpend t v) s ∧
    reg 0 (0x3034 + 256 * t) = exec (.hecPseten t v) s ∧ reg 0 (0x3038 + 256 * t) = exec (.hecPclren t v) s ∧
    reg dt 0x4000 = exec (.diagTimeSnap dt v) s ∧ reg dt 0x4000 = exec (.phasePeakClear dt v) s ∧
    reg 0 (0x4138 + 4 * w) = exec (.diagDoLatchedRelease w v) s ∧ reg 0 0x4154 = exec (.diagDoGroupAck v) s ∧
    reg 0 0x4314 = exec (.complianceClear v) s ∧ reg 0 0x4318 = exec (.mismatchClear v) s ∧
    reg 0 (0x4330 + 4 * w) = exec (.aiConverterRestore w v) s ∧ reg 0 (0x4338 + 4 * w) = exec (.aoSarRestore w v) s ∧
    reg 0 0x4514 = exec (.diagPfSnap v) s ∧ reg 0 0x4734 = exec (.diagStageSnap v) s ∧
    reg 0 0x48C0 = exec (.diagProfileSnap v) s ∧ reg 0 0x4930 = exec (.diagTaskPeakClr v) s ∧
    reg 0 0x5134 = exec (.diagGroupCapClr v) s ∧
    (s.md.straps.hostsel = false → v = 0 → reg 0 (0x800C + 16 * t) = exec (.msixUnmask t) s)

/-- DIAG_TIME_SNAP copies T10 and FRAME_NO when bit 0 is written 1 and clears DIAG_PHASE_PEAK when bit 1 is; nothing else changes
(02 R57).
The model's own choices in it: notes/assumptions/5.md. -/
def Obligations.TimeSnapshotCopiesTheTimebase : Prop :=
  ∀ (dt : Nat) (v : Word) (s : State), hostUp s = true →
    let a := advance s dt
    ∀ c ∈ [Instr.diagTimeSnap dt v, .phasePeakClear dt v],
      exec c s = .next (settle s { a with fr := { a.fr with
        snapT10 := if v.getLsbD 0 = true then a.fr.t10 else s.fr.snapT10
        snapFrame := if v.getLsbD 0 = true then s.fr.frame else s.fr.snapFrame
        peak := if v.getLsbD 1 = true then 0 else s.fr.peak } })

/-- In Quad-SPI mode READ returns the words from the address upward, those of BAR0 and of the window, and 0 elsewhere, WRITE
writes them, READ_ID returns HIF_ID; an unaligned address, a bad transaction and a word cut short each count once in
HIF_ACCESS_ERR (05 R112, R113). -/
def Obligations.QuadSpiReachesTheSameRegisters : Prop :=
  ∀ (dt a n : Nat) (data : List Word) (cut : Bool) (s : State), hostUp s = true → s.md.straps.hostsel = true →
    let err := fun (k : Nat) => if cut = true then satInc32 k else k
    (a % 4 = 0 → exec (.qspiRead a n cut) s = .next (settle s { s with hp := { s.hp with
      qspi := (List.range n).map fun i =>
        let x := a + 4 * i
        if x < 0x10000 then barRead s x
        else if 0x04000000 ≤ x ∧ x < 0x08000000 then BitVec.ofNat 32 (leAt (winBytes s (x - 0x04000000) 4) 0 4) else 0
      share := s.hp.share + 4 * ((List.range n).filter fun i => decide (0x04000000 ≤ a + 4 * i ∧ a + 4 * i < 0x08000000)).length
      accessErr := err s.hp.accessErr } })) ∧
    (a % 4 ≠ 0 → exec (.qspiRead a n cut) s = .next (settle s { s with hp := { s.hp with accessErr := satInc32 s.hp.accessErr } })) ∧
    (a % 4 = 0 → ∃ u, exec (.qspiWrite dt a data cut) s = .next (settle s { u with hp := { u.hp with accessErr := err u.hp.accessErr } }) ∧
      u = (data.zipIdx).foldl (fun u x => qspiPut u (a + 4 * x.2) x.1) (advance s dt)) ∧
    (a % 4 = 0 → a < 0x10000 → ∀ v, exec (.qspiWrite dt a [v] false) s = exec (.registerWrite dt a ((leBytes 4 v.toNat).map some)) s) ∧
    (a % 4 ≠ 0 → exec (.qspiWrite dt a data cut) s =
      .next (settle s { advance s dt with hp := { s.hp with accessErr := satInc32 s.hp.accessErr } })) ∧
    exec .qspiReadId s = .next (settle s { s with hp := { s.hp with qspi := [0x01002880#32] } }) ∧
    exec .qspiBadTransaction s = .next (settle s { s with hp := { s.hp with accessErr := satInc32 s.hp.accessErr } })

/-- With PCI Express, PERST# and Function Level Reset put the endpoint's configuration space, the MSI-X table and the pending bits
back to reset and take the link down; a link that was up counts once in HIF_LINK_DOWN_COUNT; the link comes up at its trained
rate and the endpoint moves between D0 and D3hot. In Quad-SPI mode the lanes stay idle (05 R107, R109, R112, R118). -/
def Obligations.EndpointResetsAndLinkChanges : Prop :=
  ∀ (s : State) (b : Bool),
    (s.md.straps.hostsel = false →
      let down : HostSt := if s.hp.linkUp = true then
        { s.hp with linkUp := false, gen2 := false, linkDown := satInc32 s.hp.linkDown } else s.hp
      (∀ c ∈ [Instr.perst, .functionLevelReset], exec c s = .next (settle s { s with hp := { down with
        d3 := false, msixEn := false, msixFm := false, msix := [], pba := 0, mps := 128, aspmL1 := false, aerUnc := 0, aerCor := 0
        pmeEn := false, pmeStatus := false } })) ∧
      exec .pcieLinkDown s = .next (settle s { s with hp := down }) ∧
      (s.md.mode ≠ .reset →
        exec (.pcieLinkUp b) s = .next (settle s { s with hp := { s.hp with linkUp := true, gen2 := b } }) ∧
        exec (.powerStateChange b) s = .next (settle s { s with hp := { s.hp with d3 := b } }))) ∧
    (s.md.straps.hostsel = true →
      ∀ c ∈ [Instr.perst, .functionLevelReset, .pcieLinkDown, .pcieLinkUp b, .powerStateChange b], exec c s = .next (settle s s))

/-- COPY_START lets the first waiting copy command in acceptance order copy when none is copying, unless its start tests fail,
which completes it with that answer; while one is copying, or none waits, it does nothing. COPY_COMPLETE counts the bytes
carried and completes the command that is copying with what its copy gives: CFG_LOAD appends the bytes of its segment to the
staging area, the reading commands leave the staging area; FW_STAGE goes on to program its chunk (06 R139, R140, 04 R91).
The model's own choices in it: notes/assumptions/16.md, notes/assumptions/19.md. -/
def Obligations.CopiesRunOneAtATime : Prop :=
  ∀ (share tail : Nat) (l r : List Cmd) (c : Cmd) (s : State), s.cm.cmds = l ++ c :: r →
    (c.ph = .wait → (∀ d ∈ l, d.ph ≠ .wait) → (∀ d ∈ s.cm.cmds, d.ph ≠ .copying) →
      (∀ a, startFault s c = some a → exec .copyStart s = .next (settle s (complete s c a))) ∧
      (startFault s c = none → c.op ≠ .fwStage → exec .copyStart s = .next (settle s { s with cm := { s.cm with
        cmds := s.cm.cmds.map fun x => if x = c then { c with ph := .copying } else x } }))) ∧
    ((∃ d ∈ s.cm.cmds, d.ph = .copying) ∨ (∀ d ∈ s.cm.cmds, d.ph ≠ .wait) → exec .copyStart s = .next (settle s s)) ∧
    (c.ph = .copying → (∀ d ∈ l, d.ph ≠ .copying) →
      let b := { s with hp := { s.hp with share := s.hp.share + share, tailB := s.hp.tailB + tail } }
      (c.op ≠ .fwStage → exec (.copyComplete share tail) s = .next (settle s (complete (copyEffect b c).1 c (copyEffect b c).2))) ∧
      (c.op = .fwStage → exec (.copyComplete share tail) s = .next (settle s { b with cm := { s.cm with
        cmds := s.cm.cmds.map fun x => if x = c then { c with ph := .long } else x } })) ∧
      (c.op = .cfgLoad → s.cfg.stg = 1 → (∀ d ∈ s.cm.cmds, d.op ≠ .cfgClose) →
        (copyEffect b c).1 = { b with cfg := { s.cfg with bytes := s.cfg.bytes ++ winBytes s (65536 * p16 c.par 8 + p32 c.par 12) (p32 c.par 16) } } ∧
        (copyEffect b c).2.status = 0) ∧
      (c.op ≠ .cfgLoad → (copyEffect b c).1.cfg = s.cfg)) ∧
    ((∀ d ∈ s.cm.cmds, d.ph ≠ .copying) → exec (.copyComplete share tail) s = .next (settle s s))

/-- A programmed chunk of FW_STAGE adds its bytes to the set; the chunk that reaches TOTAL_LENGTH completes the set when the CRC over
all of it matches, and then the staged bank passes its CRC; when it does not match the staged set is discarded with DETAIL
0x0104; a chunk that does not read back is an internal fault, whose DETAIL is the number its fault-log entry will have while the queue
takes it, and adds nothing (06 R138, R153).
The model's own choices in it: notes/assumptions/3.md, notes/assumptions/15.md. -/
def Obligations.FirmwareChunksMakeUpTheSet : Prop :=
  ∀ (c : Cmd) (s : State), s.cm.cmds.find? (fun d => decide (d.op = .fwStage ∧ d.ph = .long)) = some c →
    let all := s.cm.fwBytes ++ winBytes s (65536 * p16 c.par 8 + p32 c.par 12) (p32 c.par 16)
    let bank := !s.md.bank
    let data := fun (n : Nat) (d : Bool) => leBytes 4 n ++ leBytes 1 (b2n bank) ++ leBytes 1 (b2n d)
    (s.hl.queue.length < 64 → exec (.fwChunkProgrammed false) s =
      .next (settle s (complete { pushLog s (Config.freeValue s.free % 65536) 0xFFFF 0 with free := s.free + 2 } c
        { status := 0x40, detail := (s.mram.logSeq + s.hl.queue.length) % 4096, data := data s.cm.fwBytes.length false }))) ∧
    (64 ≤ s.hl.queue.length → ∃ d, exec (.fwChunkProgrammed false) s =
      .next (settle s (complete { pushLog s (Config.freeValue s.free % 65536) 0xFFFF 0 with free := s.free + 2 } c
        { status := 0x40, detail := d, data := data s.cm.fwBytes.length false }))) ∧
    (all.length < s.cm.fwTotal → exec (.fwChunkProgrammed true) s =
      .next (settle s (complete { s with cm := { s.cm with fwBytes := all } } c { status := 0, detail := 0, data := data all.length false }))) ∧
    (s.cm.fwTotal ≤ all.length → crc32 all = p32 c.par 28 →
      exec (.fwChunkProgrammed true) s = .next (settle s (complete { s with
        cm := { s.cm with fwBytes := all, fwDone := true, fwCrc := p32 c.par 28 }
        mram := { s.mram with
          okA := if bank = true then s.mram.okA else true
          setA := if bank = true then s.mram.setA else p32 c.par 28
          okB := if bank = true then true else s.mram.okB
          setB := if bank = true then p32 c.par 28 else s.mram.setB } } c { status := 0, detail := 0, data := data all.length true }))) ∧
    (s.cm.fwTotal ≤ all.length → crc32 all ≠ p32 c.par 28 →
      exec (.fwChunkProgrammed true) s = .next (settle s (complete { s with cm := { s.cm with fwBytes := [], fwTotal := 0, fwDone := false } } c
        { status := 0x12, detail := 0x0104, data := data 0 false })))

/-- The end of a check notes what the stages found in the frozen image, and what its stage 9 has loaded: nothing where a stage
refuses before the load, and with PROG_STAGE. Only a passed check of ENABLE writes
the configuration store, with its ENABLED marker cleared; the mode change of the tick after it sets the marker again. A refused one leaves the store as it
was, and the mode waits for the tick (04 R94, R98, R100).
The model's own choices in it: notes/assumptions/69.md, notes/assumptions/126.md. -/
def Obligations.OnlyAPassedEnableWritesTheStore : Prop :=
  ∀ (c : CheckIn) (s : State),
    (s.cfg.running = true → s.cfg.done = none →
      let r := runCheck (decide (s.cfg.cur = .progStage)) s c s.cfg.img
      let loaded := fun (agreed : Bool) => { s.sf with
        copy := (imgRecs s.cfg.img).filter fun x => decide (x.ty / 256 = 8)
        table := (imgRecs s.cfg.img).filter fun x => decide (x.ty = 0x0803) || decide (x.ty = 0x0804)
        timers := [], flags := 0, agreed := agreed }
      ∃ sf : SafetySt,
        (s.cfg.cur = .progStage ∨ (r.reason ≠ 0 ∧ r.reason ≠ 0x080B ∧ r.stage ≠ 10) → sf = s.sf) ∧
        (s.cfg.cur ≠ .progStage → r.reason = 0 ∨ r.stage = 10 → sf = loaded true) ∧
        (s.cfg.cur ≠ .progStage → r.reason = 0x080B → r.stage ≠ 10 →
          sf = if c.scDiff = true then { s.sf with agreed := false } else loaded false) ∧
        (r.reason = 0 → s.cfg.cur = .enable → exec (.checkComplete c) s = .next (settle s { s with
          sf := sf, cfg := { s.cfg with done := some r, storing := true }, mram := { s.mram with enabled := false, image := s.cfg.img } })) ∧
        (r.reason ≠ 0 ∨ s.cfg.cur ≠ .enable →
          exec (.checkComplete c) s = .next (settle s { s with sf := sf, cfg := { s.cfg with done := some r } }))) ∧
    (s.cfg.running = false ∨ s.cfg.done.isSome = true → exec (.checkComplete c) s = .next (settle s s)) ∧
    (s.md.mode = .checking → s.cfg.storing = true → (tickMode s).mram.enabled = true ∧ (tickMode s).mram.image = s.mram.image)

/-- RESET# low, the supply supervisor, the FC supervisory timer and a scheduled firmware reset take the module to RESET at once from any
other mode: every command is discarded, all that is not held in MRAM or on the field side goes back to its reset value, the
latter two marked internal; MISMATCH of every AO ends, and where the writing of the store is cut, whether its marker stands is a free
value. In RESET the reset code on the links puts every output into the strap state, and the AO banks
follow the ALMSEL pin (03 R60, R61, R64, R71, R75, 04 R100, 06 R144, R154, 08 R193, 09 R224, R230).
The model's own choices in it: notes/assumptions/23.md, notes/assumptions/48.md, notes/assumptions/56.md, notes/assumptions/126.md,
notes/assumptions/142.md. -/
def Obligations.ResetDiscardsWhatIsNotKept : Prop :=
  ∀ (s : State) (v : Bool),
    (s.md.mode ≠ .reset → ∀ x ∈ [(Instr.resetAssert, false), (.supplySupervisorReset, false), (.fcSupervisoryTimeout, true), (.fwActivateReset, true)],
      (x.1 = .fwActivateReset → s.md.fwReset = true) →
      ∃ u, exec x.1 s = .next (settle s u) ∧
        u.md = { ModeSt.init with mode := .reset, prev := s.md.mode, straps := s.md.straps, almPin := s.md.almPin, internal := x.2 } ∧
        u.cm = CmdSt.init ∧ u.cfg = CfgSt.init ∧ u.hp = HostSt.init ∧ u.hec = HecSt.init ∧ u.pf = PfSt.init ∧ u.ce = CeSt.init ∧
        u.pg = PgSt.init ∧ u.pt = PtSt.init ∧ u.bus = BusSt.init ∧ u.sf = SafetySt.init ∧ u.hl = HealthSt.init ∧
        u.gr = { GroupSt.init with gate := if s.mram.grouped = true then 0x1FF#9 else 0 } ∧
        u.fr = { FrameSt.init with arrived := s.fr.arrived, pend := s.fr.pend } ∧
        u.mram = { s.mram with enabled := u.mram.enabled } ∧ (s.cfg.storing = false → u.mram = s.mram) ∧ u.dio = s.dio ∧ u.pending = s.pending ∧
        u.an = { s.an with ao := u.an.ao, supplied := s.an.supplied && decide (x.1 ≠ .supplySupervisorReset) } ∧
        (∀ k, aoCh u k = { aoCh s k with mismatch := false, misClear := false, cutOpen := false })) ∧
    (s.md.mode = .reset → (∀ c ∈ [Instr.resetAssert, .fcSupervisoryTimeout], exec c s = .next (settle s s)) ∧
      exec .supplySupervisorReset s = .next (settle s { s with an := { s.an with supplied := false } })) ∧
    (s.md.fwReset = false → exec .fwActivateReset s = .next (settle s s)) ∧
    (s.md.mode = .reset → ∃ u, exec .linkResetCode s = .next (settle s u) ∧
      u = { s with
            fr := { s.fr with arrived := [], pend := [] }
            an := { s.an with drv := 0, supplied := true, ao := u.an.ao }
            dio := { s.dio with arm := 0, trip := 0, tp := u.dio.tp, ch := u.dio.ch } } ∧
      (∀ k x, (k, x) ∈ u.an.ao → x.level = 0 ∧ x.parallel = false) ∧
      (∀ k g, (k, g) ∈ u.dio.tp → g.on = false ∧ g.pulse = false) ∧
      (∀ k d, (k, d) ∈ u.dio.ch → d.cmd = 0 ∧ d.dark = false)) ∧
    exec (.almselChange v) s = .next (settle s { s with md := { s.md with almPin := v } })

/-- Leaving RESET latches the straps, sets T10 and FRAME_NO to 0, and chooses the firmware bank: a trial with no start left falls
back to the other bank, a bank that fails its CRC gives way to the other one, and with neither the module stays in boot
recovery; the choice is written to the boot record (00 R14, 02 R32, 03 R71, R74, R76).
The model's own choices in it: notes/assumptions/116.md. -/
def Obligations.LeavingResetChoosesTheBank : Prop :=
  ∀ (p : Straps) (s : State), s.md.mode = .reset →
    let m := s.mram
    let spent := m.trial && decide (m.trialLeft = 0)
    let first := if spent = true then !m.bank else m.bank
    let ok := fun b : Bool => if b = true then m.okB else m.okA
    ∃ u, exec (.leaveReset p) s = .next (settle s u) ∧
      u.md.mode = .boot ∧ u.md.straps = { p with unitId := p.unitId % 4 } ∧ u.fr = FrameSt.init ∧ u.cm = CmdSt.init ∧ u.hp = HostSt.init ∧
      u.hec = HecSt.init ∧ u.cfg = CfgSt.init ∧ u.pending = s.pending ∧
      (ok first = true → u.md.bank = first ∧ u.mram.bank = first ∧ u.md.recovery = false ∧ u.md.fallback = spent ∧
        u.mram.trial = (m.trial && !spent) ∧ u.mram.trialLeft = if m.trial = true ∧ spent = false then m.trialLeft - 1 else m.trialLeft) ∧
      (ok first = false → ok (!first) = true → u.md.bank = !first ∧ u.mram.bank = !first ∧ u.md.recovery = false ∧ u.md.fallback = true ∧
        u.mram.trial = false) ∧
      (ok first = false → ok (!first) = false → u.md.recovery = true ∧ u.md.ready = true ∧ u.mram.bank = m.bank) ∧
      u.mram = { m with bank := u.mram.bank, trial := u.mram.trial, trialLeft := u.mram.trialLeft }

/-- BOOT_COMPLETE shows the boot record, sets READY and the power-up kind, and lets BOOT end at the mode change of the next tick, which goes to
UNCONFIGURED without an enabled configuration, to CONFIGURED with the stored image closed when BOOTSEL is 1, and else to CHECKING of a
copy of the stored image; in boot recovery it does nothing. A failed BOOT step starts the recovery interpreter; a fallback raises
FW_FALLBACK either way (03 R60, R73, R74, R77, R79, R83, 04 R93, 05 R118).
The model's own choices in it: notes/assumptions/54.md, notes/assumptions/133.md. -/
def Obligations.BootEndsInTheModeTheStoreAsksFor : Prop :=
  ∀ (s : State), s.md.mode = .boot →
    let due := s.md.recovery = false ∧ s.md.bootDue = false
    let shown := if s.md.fallback = true ∧ s.md.bootRead = false then bset s.md.status 3 else s.md.status
    (due → ∃ u, exec .bootComplete s = .next (settle s u) ∧
      u = { s with
        md := { s.md with
          bootRead := true, fwLoaded := true, ready := true, bootDue := true, startKind := u.md.startKind, status := u.md.status }
        cfg := { s.cfg with ids := u.cfg.ids } } ∧
      (s.md.straps.coldN = false → u.md.startKind = 2) ∧
      (s.md.straps.coldN = true →
        ((∃ j ∈ [s.mram.jA, s.mram.jB], s.mram.enabled = true ∧ j.valid = true ∧ j.imageCrc = imgCrc s.mram.image) → u.md.startKind = 1) ∧
        ((∀ j ∈ [s.mram.jA, s.mram.jB], s.mram.enabled = false ∨ j.valid = false ∨ j.imageCrc ≠ imgCrc s.mram.image) → u.md.startKind = 3)) ∧
      (∀ k < 6, u.md.status.getLsbD k = (s.md.status.getLsbD k || (decide (k = 3) && s.md.fallback && !s.md.bootRead) ||
        (decide (k = 4) && decide (u.md.startKind = 3) && s.mram.enabled)))) ∧
    (due → exec .bootStepFail s = .next (settle s { pushLog s 0x0300 0xFFFF 0 with
      md := { s.md with recovery := true, ready := true, bootRead := true, status := shown } })) ∧
    (¬ due → exec .bootComplete s = .next (settle s s) ∧ exec .bootStepFail s = .next (settle s s)) ∧
    (s.md.bootDue = true →
      (selectMode s).md.prev = .boot ∧
      (selectMode s).md.mode = (if s.mram.enabled = false then .unconfigured else if s.md.straps.bootsel = true then .configured else .checking) ∧
      (selectMode s).md.bootDue = false ∧
      (s.mram.enabled = true → (selectMode s).cfg.run = imgRecs s.mram.image) ∧
      (s.mram.enabled = true → s.md.straps.bootsel = true → (selectMode s).cfg.stg = 2 ∧ (selectMode s).cfg.bytes = s.mram.image) ∧
      (s.mram.enabled = true → s.md.straps.bootsel = false → (selectMode s).cfg.running = true ∧ (selectMode s).cfg.cur = .autostart ∧
        (selectMode s).cfg.img = s.mram.image))

/-- TICK outside RESET ends the frame that runs: the new frame starts at the tick the frame before named, FRAME_NO is one more, T10
is the tick, and the commands that wait stay; a frame whose phases had all ended ends the run of overruns. In the modes that may step
to the master's timebase a step that waits sets T10 and FRAME_NO instead. While BOOT lasts the tick shows what its steps have done and
carries out a reclaim; once its last step has ended, and in every later mode, the tick settles the mode and then does its work, so that the
mode after it is the one that the mode part of the tick chose. In RESET there is no tick (02 R32, R33, R34, R46, R49, 03 R60, R61, R73).
The model's own choices in it: notes/assumptions/10.md, notes/assumptions/133.md, notes/assumptions/138.md. -/
def Obligations.TheTickStartsTheNextFrame : Prop :=
  ∀ (i : TickIn) (s : State),
    (s.md.mode ≠ .reset →
      let e := endFrame i s
      let b := startFrame e
      ∃ u, exec (.tick i) s = .next (settle s u) ∧ u.pending = s.pending ∧ u.md.straps = s.md.straps ∧
        u.fr.t10 = u.fr.tick ∧ u.fr.tick ≤ u.fr.next ∧
        (mayStep s.md.mode = false ∨ e.gr.stepTo = none → u.fr.tick = s.fr.next ∧ u.fr.frame = s.fr.frame + 1) ∧
        (∀ x, mayStep s.md.mode = true → e.gr.stepTo = some x → u.fr.tick = x.1 ∧ u.fr.frame = x.2) ∧
        b.md.mode = s.md.mode ∧ b.fr.ovrRun = (if e.fr.late = 0 then 0 else e.fr.ovrRun) ∧
        (s.md.mode = .boot → b.md.bootDue = false → u = tickReclaim (bootTick b) ∧ u.md.mode = .boot) ∧
        (s.md.mode ≠ .boot ∨ b.md.bootDue = true → u = tickWork i b.cm.forces (tickMode b) ∧ u.md.mode = (tickMode b).md.mode)) ∧
    (s.md.mode = .reset → exec (.tick i) s = .next (settle s s))

/-- At the output transfer slot a frame whose phases have all ended freezes its page with the output image of its mode; a late
phase makes the frame an overrun: nothing is frozen and nothing is sent, OVERRUN_COUNT and the run of overruns grow and bits
0 and 1 of the frame status are set. The slot comes once in a frame, and not in RESET or BOOT; a standby that still waits for its holder
holds it too. A run of overruns that has reached OVERRUN_LIMIT makes SAFE_HOLD wait for the next tick with cause 0x02; a shorter run does
not (02 R35, R45, R46, 03 R82, 17 R504).
The model's own choices in it: notes/assumptions/10.md, notes/assumptions/124.md. -/
def Obligations.TheSlotFreezesTheFrameOrCountsAnOverrun : Prop :=
  ∀ (s : State),
    (s.md.mode = .reset ∨ s.md.mode = .boot ∨ s.fr.slotDone = true → exec .outputTransferSlot s = .next (settle s s)) ∧
    (s.md.mode ≠ .reset → s.md.mode ≠ .boot → s.fr.slotDone = false → s.gr.waiting = false →
      ∃ u, exec .outputTransferSlot s = .next (settle s u) ∧ u.fr.slotDone = true ∧ u.md = s.md ∧ u.dio = s.dio ∧ u.an = s.an ∧
        u.fr.page = s.fr.page ∧ u.fr.t10 = (advanceTo s (commitT s - 400)).fr.t10 ∧
        (s.fr.late = 0 →
          u.fr.frozen = some { frame := s.fr.frame, mode := s.md.mode, page := s.fr.page, at_ := s.fr.tick + s.fr.fUs * s.fr.out / 10 } ∧
          (∃ img, u.fr.outImg = some img ∧ img.frame = s.fr.frame ∧ img.driven = s.md.mode.driven) ∧
          u.fr.ovrCount = s.fr.ovrCount ∧ u.fr.status = s.fr.status) ∧
        (s.fr.late ≠ 0 → u.fr.frozen = none ∧ u.fr.outImg = none ∧ u.fr.ovrCount = satInc32 s.fr.ovrCount ∧
          u.fr.ovrRun = satInc 31 s.fr.ovrRun ∧ u.fr.status = bset (bset s.fr.status 0) 1)) ∧
    (s.md.mode ≠ .reset → s.md.mode ≠ .boot → s.fr.slotDone = false → s.gr.waiting = true →
      ∃ u, exec .outputTransferSlot s = .next (settle s u) ∧ u.fr.slotDone = true) ∧
    (s.fr.ovrLimit ≤ s.fr.ovrRun → 0 < s.fr.ovrRun →
      exec .overrunLimitReached s = .next (settle s (pendCause s 0x02)) ∧ 0x02 ∈ (pendCause s 0x02).md.pendFault) ∧
    (s.fr.ovrRun < s.fr.ovrLimit ∨ s.fr.ovrRun = 0 → exec .overrunLimitReached s = .next (settle s s))

/-- At the commit each receiver whose image has arrived complete with the number of this frame takes it as its pending image; one
that has tripped takes only an image with the SAFE marker, which ends the trip. The frozen page waits for its apply, and the run of
overruns stays as it is until the tick. A commit that comes before the slot or before an older apply carries those out first; there
is one in a frame, and none in RESET or BOOT (01 R21, 02 R36, R46, 08 R194, R195).
The model's own choices in it: notes/assumptions/10.md. -/
def Obligations.TheCommitMovesTheImagesThatArrived : Prop :=
  (∀ (ok : Bool) (s : State), s.md.mode = .reset ∨ s.md.mode = .boot ∨ s.fr.commitDone = true → exec (.commit ok) s = .next (settle s s)) ∧
  (∀ (ok : Bool) (s : State), s.md.mode ≠ .reset → s.md.mode ≠ .boot → s.fr.commitDone = false → s.fr.slotDone = true → s.fr.toApply = none →
    ∃ u, exec (.commit ok) s = .next (settle s u) ∧ u.md = s.md ∧ u.fr.commitDone = true ∧ u.fr.arrived = [] ∧ u.fr.frozen = none ∧
      u.fr.toApply = s.fr.frozen ∧ u.fr.ovrRun = s.fr.ovrRun ∧ u.fr.status = s.fr.status ∧ u.fr.t10 = (advanceTo s (commitT s)).fr.t10 ∧
      (∀ k, Tab.get u.fr.pend none k =
        match Tab.get s.fr.arrived none k with
        | some img => if k < 9 ∧ img.frame = s.fr.frame ∧ (s.dio.trip.toNat.testBit k = false ∨ img.driven = false) then some img else Tab.get s.fr.pend none k
        | none => Tab.get s.fr.pend none k) ∧
      (∀ k < 9, u.dio.trip.getLsbD k = (s.dio.trip.getLsbD k &&
        !((Tab.get s.fr.arrived none k).any fun img => decide (img.frame = s.fr.frame) && !img.driven)))) ∧
  (∀ (ok : Bool) (s : State), s.md.mode ≠ .reset → s.md.mode ≠ .boot → s.fr.commitDone = false →
    ∃ u, exec (.commit ok) s = .next (settle s u) ∧ u.fr.commitDone = true ∧ u.fr.arrived = [] ∧ u.fr.frozen = none)

/-- At the apply instant the field controller and the AO banks drive the images they hold, a tripped one only an image with the SAFE
marker; the images are used up and the instant is the one the frame named. With nothing committed, and in RESET, there is no apply; one
that falls on the next tick is carried out by that tick. A
capture whose samples after the trigger are all taken becomes complete (02 R36, R37, 08 R195, 12 R346). -/
def Obligations.TheApplyDrivesThePendingImages : Prop :=
  (∀ (s : State) (f : Frozen), s.fr.toApply = some f → s.md.mode ≠ .reset → f.at_ < s.fr.next →
    ∃ u, exec .apply s = .next (settle s u) ∧ u.md = s.md ∧ u.fr.toApply = none ∧ u.fr.pend = [] ∧
      u.fr.t10 = (advanceTo s f.at_).fr.t10 ∧
      (∀ img, pinImg s 0 = some img → ∀ c < 64, (doCh u c).cmd = Tab.get img.dos 0 c ∧ u.dio.cmdReg.getLsbD c = (Tab.get img.dos 0 c != 0)) ∧
      (pinImg s 0 = none → ∀ c, (doCh u c).cmd = (doCh s c).cmd) ∧
      (∀ g < 8, ∀ img, pinImg s (g + 1) = some img → ∀ i < 4, (aoCh u (4 * g + i)).level = Tab.get img.aos 0 (4 * g + i)) ∧
      (∀ g < 8, pinImg s (g + 1) = none → ∀ i < 4, (aoCh u (4 * g + i)).level = (aoCh s (4 * g + i)).level)) ∧
  (∀ s : State, s.fr.toApply = none ∨ s.md.mode = .reset ∨ (∃ f, s.fr.toApply = some f ∧ s.fr.next ≤ f.at_) → exec .apply s = .next (settle s s)) ∧
  (∀ (k : Fin 16) (s : State),
    (capFull s k.val = true → ∃ u, exec (.captureComplete k) s = .next (settle s u) ∧ u = { s with ce := { s.ce with caps := u.ce.caps, capDone := bset s.ce.capDone k.val } } ∧
      (∀ c, capture u c = if c = k.val then { capture s k.val with st := 3 } else capture s c)) ∧
    (capFull s k.val = false → exec (.captureComplete k) s = .next (settle s s)))

/-- LINK_TRANSFER: of the two copies of a transfer one that passes its CRC is taken; when both fail the transfer is discarded and
counted, and an input image keeps the values of the frame before, marked stale. An output image arrives at its receiver with the
switch commands of its side, an input image carries its frame number and gives the readbacks. In RESET nothing is transferred
(01 R19-R21, 08 R193, R196, 09 R232).
The model's own choices in it: notes/assumptions/47.md. -/
def Obligations.LinkTransfersAreTakenOrDiscarded : Prop :=
  ∀ (l : Link) (crcOk repeatOk : Bool) (p : Payload) (s : State),
    (s.md.mode = .reset → ∀ out, exec (.linkTransfer l out crcOk repeatOk p) s = .next (settle s s)) ∧
    (s.md.mode ≠ .reset → (crcOk = true ∨ repeatOk = true) →
      (∃ u, exec (.linkTransfer l true crcOk repeatOk p) s = .next (settle s u) ∧
        (∀ k img, imgReceiver l = some k → s.fr.outImg = some img → u.fr = { s.fr with arrived := Tab.set s.fr.arrived none k (some img) }) ∧
        (imgReceiver l = none ∨ s.fr.outImg = none → u.fr = s.fr) ∧
        (l = .field → u = { s with fr := u.fr, sf := { s.sf with swHigh := s.sf.high } }) ∧
        (l = .attar → u = { s with fr := u.fr, sf := { s.sf with swLow := s.sf.low } }) ∧
        (∀ b, l = .ab b → u = bankLinkBack { s with fr := u.fr } b.val) ∧
        (∀ g, l = .ob g → u = { s with fr := u.fr })) ∧
      let fr := { s.fr with inFrame := Tab.set s.fr.inFrame none (linkNo l) (some p.frame) }
      (l = .field → exec (.linkTransfer l false crcOk repeatOk p) s = .next (settle s { s with
        fr := fr, dio := { s.dio with rb := p.word, stale := false }, sf := { s.sf with rbHigh := p.high, rbLow := p.low } })) ∧
      (l = .attar → exec (.linkTransfer l false crcOk repeatOk p) s = .next (settle s { s with
        fr := fr, dio := { s.dio with attarStale := false }, sf := { s.sf with rbHigh := p.high, rbLow := p.low } })) ∧
      (∀ b, l = .ab b → exec (.linkTransfer l false crcOk repeatOk p) s = .next (settle s { s with
        fr := fr
        an := { s.an with
          stale := bclr s.an.stale b.val, fresh := bset s.an.fresh b.val, miss := Tab.set s.an.miss 0 b.val 0
          linkBad := bclr s.an.linkBad b.val } })) ∧
      (∀ g, l = .ob g → ∃ u, exec (.linkTransfer l false crcOk repeatOk p) s = .next (settle s u) ∧
        u = { s with fr := fr, an := { s.an with stale := bclr s.an.stale (6 + g.val), fresh := bset s.an.fresh (6 + g.val), ao := u.an.ao } } ∧
        (∀ c, aoCh u c =
          match if c / 4 = g.val then p.vals[c % 4]? else none with
          | some v => { aoCh s c with rbLive := v.1, satLive := v.2 }
          | none => aoCh s c))) ∧
    (s.md.mode ≠ .reset → crcOk = false → repeatOk = false →
      let late := { s with hl := { s.hl with discards := (s.fr.t10 :: s.hl.discards).take 11 } }
      let b := match l with
        | .field => { late with dio := { s.dio with linkErr := satInc32 s.dio.linkErr, event := bset s.dio.event 29 } }
        | .attar => { s with dio := { s.dio with attarErr := satInc32 s.dio.attarErr } }
        | .ab _ => { late with an := { s.an with linkErr := satInc32 s.an.linkErr } }
        | .ob _ => { late with an := { s.an with linkErr := satInc32 s.an.linkErr } }
      exec (.linkTransfer l true crcOk repeatOk p) s = .next (settle s b) ∧
      exec (.linkTransfer l false crcOk repeatOk p) s = .next (settle s (match l with
        | .field => { b with dio := { b.dio with stale := true } }
        | .attar => { b with dio := { b.dio with attarStale := true } }
        | .ab x => { b with an := { b.an with stale := bset b.an.stale x.val, fresh := bclr b.an.fresh x.val } }
        | .ob g => { b with an := { b.an with stale := bset b.an.stale (6 + g.val), fresh := bclr b.an.fresh (6 + g.val) } })))

/-- The clocks: a clock fault opens every safety switch and makes SAFE_HOLD wait with cause 0x03; a unit that is not its own time
master loses lock at an error beyond 100 ns and regains it within, once T10 and FRAME_NO agree; a sync edge more than a quarter frame off its tick sets
bit 5 of the frame status and changes nothing else, one that is nearer clears the count of missing edges, only the time
master takes its frequency correction, within 200 ppm, and it shows bit 3 while within 100 ns; an edge of the other direction does
nothing; SYNC_MISS_LIMIT missing edges set bit 4 and clear bit 3 (01 R22, 02 R49-R53).
The model's own choices in it: notes/assumptions/49.md, notes/assumptions/94.md. -/
def Obligations.ClocksAndSyncInputs : Prop :=
  (∀ (dt : Nat) (clock : Fin 6) (s : State),
    (s.md.mode ≠ .reset → ∃ u, exec (.clockFault dt clock) s = .next (settle s u) ∧
      u = { s with
            fr := { s.fr with t10 := (advance s dt).fr.t10, status := bset s.fr.status 9 }
            sf := { s.sf with high := 0, low := 0, swHigh := 0, swLow := 0, hold := true }, md := { s.md with pendFault := u.md.pendFault } } ∧
      0x03 ∈ u.md.pendFault ∧ ∀ c, c ∈ s.md.pendFault → c ∈ u.md.pendFault) ∧
    (s.md.mode = .reset → exec (.clockFault dt clock) s = .next (settle s s))) ∧
  (∀ (err : Int) (s : State),
    (s.md.mode = .reset ∨ timeMaster s = true → exec (.timebaseLockLost err) s = .next (settle s s) ∧ exec (.timebaseLockRegained err) s = .next (settle s s)) ∧
    (s.md.mode ≠ .reset → timeMaster s = false →
      ((-10 ≤ err ∧ err ≤ 10) → exec (.timebaseLockLost err) s = .next (settle s s) ∧
        (s.gr.agrees = false → exec (.timebaseLockRegained err) s = .next (settle s s)) ∧
        (s.gr.agrees = true → exec (.timebaseLockRegained err) s = .next (settle s { s with fr := { s.fr with syncErr := err, status := bset s.fr.status 6 }, gr := { s.gr with masterMiss := 0 } }))) ∧
      ((err < -10 ∨ 10 < err) → exec (.timebaseLockRegained err) s = .next (settle s s) ∧
        (tbLocked s = true → exec (.timebaseLockLost err) s = .next (settle s { s with
          fr := { s.fr with syncErr := err, status := bset (bclr s.fr.status 6) 7 }, gr := { s.gr with synced := false } })) ∧
        (tbLocked s = false → exec (.timebaseLockLost err) s = .next (settle s { s with fr := { s.fr with syncErr := err } }))))) ∧
  (∀ (dt : Nat) (rising : Bool) (ppm : Int) (step : Bool) (s : State),
    (s.fr.syncIn = 0 ∨ s.md.mode = .reset ∨ rising = s.fr.syncFall → exec (.syncInEdge ⟨dt, rising⟩ ppm step) s = .next (settle s s)) ∧
    (s.fr.syncIn ≠ 0 → s.md.mode ≠ .reset → rising ≠ s.fr.syncFall →
      let a := advance s dt
      let e := edgeError a
      (s.fr.fUs * 25 < e.2.natAbs → exec (.syncInEdge ⟨dt, rising⟩ ppm step) s = .next (settle s (setStatus a 5 true))) ∧
      (e.2.natAbs ≤ s.fr.fUs * 25 → ∃ u, exec (.syncInEdge ⟨dt, rising⟩ ppm step) s = .next (settle s u) ∧
        u.fr.syncErr = e.2 ∧ u.fr.syncMiss = 0 ∧ u.fr.syncEdge = e.1 + 1 ∧ u.fr.t10 = a.fr.t10 ∧
        u = { s with fr := u.fr } ∧
        (timeMaster s = false → u.fr.ppm = s.fr.ppm ∧ u.fr.next = s.fr.next ∧ u.fr.status = s.fr.status) ∧
        (timeMaster s = true → -200 ≤ u.fr.ppm ∧ u.fr.ppm ≤ 200 ∧ (-200 ≤ ppm → ppm ≤ 200 → u.fr.ppm = ppm) ∧
          u.fr.status = (setStatus s 3 (within100 e.2)).fr.status) ∧
        (u.fr.next ≠ s.fr.next → s.fr.stepped = false ∧ u.fr.stepped = true ∧ (s.md.mode = .configured ∨ s.md.mode = .checking) ∧
          u.fr.next = max ((s.fr.next + e.2).toNat) (a.fr.t10 + 1))))) ∧
  (∀ s : State,
    (s.fr.syncIn ≠ 0 → s.fr.missLimit ≤ s.fr.syncMiss + b2n (edgeMissing s) →
      exec .syncInLost s = .next (settle s { s with fr := { s.fr with status := bclr (bset s.fr.status 4) 3 } })) ∧
    (s.fr.syncIn = 0 ∨ s.fr.syncMiss + b2n (edgeMissing s) < s.fr.missLimit → exec .syncInLost s = .next (settle s s)))

/-- FIELD_WATCHDOG_TRIP: a receiver that is armed and not tripped trips when the FWD timeout passes without an image; the field
controller puts each DO into its configured safe state at once, a PWM channel too, an AO bank its channels to their safe levels,
3.50 mA deciding on a channel in compliance with ALARM_LOW; the trip is counted and its event set (08 R194, R65, 09 R227, R233).
The model's own choices in it: notes/assumptions/57.md. -/
def Obligations.TheFieldWatchdogTripsAReceiver : Prop :=
  ∀ (bank : Option (Fin 8)) (s : State),
    let k := match bank with | none => 0 | some g => g.val + 1
    let e := Tab.get s.dio.lastImg 0 k + fwdTimeout s
    (s.md.mode = .reset ∨ s.dio.arm.toNat.testBit k = false ∨ s.dio.trip.toNat.testBit k = true ∨ s.fr.next ≤ e →
      exec (.fieldWatchdogTrip bank) s = .next (settle s s)) ∧
    (s.md.mode ≠ .reset → s.dio.arm.toNat.testBit k = true → s.dio.trip.toNat.testBit k = false → e < s.fr.next →
      ∃ u, exec (.fieldWatchdogTrip bank) s = .next (settle s u) ∧
        u = { s with
          fr := { s.fr with t10 := (advanceTo s e).fr.t10 }
          an := { s.an with ao := u.an.ao }
          dio := { s.dio with ch := u.dio.ch, trip := bset s.dio.trip k, tripNews := bset s.dio.tripNews k
                              trips := satInc32 s.dio.trips, event := bset s.dio.event 24 } } ∧
        (bank = none → u.an.ao = s.an.ao ∧
          ∀ c < 64, (doCh u c).cmd = (if doCfg s c = true ∧ doSafe s c = 2 then (doCh s c).cmd else if doCfg s c = true ∧ doSafe s c = 1 then F64.one else 0) ∧
            (doCh u c).period = (doCh u c).cmd) ∧
        (∀ g, bank = some g → u.dio.ch = s.dio.ch ∧
          ∀ c, (aoCh u c).level = if c / 4 = g.val ∧ aoCfg s c = true then aoLowAlarm s c (aoCh s c) (aoSafeLevel s c) else (aoCh s c).level))

/-- DI_SI_SAMPLE at the next count that is a multiple of 100: each input moves its counter towards its filter length or towards 0,
its state follows at either end and its stamp when the state changes; an input whose generator is in a pulse, or within 100 us
after one, stays as it is, and inside the pulse counts its consecutive raw zeros. TEST_PULSE_START at the generator's slot
begins a pulse; TEST_PULSE_END judges every input the generator feeds: 50 raw zeros in a row pass, less fail, and a failure
stands until two later pulses in a row pass; TP_GENERATOR_FAULT makes all of them fail, and a pulse that it falls into counts
for none of the two (08 R174-R180). -/
def Obligations.InputsAreFilteredAndTested : Prop :=
  (∀ (di : BitVec 96) (si : BitVec 32) (s : State), s.md.mode ≠ .reset → nextSample s ≤ s.fr.next →
    ∃ u, exec (.diSiSample di si) s = .next (settle s u) ∧
      u = { s with
        fr := { s.fr with t10 := (advanceTo s (nextSample s)).fr.t10 }
        dio := { s.dio with di := u.dio.di, si := u.dio.si, diT := u.dio.diT, siT := u.dio.siT, smp := nextSample s + 100 } } ∧
      (∀ c < 96, if held s 0x0201 c (nextSample s) = true then diFilt u c = diFilt s c
        else
          let n := filtN s 0x0201 c
          let f := diFilt s c
          let k := if diRaw s di c = true then min (f.count + 1) n else f.count - 1
          (diFilt u c).count = k ∧ (diFilt u c).state = (if k = n then true else if k = 0 then false else f.state) ∧
          (diFilt u c).stamp = if (diFilt u c).state = f.state then f.stamp else nextSample s) ∧
      (∀ c < 32, if held s 0x0202 c (nextSample s) = true then siFilt u c = siFilt s c
        else
          let n := filtN s 0x0202 c
          let f := siFilt s c
          let k := if si.getLsbD c = true then min (f.count + 1) n else f.count - 1
          (siFilt u c).count = k ∧ (siFilt u c).state = (if k = n then true else if k = 0 then false else f.state)) ∧
      (∀ c < 96, diTest u c = if inPulse s 0x0201 c (nextSample s) = true then runStep (diRaw s di c) (diTest s c) else diTest s c) ∧
      (∀ c < 32, siTest u c = if inPulse s 0x0202 c (nextSample s) = true then runStep (si.getLsbD c) (siTest s c) else siTest s c)) ∧
  (∀ (di : BitVec 96) (si : BitVec 32) (s : State), s.md.mode = .reset ∨ s.fr.next < nextSample s → exec (.diSiSample di si) s = .next (settle s s)) ∧
  (∀ (k : Fin 8) (dt : Nat) (s : State),
    let a := advance s dt
    let t := a.fr.t10
    let g := tpGen s k.val
    (g.on = true → g.pulse = false → (cfgRec s 0x0203 k.val).isSome = true → t % 250000 = 0 → t / 250000 % 8 = k.val → g.from_ ≤ t →
      (∀ p, g.prev = some p → p + tpPeriod s k.val ≤ t) →
      ∃ u, exec (.testPulseStart k dt) s = .next (settle s u) ∧
        u = { a with dio := { s.dio with tp := u.dio.tp, diT := u.dio.diT, siT := u.dio.siT } } ∧
        (∀ j, tpGen u j = if j = k.val then { g with pulse := true, prev := some t, skip := false } else tpGen s j) ∧
        (∀ c < 96, diTest u c = if tpSource s 0x0201 c = some k.val then { diTest s c with run := 0, best := 0 } else diTest s c) ∧
        (∀ c < 32, siTest u c = if tpSource s 0x0202 c = some k.val then { siTest s c with run := 0, best := 0 } else siTest s c)) ∧
    (g.on = false ∨ g.pulse = true ∨ t % 250000 ≠ 0 ∨ t / 250000 % 8 ≠ k.val → exec (.testPulseStart k dt) s = .next (settle s a))) ∧
  (∀ (k : Fin 8) (s : State),
    let g := tpGen s k.val
    let e := g.prev.getD 0 + tpWidth s k.val
    let judge := fun (x : TpTest) =>
      if x.best < 50 then { x with failing := true, passes := 0 }
      else if x.failing = false ∨ g.skip = true then x else if x.passes = 0 then { x with passes := 1 } else { x with failing := false, passes := 0 }
    let fail := fun (x : TpTest) => { x with failing := true, passes := 0 }
    (g.pulse = true → e < s.fr.next →
      ∃ u, exec (.testPulseEnd k) s = .next (settle s u) ∧
        u = { s with fr := { s.fr with t10 := (advanceTo s e).fr.t10 }
                     dio := { s.dio with tp := u.dio.tp, diT := u.dio.diT, siT := u.dio.siT, event := if pulsePasses s k.val = true then s.dio.event else bset s.dio.event 28 } } ∧
        (let n := if pulsePasses s k.val = true then (if g.skip = true then g.faultPasses else g.faultPasses + 1) else 0
         tpGen u k.val = { g with
            pulse := false, holdEnd := e + 10000, faultPasses := n, fault := g.fault && decide (n < 2)
            flag := g.flag || !pulsePasses s k.val }) ∧
        (∀ j, j ≠ k.val → tpGen u j = tpGen s j) ∧
        (∀ c < 96, diTest u c = if tpSource s 0x0201 c = some k.val then judge (diTest s c) else diTest s c) ∧
        (∀ c < 32, siTest u c = if tpSource s 0x0202 c = some k.val then judge (siTest s c) else siTest s c)) ∧
    (g.pulse = false ∨ s.fr.next ≤ e → exec (.testPulseEnd k) s = .next (settle s s)) ∧
    (g.on = true →
      ∃ u, exec (.tpGeneratorFault k) s = .next (settle s u) ∧
        u = { s with dio := { s.dio with tp := u.dio.tp, diT := u.dio.diT, siT := u.dio.siT, event := bset s.dio.event 28 } } ∧
        (∀ j, tpGen u j = if j = k.val then { g with fault := true, faultPasses := 0, flag := true, skip := g.pulse } else tpGen s j) ∧
        (∀ c < 96, diTest u c = if tpSource s 0x0201 c = some k.val then fail (diTest s c) else diTest s c) ∧
        (∀ c < 32, siTest u c = if tpSource s 0x0202 c = some k.val then fail (siTest s c) else siTest s c)) ∧
    (g.on = false → exec (.tpGeneratorFault k) s = .next (settle s s)))

/-- The outputs under load: a sensor supply sets and clears its fault bit; an overload of a driven DO switches it off until a
retry, and after the last retry latches it off; the retry 100 ms later switches a channel still commanded ON on again, in a
group with supply; ten seconds on clear the count; a PWM period, counted from the tick that left CHECKING, takes the command in force;
an external feed on a DO
where it is evaluated sets its bit; a dark test starts only where it may (08 R181-R186, R189).
The model's own choices in it: notes/assumptions/53.md. -/
def Obligations.OutputsSwitchOffUnderOverload : Prop :=
  (∀ (k : Fin 3) (s : State),
    exec (.sensorSupplyFault k) s = .next (settle s { s with dio := { s.dio with ss := bset s.dio.ss k.val, event := bset s.dio.event (25 + k.val) } }) ∧
    exec (.sensorSupplySound k) s = .next (settle s { s with dio := { s.dio with ss := bclr s.dio.ss k.val } })) ∧
  (∀ (ch : Fin 64) (dt : Nat) (s : State),
    let a := advance s dt
    let c := ch.val
    let d := doCh s c
    let g := doGrp s (c / 8)
    (doIsOn a c = true → d.retries < u8 (cfgBody s 0x0204 c) 2 → exec (.doOverload ch dt) s =
      .next (settle s { updDo a c fun d => { d with held := true } with dio := { (updDo a c fun d => { d with held := true }).dio with ovl := bset s.dio.ovl c } })) ∧
    (doIsOn a c = true → u8 (cfgBody s 0x0204 c) 2 ≤ d.retries → ∃ u, exec (.doOverload ch dt) s = .next (settle s u) ∧
      u = { a with dio := { s.dio with ch := u.dio.ch, ovl := bset s.dio.ovl c, latched := bset s.dio.latched c } } ∧
      (∀ i, doCh u i = if i = c then { d with latchOff := true, held := false, release := 0 } else doCh s i)) ∧
    (doIsOn a c = false → exec (.doOverload ch dt) s = .next (settle s a)) ∧
    (d.held = true → d.cmd ≠ 0 → g.missing = false → g.ackWait = false →
      exec (.doRetry ch dt) s = .next (settle s (updDo a c fun d => { d with held := false, retries := d.retries + 1, since := a.fr.t10 }))) ∧
    (d.held = false ∨ d.cmd = 0 ∨ g.missing = true ∨ g.ackWait = true → exec (.doRetry ch dt) s = .next (settle s a)) ∧
    (s.fr.next ≤ d.since + 1000000000 → exec (.doRetryCountReset ch) s = .next (settle s s)) ∧
    (d.since + 1000000000 < s.fr.next → exec (.doRetryCountReset ch) s =
      let b := advanceTo s (d.since + 1000000000)
      .next (settle s (if gateShut s 0 = false ∧ doDrive s c ≠ 0 then updDo b c fun d => { d with retries := 0 } else b))) ∧
    exec (.pwmPeriodStart ch dt) s = .next (settle s
      (if doFlag s c 0 = true ∧ (a.fr.t10 - s.dio.pwmAt) % (pwmUs s c * 100) = 0 then updDo a c fun d => { d with period := d.cmd } else a)) ∧
    (extEvaluated a c = true → ∃ u, exec (.extFeed ch dt) s = .next (settle s u) ∧
      u = { a with dio := { s.dio with ch := u.dio.ch, ext := bset s.dio.ext c } } ∧
      (∀ i, doCh u i = if i = c then { d with ext := true } else doCh s i)) ∧
    (extEvaluated a c = false → exec (.extFeed ch dt) s = .next (settle s a)) ∧
    ∀ peer, exec (.darkTestStart ⟨ch, peer⟩ dt) s = .next (settle s (if darkAllowed a c peer = true then updDo a c fun d => { d with dark := true } else a)))

/-- The supply of an output group: LOW sets its event; MISSING is LOW too, stops the retries of the group's eight channels and sets
its event; its end lets the group wait for the next apply, and with ACK in the record for an acknowledgement, which the host
gives by DIAG_DO_GROUP_ACK and which waits for the next tick. A write to DIAG_DO_LATCHED clears the bits written 1 and releases
their latched channels, for a later apply (08 R183, R190-R192, R206).
The model's own choices in it: notes/assumptions/43.md, notes/assumptions/53.md. -/
def Obligations.GroupSupplyAndReleases : Prop :=
  (∀ (g : Fin 8) (dt : Nat) (s : State),
    exec (.groupSupplyLow g) s = .next (settle s (dioEvent (updGrp s g.val fun x => { x with low := true }) g.val)) ∧
    exec (.groupSupplyLowEnd g) s = .next (settle s (if (doGrp s g.val).missing = true then s else updGrp s g.val fun x => { x with low := false })) ∧
    (∃ u, exec (.groupSupplyMissing g) s = .next (settle s u) ∧
      u = { s with dio := { s.dio with grp := u.dio.grp, ch := u.dio.ch, event := u.dio.event } } ∧
      (∀ i, doGrp u i = if i = g.val then { doGrp s i with missing := true, low := true } else doGrp s i) ∧
      (∀ c, doCh u c = if c / 8 = g.val then { doCh s c with held := false } else doCh s c) ∧
      u.dio.event.getLsbD (8 + g.val) = true ∧ u.dio.event.getLsbD g.val = (s.dio.event.getLsbD g.val || !(doGrp s g.val).low) ∧
      ∀ i, i ≠ g.val → i ≠ 8 + g.val → u.dio.event.getLsbD i = s.dio.event.getLsbD i) ∧
    ((doGrp s g.val).missing = true → ∃ u, exec (.groupSupplyMissingEnd g dt) s = .next (settle s u) ∧
      let ack := (cfgRec s 0x0205 g.val).isSome && decide (u8 (cfgBody s 0x0205 g.val) 0 = 1)
      u = { advance s dt with dio := { s.dio with grp := u.dio.grp, event := if ack = true then bset s.dio.event (16 + g.val) else s.dio.event } } ∧
      ∀ i, doGrp u i = if i = g.val then { doGrp s i with missing := false, off := true, from_ := (advance s dt).fr.t10, ackWait := (doGrp s i).ackWait || ack } else doGrp s i) ∧
    ((doGrp s g.val).missing = false → exec (.groupSupplyMissingEnd g dt) s = .next (settle s (advance s dt)))) ∧
  (∀ (v : Word) (s : State), hostUp s = true → ∃ u, exec (.diagDoGroupAck v) s = .next (settle s u) ∧
    u = { s with dio := { s.dio with grp := u.dio.grp } } ∧
    ∀ i, doGrp u i = if i < 8 ∧ v.getLsbD i = true then { doGrp s i with ackReq := true } else doGrp s i) ∧
  (∀ (w : Fin 2) (v : Word) (s : State), hostUp s = true → ∃ u, exec (.diagDoLatchedRelease w v) s = .next (settle s u) ∧
    u = { s with dio := { s.dio with ch := u.dio.ch, latched := u.dio.latched } } ∧
    (∀ c, u.dio.latched.getLsbD c = (s.dio.latched.getLsbD c && !(decide (c / 32 = w.val) && v.getLsbD (c % 32)))) ∧
    ∀ c, doCh u c = if c / 32 = w.val ∧ v.getLsbD (c % 32) = true ∧ (doCh s c).latchOff = true ∧ (doCh s c).release = 0 then { doCh s c with release := 1 } else doCh s c)

/-- DARK_TEST_END: the channel returns to its command; the readback that fell to low passes the test of the channel, one that
did not fails it and sets the channel's bit of DIAG_DO_DARK_FAIL; the test of the channel runs no longer, and no other test is
touched. Without a dark test on the channel nothing happens (08 R189, 18 R526, R531). -/
def Obligations.ADarkTestEndsWithAVerdict : Prop :=
  ∀ (ch : Fin 64) (low : Bool) (s : State),
    ((doCh s ch.val).dark = false → exec (.darkTestEnd ch low) s = .next (settle s s)) ∧
    ((doCh s ch.val).dark = true → ∃ u, exec (.darkTestEnd ch low) s = .next (settle s u) ∧
      u = { s with
        dio := { s.dio with ch := u.dio.ch, dark := if low = true then s.dio.dark else bset s.dio.dark ch.val }
        hl := u.hl } ∧
      (∀ i, doCh u i = if i = ch.val then { doCh s i with dark := false } else doCh s i) ∧
      (∀ i, i ∈ (test u 0).failed ↔ (i ≠ ch.val ∧ i ∈ (test s 0).failed) ∨ (i = ch.val ∧ low = false)) ∧
      (∀ i, i ∈ (test u 0).tested ↔ i = ch.val ∨ i ∈ (test s 0).tested) ∧
      (∀ r, r ∈ u.hl.running ↔ r ∈ s.hl.running ∧ ¬ (r.test = 0 ∧ r.item = ch.val)) ∧
      ∀ t, t ≠ 0 → test u t = test s t)

/-- AI_CONVERSION_RESULT of a converter that works on a position gives the channel its value, by the converter's stored offset and
gain (1.000 V being 20 mA or 10 V), with the stamp of the middle of its window, at the instant 2,000 T10 after a window's end; of a converter that works on none
and is not the spare, or at another instant, it does nothing; three results after it reconnects a spare takes over. An open shunt path is noted in current mode only and stays open while the retest says so. The
rotation starts a step only with a spare, none running, no reference fault and its time come; a spare SAR within
4.8 uA takes over, else the decision is taken; a timeout of the bank's link ends its step and gives the converter in
measurement back as the spare, and no step starts before a transfer comes; eight frames without one mark the link (09 R208-R213, R217, R226, R232).
The model's own choices in it: notes/assumptions/113.md, notes/assumptions/115.md. -/
def Obligations.ConversionsAndTheRotation : Prop :=
  (∀ (b : Fin 6) (c : Fin 9) (dt p : Nat) (code : Int) (s : State),
    let a := advance s dt
    let B := aiBank s b.val
    let ch := 8 * b.val + p
    let k := calOf s false b.val c.val
    let volt := aiVolt s ch
    let v := F64.mul (F64.div (F64.ofInt (code - k.z)) (F64.ofInt (k.u - k.z))) (F64.ofNat (if volt = true then 10 else 20))
    let t := a.fr.t10 - 2000 - aiWindow s ch / 2
    let due := (a.fr.t10 - 2000) % aiWindow s ch = 0
    (posOf B c.val = some p ∨ (posOf B c.val = none ∧ p = B.pos) → ¬ due → exec (.aiConversionResult b c dt code) s = .next (settle s a)) ∧
    (due → posOf B c.val = some p → (B.ph = .compare → p ≠ B.pos) → exec (.aiConversionResult b c dt code) s =
      .next (settle s (updAi a ch fun x => { x with value := v, stamp := t, recent := x.recent ++ [(v, t)] }))) ∧
    (due → posOf B c.val = some p → B.ph = .compare → p = B.pos → B.newT ≠ t → exec (.aiConversionResult b c dt code) s =
      .next (settle s (updBank (updAi a ch fun x => { x with value := v, stamp := t, recent := x.recent ++ [(v, t)] }) false b.val
        fun B => { B with oldV := v, oldT := t }))) ∧
    (posOf B c.val = none → B.spare ≠ some c.val → exec (.aiConversionResult b c dt code) s = .next (settle s a)) ∧
    (due → posOf B c.val = none → B.spare = some c.val → p = B.pos → B.ph = .compare → B.oldT ≠ t → exec (.aiConversionResult b c dt code) s =
      .next (settle s (updBank a false b.val fun B => { B with newV := v, newT := t }))) ∧
    (due → posOf B c.val = none → B.spare = some c.val → p = B.pos → B.ph = .compare → B.oldT = t → B.discard < 3 → exec (.aiConversionResult b c dt code) s =
      .next (settle s (updBank a false b.val fun B => { B with newV := v, newT := t, discard := B.discard + 1 }))) ∧
    (due → posOf B c.val = none → B.spare = some c.val → p = B.pos → B.ph = .reconnect → exec (.aiConversionResult b c dt code) s =
      .next (settle s (updBank a false b.val fun B => { B with discard := B.discard + 1, ph := if 2 ≤ B.discard then .retireOld else .reconnect })))) ∧
  (∀ (ch : Fin 48) (still : Bool) (s : State),
    exec (.aiShuntOpen ch) s = .next (settle s (if aiVolt s ch.val = true then s else updAi s ch.val fun x => { x with shuntOpen := true })) ∧
    exec (.aiShuntRetest ch still) s = .next (settle s (updAi s ch.val fun x => { x with shuntOpen := x.shuntOpen && still }))) ∧
  (∀ (b : Fin 6) (s : State),
    (s.md.mode ≠ .reset → s.md.mode ≠ .boot → s.an.noLink.getLsbD b.val = false → (aiBank s b.val).spare.isSome = true → (aiBank s b.val).ph = .idle → (aiBank s b.val).refFault = false →
      9 * s.an.bootEnd + (aiBank s b.val).step * (rotPeriod s b.val * 100000000) ≤ 9 * s.fr.tick →
      exec (.rotationStepStart b) s = .next (settle s (updBank s false b.val fun B =>
        { B with ph := .compare, discard := 0, done := 0, sum := 0, oldT := 0, newT := 0, step := B.step + 1 }))) ∧
    (s.an.noLink.getLsbD b.val = true ∨ (aiBank s b.val).spare = none ∨ (aiBank s b.val).ph ≠ .idle ∨ (aiBank s b.val).refFault = true ∨ 9 * s.fr.tick < 9 * s.an.bootEnd + (aiBank s b.val).step * (rotPeriod s b.val * 100000000) →
      exec (.rotationStepStart b) s = .next (settle s s)) ∧
    (∃ u, exec (.aiBankLinkTimeout b) s = .next (settle s u) ∧
      u = { s with an := { s.an with ab := u.an.ab, noLink := bset s.an.noLink b.val } } ∧
      ∀ i, aiBank u i = if i = b.val then { aiBank s i with
        ph := .idle, spare := if (aiBank s i).measuring.isSome = true ∧ (aiBank s i).restore = none then (aiBank s i).measuring else (aiBank s i).spare
        measuring := none } else aiBank s i) ∧
    exec (.aiBankLinkBad b) s = .next (settle s (if 8 ≤ Tab.get s.an.miss 0 b.val then
      { s with an := { s.an with linkBad := bset s.an.linkBad b.val, event := bset s.an.event 28 } } else s))) ∧
  (∀ (g : Fin 8) (diff : F64) (s : State),
    (stepReady s true g.val = true → exec (.spareSarStep g diff) s = .next (settle s (updBank s true g.val fun B => { B with
      ph := if F64.le (F64.abs diff) (frac64 48 10000) = true then .takeover else .decide, step := B.step + 1 }))) ∧
    (stepReady s true g.val = false → exec (.spareSarStep g diff) s = .next (settle s s)))

/-- REFERENCE_MEASUREMENT_DONE of a converter in measurement: one that passes its checks keeps the readings as its calibration and
becomes the spare, and the position moves on; one that fails is retired, and its bank has no spare. Two converters in a row
that fail the reference are a REFERENCE_FAULT, which two passes in a row end; every failure of the reference is counted, in a
fault too. DISAGREEMENT_RECHECK_DONE retires a spare that
has drifted, else it takes over. A write to the retired registers has the bank measure the retired converters whose bits are 1
(09 R215-R218, R226). -/
def Obligations.CalibrationsKeepOrRetireConverters : Prop :=
  (∀ (ao : Bool) (b : Fin 8) (z h u i : Int) (s : State),
    (ao = false → 6 ≤ b.val → exec (.referenceMeasurementDone ao b z h u i) s = .next (settle s s)) ∧
    ((ao = true ∨ b.val < 6) →
      let B := bankOf s ao b.val
      (∀ c, B.measuring = some c → calPasses ao z h u = true → refPasses ao b.val z u i = true → B.restore = none →
        ∃ t, exec (.referenceMeasurementDone ao b z h u i) s = .next (settle s t) ∧
          t = { s with an := { s.an with aiCal := t.an.aiCal, aoCal := t.an.aoCal, ab := t.an.ab, ob := t.an.ob, steps := t.an.steps } } ∧
          t.an.steps = (if ao = true then s.an.steps else satInc32 s.an.steps) ∧
          (calOf t ao b.val c = { calOf s ao b.val c with
              offset := z, z := z, h := h, u := u, i := i, passed := true, iFailed := false, calFrame := s.fr.frame
              calCount := satInc32 (calOf s ao b.val c).calCount, retired := false }) ∧
          (bankOf t ao b.val = { B with
              spare := some c, measuring := none, ph := .idle, lastIFail := false, refPass := 0, pos := (B.pos + 1) % positions ao, count := satInc32 B.count })) ∧
      (∀ c, B.measuring = some c → calPasses ao z h u = false →
        ∃ t, exec (.referenceMeasurementDone ao b z h u i) s = .next (settle s t) ∧
          t = { s with an := { s.an with aiCal := t.an.aiCal, aoCal := t.an.aoCal, ab := t.an.ab, ob := t.an.ob, event := bset s.an.event (if ao = true then 6 + b.val else b.val) } } ∧
          (calOf t ao b.val c = { calOf s ao b.val c with
              passed := false, iFailed := !refPasses ao b.val z u i, retired := true
              iFails := if refPasses ao b.val z u i = true then (calOf s ao b.val c).iFails else satInc 65535 (calOf s ao b.val c).iFails }) ∧
          ((bankOf t ao b.val).spare = none ∧ (bankOf t ao b.val).ph = .idle)) ∧
      (∀ c, B.measuring = some c → calPasses ao z h u = true → refPasses ao b.val z u i = false → B.lastIFail = true →
        ∃ t, exec (.referenceMeasurementDone ao b z h u i) s = .next (settle s t) ∧ t.an.event = bset s.an.event (if ao = true then 20 + b.val else 14 + b.val) ∧
          ((bankOf t ao b.val).refFault = true)) ∧
      (B.measuring = none → B.refFault = true → ∃ t, exec (.referenceMeasurementDone ao b z h u i) s = .next (settle s t) ∧
        t = { s with an := { s.an with aiCal := t.an.aiCal, aoCal := t.an.aoCal, ab := t.an.ab, ob := t.an.ob } } ∧
        (bankOf t ao b.val = if calPasses ao z h u = true ∧ refPasses ao b.val z u i = true then
            if 1 ≤ B.refPass then { B with refFault := false, refPass := 0, lastIFail := false, step := max B.step (stepAfter s ao b.val) }
            else { B with refPass := B.refPass + 1 }
          else { B with refPass := 0 }) ∧
        (∀ c, B.spare = some c → calOf t ao b.val c = { calOf s ao b.val c with
          passed := calPasses ao z h u, iFailed := !refPasses ao b.val z u i
          iFails := if refPasses ao b.val z u i = true then (calOf s ao b.val c).iFails else satInc 65535 (calOf s ao b.val c).iFails })) ∧
      (B.measuring = none → B.refFault = false → exec (.referenceMeasurementDone ao b z h u i) s = .next (settle s s)) ∧
      (∀ c, B.spare = some c → B.ph = .decide →
        (spareDrifted s ao b.val (calOf s ao b.val c) z u = true → exec (.disagreementRecheckDone ao b z u) s =
          .next (settle s (retire (updBank s ao b.val fun B => { B with spare := none, ph := .idle, pos := (B.pos + 1) % positions ao }) ao b.val c))) ∧
        (spareDrifted s ao b.val (calOf s ao b.val c) z u = false → exec (.disagreementRecheckDone ao b z u) s =
          .next (settle s (updBank s ao b.val fun B => { B with ph := if ao = true then .retireOld else .reconnect, discard := 0 })))) ∧
      (B.spare = none ∨ B.ph ≠ .decide → exec (.disagreementRecheckDone ao b z u) s = .next (settle s s)))) ∧
  (∀ (ao : Bool) (w : Fin 2) (v : Word) (s : State), hostUp s = true →
    ∃ t, exec (if ao = true then .aoSarRestore w v else .aiConverterRestore w v) s = .next (settle s t) ∧
      t = { s with an := { s.an with aiCal := t.an.aiCal, aoCal := t.an.aoCal, ab := t.an.ab, ob := t.an.ob } } ∧
      (∀ b c, c < (if ao = true then 5 else 9) → (calOf t ao b c).retired = ((calOf s ao b c).retired &&
        !(decide (calIdx ao b c < if ao = true then 40 else 54) && decide (calIdx ao b c / 32 = w.val) && v.getLsbD (calIdx ao b c % 32)))))

/-- The analogue outputs: three counting ticks below the command with saturation enter COMPLIANCE, three within 0.1 mA end it unless
its action is ALARM_LOW, where a write of ones asks the next tick for it; three that differ put the spare SAR in parallel, or
enter MISMATCH at once in a bank without one; after 64 samples a spare that agrees with the readback enters MISMATCH, which
opens the channel's cutoff, else the channel's SAR is the wrong one; a write of ones asks the next tick to close the cutoff.
A supply that falls low sets its bit once (09 R229-R231). -/
def Obligations.OutputsEnterComplianceAndMismatch : Prop :=
  (∀ (ch : Fin 32) (spare : F64) (s : State),
    let c := ch.val
    let x := aoCh s c
    let alarm := decide (u8 (cfgBody s 0x0304 c) 3 = 1)
    let mismatched := { updAo s c fun x => { x with mismatch := true, cutOpen := true, parallel := false } with
      an := { (updAo s c fun x => { x with mismatch := true, cutOpen := true, parallel := false }).an with mism := bset s.an.mism c } }
    (3 ≤ x.lowSatRun → x.compliance = false → ∃ u, exec (.complianceEnter ch) s = .next (settle s u) ∧
      u = { s with an := { s.an with ao := u.an.ao, compl := bset s.an.compl c } } ∧
      (∀ i, aoCh u i = if i = c then { aoCh s i with compliance := true, nearRun := 0 } else aoCh s i)) ∧
    (x.lowSatRun < 3 ∨ x.compliance = true → exec (.complianceEnter ch) s = .next (settle s s)) ∧
    (x.compliance = true → alarm = false → 3 ≤ x.nearRun → exec (.complianceEnd ch) s = .next (settle s (updAo s c fun x => { x with compliance := false }))) ∧
    (x.compliance = false ∨ alarm = true ∨ x.nearRun < 3 → exec (.complianceEnd ch) s = .next (settle s s)) ∧
    ((3 ≤ x.diffRun ∨ 3 ≤ x.highRun) → x.mismatch = false → x.parallel = false →
      ((aoBank s (c / 4)).spare = none → exec (.mismatchDetect ch) s = .next (settle s mismatched)) ∧
      ((aoBank s (c / 4)).spare.isSome = true → exec (.mismatchDetect ch) s =
        .next (settle s (updBank (updAo s c fun x => { x with parallel := true }) true (c / 4) fun B => { B with ph := .idle })))) ∧
    (x.diffRun < 3 → x.highRun < 3 → exec (.mismatchDetect ch) s = .next (settle s s)) ∧
    (x.parallel = true →
      (F64.le (F64.abs (F64.sub spare x.rbLive)) (frac64 5 100) = true → exec (.spareParallelDone ch spare) s = .next (settle s mismatched)) ∧
      (F64.le (F64.abs (F64.sub spare x.rbLive)) (frac64 5 100) = false → exec (.spareParallelDone ch spare) s =
        .next (settle s (updBank (updAo s c fun x => { x with parallel := false, diffRun := 0, highRun := 0 }) true (c / 4) fun B => { B with ph := .retireOld, pos := c % 4 })))) ∧
    (x.parallel = false → exec (.spareParallelDone ch spare) s = .next (settle s s))) ∧
  (∀ (v : Word) (s : State), hostUp s = true →
    (∃ u, exec (.complianceClear v) s = .next (settle s u) ∧ u = { s with an := { s.an with ao := u.an.ao, compl := s.an.compl &&& ~~~ v } } ∧
      ∀ i, aoCh u i = if i < 32 ∧ v.getLsbD i = true ∧ (aoCh s i).compliance = true ∧ u8 (cfgBody s 0x0304 i) 3 = 1 then { aoCh s i with compClear := true } else aoCh s i) ∧
    (∃ u, exec (.mismatchClear v) s = .next (settle s u) ∧ u = { s with an := { s.an with ao := u.an.ao, mism := s.an.mism &&& ~~~ v } } ∧
      ∀ i, aoCh u i = if i < 32 ∧ v.getLsbD i = true ∧ (aoCh s i).mismatch = true then { aoCh s i with misClear := true } else aoCh s i)) ∧
  (∀ (g : Fin 8) (s : State),
    exec (.aoSupplyLow g) s = .next (settle s { s with an := { s.an with
      supLow := bset s.an.supLow g.val, supSeen := if s.an.supLow.getLsbD g.val = true then s.an.supSeen else bset s.an.supSeen g.val } }) ∧
    exec (.aoSupplyLowEnd g) s = .next (settle s { s with an := { s.an with supLow := bclr s.an.supLow g.val } }))

/-- The incremental channels. A level of A, B or Z that has been stable for GLITCH is accepted; a change of one of A and B is a step
in the sense of the phase order, reversed by INVERT, a change of both an illegal step. A step moves the raw count by one and the
reported count after it, with or without hysteresis, with the direction and the stamp of the change, and a count that meets an
armed compare position is a hit, which uses one pulse up, moves the position by the spacing and starts the width afresh; an
illegal step is counted and clears REFERENCED. A rising edge of Z that the accepted A and B qualify restarts the index check and,
with INDEX_MODE 1, or 2 where armed, sets the counts to INDEX_VALUE and REFERENCED. What falls into the decoder sample of the
next tick waits for it; in RESET nothing is decoded. The latch input writes a FIFO entry with the position, full or not it takes a
SEQ, and a full FIFO counts the loss; the levels of a switch go through the counter filter, and an edge it accepts notes the
correction of the entry that matches for the next tick, or is an event where none does; neither moves the position. A compare
pulse ends WIDTH after its latest hit. DIAG_PF_SNAP copies the frame latch of the channels written 1 (10 R242, R244-R246,
R253-R257, R261-R269, R280).
The model's own choices in it: notes/assumptions/147.md, notes/assumptions/149.md. -/
def Obligations.IncrementalChannelsCountAndLatch : Prop :=
  (∀ a b a' b' : Bool,
    (quadStep a b a' b' = none ↔ a' = a ∧ b' = b) ∧ (quadStep a b a' b' = some none ↔ a' ≠ a ∧ b' ≠ b) ∧
    (a' ≠ a → b' = b → quadStep a b a' b' = some (some (if a' ≠ b then Config.aLeadsUp else !Config.aLeadsUp))) ∧
    (a' = a → b' ≠ b → quadStep a b a' b' = some (some (if b' = a then Config.aLeadsUp else !Config.aLeadsUp)))) ∧
  (∀ (ch : Fin 8) (dt : Nat) (p q : Bool) (n k : Nat) (s : State),
    (s.md.mode = .reset → exec (.pfQuadStep ch dt ⟨p, q, n, k⟩) s = .next (settle s s) ∧ exec (.pfIndexEdge ch dt p n) s = .next (settle s s)) ∧
    (s.md.mode ≠ .reset → s.fr.next ≤ s.fr.t10 + dt →
      exec (.pfQuadStep ch dt ⟨p, q, n, k⟩) s = .next (settle s { advance s dt with pf := { s.pf with held := s.pf.held ++ [(ch.val, .quad p q n k)] } }) ∧
      exec (.pfIndexEdge ch dt p n) s = .next (settle s { advance s dt with pf := { s.pf with held := s.pf.held ++ [(ch.val, .index p n)] } }))) ∧
  (∀ (ch : Fin 8) (dt : Nat) (pa pb : Bool) (na nb : Nat) (s : State), s.md.mode ≠ .reset → s.fr.t10 + dt < s.fr.next →
    let a := advance s dt
    let c := ch.val
    let x := pfCh s c
    let la := if u8 (pfBody s c) 2 ≤ na then pa else x.la
    let lb := if u8 (pfBody s c) 2 ≤ nb then pb else x.lb
    let taken := updPf a c fun x => { x with la := la, lb := lb }
    (pfCounts s c = false ∨ quadStep x.la x.lb la lb = none → exec (.pfQuadStep ch dt ⟨pa, pb, na, nb⟩) s = .next (settle s taken)) ∧
    (pfCounts s c = true → quadStep x.la x.lb la lb = some none → exec (.pfQuadStep ch dt ⟨pa, pb, na, nb⟩) s =
      .next (settle s (pfEvent (updPf (updPf taken c fun x => { x with errIllegal := satInc 255 x.errIllegal }) c fun x => { x with referenced := false }) 3 c))) ∧
    (∀ up, pfCounts s c = true → quadStep x.la x.lb la lb = some (some up) →
      let sense := up != pfFlag s c 2
      let r' := if sense = true then x.r + 1 else x.r - 1
      let d := (r' - x.c).toInt
      let c' := if pfFlag s c 1 = false then r' else if 1 < d then r' - 1 else if d < -1 then r' + 1 else x.c
      ∃ u, exec (.pfQuadStep ch dt ⟨pa, pb, na, nb⟩) s = .next (settle s u) ∧
      u = { a with pf := { s.pf with ch := u.pf.ch, evNew := u.pf.evNew } } ∧ (∀ i, i ≠ c → pfCh u i = pfCh s i) ∧
      (pfCh u c).la = la ∧ (pfCh u c).lb = lb ∧
      (pfCh u c).r = r' ∧ (pfCh u c).c = c' ∧ (pfCh u c).referenced = x.referenced ∧
      (pfCh u c).idxSteps = x.idxSteps + (if sense = true then 1 else -1) ∧
      (c' = x.c → (pfCh u c).stamp = x.stamp ∧ (pfCh u c).left = x.left) ∧
      (c' ≠ x.c → (pfCh u c).stamp = a.fr.t10 ∧ (pfCh u c).dir = decide ((c' - x.c).toInt < 0)) ∧
      (c' ≠ x.c → x.cmpArmed = true → c' = x.compare → (pfCh u c).left = x.left - 1 ∧ (pfCh u c).cmpArmed = decide (x.left ≠ 1) ∧
        (pfCh u c).compare = (if 0 < (c' - x.c).toInt then x.compare + BitVec.ofNat 48 x.spacing else x.compare - BitVec.ofNat 48 x.spacing) ∧
        (cmpDriven s = true → (pfCh u c).cmpOn = true ∧ (pfCh u c).cmpEnd = a.fr.t10 + 10 * u16 (pfRec s 0x0403 c) 12) ∧
        (cmpDriven s = false → (pfCh u c).cmpOn = (x.cmpOn && decide (a.fr.t10 < x.cmpEnd)) ∧ (pfCh u c).cmpEnd = x.cmpEnd)) ∧
      (x.cmpArmed = false ∨ c' ≠ x.compare → (pfCh u c).left = x.left ∧ (pfCh u c).cmpOn = x.cmpOn))) ∧
  (∀ (ch : Fin 8) (dt : Nat) (z : Bool) (nz : Nat) (s : State), s.md.mode ≠ .reset → s.fr.t10 + dt < s.fr.next →
    let a := advance s dt
    let c := ch.val
    let x := pfCh s c
    let m := u8 (pfBody s c) 3
    let lz := if u8 (pfBody s c) 2 ≤ nz then z else x.lz
    let v := BitVec.ofNat 48 (u64 (pfBody s c) 16)
    (pfCounts s c = true → lz = true → x.lz = false → idxQualified s c = true → ∃ u, exec (.pfIndexEdge ch dt z nz) s = .next (settle s u) ∧
      u = { a with pf := { s.pf with ch := u.pf.ch, evNew := u.pf.evNew } } ∧ (∀ i, i ≠ c → pfCh u i = pfCh s i) ∧
      (pfCh u c).lz = true ∧ (pfCh u c).idxSteps = 0 ∧ (pfCh u c).idxSeen = true ∧
      ((m = 1 ∨ (m = 2 ∧ x.armed = true)) → (pfCh u c).c = v ∧ (pfCh u c).r = v ∧
        (pfCh u c).stamp = (if x.c = v then x.stamp else a.fr.t10) ∧ (pfCh u c).referenced = true ∧ (pfCh u c).armed = false) ∧
      (m ≠ 1 → (m ≠ 2 ∨ x.armed = false) → (pfCh u c).c = x.c ∧ (pfCh u c).r = x.r ∧ (pfCh u c).armed = x.armed ∧
        (pfCh u c).referenced = (x.referenced && !idxCheckFails s c))) ∧
    (pfCounts s c = false ∨ lz = false ∨ x.lz = true ∨ idxQualified s c = false → exec (.pfIndexEdge ch dt z nz) s =
      .next (settle s (updPf a c fun x => { x with lz := lz })))) ∧
  (∀ (ch : Fin 8) (dt : Nat) (r : Bool) (n : Fin 4) (s : State),
    (s.md.mode = .reset → exec (.pfLatchEdge ch dt r) s = .next (settle s s) ∧ exec (.pfSwitchEdge ch dt n r) s = .next (settle s s)) ∧
    (s.md.mode ≠ .reset → s.fr.next ≤ s.fr.t10 + dt →
      exec (.pfLatchEdge ch dt r) s = .next (settle s { advance s dt with pf := { s.pf with held := s.pf.held ++ [(ch.val, .latch r)] } }) ∧
      exec (.pfSwitchEdge ch dt n r) s = .next (settle s { advance s dt with pf := { s.pf with held := s.pf.held ++ [(ch.val, .switch n.val r)] } }))) ∧
  (∀ (ch : Fin 8) (dt : Nat) (rising : Bool) (s : State), s.md.mode ≠ .reset → s.fr.t10 + dt < s.fr.next →
    let a := advance s dt
    let c := ch.val
    let x := pfCh s c
    let e := u8 (pfBody s c) 13
    (x.decoded = true → (e = 2 ∨ e = if rising = true then 0 else 1) → (u8 (pfBody s c) 12).testBit 1 = true →
      ∃ u, exec (.pfLatchEdge ch dt rising) s = .next (settle s u) ∧ u = { a with pf := { s.pf with ch := u.pf.ch, evNew := u.pf.evNew } } ∧
        (∀ i, i ≠ c → pfCh u i = pfCh s i) ∧
        (x.fifo.length < 16 → pfCh u c = { x with seq := (x.seq + 1) % 256, fifo := x.fifo ++
          [{ stamp := if pfSerial s c = true then x.stamp else a.fr.t10, pos := x.c, kind := 2, dir := x.dir, sw := 0, rising := rising, seq := x.seq }] } ∧
          u.pf.evNew = s.pf.evNew) ∧
        (16 ≤ x.fifo.length → pfCh u c = { x with seq := (x.seq + 1) % 256, errFifo := satInc 255 x.errFifo } ∧ u.pf.evNew = bset s.pf.evNew (40 + c))) ∧
    (x.decoded = false ∨ (e ≠ 2 ∧ e ≠ if rising = true then 0 else 1) ∨ (u8 (pfBody s c) 12).testBit 1 = false →
      exec (.pfLatchEdge ch dt rising) s = .next (settle s a))) ∧
  (∀ (ch : Fin 8) (dt : Nat) (sw : Fin 4) (level : Bool) (s : State), s.md.mode ≠ .reset → s.fr.t10 + dt < s.fr.next →
    let a := advance s dt
    let c := ch.val
    let x := pfCh s c
    let n := u16 (pfBody s c) 14
    let k := a.fr.t10 / 100 - Tab.get x.swAt 0 sw.val / 100
    let was := x.sw.getLsbD sw.val
    let m := if level = true then min (Tab.get x.swCount 0 sw.val + k) n else min (Tab.get x.swCount 0 sw.val) n - k
    let now := if k = 0 then was else if m = n then true else if m = 0 then false else was
    let counted := updPf a c fun x => { x with
      swCount := Tab.set x.swCount 0 sw.val (if k = 0 then Tab.get x.swCount 0 sw.val else m), swAt := Tab.set x.swAt 0 sw.val a.fr.t10 }
    (x.decoded = true → pfFlag s c 0 = true → a.fr.t10 % 100 = 0 → now = was → exec (.pfSwitchEdge ch dt sw level) s = .next (settle s counted)) ∧
    (x.decoded = true → pfFlag s c 0 = true → a.fr.t10 % 100 = 0 → now ≠ was → ∃ u, exec (.pfSwitchEdge ch dt sw level) s = .next (settle s u) ∧
      u = { a with pf := { s.pf with ch := u.pf.ch, evNew := u.pf.evNew } } ∧ (∀ i, i ≠ c → pfCh u i = pfCh s i) ∧
      (pfCh u c).c = x.c ∧ (pfCh u c).r = x.r ∧ (pfCh u c).referenced = x.referenced ∧ (pfCh u c).sw = bput x.sw sw.val now ∧
      (pfCh u c).swCount = (pfCh counted c).swCount ∧ (pfCh u c).swAt = (pfCh counted c).swAt ∧
      (∀ e, switchMatch s c sw.val now = some e → (pfCh u c).lastCorr = e ∧ (pfCh u c).corr = if corrects s c = true then some e else x.corr) ∧
      (switchMatch s c sw.val now = none → (pfCh u c).lastCorr = x.lastCorr ∧ (pfCh u c).corr = x.corr ∧ u.pf.evNew.getLsbD (48 + c) = true)) ∧
    (x.decoded = false ∨ pfFlag s c 0 = false ∨ a.fr.t10 % 100 ≠ 0 → exec (.pfSwitchEdge ch dt sw level) s = .next (settle s a))) ∧
  (∀ (ch : Fin 8) (s : State),
    let x := pfCh s ch.val
    (x.cmpOn = true → x.cmpEnd < s.fr.next → exec (.cmpWidthEnd ch) s = .next (settle s (updPf (advanceTo s x.cmpEnd) ch.val fun x => { x with cmpOn := false }))) ∧
    (x.cmpOn = false ∨ s.fr.next ≤ x.cmpEnd → exec (.cmpWidthEnd ch) s = .next (settle s s))) ∧
  (∀ (v : Word) (s : State), hostUp s = true → ∃ u, exec (.diagPfSnap v) s = .next (settle s u) ∧
    u = { s with pf := { s.pf with snapFrame := s.fr.frame % 2 ^ 32, snap := u.pf.snap } } ∧
    ∀ c, if c < 8 ∧ v.getLsbD c = true then (Tab.get u.pf.snap (0, 0, 0) c).1 = (pfCh s c).lPos.toNat ∧ (Tab.get u.pf.snap (0, 0, 0) c).2.1 = (pfCh s c).lStamp
      else Tab.get u.pf.snap (0, 0, 0) c = Tab.get s.pf.snap (0, 0, 0) c)

/-- The serial channels and the faults of a channel. A transaction starts on a decoded serial channel whose sample time has come and
whose line is free. A word with a good CRC and no error bit ends the failures and gives the position, the first one outright,
a later one by its signed difference to the word before, and makes the channel REFERENCED while its supply is sound; a change by
one count to an armed compare position is a hit. A word with its error bit is discarded, no failure, and leaves the channel
UNCERTAIN at the next tick; one with a bad CRC counts a failure and moves nothing, as does a timeout; FAIL_LIMIT failures in a
row make the channel bad and not referenced. Under a line fault a word ends its transaction and nothing else. A line fault and a
supply fault clear REFERENCED and end with their end (10 R248-R252, R263, R268, R271, R273).
The model's own choices in it: notes/assumptions/146.md, notes/assumptions/150.md. -/
def Obligations.SerialChannelsTakeWords : Prop :=
  (∀ (ch : Fin 8) (dt data crc : Nat) (s : State),
    let a := advance s dt
    let c := ch.val
    let x := pfCh s c
    let b := pfBody s c
    let us := u16 b 34
    let failed := fun (f : PfCh → PfCh) (k : Nat) => pfEvent (updPf (updPf a c f) c fun x => { x with serBusy := false, failRun := satInc 255 x.failRun }) k c
    (x.decoded = true → pfSerial s c = true → x.serBusy = false → (us = 0 ∧ a.fr.t10 = s.fr.tick ∨ us ≠ 0 ∧ a.fr.t10 % (us * 100) = 0) →
      exec (.pfSerialStart ch dt) s = .next (settle s (updPf a c fun x => { x with serBusy := true, serStart := a.fr.t10 }))) ∧
    (x.decoded = false ∨ pfSerial s c = false ∨ x.serBusy = true ∨ (us = 0 ∧ a.fr.t10 ≠ s.fr.tick) ∨ (us ≠ 0 ∧ a.fr.t10 % (us * 100) ≠ 0) →
      exec (.pfSerialStart ch dt) s = .next (settle s a)) ∧
    (x.decoded = true → pfSerial s c = true → x.serBusy = true → x.lineFault = true → exec (.pfSerialWord ch dt data crc) s =
      .next (settle s (updPf a c fun x => { x with serBusy := false }))) ∧
    (x.decoded = true → pfSerial s c = true → x.serBusy = true → x.lineFault = false →
      (serCrcOk s c data crc = false → exec (.pfSerialWord ch dt data crc) s = .next (settle s (failed (fun x => { x with errCrc := satInc 255 x.errCrc }) 1))) ∧
      (serCrcOk s c data crc = true → serBit s c data (u8 b 29) = true → exec (.pfSerialWord ch dt data crc) s =
        .next (settle s (pfEvent (updPf a c fun x => { x with serBusy := false, serErr := true, failRun := 0 }) 3 c))) ∧
      (serCrcOk s c data crc = true → serBit s c data (u8 b 29) = false → ∃ u, exec (.pfSerialWord ch dt data crc) s = .next (settle s u) ∧
        u = { a with pf := { s.pf with ch := u.pf.ch, evNew := u.pf.evNew } } ∧ (∀ i, i ≠ c → pfCh u i = pfCh s i) ∧
        (pfCh u c).serBusy = false ∧ (pfCh u c).failRun = 0 ∧ (pfCh u c).bad = false ∧ (pfCh u c).stamp = x.serStart ∧
        (pfCh u c).serPrev = some (serPosition s c data) ∧ (pfCh u c).warn = serBit s c data (u8 b 30) ∧ (pfCh u c).r = (pfCh u c).c ∧
        (pfCh u c).referenced = (x.referenced || !x.supplyFault) ∧
        (x.serPrev = none →
          (pfCh u c).c = BitVec.ofInt 48 (if pfFlag s c 4 = true then signed (u8 b 27) (serPosition s c data) else serPosition s c data)) ∧
        (∀ q, x.serPrev = some q → (pfCh u c).c = x.c + BitVec.ofInt 48
          (signed (u8 b 27) ((serPosition s c data + 2 ^ u8 b 27 - q % 2 ^ u8 b 27) % 2 ^ u8 b 27))) ∧
        (((pfCh u c).c - x.c).toInt.natAbs = 1 → x.cmpArmed = true → (pfCh u c).c = x.compare → (pfCh u c).left = x.left - 1) ∧
        (((pfCh u c).c - x.c).toInt.natAbs ≠ 1 ∨ x.cmpArmed = false ∨ (pfCh u c).c ≠ x.compare → (pfCh u c).left = x.left))) ∧
    (x.decoded = false ∨ pfSerial s c = false ∨ x.serBusy = false → exec (.pfSerialWord ch dt data crc) s = .next (settle s a) ∧
      exec (.pfSerialTimeout ch dt) s = .next (settle s a)) ∧
    (x.decoded = true → pfSerial s c = true → x.serBusy = true → exec (.pfSerialTimeout ch dt) s =
      .next (settle s (failed (fun x => { x with errTimeout := satInc 255 x.errTimeout }) 2))) ∧
    (x.decoded = true → pfSerial s c = true → u8 b 37 ≤ x.failRun → exec (.pfSerialBad ch) s =
      .next (settle s (updPf (updPf s c fun x => { x with bad := true, serPrev := none }) c fun x => { x with referenced := false }))) ∧
    (x.decoded = false ∨ pfSerial s c = false ∨ x.failRun < u8 b 37 → exec (.pfSerialBad ch) s = .next (settle s s)) ∧
    exec (.pfLineFault ch) s = .next (settle s (if x.decoded = true then
      pfEvent (updPf (updPf s c fun x => { x with lineFault := true }) c fun x => { x with referenced := false }) 3 c else s)) ∧
    exec (.pfLineFaultEnd ch) s = .next (settle s (updPf s c fun x => { x with lineFault := false })) ∧
    exec (.pfEncoderSupplyFault ch) s = .next (settle s (pfEvent (updPf (updPf s c fun x => { x with supplyFault := true }) c fun x => { x with referenced := false }) 7 c)) ∧
    exec (.pfEncoderSupplySound ch) s = .next (settle s (updPf s c fun x => { x with supplyFault := false })))

/-- The engine's windows and the injections. An injection that has run its FRAMES, or a chirp that has reached its end, stops and
sets its bit in DIAG_INJECT_END; one that has not, or is not running, goes on. DIAG_STAGE_SNAP with bit 9 copies the state that a
stage had at the end of the latest engine phase into the stage window, all 0 for an unconfigured one; DIAG_PROFILE_SNAP with bit 4 copies the target and the stopping
distance of a profile; without the bit nothing changes. DIAG_TASK_PEAK_CLR clears the peaks of the tasks written 1
(11 R313, 12 R344, R357, 13 R391).
The model's own choices in it: notes/assumptions/10.md, notes/assumptions/75.md. -/
def Obligations.EngineWindowsAndInjections : Prop :=
  (∀ (i : Fin 512) (s : State),
    let x := stage s i.val
    let ended := (0 < x.frames ∧ x.frames ≤ x.k) ∨ (u8 (stBody s i.val) 24 = 1 ∧ u32 (stBody s i.val) 28 * 1000 ≤ x.k * s.fr.fUs)
    (x.running = true → ended → ∃ u, exec (.injectEnded i) s = .next (settle s u) ∧
      u = { s with ce := { s.ce with stages := u.ce.stages, injEnd := bset s.ce.injEnd (stOrd s 0x0B i.val) } } ∧
      stage u i.val = { x with running := false } ∧ ∀ j, j ≠ i.val → stage u j = stage s j) ∧
    (x.running = false ∨ ¬ ended → exec (.injectEnded i) s = .next (settle s s))) ∧
  (∀ (v : Word) (s : State), hostUp s = true →
    let i := v.toNat % 512
    let x := Tab.get s.ce.endStages Stage.init i
    let ty := stType (stBody s i)
    (v.getLsbD 9 = false → exec (.diagStageSnap v) s = .next (settle s s)) ∧
    (v.getLsbD 9 = true → stBody s i = [] → exec (.diagStageSnap v) s =
      .next (settle s { s with ce := { s.ce with winInfo := 0, winOut := 0, winS0 := 0, winS1 := 0, winFrame := BitVec.ofNat 32 s.ce.frame } })) ∧
    (v.getLsbD 9 = true → stBody s i ≠ [] → exec (.diagStageSnap v) s =
      .next (settle s { s with ce := { s.ce with
        winInfo := BitVec.ofNat 32 (unsigned 8 x.e + 256 * ty + 65536 * b2n x.sat + 131072 * b2n x.held + 262144 * b2n x.atLimit + 524288 * b2n x.manual)
        winOut := x.out0
        winS0 := if ty ∈ [2, 3, 4, 6, 7] then BitVec.ofInt 32 x.m1 else 0
        winS1 := if ty ∈ [2, 3, 4] then BitVec.ofInt 32 x.err else 0
        winFrame := BitVec.ofNat 32 s.ce.frame } })) ∧
    (v.getLsbD 4 = false → exec (.diagProfileSnap v) s = .next (settle s s)) ∧
    (v.getLsbD 4 = true → stOfOrd s 1 (v.toNat % 16) = none → exec (.diagProfileSnap v) s =
      .next (settle s { s with ce := { s.ce with snapTarget := 0, snapDist := 0 } })) ∧
    (∀ k, v.getLsbD 4 = true → stOfOrd s 1 (v.toNat % 16) = some k → exec (.diagProfileSnap v) s =
      let y := Tab.get s.ce.endStages Stage.init k
      .next (settle s { s with ce := { s.ce with
        snapTarget := BitVec.ofInt 48 (y.target.getD 0)
        snapDist := BitVec.ofInt 32 (F64.toIntSat (dstop (planV y) (planA y) (f64 (stBody s k) 32) (f64 (stBody s k) 40)) 0 0xFFFFFFFF) } })) ∧
    (∃ u, exec (.diagTaskPeakClr v) s = .next (settle s u) ∧
      u = { s with pg := { s.pg with tasks := u.pg.tasks } } ∧
      ∀ t, taskSt u t = if t < 16 ∧ v.getLsbD t = true then { taskSt s t with peak := 0 } else taskSt s t))

/-- The point engine. It takes the oldest queue once its frame has ended, outside CHECKING and while no standby waits for its holder, after the snapshots that
are still due (the model's choice, notes/assumptions/10.md): a record of a point without alarms and
trend takes the class and the time of its update, and the value when the class changes or the value has moved by more than the
dead band. A queue of frame n that waits at the tick of frame n + 2 is counted once, and its first one since QUEUE_LATE was
cleared is logged. A due snapshot of a subscription is written into its next segment and handed over; one of a late frame and one
whose segment the host owns are missed (14 R395, R397, R400, R407-R409). -/
def Obligations.PointQueuesAndSnapshots : Prop :=
  (∀ (s : State), (s.pt.queues = [] → exec .pointEngineQueue s = .next (settle s s)) ∧
    (∀ q r, s.pt.queues = q :: r → s.fr.frame ≤ q.frame ∨ s.md.mode = .checking ∨ s.gr.waiting = true → exec .pointEngineQueue s = .next (settle s s)) ∧
    (∀ q r, s.pt.queues = q :: r → q.frame < s.fr.frame → s.md.mode ≠ .checking → s.gr.waiting = false →
      let c := dueSnapshots s
      ∃ u, exec .pointEngineQueue s = .next (settle s u) ∧ u = { c with pt := u.pt } ∧ u.pt.queues = r ∧ u.pt.applied = some q.frame ∧
        u.pt.appliedLate = decide (q.frame + 2 ≤ c.fr.frame) ∧ u.pt.lateFor = c.pt.lateFor ∧ u.pt.subOvr = c.pt.subOvr ∧ u.pt.late = c.pt.late ∧
        (∀ w b, q.ins = [w] → q.outs = [] → q.writes = [] → c.pt.acks = [] → rangeOf c.cfg.run w.slot = some b → alarmTpl c.cfg.run b = none →
          ringLen c.cfg.run b = 0 →
          let p := point c w.slot
          point u w.slot = { p with frame := q.frame, off := w.off, q := w.q, cond := 0, used := 0, v := if w.q ≠ p.q ∨ F64.le (F64.abs (F64.sub w.v p.v)) (f64 b 24) = false then w.v else p.v, prev := w.v, prevFrame := q.frame % 2 ^ 32, rateValid := true } ∧
          ∀ n, n ≠ w.slot → point u n = point c n))) ∧
  (∀ (s : State), (s.pt.queues = [] ∨ s.md.mode = .checking ∨ s.pt.lateFor = some (s.fr.frame + 1) → exec .pointQueueLate s = .next (settle s s)) ∧
    (∀ q r, s.pt.queues = q :: r → s.fr.frame + 1 < q.frame + 2 → exec .pointQueueLate s = .next (settle s s)) ∧
    (∀ q r, s.pt.queues = q :: r → q.frame + 2 ≤ s.fr.frame + 1 → s.md.mode ≠ .checking → s.pt.lateFor ≠ some (s.fr.frame + 1) →
      exec .pointQueueLate s = .next (settle s { (if s.pt.event.getLsbD 3 = true then pushLog s 116 0xFFFF 1 else s) with
        pt := { s.pt with lateFor := some (s.fr.frame + 1), late := satInc32 s.pt.late, event := bset s.pt.event 3 } }))) ∧
  (∀ (id : Fin 32) (s : State), (Tab.get s.cm.subs none id.val = none ∨ s.pt.applied = none → exec (.subscriptionSnapshot id) s = .next (settle s s)) ∧
    ∀ x n, Tab.get s.cm.subs none id.val = some x → s.pt.applied = some n →
      let seg := x.segFirst + x.next
      let put := fun (s : State) (y : Sub) => { s with cm := { s.cm with subs := Tab.set s.cm.subs none id.val (some y) } }
      (n < x.n0 ∨ n < x.handled ∨ (n - x.n0) % max x.decim 1 ≠ 0 → exec (.subscriptionSnapshot id) s = .next (settle s s)) ∧
      (x.n0 ≤ n → x.handled ≤ n → (n - x.n0) % max x.decim 1 = 0 →
        (s.pt.appliedLate = true → exec (.subscriptionSnapshot id) s = .next (settle s (put s { x with handled := n + 1, missed := x.missed + 1 }))) ∧
        (s.pt.appliedLate = false → (dirOf s seg).dev = false → exec (.subscriptionSnapshot id) s =
          .next (settle s { put s { x with handled := n + 1, missed := x.missed + 1 } with pt := { s.pt with subOvr := bset s.pt.subOvr id.val } })) ∧
        (s.pt.appliedLate = false → (dirOf s seg).dev = true → exec (.subscriptionSnapshot id) s =
          .next (settle s (handback (put (winWrite s (seg * 65536) (snapBytes s id.val x n))
            { x with handled := n + 1, missed := 0, seq := x.seq + 1, next := (x.next + 1) % max x.segCount 1 }) x.target (some 64) seg)))))

/-- Transmission and error confinement. Of the queued frames the one with the lowest order value is on the bus, and a frame on the bus stays
there. A completed frame leaves the queue, lowers TEC by one and ends ALONE. An error raises TEC by 8, except an acknowledge error without a
dominant bit in ERROR_PASSIVE; a frame that has failed RETX_LIMIT times leaves the queue, and TEC above 255 is BUS_OFF with an empty
queue. A frame that fails after its gate has closed leaves the queue too, with TEC as it was. 16 acknowledge errors in a row and 100 ms without a frame make the port ALONE. An error while receiving raises REC in normal operation alone.
A recovery starts RECOVER_MS after BUS_OFF with AUTO_RECOVER and ends ERROR_ACTIVE with the counters at 0. A join ends after JOIN_FRAMES frames, or
after JOIN_MS without one. A transmit gate that opens inside a frame is open in that frame, and a port that goes down is looked at by the
safety ports at once, where safety runs (15 R420, R422, R428-R430, R437-R439; 16 R467).
The model's own choices in it: notes/assumptions/88.md. -/
def Obligations.TransmissionsUnderErrorConfinement : Prop :=
  (∀ (q : List TxFrame), (q.any (·.onBus) = true → offer q = q) ∧
    (q ≠ [] → q.any (·.onBus) = false → ∃ i f, q[i]? = some f ∧ offer q = q.set i { f with onBus := true } ∧ ∀ g ∈ q, f.order ≤ g.order)) ∧
  (∀ (p : Fin 4) (dt : Nat) (s : State),
    let a := advance s dt
    let x := port s p.val
    let q := txq s p.val
    let only := (fun (u : State) => u = { a with bus := { s.bus with ports := u.bus.ports, txq := u.bus.txq, event := u.bus.event } } ∧
      ∀ i, i ≠ p.val → port u i = port s i ∧ txq u i = txq s i)
    (q.any (·.onBus) = false → exec (.canTxComplete p dt) s = .next (settle s a) ∧
      ∀ ackErr dominant, exec (.canTxError p dt ackErr dominant) s = .next (settle s a)) ∧
    (q.any (·.onBus) = true → ∃ u, exec (.canTxComplete p dt) s = .next (settle s u) ∧ only u ∧ u.bus.event = s.bus.event ∧
      txq u p.val = (let r := q.filter (fun f => !f.onBus); if normalOp x = true then offer r else r) ∧
      port u p.val = { x with tx := satInc32 x.tx, ackRun := 0, alone := false,
                              tecN := if normalOp x = true then x.tecN - 1 else x.tecN, st := if normalOp x = true then confState (x.tecN - 1) x.recN else x.st }) ∧
    (normalOp x = false → q.any (·.onBus) = true → ∀ ackErr dominant, ∃ u, exec (.canTxError p dt ackErr dominant) s = .next (settle s u) ∧ only u ∧
      u.bus.event = s.bus.event ∧ txq u p.val = q.filter (fun f => !f.onBus) ∧ port u p.val = { x with errors := satInc32 x.errors }) ∧
    (normalOp x = true → q.any (·.onBus) = true → ∀ ackErr dominant,
      let lim := u8 (portBody s p.val) 11
      let gone := fun (f : TxFrame) => f.onBus && decide (lim ≠ 0) && decide (lim ≤ f.fails + 1)
      let held := decide (x.st = 4) && ackErr && !dominant
      let tec := if held = true then x.tecN else x.tecN + 8
      let run := if ackErr = true then satInc 255 x.ackRun else 0
      ∃ u, exec (.canTxError p dt ackErr dominant) s = .next (settle s (watchPorts u)) ∧ only u ∧
        (port u p.val).tecN = tec ∧ (port u p.val).recN = x.recN ∧ (port u p.val).st = (if held = true then 4 else confState tec x.recN) ∧
        (port u p.val).errors = satInc32 x.errors ∧ (port u p.val).ackRun = run ∧
        (port u p.val).alone = (x.alone || (decide (16 ≤ run) && decide (x.lastRx + 10000000 ≤ a.fr.t10))) ∧
        (port u p.val).retxDrop = (if q.any gone = true then satInc32 x.retxDrop else x.retxDrop) ∧
        txq u p.val = (if (if held = true then 4 else confState tec x.recN) = 5 then [] else
          offer ((q.filter (fun f => !gone f)).map (fun f => if f.onBus = true then { f with fails := f.fails + 1, onBus := false } else f)))) ∧
    (∀ n, (receives x = false → exec (.canRxError p dt n) s = .next (settle s a)) ∧
      (receives x = true → ∃ u, exec (.canRxError p dt n) s = .next (settle s u) ∧ only u ∧
        txq u p.val = (if normalOp x = true ∧ confState x.tecN (min (x.recN + n) 511) = 5 then [] else q) ∧
        (port u p.val).errors = satInc32 x.errors ∧ (port u p.val).tecN = x.tecN ∧
        (normalOp x = false → (port u p.val).recN = x.recN ∧ (port u p.val).st = x.st) ∧
        (normalOp x = true → (port u p.val).recN = min (x.recN + n) 511 ∧ (port u p.val).st = confState x.tecN (min (x.recN + n) 511)))) ∧
    (let dueNow := x.st = 5 ∧ portFlag s p.val 3 = true ∧ x.offAt + u16 (portBody s p.val) 16 * 100000 ≤ a.fr.t10;
      (dueNow → exec (.busOffRecoveryStart p dt) s = .next (settle s (updPort a p.val fun x => { x with st := 6 }))) ∧
      (¬ dueNow → exec (.busOffRecoveryStart p dt) s = .next (settle s a))) ∧
    (x.st = 6 → exec (.busOffRecoveryDone p dt) s = .next (settle s (openInFrame (updPort a p.val fun x => { x with st := 3, tecN := 0, recN := 0 }) p.val))) ∧
    (x.st ≠ 6 → exec (.busOffRecoveryDone p dt) s = .next (settle s a)) ∧
    (let joined := x.st = 1 ∧ (u8 (portBody s p.val) 12 ≤ x.joinRx ∨ (x.joinRx = 0 ∧ x.joinFrom + u16 (portBody s p.val) 14 * 100000 ≤ a.fr.t10));
      (joined → ∃ u, exec (.joinEnd p dt) s = .next (settle s u) ∧ only u ∧ (port u p.val).st = confState x.tecN x.recN ∧
        (port u p.val).tecN = x.tecN ∧ (port u p.val).recN = x.recN) ∧
      (¬ joined → exec (.joinEnd p dt) s = .next (settle s a))) ∧
    (let aloneNow := x.alone = false ∧ 16 ≤ x.ackRun ∧ x.lastRx + 10000000 ≤ a.fr.t10;
      (aloneNow → exec (.portAlone p dt) s = .next (settle s (watchPorts (busEvent (updPort a p.val fun x => { x with alone := true }) 3 p.val)))) ∧
      (¬ aloneNow → exec (.portAlone p dt) s = .next (settle s (watchPorts a))))) ∧
  (∀ s : State, safetyLive s = false ∨ s.md.mode = .checking → watchPorts s = s) ∧
  (∀ (p : Nat) (s : State), (txGate s p = true → openInFrame s p = updPort s p (fun x => { x with gate := true })) ∧ (txGate s p = false → openInFrame s p = s))

/-- Reception. A port that does not receive ignores a frame, and one without FD counts an FD frame as dropped. Every other frame counts for its
port and its join or its REC (above 127 a value of 119 to 127 that the specification leaves open). A remote frame is unmatched. A frame of a safe message is never looked up in
the pool, nor does a tracking standby store one. The receive object of its key takes the frame, with LOST where the one before was still NEW;
a frame of another format is dropped, one of a transmit object or of no object and template is unmatched. The first frame of a node takes
the lowest free entry and an object; without an entry it is refused. A node silent too long becomes LOST (15 R417, R420, R422,
R424, R425, R431-R433, R435, R437; 17 R502).
The model's own choices in it: notes/assumptions/89.md. -/
def Obligations.FramesAreStoredOnce : Prop :=
  (∀ (p : Nat) (s : State),
    let g := frameSeen s p
    let x := port s p
    let y := port g p
    g.bus.objs = s.bus.objs ∧ g.bus.dyns = s.bus.dyns ∧ g.bus.nodes = s.bus.nodes ∧ g.cfg = s.cfg ∧ g.fr = s.fr ∧ (∀ i, i ≠ p → port g i = port s i) ∧
    y.rx = satInc32 x.rx ∧ y.lastRx = s.fr.t10 ∧ y.joinRx = x.joinRx + 1 ∧ y.tecN = x.tecN ∧
    (x.st = 1 → y.recN = x.recN ∧ y.st = if u8 (portBody s p) 12 ≤ x.joinRx + 1 then confState x.tecN x.recN else 1) ∧
    (x.st = 2 → y.recN = x.recN ∧ y.st = 2) ∧
    (x.st = 3 ∨ x.st = 4 → y.st = confState x.tecN y.recN ∧ (x.recN = 0 → y.recN = 0) ∧ (0 < x.recN → x.recN ≤ 127 → y.recN = x.recN - 1) ∧
      (127 < x.recN → 119 ≤ y.recN ∧ y.recN ≤ 127))) ∧
  (∀ (p : Fin 4) (dt : Nat) (ide : Bool) (id : Nat) (fdf rtr : Bool) (data : List Byte) (s : State),
    let a := advance s dt
    let x := port s p.val
    let c : Instr := .canFrameReceived p dt ide id fdf rtr data
    let g := frameSeen a p.val
    let seen := receives x = true ∧ (fdf = false ∨ portFlag s p.val 0 = true)
    let looked := seen ∧ rtr = false ∧ safeMatch s p.val ide id = none ∧ g.gr.tracking = false
    let first := (fun (k : Nat) (b : List Byte) => (objElems g.cfg.run)[k]? = some b ∧ soKey b = canKey p.val ide id ∧
      ∀ j b', j < k → (objElems g.cfg.run)[j]? = some b' → soKey b' ≠ canKey p.val ide id)
    (receives x = false → exec c s = .next (settle s a)) ∧
    (receives x = true → fdf = true → portFlag s p.val 0 = false → exec c s = .next (settle s (updPort a p.val fun x => { x with dropped := satInc 0xFFFF x.dropped }))) ∧
    (seen → rtr = true → exec c s = .next (settle s (countUnmatched g p.val))) ∧
    (seen → rtr = false → ∀ m, safeMatch s p.val ide id = some m → exec c s = .next (settle s (safeCopy g p.val m.1 ide id fdf data))) ∧
    (seen → rtr = false → safeMatch s p.val ide id = none → g.gr.tracking = true → exec c s = .next (settle s g)) ∧
    (looked → ∀ k b, first k b →
      let o := Tab.get g.bus.objs Obj.init k
      (soFlag b 0 = true → exec c s = .next (settle s (countUnmatched g p.val))) ∧
      (soFlag b 0 = false → soFlag b 2 ≠ fdf ∨ soLen b ≠ data.length → exec c s = .next (settle s (countDropped g p.val))) ∧
      (soFlag b 0 = false → soFlag b 2 = fdf → soLen b = data.length → ∃ u, exec c s = .next (settle s u) ∧
        u = { g with bus := { g.bus with event := if o.isNew = true ∧ soFlag b 4 = true then bset g.bus.event (24 + p.val) else g.bus.event
                                         objs := Tab.set g.bus.objs Obj.init k { stored := true, data := data, rxT10 := g.fr.t10, isNew := true, lost := o.lost || o.isNew } } })) ∧
    (looked → (∀ k b, ¬ first k b) →
      (∀ d, g.bus.dyns.find? (fun d => decide (d.key = canKey p.val ide id)) = some d →
        let tb := cfgBody g 0x0503 d.tmpl
        ((u8 tb 1).testBit 2 ≠ fdf ∨ u8 tb 2 ≠ data.length → exec c s = .next (settle s (countDropped g p.val))) ∧
        ((u8 tb 1).testBit 2 = fdf → u8 tb 2 = data.length → exec c s = .next (settle s (nodeFrame
          { g with bus := { g.bus with dyns := g.bus.dyns.map (fun x => if x.key = canKey p.val ide id then { x with o := storeObj g.fr.t10 data d.o } else x) } }
          d.node ide id fdf data d.tmpl d.o.isNew)))) ∧
      (g.bus.dyns.find? (fun d => decide (d.key = canKey p.val ide id)) = none →
        (fitTemplate g p.val ide id fdf data.length = none → exec c s = .next (settle s (countUnmatched g p.val))) ∧
        (∀ t n, fitTemplate g p.val ide id fdf data.length = some (t, n) → findNode g p.val (u8 (cfgBody g 0x0503 t) 3) n = none →
          (freeNode g = none → exec c s = .next (settle s (busEvent { g with bus := { g.bus with refused := satInc32 g.bus.refused } } 2 p.val))) ∧
          (∀ k b, freeNode g = some k →
            (g.bus.dyns.filter (fun d => d.reserved && decide (d.tmpl = t))).length < u16 (cfgBody g 0x0503 t) 16 →
            placeKey (placesUsed g) (canKey p.val ide id) = some b →
            ∃ u, exec c s = .next (settle s u) ∧ u = { g with bus := { g.bus with dyns := u.bus.dyns, nodes := u.bus.nodes, event := bset g.bus.event p.val } } ∧
              u.bus.dyns = g.bus.dyns ++ [{ key := canKey p.val ide id, tmpl := t, node := k, reserved := true, place := b,
                                            o := { stored := true, data := data, rxT10 := g.fr.t10, isNew := true, lost := false } }] ∧
              (∀ i, i ≠ k → node u i = node g i) ∧
              node u k = { port := p.val, group := u8 (cfgBody g 0x0503 t) 3, st := 1, objects := 1, node := n, firstT10 := g.fr.t10, lastT10 := g.fr.t10, frames := 1,
                           lostCount := 0, lastId := id + 2 ^ 29 * b2n ide + 2 ^ 30 * b2n fdf, lastLen := data.length, tmpl := t, joins := 1, payload := data }))))) ∧
  (∀ (n : Nat) (s : State),
    let x := node s n
    let silent := x.st = 1 ∧ x.lastT10 + u16 (cfgBody s 0x0503 x.tmpl) 14 * 100000 < s.fr.next
    (silent → exec (.nodeLost n) s = .next (settle s (busEvent (setNode s n { x with st := 2 }) 1 x.port))) ∧
    (¬ silent → exec (.nodeLost n) s = .next (settle s s)))

/-- Safety faults. A discrepancy that has stood for more than 20 ms at the tick, and a readback that differs from its command outside the tests, latch every
used SO off in both channels, record the SO, and ask for SAFE_HOLD with cause 0x05 or 0x07. A feedback that has been wrong for more than T_EDM in a live channel
opens every switch and sets the LOCKOUT latch. A wrong CRC of Attar's memory or of SC's copy, while the image was agreed, opens every
switch, ends the agreement and asks for SAFE_HOLD with cause 0x0D. After each of them every SO command is off (16 R449, R457-R461, R472).
The model's own choices in it: notes/assumptions/94.md, notes/assumptions/96.md. -/
def Obligations.SafetyFaultsOpenEverySwitch : Prop :=
  (∀ (k : Fin 8) (dt : Nat) (s : State),
    let a := advance s dt
    let used : BitVec 8 := BitVec.ofNat 8 (soUsed s)
    let latched := fun (f : SafetySt) (e : Nat) => { f with high := 0, low := 0, swHigh := 0, swLow := 0, latchSc := f.latchSc ||| used, latchAt := f.latchAt ||| used, event := bset f.event e }
    let dark := fun (u : State) => ∀ j, highCmd u j = false ∧ lowCmd u j = false
    (∀ t, safetyLive s = true → soIn s k.val = true → (s.sf.scDone = false ∨ s.sf.lsc.getLsbD k.val ≠ s.sf.lat.getLsbD k.val) →
      Tab.get s.sf.discSince none k.val = some t → t + 2000000 < s.fr.tick →
      ∃ u, exec (.discrepancyFault k dt) s = .next (settle s u) ∧ dark u ∧
        u = pendCause { a with sf := latched { s.sf with fltDisc := bset s.sf.fltDisc k.val } 1 } 0x05) ∧
    (safetyLive s = false ∨ soIn s k.val = false ∨ (s.sf.scDone = true ∧ s.sf.lsc.getLsbD k.val = s.sf.lat.getLsbD k.val) ∨ Tab.get s.sf.discSince none k.val = none ∨
        (∃ t, Tab.get s.sf.discSince none k.val = some t ∧ s.fr.tick ≤ t + 2000000) →
      exec (.discrepancyFault k dt) s = .next (settle s a)) ∧
    (∀ high, safetyLive s = true → soIn s k.val = true → soTestRuns s k.val = false →
      let rb := if high = true then s.sf.rbHigh.getLsbD k.val else s.sf.rbLow.getLsbD k.val
      ∃ u, exec (.soSwitchFault k high dt) s = .next (settle s u) ∧ dark u ∧
        u = pendCause { a with sf := latched { s.sf with
              rbHigh := if high = true then bput s.sf.rbHigh k.val (rb || !soHighOn s k.val) else s.sf.rbHigh
              rbLow := if high = true then s.sf.rbLow else bput s.sf.rbLow k.val (rb || !soLowOn s k.val)
              fltSwitch := bset s.sf.fltSwitch k.val } 6 } 0x07) ∧
    (∀ high, safetyLive s = false ∨ soIn s k.val = false ∨ soTestRuns s k.val = true → exec (.soSwitchFault k high dt) s = .next (settle s a)) ∧
    (let wrong := fun (t : Tab (Option Nat)) => ∃ f, Tab.get t none k.val = some f ∧ f + u16 (sfBody s 0x0805 k.val) 4 * 100000 < a.fr.t10
     (safetyLive s = true → hasControl s = true → wrong s.sf.edmSc ∨ wrong s.sf.edmAt →
        ∃ u, exec (.edmFault k dt) s = .next (settle s u) ∧ dark u ∧
          u = { a with sf := { s.sf with high := 0, low := 0, swHigh := 0, swLow := 0, hold := true, event := bset s.sf.event 2, fltEdm := bset s.sf.fltEdm k.val }
                       mram := { s.mram with lockout := true }, md := { s.md with pendEdm := true } }) ∧
     (safetyLive s = false ∨ hasControl s = false ∨ (¬ wrong s.sf.edmSc ∧ ¬ wrong s.sf.edmAt) → exec (.edmFault k dt) s = .next (settle s a)))) ∧
  (∀ (crc : Nat) (ok : Bool) (s : State),
    let bad := fun (c : Nat) => pendCause { s with sf := { s.sf with attarCrc := c, high := 0, low := 0, swHigh := 0, swLow := 0, hold := true, event := bset s.sf.event 7, agreed := false } } 0x0D
    (safetyLive s = false → exec (.attarCrcCheck crc) s = .next (settle s s) ∧ exec (.scImageCheck ok) s = .next (settle s s)) ∧
    (safetyLive s = true → (s.sf.agreed = false ∨ crc = attarCrc s.sf.copy) →
      exec (.attarCrcCheck crc) s = .next (settle s { s with sf := { s.sf with attarCrc := crc } })) ∧
    (safetyLive s = true → s.sf.agreed = true → crc ≠ attarCrc s.sf.copy → exec (.attarCrcCheck crc) s = .next (settle s (bad crc)) ∧
      ∀ j, highCmd (bad crc) j = false ∧ lowCmd (bad crc) j = false) ∧
    (safetyLive s = true → (s.sf.agreed = false ∨ ok = true) → exec (.scImageCheck ok) s = .next (settle s s)) ∧
    (safetyLive s = true → s.sf.agreed = true → ok = false → exec (.scImageCheck ok) s = .next (settle s (bad s.sf.attarCrc)))) ∧
  (∀ (c : Nat) (s : State), (pendCause s c).md = { s.md with pendFault := (pendCause s c).md.pendFault } ∧
    ∀ x, x ∈ (pendCause s c).md.pendFault ↔ x = c ∨ x ∈ s.md.pendFault)

/-- Safe messages. A valid copy waits for its partner; a partner of the other port with equal bytes 0-11 within the window accepts the message, one with other
bytes discards both, and in single-network operation a valid copy is accepted at once; an invalid copy changes nothing of the waiting one and is counted. A
copy whose window has passed is discarded, SC counting it; a VALID message without an acceptance for MAX_AGE_MS enters FAULT
with its bits 0. A port silent for NET_TIMEOUT beside one that is not is LOST, and the loss of both ports asks for SAFE_HOLD with cause
0x06; the end of the degraded timer with a cause standing asks for it with cause 0x04 (16 R464-R467, R470).
The model's own choices in it: notes/assumptions/93.md. -/
def Obligations.SafeMessagesNeedTwoEqualCopies : Prop :=
  (∀ (b : List Byte) (single : Bool) (t p : Nat) (ide : Bool) (id : Nat) (fdf : Bool) (data : List Byte) (x : MsgCh),
    let r := copyStep b single t p ide id fdf data x
    (windowOver b t x = true → r = (let q := copyStep b single t p ide id fdf data { x with waitPort := none, waitBytes := [] }; (q.1, q.2 + 1))) ∧
    (windowOver b t x = false →
    (copyValid b x ide id fdf data = false → r = (x, 1)) ∧
    (copyValid b x ide id fdf data = true →
      (single = true → r = (acceptMsg t data x, 0)) ∧
      (single = false → x.waitPort = none ∨ x.waitPort = some p → r = ({ x with waitPort := some p, waitBytes := data.take 12, waitAt := t }, 0)) ∧
      (single = false → ∀ q, x.waitPort = some q → q ≠ p →
        r = if x.waitBytes = data.take 12 then (acceptMsg t data x, 0) else ({ x with waitPort := none, waitBytes := [] }, 1))))) ∧
  (∀ (m : Nat) (attar : Bool) (dt : Nat) (s : State),
    let a := advance s dt
    let b := msgBody s m
    let x := msgOf s attar m
    let old := x.valid = true ∧ x.acceptedAt + u16 b 16 * 100000 ≤ a.fr.t10
    let past := x.waitPort ≠ none ∧ x.waitAt + u16 b 14 * 100000 < a.fr.t10
    let put := fun (s : State) (y : MsgCh) => { s with sf := { s.sf with msgs := if attar = true then s.sf.msgs else Tab.set s.sf.msgs MsgCh.init m y, msgsAt := if attar = true then Tab.set s.sf.msgsAt MsgCh.init m y else s.sf.msgsAt } }
    (old → exec (.safeMsgMaxAge m attar dt) s = .next (settle s (sfEvent (put a { x with valid := false, bits := 0, next := none, needReset := x.needReset || (u8 b 2).testBit 1, resetDone := false }) 4))) ∧
    (¬ old → exec (.safeMsgMaxAge m attar dt) s = .next (settle s a)) ∧
    (past → exec (.discWindowExpiry m attar dt) s = .next (settle s
      (let y := put a { x with waitPort := none, waitBytes := [] }
       if attar = true then y else { y with sf := { y.sf with rejects := min (s.sf.rejects + 1) 0xFFFFFFFF } }))) ∧
    (¬ past → exec (.discWindowExpiry m attar dt) s = .next (settle s a))) ∧
  (∀ (p : Fin 4) (dt : Nat) (s : State),
    let a := advance s dt
    let nt := netTimeout s (p.val / 2)
    let silent := safetyLive s = true ∧ pairRx s (p.val / 2) ≠ [] ∧ (lastCopy s p.val).getD s.sf.loadAt + nt ≤ a.fr.t10 ∧
      ∃ c, lastCopy s (p.val ^^^ 1) = some c ∧ a.fr.t10 < c + nt
    let gone : State := if s.sf.lost.getLsbD p.val = true then a else { a with sf := { s.sf with lost := bset s.sf.lost p.val, event := bset s.sf.event 5 } }
    (silent → exec (.safeNetTimeout p dt) s = .next (settle s
      (if gone.sf.lost.getLsbD (2 * (p.val / 2)) = true ∧ gone.sf.lost.getLsbD (2 * (p.val / 2) + 1) = true then pendCause gone 0x06 else gone))) ∧
    (¬ silent → exec (.safeNetTimeout p dt) s = .next (settle s a)) ∧
    (∀ f, degCause a = true → a.md.mode.allPhases = true → s.sf.degFrom = some f → f + tDeg s ≤ a.fr.t10 → exec (.degradedTimerExpiry dt) s = .next (settle s (pendCause a 0x04))) ∧
    (degCause a = false ∨ a.md.mode.allPhases = false ∨ s.sf.degFrom = none ∨ (∃ f, s.sf.degFrom = some f ∧ a.fr.t10 < f + tDeg s) →
      exec (.degradedTimerExpiry dt) s = .next (settle s a)))

/-- Attar's cycle. With a configuration it takes the accepted messages and evaluates every output and flag of the term table in its own memory as the OR of the ANDs of
their terms' literals; the timers follow their flags, and without EDM records the live outputs of the used SOs are those results and the low-side
commands are sent at the cycle's end. A timer's output changes once its time may have run
out within its accuracy, and not before. ON_DELAY falls and OFF_DELAY rises with its flag
at once. The SC blocks TERM, ANY and SO_OUT set their bit or result and nothing else (16 R449, R451-R455).
The model's own choices in it: notes/assumptions/59.md. -/
def Obligations.AttarAndScComputeTheirResults : Prop :=
  (∀ (dt : Nat) (s : State),
    let a := advance s dt
    let m := attarMsgs (cycleSnapshot a)
    let lits := fun (e : Rec × Nat × List Byte) => ∀ j, j < u8 e.2.2 1 → attarLit m (siAttar m) (msgAt m) (u16 e.2.2 (4 + 2 * j)) = true
    let fires := fun (o : Nat) => ∃ e ∈ elemsOf m.sf.table 0x0803 24, u8 e.2.2 0 = o ∧ lits e
    (hasCfg s = false → exec (.attarCycle dt) s = .next (settle s a)) ∧
    (hasCfg s = true → ∃ u, exec (.attarCycle dt) s = .next (settle s u) ∧
      (∀ k, k < 8 → (u.sf.flags.getLsbD k = true ↔ fires (8 + k))) ∧
      (∀ k,
        (k < 16 → ∀ r, findRec m.sf.table 0x0804 k = some r → timFlag r.body < 8 → Tab.get u.sf.timers AtTimer.init k =
          timStep r.body m.fr.t10 (u.sf.flags.getLsbD (timFlag r.body)) (Tab.get m.sf.timers AtTimer.init k)) ∧
        (16 ≤ k ∨ findRec m.sf.table 0x0804 k = none → Tab.get u.sf.timers AtTimer.init k = Tab.get m.sf.timers AtTimer.init k)) ∧
      ((∀ k, sfRec m 0x0805 k = none) →
        u = { m with sf := { m.sf with latLive := u.sf.latLive, low := u.sf.low, flags := u.sf.flags, timers := u.sf.timers, edmAt := u.sf.edmAt } } ∧
        ∀ k, k < 8 → (u.sf.latLive.getLsbD k = true ↔ soIn m k = true ∧ fires k) ∧ u.sf.low.getLsbD k = lowCmd u k))) ∧
  (∀ (k : Fin 16) (dt : Nat) (s : State),
    let a := advance s dt
    let x := Tab.get s.sf.timers AtTimer.init k.val
    (∀ r, findRec s.sf.table 0x0804 k.val = some r →
      let waits := if timOff r.body = true then x.input = false ∧ x.out = true else x.input = true ∧ x.out = false
      (waits → timTime r.body * 999 ≤ (a.fr.t10 - x.since + 1000) * 1000 → exec (.attarTimerExpiry k dt) s =
        .next (settle s { a with sf := { s.sf with timers := Tab.set s.sf.timers AtTimer.init k.val { x with out := !timOff r.body } } })) ∧
      (¬ waits ∨ (a.fr.t10 - x.since + 1000) * 1000 < timTime r.body * 999 → exec (.attarTimerExpiry k dt) s = .next (settle s a))) ∧
    (findRec s.sf.table 0x0804 k.val = none → exec (.attarTimerExpiry k dt) s = .next (settle s a))) ∧
  (∀ (b : List Byte) (t : Nat) (x : AtTimer),
    (timOff b = true → x.input = false → (timStep b t true x).out = true ∧ (timStep b t true x).input = true) ∧
    (timOff b = false → x.input = true → (timStep b t false x).out = false ∧ (timStep b t false x).input = false)) ∧
  (∀ (s : State) (n : Nat) (b : List Byte),
    let ins := (List.range (u8 b 1)).map (fun j => scIn s (u16 b (8 + 2 * j)))
    (u8 b 0 = 1 → scBlock s (n, b) = { s with sf := { s.sf with bits := bput s.sf.bits (u16 b 2) (ins.all id) } }) ∧
    (u8 b 0 = 2 → scBlock s (n, b) = { s with sf := { s.sf with bits := bput s.sf.bits (u16 b 2) (ins.any id) } }) ∧
    (u8 b 0 = 5 → scBlock s (n, b) = { s with sf := { s.sf with lsc := bput s.sf.lsc (u16 b 2) (ins.getD 0 false) } }))

/-- The claim round and the gates. A line is FAULTY when it was dominant before the tick, when its word has a 1 in bits 6 to 2 or when the unit sampled recessive
while it drove; otherwise WON when its word is the unit's, LOST when it is another nonzero word, NONE else. The latch is PEER with a line LOST,
CONTROL with a line WON and none LOST, VACANT else; PEER, and VACANT in two rounds in a row after CONTROL, lose it. The faults are
counted and flagged, and a changed latch ends the tests. A receiver closes its gate unless a message of this round shows CONTROL and
opens it when one does, the currents of its bank running since then; without the GROUPED setting it has no gate. A latch gained opens the
ports' transmit gates at once, and the compare outputs go off where they are no longer driven (10 R269, 15 R429, 17 R489, R492-R496, R521; 18 R531).
The model's own choices in it: notes/assumptions/104.md. -/
def Obligations.TheClaimRoundGivesTheLatch : Prop :=
  (∀ (own : Option Nat) (l : LineObs),
    let faulty := l.dominant = true ∨ bits l.word 2 5 ≠ 0 ∨ (l.recessive = true ∧ own ≠ none)
    (faulty → lineResult own l = 0) ∧ (¬ faulty → own = some l.word → lineResult own l = 1) ∧
    (¬ faulty → own ≠ some l.word → lineResult own l = if l.word = 0 then 3 else 2)) ∧
  (∀ (l0 l1 : LineObs) (s : State),
    let a := advanceTo s (s.fr.tick + 200)
    let r0 := lineResult s.gr.word l0
    let r1 := lineResult s.gr.word l1
    let latch := if r0 = 2 ∨ r1 = 2 then 2 else if r0 = 1 ∨ r1 = 1 then 1 else 0
    let vacant := if latch = 0 then s.gr.vacant + 1 else 0
    let runs := grouped s = true ∧ s.gr.round ≠ some s.fr.frame ∧ s.md.mode ≠ .reset ∧ s.md.mode ≠ .boot
    (¬ runs → exec (.claimLatch l0 l1) s = .next (settle s s)) ∧
    (runs → ∃ u, exec (.claimLatch l0 l1) s = .next (settle s u) ∧ u.fr = a.fr ∧ u.md = s.md ∧ u.mram = s.mram ∧ u.bus = { s.bus with ports := u.bus.ports } ∧ u.pending = s.pending ∧
      (∀ p, port u p = if latch = 1 ∧ s.gr.latch ≠ 1 ∧ p < 4 ∧ normalOp (port s p) = true then { port s p with gate := true } else port s p) ∧
      u.gr.latch = latch ∧ u.gr.vacant = vacant ∧ u.gr.round = some s.fr.frame ∧ u.gr.gate = s.gr.gate ∧ u.gr.word = s.gr.word ∧
      u.gr.claimed = (decide (latch = 1) || (s.gr.claimed && decide (latch ≠ 2) && decide (vacant < 2))) ∧
      u.gr.own = s.gr.word.getD 0 ∧ u.gr.word0 = l0.word % 65536 ∧ u.gr.word1 = l1.word % 65536 ∧
      u.gr.faults0 = (if r0 = 0 then satInc 0xFFFF s.gr.faults0 else s.gr.faults0) ∧ u.gr.faults1 = (if r1 = 0 then satInc 0xFFFF s.gr.faults1 else s.gr.faults1) ∧
      (latch = 1 → u.gr.holder = some (unitId s)) ∧ (latch = 0 → u.gr.holder = none) ∧
      (latch = 2 → u.gr.holder = some ((if r0 = 2 then l0.word % 65536 else l1.word % 65536) % 4)) ∧
      (u.gr.event.getLsbD 0 = (s.gr.event.getLsbD 0 || (decide (latch = 1) && decide (s.gr.latch ≠ 1)))) ∧
      (u.gr.event.getLsbD 1 = (s.gr.event.getLsbD 1 || (s.gr.claimed && (decide (latch = 2) || decide (2 ≤ vacant))))) ∧
      (u.gr.event.getLsbD 5 = (s.gr.event.getLsbD 5 || decide (r0 = 0) || decide (r1 = 0) || decide (l0.word % 65536 ≠ l1.word % 65536))) ∧
      (u.hl = if latch = s.gr.latch then s.hl else { s.hl with running := [] }))) ∧
  (∀ (rx : Option (Fin 8)) (arrived : Bool) (s : State),
    let i := match rx with | none => 0 | some g => g.val + 1
    let shows := arrived = true ∧ s.gr.latch = 1 ∧ s.gr.round = some s.fr.frame
    (s.mram.grouped = false → exec (.gateClose rx arrived) s = .next (settle s s) ∧ exec (.gateOpen rx arrived) s = .next (settle s s)) ∧
    (s.mram.grouped = true → shows → exec (.gateClose rx arrived) s = .next (settle s (advanceTo s (s.fr.tick + 300))) ∧
      exec (.gateOpen rx arrived) s = .next (settle s (openGate (advanceTo s (s.fr.tick + 350)) i))) ∧
    (s.mram.grouped = true → ¬ shows → exec (.gateOpen rx arrived) s = .next (settle s (advanceTo s (s.fr.tick + 350))) ∧
      exec (.gateClose rx arrived) s = .next (settle s (cmpDrop { advanceTo s (s.fr.tick + 300) with gr := { s.gr with gate := bset s.gr.gate i } })))) ∧
  (∀ (k : Nat) (s : State), (gateShut s k = false → openGate s k = s) ∧
    (gateShut s k = true → ∃ ao, openGate s k = { s with gr := { s.gr with gate := bclr s.gr.gate k }, an := { s.an with ao := ao } } ∧
      ∀ c, aoCh (openGate s k) c = if c < 32 ∧ c / 4 + 1 = k then { aoCh s c with since := s.fr.t10 } else aoCh s c)) ∧
  (∀ s : State, (cmpDriven s = true → cmpDrop s = s) ∧
    (cmpDriven s = false → ∃ t, cmpDrop s = { s with pf := { s.pf with ch := t } } ∧ ∀ c, pfCh (cmpDrop s) c = { pfCh s c with cmpOn := false }))

/-- The sync ring. A section of a unit outside the group is ignored and one with a wrong CRC discarded and counted; a valid one makes its unit present with
what it says of itself, reached through its port, and a LOCKOUT it announces sets this unit's latch. The events of the holder are taken by a tracking
standby alone. A port that goes down breaks the ring. A peer absent for 8 frames is reported once, and a unit without a comparison
from its master for 8 frames loses its lock. The join copy brings the tracked state but for the peaks, the background copy starts the dwell, and the dwell's end makes
the standby SYNCED. A handover whose target has not won by round j + 8 is abandoned. DIAG_GROUP_CAP_CLR asks for the end of the cap. At the
deadline a standby without the tick part, or with another digest, stops tracking (17 R499-R505, R508, R513, R514, R520, R521).
The model's own choices in it: notes/assumptions/105.md. -/
def Obligations.TheSyncRingKeepsAStandby : Prop :=
  (∀ (unit : Fin 4) (port : Fin 2) (crcOk : Bool) (x : Section) (s : State),
    let u := unit.val
    let heard := s.md.mode ≠ .reset ∧ u ≠ unitId s ∧ (groupKnown s = false ∨ (grouped s = true ∧ (peerUnits s).contains u = true))
    (¬ heard → exec (.syncSectionReceived unit port crcOk x) s = .next (settle s s)) ∧
    (heard → crcOk = false → exec (.syncSectionReceived unit port crcOk x) s = .next (settle s { s with gr := { s.gr with
      syncErrors := satInc32 s.gr.syncErrors, event := bset s.gr.event 4 } })) ∧
    (heard → crcOk = true → ∃ v, exec (.syncSectionReceived unit port crcOk x) s = .next (settle s v) ∧
      v = { s with gr := v.gr, mram := { s.mram with lockout := s.mram.lockout || (x.lockout && grouped s) },
                   md := { s.md with pendEdm := s.md.pendEdm || (x.lockout && grouped s) }, fr := v.fr } ∧
      peer v u = { present := true, missed := 0, lostSeen := false, mode := x.mode, claim := x.claim % 65536, score := x.score, synced := x.synced, staged := x.staged
                   capped := x.capped, programId := x.programId, agreeCrc := x.agreeCrc, proto := x.proto, dwell := x.dwell } ∧
      (∀ i, i ≠ u → peer v i = peer s i) ∧ v.gr.latch = s.gr.latch ∧ v.gr.gate = s.gr.gate ∧
      v.gr.reach0 = (if port.val = 0 then bset s.gr.reach0 u else s.gr.reach0) ∧ v.gr.reach1 = (if port.val = 0 then s.gr.reach1 else bset s.gr.reach1 u) ∧
      v.gr.event = (if (peer s u).present = true then s.gr.event else bset s.gr.event 3))) ∧
  (∀ (ev : SyncEvent) (s : State), (grouped s = false ∨ s.gr.tracking = false → exec (.syncEventReceived ev) s = .next (settle s s)) ∧
    (grouped s = true → s.gr.tracking = true →
      (∀ ch e, ev = .fifo ch e → exec (.syncEventReceived ev) s = .next (settle s { s with gr := { s.gr with fifo := Tab.upd s.gr.fifo [] ch.val (fun l => l ++ [e]) } })) ∧
      (∀ p t ide id fdf data, ev = .rxFrame p t ide id fdf data → exec (.syncEventReceived ev) s =
        .next (settle s { lookupFrame { s with fr := { s.fr with t10 := t } } p.val ide id fdf data with
          fr := { (lookupFrame { s with fr := { s.fr with t10 := t } } p.val ide id fdf data).fr with t10 := s.fr.t10 } })))) ∧
  (∀ (port : Fin 2) (s : State),
    exec (.syncPortUp port) s = .next (settle s { s with gr := { s.gr with slUp := bset s.gr.slUp port.val } }) ∧
    (s.gr.slUp.getLsbD port.val = false → exec (.syncPortDown port) s = .next (settle s s)) ∧
    (s.gr.slUp.getLsbD port.val = true → exec (.syncPortDown port) s = .next (settle s { s with gr := { s.gr with
      slUp := bclr s.gr.slUp port.val, event := if grouped s = true then bset s.gr.event 4 else s.gr.event } }))) ∧
  (∀ (unit : Fin 4) (s : State),
    let silent := 8 ≤ (peer s unit.val).missed ∧ (peer s unit.val).lostSeen = false ∧ (peerUnits s).contains unit.val = true
    (silent → exec (.peerLost unit) s = .next (settle s (grEvent (updPeer s unit.val (fun p => { p with lostSeen := true })) 2))) ∧
    (¬ silent → exec (.peerLost unit) s = .next (settle s s))) ∧
  (∀ (s : State),
    let late := grouped s = true ∧ tbLocked s = true ∧ timeMaster s = false ∧ 8 ≤ s.gr.masterMiss
    (late → exec .timeMasterFallback s = .next (settle s { s with fr := { s.fr with status := bput (bput s.fr.status 6 false) 7 true }, gr := { s.gr with synced := false } })) ∧
    (¬ late → exec .timeMasterFallback s = .next (settle s s))) ∧
  (∀ (ok : Bool) (mib all : Nat) (c : Tracked) (s : State),
    let asked := s.gr.joining = true ∧ s.gr.joined = false ∧ s.gr.tracking = false
    (¬ asked → exec (.joinCopyDone ok mib all c) s = .next (settle s s)) ∧
    (asked → ok = false → exec (.joinCopyDone ok mib all c) s = .next (settle s { s with gr := { s.gr with joining := false, joinMib := mib, joinAll := all } })) ∧
    (asked → ok = true → exec (.joinCopyDone ok mib all c) s = .next (settle s { s with
      pg := { s.pg with vars := c.vars, insts := c.insts, tasks := ownPeaks s.pg.tasks c.tasks }, ce := { s.ce with slots := c.slots, stages := c.stages, learners := c.learners },
      bus := { s.bus with hist := c.hist }, sf := { s.sf with txSeq := c.seqs }, gr := { s.gr with joined := true, bgDone := false, joinMib := mib, joinAll := all } }))) ∧
  (∀ (mine theirs : Tab TaskSt) (t : Nat),
    Tab.get (ownPeaks mine theirs) TaskSt.init t = { Tab.get theirs TaskSt.init t with peak := (Tab.get mine TaskSt.init t).peak }) ∧
  (∀ (mib : Nat) (c : TrackedBg) (s : State),
    (s.gr.tracking = false ∨ s.gr.bgDone = true → exec (.backgroundCopyDone mib c) s = .next (settle s s)) ∧
    (s.gr.tracking = true → s.gr.bgDone = false → exec (.backgroundCopyDone mib c) s = .next (settle s { s with
      pt := { s.pt with recs := c.recs, rings := c.rings, journal := c.journal },
      gr := { s.gr with bgDone := true, joining := false, joinMib := mib, dwellFrom := some s.fr.t10 } }))) ∧
  (∀ (dt : Nat) (s : State),
    let a := advance s dt
    let ended := s.gr.tracking = true ∧ s.gr.bgDone = true ∧ s.gr.dwellDone = false ∧ s.md.mode = .standby ∧
      ∃ f, s.gr.dwellFrom = some f ∧ f + u16 (cfgBody s 0x0901 0) 2 * 100000000 ≤ a.fr.t10
    (ended → exec (.dwellEnd dt) s = .next (settle s { a with gr := { s.gr with dwellDone := true, synced := true, event := if s.gr.synced = true then s.gr.event else bset s.gr.event 7 } })) ∧
    (¬ ended → exec (.dwellEnd dt) s = .next (settle s a))) ∧
  (∀ (s : State),
    let fails := ∃ j r, s.gr.reqFrame = some j ∧ s.gr.round = some r ∧ s.gr.latch ≠ 2 ∧ j + 8 ≤ r
    (fails → exec .handoverAbandon s = .next (settle s (endRequest { s with gr := { s.gr with target := none, reqFrame := none } } (errA 0x32 6)))) ∧
    (¬ fails → exec .handoverAbandon s = .next (settle s s))) ∧
  (∀ (v : Word) (s : State), hostUp s = true → exec (.diagGroupCapClr v) s = .next (settle s (if v.getLsbD 0 = true then { s with gr := { s.gr with capClr := true } } else s))) ∧
  (∀ (digest : Nat) (s : State),
    let a := advanceTo s (s.fr.tick + 380)
    let w : State := { a with gr := { s.gr with waiting := false, tickIn := none } }
    (s.gr.waiting = false → exec (.trackingDeadline digest) s = .next (settle s s)) ∧
    (∀ i, s.gr.waiting = true → s.gr.tickIn = some i →
      (∀ p, s.gr.part = some p → p.digest = digest → exec (.trackingDeadline digest) s = .next (settle s (runTracked p i w))) ∧
      (s.gr.part = none → exec (.trackingDeadline digest) s = .next (settle s
        (runPhases i [] (tickReqs false blockAck (tickReqs true blockAck (grEvent (stopTracking w) 4)))))) ∧
      (∀ p, s.gr.part = some p → p.digest ≠ digest → exec (.trackingDeadline digest) s = .next (settle s
        (runPhases i [] (tickReqs false blockAck (tickReqs true blockAck (grEvent (stopTracking { w with gr := { w.gr with diffs := satInc32 s.gr.diffs } }) 6))))))))

/-- The memory tests 4 to 7. A unit (of the march, the CRC walk, SC's march or a scrub burst) runs where its test may run and a pass stands or is due, a logic-side unit
only after the commit and the point engine with room before the next tick, for the test that is due first; else nothing happens. The pass moves on by one unit and ends with its last one, counted with the frame. A verdict concerns the block, or in test 7 the
store whose last unit this is: a failure puts it among the failed items, counts it, sets TEST_FAILED and keeps it failed until
a later pass; a sound one takes it out. Units of tests 4 and 7 are counted as logic-side units, and a complete scrub as one (02 R47; 18 R522-R528, R531, R537, R540).
The model's own choices in it: notes/assumptions/97.md, notes/assumptions/98.md. -/
def Obligations.MemoryTestsWalkTheirUnits : Prop :=
  ∀ (c : Instr) (t : Nat) (ok : Bool) (s : State),
    ((c = .drydownUnit t ok ∧ (t = 4 ∨ t = 7)) ∨ (c = .scSramMarchUnit ok ∧ t = 5) ∨ (c = .dramScrubBurst ∧ t = 6 ∧ ok = true)) →
    let x := test s t
    let room := s.fr.commitDone = true ∧ (∀ q ∈ s.pt.queues, s.fr.frame ≤ q.frame) ∧ s.fr.t10 + 240 ≤ s.fr.next
    let other := if t = 4 then 7 else 4
    let turn := ¬ (testAllowed s other = true ∧ ((test s other).inPass = true ∨ (test s other).due ≤ s.fr.t10) ∧ before s other t = true)
    let runs := testAllowed s t = true ∧ (x.inPass = true ∨ x.due ≤ s.fr.t10) ∧ (t = 4 ∨ t = 7 → room ∧ turn)
    let pos := if x.inPass then x.pos else 0
    let ends := testUnits t ≤ pos + 1
    let fails := ok = false ∧ (t = 7 → pos + 1 ∈ storeEnds)
    (¬ runs → exec c s = .next (settle s s)) ∧
    (runs → ∃ u, exec c s = .next (settle s u) ∧
      u = { s with hl := { s.hl with tests := u.hl.tests, queue := u.hl.queue, dropped := u.hl.dropped, event := (if fails then bset s.hl.event 0 else s.hl.event)
                                     units := s.hl.units + (if t = 4 ∨ t = 7 then 1 else 0), scrubs := s.hl.scrubs + (if t = 6 ∧ ends then 1 else 0) } } ∧
      (∀ i, i ≠ t → test u i = test s i) ∧ (test u t).pos = pos + 1 ∧ ((test u t).inPass = true ↔ ¬ ends) ∧
      (test u t).passes = (if ends then satInc32 x.passes else x.passes) ∧ (test u t).passFrame = (if ends then s.fr.frame else x.passFrame) ∧
      (test u t).passStart = (if x.inPass then x.passStart else s.fr.t10) ∧ (test u t).due = (if x.inPass then x.due else s.fr.t10 + testPeriod s t) ∧
      (test u t).failCount = (if fails then satInc32 x.failCount else x.failCount) ∧
      (unitItem t pos = none → (test u t).failed = x.failed) ∧
      (∀ i, unitItem t pos = some i → (i ∈ (test u t).failed ↔ ok = false) ∧ ∀ j, j ≠ i → (j ∈ (test u t).failed ↔ j ∈ x.failed)))

/-- The field-side tests. A test starts on an item of its pass that may be tested, where the test may run and is the one due first; the items it passes over are skipped; its
item's command is kept to compare. A switch test passes its high-side step and then its low-side step, or fails as a switch fault; a cross-check
passes within 0.2 mA of 12 mA; a shadow test, of an SO side after side, a claim-line loopback in the unit's own frames after the commit and an error window of at most 10 discarded copies
end as they come. The end takes the item out of the running tests and gives its verdict (18 R523-R531, 17 R509, R510).
The model's own choices in it: notes/assumptions/97.md. -/
def Obligations.FieldSideTestsRunAndEnd : Prop :=
  let Ends := fun (s u : State) (t item : Nat) (ok : Bool) =>
    u.hl.running = s.hl.running.filter (fun r => !(decide (r.test = t) && decide (r.item = item))) ∧ (∀ i, i ≠ t → test u i = test s i) ∧
    (item ∈ (test u t).failed ↔ ok = false) ∧ (∀ j, j ≠ item → (j ∈ (test u t).failed ↔ j ∈ (test s t).failed)) ∧
    (test u t).failCount = (if ok then (test s t).failCount else satInc32 (test s t).failCount) ∧ item ∈ (test u t).tested ∧
    u.hl.event = (if ok then s.hl.event else bset s.hl.event 0)
  (∀ (t item : Nat) (peer : Bool) (s : State),
    let x := test s t
    let pos := if x.inPass then x.pos else 0
    let starts := (t = 0 ∨ t = 3 ∨ t = 8 ∨ t = 11 ∨ t = 12) ∧ testAllowed s t = true ∧ fieldServes s t = true ∧ (x.inPass = true ∨ x.due ≤ s.fr.t10) ∧
      item ∈ testItems s t ∧ pos ≤ item ∧ testable s t item peer = true
    (¬ starts → exec (.fieldTestStart t ⟨item, peer⟩) s = .next (settle s s)) ∧
    (starts → ∃ u, exec (.fieldTestStart t ⟨item, peer⟩) s = .next (settle s u) ∧
      u = { s with hl := { s.hl with tests := u.hl.tests, running := s.hl.running ++ [{ test := t, item := item, step := 0, cmd := testCmd s t item }] }
                   dio := { s.dio with ch := u.dio.ch } } ∧
      (∀ i, i ≠ t → test u i = test s i) ∧ (test u t).inPass = true ∧ (test u t).pos = item + 1 ∧ (test u t).failed = x.failed ∧
      (∀ j, j ∈ testItems s t → pos ≤ j → j < item → j ∉ x.tested → j ∈ (test u t).skipped) ∧
      (∀ c, doCh u c = if t = 0 ∧ c = item then { doCh s c with dark := true } else doCh s c))) ∧
  (∀ (so : Fin 8) (ok : Bool) (s : State),
    match s.hl.running.find? (fun r => decide (r.test = 3) && decide (r.item = so.val)) with
    | none => exec (.soSwitchTestStep so ok) s = .next (settle s s)
    | some r =>
      (ok = true → r.step = 0 → exec (.soSwitchTestStep so ok) s = .next (settle s { s with hl := { s.hl with
        running := s.hl.running.map (fun x => if x.test = 3 ∧ x.item = so.val then { x with step := 1 } else x) } })) ∧
      (ok = true → r.step ≠ 0 → ∃ u, exec (.soSwitchTestStep so ok) s = .next (settle s u) ∧ u = { s with hl := u.hl } ∧ Ends s u 3 so.val true) ∧
      (ok = false → ∃ u, exec (.soSwitchTestStep so ok) s = .next (settle s u) ∧ u = { s with hl := u.hl, sf := u.sf, md := u.md } ∧ Ends s u 3 so.val false ∧
        (∀ k, k ∈ u.md.pendFault ↔ k = 0x07 ∨ k ∈ s.md.pendFault) ∧
        u.md = { s.md with pendFault := u.md.pendFault } ∧
        u.sf = { s.sf with high := 0, low := 0, swHigh := 0, swLow := 0, latchSc := s.sf.latchSc ||| BitVec.ofNat 8 (soUsed s), latchAt := s.sf.latchAt ||| BitVec.ofNat 8 (soUsed s)
                           fltSwitch := bset s.sf.fltSwitch so.val, event := bset s.sf.event 6 })) ∧
  (∀ (ch : Fin 32) (mA : F64) (so ok : Bool) (item : Nat) (s : State),
    let near := F64.le (F64.abs (F64.sub mA (F64.ofNat 12))) (frac64 1 5)
    (testRuns s 8 ch.val = false → exec (.aoCrossCheckEnd ch mA) s = .next (settle s s)) ∧
    (testRuns s 8 ch.val = true → ∃ u, exec (.aoCrossCheckEnd ch mA) s = .next (settle s u) ∧ u = { s with hl := u.hl } ∧ Ends s u 8 ch.val near) ∧
    (testRuns s (if so then 12 else 11) item = false → exec (.shadowTestEnd so item ok) s = .next (settle s s)) ∧
    (testRuns s 12 item = true → so = true → ok = true → soStep s 12 item = some 0 →
      exec (.shadowTestEnd so item ok) s = .next (settle s { s with hl := { s.hl with
        running := s.hl.running.map (fun x => if x.test = 12 ∧ x.item = item then { x with step := 1 } else x) } })) ∧
    (testRuns s (if so then 12 else 11) item = true → ¬ (so = true ∧ ok = true ∧ soStep s 12 item = some 0) → ∃ u, exec (.shadowTestEnd so item ok) s = .next (settle s u) ∧ u = { s with hl := u.hl } ∧
      Ends s u (if so then 12 else 11) item ok)) ∧
  (∀ (c : Instr) (t item : Nat) (ok : Bool) (slot : Prop) (s : State),
    ((∃ l : Fin 2, c = .claimLoopback l ok ∧ t = 9 ∧ item = l.val ∧ (slot ↔ grouped s = true ∧ s.fr.frame % 4 = unitId s ∧ s.fr.commitDone = true ∧ s.fr.t10 + 190 ≤ s.fr.next)) ∨
      (∃ (p : Fin 2) (n : Nat), c = .syncErrorWindow p n ∧ t = 10 ∧ item = p.val ∧ (ok = true ↔ n ≤ 10) ∧ (slot ↔ True))) →
    let x := test s t
    let runs := slot ∧ testAllowed s t = true ∧ ((x.inPass = true ∧ x.pos ≤ item) ∨ (x.inPass = false ∧ x.due ≤ s.fr.t10))
    (¬ runs → exec c s = .next (settle s s)) ∧
    (runs → ∃ u, exec c s = .next (settle s u) ∧ u = { s with hl := u.hl } ∧ (test u t).pos = item + 1 ∧ Ends s u t item ok))

/-- Memory errors and the fault log. A correction is counted for its memory, saturating, and sets ECC_CORRECTED; an uncorrectable error keeps its address in
64-byte units, sets ECC_UNCORRECTABLE and asks for SAFE_HOLD with cause 0x0A at the next tick. The oldest queued entry is written in the idle tail at
index SEQ mod 4,096 with the mode of that moment, at most 16 in a frame, and FAULT_LOG_WRAP is set when the index returns to 0; nothing is
written with an empty queue (18 R534, R535, R536).
The model's own choices in it: notes/assumptions/120.md. -/
def Obligations.MemoryErrorsAndTheFaultLog : Prop :=
  (∀ (dram : Bool) (addr : Nat) (s : State),
    exec (.eccCorrected dram addr) s = .next (settle s { s with hl := { s.hl with
      eccSram := (if dram then s.hl.eccSram else satInc32 s.hl.eccSram), eccDram := (if dram then satInc32 s.hl.eccDram else s.hl.eccDram)
      eccAt := (s.fr.t10 :: s.hl.eccAt).take 17, event := bset s.hl.event 2 } }) ∧
    ∃ u, exec (.eccUncorrectable dram addr) s = .next (settle s u) ∧
      u = { s with hl := { s.hl with eccAddr := addr / 64, event := bset s.hl.event 3 }, md := { s.md with pendFault := u.md.pendFault } } ∧
      ∀ k, k ∈ u.md.pendFault ↔ k = 0x0A ∨ k ∈ s.md.pendFault) ∧
  (∀ (s : State), (s.hl.queue = [] ∨ 16 ≤ s.hl.written ∨ s.md.mode = .reset ∨ (s.fr.commitDone = false ∧ s.md.mode ≠ .boot) → exec .faultLogEntryWrite s = .next (settle s s)) ∧
    (∀ e r, s.hl.queue = e :: r → s.hl.written < 16 → s.md.mode ≠ .reset → (s.fr.commitDone = true ∨ s.md.mode = .boot) →
      ∃ u, exec .faultLogEntryWrite s = .next (settle s u) ∧
        u = { s with mram := { s.mram with log := u.mram.log, logSeq := s.mram.logSeq + 1 }
                     hl := { s.hl with queue := r, written := s.hl.written + 1
                                       event := (if (s.mram.logSeq + 1) % 4096 = 0 then bset s.hl.event 4 else s.hl.event) } } ∧
        Tab.get u.mram.log none (s.mram.logSeq % 4096) = some { e with mode := s.md.mode.num } ∧
        ∀ i, i ≠ s.mram.logSeq % 4096 → Tab.get u.mram.log none i = Tab.get s.mram.log none i))
end

