-- ==== Sys2Proof/Laws/Anchor.lean ====
section
/-! SUPPORT. What keeps the anchor of a state: updates of other fields, folds, the shared operations of Ops. -/

namespace Sys2Proof.Machine

open Sys2Proof

@[simp] theorem anchor_upd (s : State) (cfg : CfgSt) (hp : HostSt) (cm : CmdSt) (hec : HecSt) (dio : DioSt) (an : AnSt) (pf : PfSt) (ce : CeSt) (pg : PgSt) (pt : PtSt) (bus : BusSt) (sf : SafetySt) (gr : GroupSt) (hl : HealthSt) (free : Nat) :
    (State.mk s.fr s.md cfg hp cm hec dio an pf ce pg pt bus sf gr hl s.mram s.pending free).anchor = s.anchor := rfl

@[simp] theorem anchor_upd_mram (s : State) (cfg : CfgSt) (hp : HostSt) (cm : CmdSt) (hec : HecSt) (dio : DioSt) (an : AnSt) (pf : PfSt) (ce : CeSt) (pg : PgSt) (pt : PtSt) (bus : BusSt) (sf : SafetySt) (gr : GroupSt) (hl : HealthSt) (r_bank : Bool) (r_trial : Bool) (r_trialLeft : Nat) (r_okA : Bool) (r_okB : Bool) (r_setA : Nat) (r_setB : Nat) (r_lockout : Bool) (r_jA : Journal) (r_jB : Journal) (r_log : Tab (Option LogEntry)) (r_logSeq : Nat) (r_grouped : Bool) (free : Nat) :
    (State.mk s.fr s.md cfg hp cm hec dio an pf ce pg pt bus sf gr hl (MramSt.mk r_bank r_trial r_trialLeft r_okA r_okB r_setA r_setB r_lockout s.mram.enabled s.mram.image r_jA r_jB r_log r_logSeq r_grouped) s.pending free).anchor = s.anchor := rfl

@[simp] theorem anchor_upd_md (s : State) (m_status : BitVec 6) (m_almPin : Bool) (m_fallback : Bool) (m_startKind : Nat) (m_internal : Bool) (m_ready : Bool) (m_recovery : Bool) (m_confirmed : Bool) (m_alarmCh : Bool) (m_fromHold : Bool) (m_strapHold : Bool) (m_bootRead : Bool) (m_fwLoaded : Bool) (m_bootDue : Bool) (m_pendEdm : Bool) (m_pendFault : List Nat) (m_fwReset : Bool) (m_bank : Bool) (cfg : CfgSt) (hp : HostSt) (cm : CmdSt) (hec : HecSt) (dio : DioSt) (an : AnSt) (pf : PfSt) (ce : CeSt) (pg : PgSt) (pt : PtSt) (bus : BusSt) (sf : SafetySt) (gr : GroupSt) (hl : HealthSt) (free : Nat) :
    (State.mk s.fr (ModeSt.mk s.md.mode s.md.prev s.md.cause s.md.frame m_status s.md.straps m_almPin m_fallback m_startKind m_internal m_ready m_recovery m_confirmed m_alarmCh m_fromHold m_strapHold m_bootRead m_fwLoaded m_bootDue m_pendEdm m_pendFault m_fwReset m_bank) cfg hp cm hec dio an pf ce pg pt bus sf gr hl s.mram s.pending free).anchor = s.anchor := rfl

@[simp] theorem anchor_upd_md_mram (s : State) (m_status : BitVec 6) (m_almPin : Bool) (m_fallback : Bool) (m_startKind : Nat) (m_internal : Bool) (m_ready : Bool) (m_recovery : Bool) (m_confirmed : Bool) (m_alarmCh : Bool) (m_fromHold : Bool) (m_strapHold : Bool) (m_bootRead : Bool) (m_fwLoaded : Bool) (m_bootDue : Bool) (m_pendEdm : Bool) (m_pendFault : List Nat) (m_fwReset : Bool) (m_bank : Bool) (cfg : CfgSt) (hp : HostSt) (cm : CmdSt) (hec : HecSt) (dio : DioSt) (an : AnSt) (pf : PfSt) (ce : CeSt) (pg : PgSt) (pt : PtSt) (bus : BusSt) (sf : SafetySt) (gr : GroupSt) (hl : HealthSt) (r_bank : Bool) (r_trial : Bool) (r_trialLeft : Nat) (r_okA : Bool) (r_okB : Bool) (r_setA : Nat) (r_setB : Nat) (r_lockout : Bool) (r_jA : Journal) (r_jB : Journal) (r_log : Tab (Option LogEntry)) (r_logSeq : Nat) (r_grouped : Bool) (free : Nat) :
    (State.mk s.fr (ModeSt.mk s.md.mode s.md.prev s.md.cause s.md.frame m_status s.md.straps m_almPin m_fallback m_startKind m_internal m_ready m_recovery m_confirmed m_alarmCh m_fromHold m_strapHold m_bootRead m_fwLoaded m_bootDue m_pendEdm m_pendFault m_fwReset m_bank) cfg hp cm hec dio an pf ce pg pt bus sf gr hl (MramSt.mk r_bank r_trial r_trialLeft r_okA r_okB r_setA r_setB r_lockout s.mram.enabled s.mram.image r_jA r_jB r_log r_logSeq r_grouped) s.pending free).anchor = s.anchor := rfl

@[simp] theorem anchor_upd_fr (s : State) (f_fUs : Nat) (f_commit : Nat) (f_out : Nat) (f_ovrLimit : Nat) (f_syncIn : Nat) (f_syncOut : Nat) (f_missLimit : Nat) (f_syncOff : Int) (f_syncFall : Bool) (f_mark : Nat) (f_status : Word) (f_ovrCount : Nat) (f_ovrRun : Nat) (f_budgetW : Nat) (f_budgetL : Nat) (f_peak : Nat) (f_syncErr : Int) (f_snapT10 : Nat) (f_snapFrame : Nat) (f_ppm : Int) (f_syncMiss : Nat) (f_syncEdge : Nat) (f_stepped : Bool) (f_syncOutN : Nat) (f_syncOutAt : Nat) (f_late : Nat) (f_slotDone : Bool) (f_prevGov : Mode) (f_img : Image) (f_page : Page) (f_frozen : Option Frozen) (f_toApply : Option Frozen) (f_commitDone : Bool) (f_outImg : Option OutImg) (f_arrived : Tab (Option OutImg)) (f_pend : Tab (Option OutImg)) (f_inFrame : Tab (Option Nat)) (cfg : CfgSt) (hp : HostSt) (cm : CmdSt) (hec : HecSt) (dio : DioSt) (an : AnSt) (pf : PfSt) (ce : CeSt) (pg : PgSt) (pt : PtSt) (bus : BusSt) (sf : SafetySt) (gr : GroupSt) (hl : HealthSt) (free : Nat) :
    (State.mk (FrameSt.mk s.fr.t10 s.fr.tick s.fr.next s.fr.frame f_fUs f_commit f_out f_ovrLimit f_syncIn f_syncOut f_missLimit f_syncOff f_syncFall f_mark f_status f_ovrCount f_ovrRun f_budgetW f_budgetL f_peak f_syncErr f_snapT10 f_snapFrame f_ppm f_syncMiss f_syncEdge f_stepped f_syncOutN f_syncOutAt f_late f_slotDone f_prevGov f_img f_page f_frozen f_toApply f_commitDone f_outImg f_arrived f_pend f_inFrame) s.md cfg hp cm hec dio an pf ce pg pt bus sf gr hl s.mram s.pending free).anchor = s.anchor := rfl

@[simp] theorem anchor_upd_fr_mram (s : State) (f_fUs : Nat) (f_commit : Nat) (f_out : Nat) (f_ovrLimit : Nat) (f_syncIn : Nat) (f_syncOut : Nat) (f_missLimit : Nat) (f_syncOff : Int) (f_syncFall : Bool) (f_mark : Nat) (f_status : Word) (f_ovrCount : Nat) (f_ovrRun : Nat) (f_budgetW : Nat) (f_budgetL : Nat) (f_peak : Nat) (f_syncErr : Int) (f_snapT10 : Nat) (f_snapFrame : Nat) (f_ppm : Int) (f_syncMiss : Nat) (f_syncEdge : Nat) (f_stepped : Bool) (f_syncOutN : Nat) (f_syncOutAt : Nat) (f_late : Nat) (f_slotDone : Bool) (f_prevGov : Mode) (f_img : Image) (f_page : Page) (f_frozen : Option Frozen) (f_toApply : Option Frozen) (f_commitDone : Bool) (f_outImg : Option OutImg) (f_arrived : Tab (Option OutImg)) (f_pend : Tab (Option OutImg)) (f_inFrame : Tab (Option Nat)) (cfg : CfgSt) (hp : HostSt) (cm : CmdSt) (hec : HecSt) (dio : DioSt) (an : AnSt) (pf : PfSt) (ce : CeSt) (pg : PgSt) (pt : PtSt) (bus : BusSt) (sf : SafetySt) (gr : GroupSt) (hl : HealthSt) (r_bank : Bool) (r_trial : Bool) (r_trialLeft : Nat) (r_okA : Bool) (r_okB : Bool) (r_setA : Nat) (r_setB : Nat) (r_lockout : Bool) (r_jA : Journal) (r_jB : Journal) (r_log : Tab (Option LogEntry)) (r_logSeq : Nat) (r_grouped : Bool) (free : Nat) :
    (State.mk (FrameSt.mk s.fr.t10 s.fr.tick s.fr.next s.fr.frame f_fUs f_commit f_out f_ovrLimit f_syncIn f_syncOut f_missLimit f_syncOff f_syncFall f_mark f_status f_ovrCount f_ovrRun f_budgetW f_budgetL f_peak f_syncErr f_snapT10 f_snapFrame f_ppm f_syncMiss f_syncEdge f_stepped f_syncOutN f_syncOutAt f_late f_slotDone f_prevGov f_img f_page f_frozen f_toApply f_commitDone f_outImg f_arrived f_pend f_inFrame) s.md cfg hp cm hec dio an pf ce pg pt bus sf gr hl (MramSt.mk r_bank r_trial r_trialLeft r_okA r_okB r_setA r_setB r_lockout s.mram.enabled s.mram.image r_jA r_jB r_log r_logSeq r_grouped) s.pending free).anchor = s.anchor := rfl

@[simp] theorem anchor_upd_fr_md (s : State) (f_fUs : Nat) (f_commit : Nat) (f_out : Nat) (f_ovrLimit : Nat) (f_syncIn : Nat) (f_syncOut : Nat) (f_missLimit : Nat) (f_syncOff : Int) (f_syncFall : Bool) (f_mark : Nat) (f_status : Word) (f_ovrCount : Nat) (f_ovrRun : Nat) (f_budgetW : Nat) (f_budgetL : Nat) (f_peak : Nat) (f_syncErr : Int) (f_snapT10 : Nat) (f_snapFrame : Nat) (f_ppm : Int) (f_syncMiss : Nat) (f_syncEdge : Nat) (f_stepped : Bool) (f_syncOutN : Nat) (f_syncOutAt : Nat) (f_late : Nat) (f_slotDone : Bool) (f_prevGov : Mode) (f_img : Image) (f_page : Page) (f_frozen : Option Frozen) (f_toApply : Option Frozen) (f_commitDone : Bool) (f_outImg : Option OutImg) (f_arrived : Tab (Option OutImg)) (f_pend : Tab (Option OutImg)) (f_inFrame : Tab (Option Nat)) (m_status : BitVec 6) (m_almPin : Bool) (m_fallback : Bool) (m_startKind : Nat) (m_internal : Bool) (m_ready : Bool) (m_recovery : Bool) (m_confirmed : Bool) (m_alarmCh : Bool) (m_fromHold : Bool) (m_strapHold : Bool) (m_bootRead : Bool) (m_fwLoaded : Bool) (m_bootDue : Bool) (m_pendEdm : Bool) (m_pendFault : List Nat) (m_fwReset : Bool) (m_bank : Bool) (cfg : CfgSt) (hp : HostSt) (cm : CmdSt) (hec : HecSt) (dio : DioSt) (an : AnSt) (pf : PfSt) (ce : CeSt) (pg : PgSt) (pt : PtSt) (bus : BusSt) (sf : SafetySt) (gr : GroupSt) (hl : HealthSt) (free : Nat) :
    (State.mk (FrameSt.mk s.fr.t10 s.fr.tick s.fr.next s.fr.frame f_fUs f_commit f_out f_ovrLimit f_syncIn f_syncOut f_missLimit f_syncOff f_syncFall f_mark f_status f_ovrCount f_ovrRun f_budgetW f_budgetL f_peak f_syncErr f_snapT10 f_snapFrame f_ppm f_syncMiss f_syncEdge f_stepped f_syncOutN f_syncOutAt f_late f_slotDone f_prevGov f_img f_page f_frozen f_toApply f_commitDone f_outImg f_arrived f_pend f_inFrame) (ModeSt.mk s.md.mode s.md.prev s.md.cause s.md.frame m_status s.md.straps m_almPin m_fallback m_startKind m_internal m_ready m_recovery m_confirmed m_alarmCh m_fromHold m_strapHold m_bootRead m_fwLoaded m_bootDue m_pendEdm m_pendFault m_fwReset m_bank) cfg hp cm hec dio an pf ce pg pt bus sf gr hl s.mram s.pending free).anchor = s.anchor := rfl

@[simp] theorem anchor_upd_fr_md_mram (s : State) (f_fUs : Nat) (f_commit : Nat) (f_out : Nat) (f_ovrLimit : Nat) (f_syncIn : Nat) (f_syncOut : Nat) (f_missLimit : Nat) (f_syncOff : Int) (f_syncFall : Bool) (f_mark : Nat) (f_status : Word) (f_ovrCount : Nat) (f_ovrRun : Nat) (f_budgetW : Nat) (f_budgetL : Nat) (f_peak : Nat) (f_syncErr : Int) (f_snapT10 : Nat) (f_snapFrame : Nat) (f_ppm : Int) (f_syncMiss : Nat) (f_syncEdge : Nat) (f_stepped : Bool) (f_syncOutN : Nat) (f_syncOutAt : Nat) (f_late : Nat) (f_slotDone : Bool) (f_prevGov : Mode) (f_img : Image) (f_page : Page) (f_frozen : Option Frozen) (f_toApply : Option Frozen) (f_commitDone : Bool) (f_outImg : Option OutImg) (f_arrived : Tab (Option OutImg)) (f_pend : Tab (Option OutImg)) (f_inFrame : Tab (Option Nat)) (m_status : BitVec 6) (m_almPin : Bool) (m_fallback : Bool) (m_startKind : Nat) (m_internal : Bool) (m_ready : Bool) (m_recovery : Bool) (m_confirmed : Bool) (m_alarmCh : Bool) (m_fromHold : Bool) (m_strapHold : Bool) (m_bootRead : Bool) (m_fwLoaded : Bool) (m_bootDue : Bool) (m_pendEdm : Bool) (m_pendFault : List Nat) (m_fwReset : Bool) (m_bank : Bool) (cfg : CfgSt) (hp : HostSt) (cm : CmdSt) (hec : HecSt) (dio : DioSt) (an : AnSt) (pf : PfSt) (ce : CeSt) (pg : PgSt) (pt : PtSt) (bus : BusSt) (sf : SafetySt) (gr : GroupSt) (hl : HealthSt) (r_bank : Bool) (r_trial : Bool) (r_trialLeft : Nat) (r_okA : Bool) (r_okB : Bool) (r_setA : Nat) (r_setB : Nat) (r_lockout : Bool) (r_jA : Journal) (r_jB : Journal) (r_log : Tab (Option LogEntry)) (r_logSeq : Nat) (r_grouped : Bool) (free : Nat) :
    (State.mk (FrameSt.mk s.fr.t10 s.fr.tick s.fr.next s.fr.frame f_fUs f_commit f_out f_ovrLimit f_syncIn f_syncOut f_missLimit f_syncOff f_syncFall f_mark f_status f_ovrCount f_ovrRun f_budgetW f_budgetL f_peak f_syncErr f_snapT10 f_snapFrame f_ppm f_syncMiss f_syncEdge f_stepped f_syncOutN f_syncOutAt f_late f_slotDone f_prevGov f_img f_page f_frozen f_toApply f_commitDone f_outImg f_arrived f_pend f_inFrame) (ModeSt.mk s.md.mode s.md.prev s.md.cause s.md.frame m_status s.md.straps m_almPin m_fallback m_startKind m_internal m_ready m_recovery m_confirmed m_alarmCh m_fromHold m_strapHold m_bootRead m_fwLoaded m_bootDue m_pendEdm m_pendFault m_fwReset m_bank) cfg hp cm hec dio an pf ce pg pt bus sf gr hl (MramSt.mk r_bank r_trial r_trialLeft r_okA r_okB r_setA r_setB r_lockout s.mram.enabled s.mram.image r_jA r_jB r_log r_logSeq r_grouped) s.pending free).anchor = s.anchor := rfl

@[simp] theorem anchor_ite (c : Prop) [Decidable c] (a b : State) : (if c then a else b).anchor = if c then a.anchor else b.anchor := by
  split <;> rfl

theorem anchor_foldl {α : Type} (g : State → α → State) (h : ∀ s x, (g s x).anchor = s.anchor) (l : List α) (s : State) :
    (l.foldl g s).anchor = s.anchor := by
  induction l generalizing s with
  | nil => rfl
  | cons x r ih => rw [List.foldl_cons, ih, h]

/-- A fold over a state and a value beside it. -/
theorem anchor_foldl_fst {α β : Type} (g : State × β → α → State × β) (h : ∀ p x, (g p x).1.anchor = p.1.anchor) (l : List α) (p : State × β) :
    (l.foldl g p).1.anchor = p.1.anchor := by
  induction l generalizing p with
  | nil => rfl
  | cons x r ih => rw [List.foldl_cons, ih, h]

@[simp] theorem pushLog_anchor (s : State) (code item data : Nat) : (pushLog s code item data).anchor = s.anchor := rfl

@[simp] theorem settle_anchor (a b : State) : (settle a b).anchor = b.anchor := rfl

/-- Device time moves on, not as far as the next tick; nothing else of the anchor changes (02 R31). -/
theorem advance_anchor (s : State) (dt : Nat) :
    (advance s dt).anchor = { s.anchor with t10 := min (s.fr.t10 + dt) (max s.fr.t10 (s.fr.next - 1)) } := rfl

end Sys2Proof.Machine
end

