-- ==== Sys2Proof/Laws/Hec.lean ====
section
/-! SUPPORT. What the operations of Machine/Hec.lean leave of the anchor of a state. -/

namespace Sys2Proof.Machine

open Sys2Proof

/-- What the port does keeps the anchor where the effect does. -/
@[simp] theorem hostAccess_anchor (s : State) (f : State → State) (h : ∀ s, (f s).anchor = s.anchor) : (hostAccess s f).anchor = s.anchor := by
  unfold hostAccess
  split
  · exact h s
  · rfl

@[simp] theorem updTgt_anchor (s : State) (t : Nat) (f : Target → Target) : (updTgt s t f).anchor = s.anchor := by
  simp only [updTgt, anchor_upd]

@[simp] theorem onPage_anchor (s : State) (t : Nat) (f : Target → Target) : (onPage s t f).anchor = s.anchor := by
  simp [onPage]

@[simp] theorem msixSend_anchor (s : State) (t : Nat) : (msixSend s t).anchor = s.anchor := by
  simp only [msixSend, anchor_upd]

@[simp] theorem requestEdge_anchor (s : State) (t : Nat) (was : Bool) (now : Bool) : (requestEdge s t was now).anchor = s.anchor := by
  simp [requestEdge]

@[simp] theorem arbitrate_anchor (s : State) (t : Nat) : (arbitrate s t).anchor = s.anchor := by
  simp [arbitrate]

@[simp] theorem doClaim_anchor (s : State) (t : Nat) (v : Word) : (doClaim s t v).anchor = s.anchor := by
  simp [doClaim]

@[simp] theorem doComplete_anchor (s : State) (t : Nat) (v : Word) : (doComplete s t v).anchor = s.anchor := by
  simp [doComplete]

@[simp] theorem doStackReset_anchor (s : State) (v : Word) : (doStackReset s v).anchor = s.anchor := by
  simp [doStackReset, anchor_foldl]

@[simp] theorem doSetpend_anchor (s : State) (t : Nat) (v : Word) : (doSetpend s t v).anchor = s.anchor := by
  simp [doSetpend]

@[simp] theorem doClrpend_anchor (s : State) (t : Nat) (v : Word) : (doClrpend s t v).anchor = s.anchor := by
  simp [doClrpend]

@[simp] theorem doPseten_anchor (s : State) (t : Nat) (v : Word) : (doPseten s t v).anchor = s.anchor := by
  simp [doPseten]

@[simp] theorem doPclren_anchor (s : State) (t : Nat) (v : Word) : (doPclren s t v).anchor = s.anchor := by
  simp [doPclren]

@[simp] theorem doSleep_anchor (s : State) (t : Nat) (v : Word) : (doSleep s t v).anchor = s.anchor := by
  simp [doSleep]

@[simp] theorem doSeten_anchor (s : State) (w : Nat) (v : Word) : (doSeten s w v).anchor = s.anchor := by
  simp only [doSeten, anchor_upd]

@[simp] theorem doClren_anchor (s : State) (w : Nat) (v : Word) : (doClren s w v).anchor = s.anchor := by
  simp only [doClren, anchor_upd]

@[simp] theorem doWakeset_anchor (s : State) (w : Nat) (v : Word) : (doWakeset s w v).anchor = s.anchor := by
  simp only [doWakeset, anchor_upd]

@[simp] theorem doRoute_anchor (s : State) (n : Nat) (v : Word) : (doRoute s n v).anchor = s.anchor := by
  simp [doRoute]

@[simp] theorem pmeRaise_anchor (s : State) : (pmeRaise s).anchor = s.anchor := by
  simp [pmeRaise]

@[simp] theorem doSillageWake_anchor (s : State) : (doSillageWake s).anchor = s.anchor := by
  simp [doSillageWake]

@[simp] theorem doWakeRelease_anchor (s : State) : (doWakeRelease s).anchor = s.anchor := by
  simp [doWakeRelease]

@[simp] theorem doPmeEn_anchor (s : State) (v : Bool) : (doPmeEn s v).anchor = s.anchor := by
  simp [doPmeEn]

@[simp] theorem doPmeRepeat_anchor (s : State) : (doPmeRepeat s).anchor = s.anchor := by
  simp [doPmeRepeat]

@[simp] theorem doPmeClear_anchor (s : State) : (doPmeClear s).anchor = s.anchor := by
  simp only [doPmeClear, anchor_upd]

@[simp] theorem unmaskVec_anchor (s : State) (t : Nat) : (unmaskVec s t).anchor = s.anchor := by
  simp [unmaskVec]

@[simp] theorem doMsixEnable_anchor (s : State) (en : Bool) (fm : Bool) : (doMsixEnable s en fm).anchor = s.anchor := by
  simp [doMsixEnable, anchor_foldl]

@[simp] theorem doMsixTable_anchor (s : State) (k : Nat) (v : Word) : (doMsixTable s k v).anchor = s.anchor := by
  simp [doMsixTable]

@[simp] theorem doMsixUnmask_anchor (s : State) (t : Nat) : (doMsixUnmask s t).anchor = s.anchor := by
  simp [doMsixUnmask]

@[simp] theorem doHecEvent_anchor (s : State) (v : Word) : (doHecEvent s v).anchor = s.anchor := by
  simp only [doHecEvent, anchor_upd]

@[simp] theorem hecPageWrite_anchor (s : State) (t : Nat) (o : Nat) (v : Word) : (hecPageWrite s t o v).anchor = s.anchor := by
  simp [hecPageWrite]

@[simp] theorem hecWrite_anchor (s : State) (off : Nat) (v : Word) : (hecWrite s off v).anchor = s.anchor := by
  simp [hecWrite]

@[simp] theorem applyRoute_anchor (s : State) (b : List Byte) (o : Nat) : (applyRoute s b o).anchor = s.anchor := by
  simp only [applyRoute, anchor_upd]

@[simp] theorem applyHecRecords_anchor (s : State) : (applyHecRecords s).anchor = s.anchor := by
  simp [applyHecRecords, anchor_foldl]

end Sys2Proof.Machine
end

