-- ==== Sys2Proof/Laws/Dio.lean ====
section
/-! SUPPORT. What the operations of Machine/Dio.lean leave of the anchor of a state. -/

namespace Sys2Proof.Machine

open Sys2Proof

@[simp] theorem updDo_anchor (s : State) (c : Nat) (f : DoCh → DoCh) : (updDo s c f).anchor = s.anchor := by
  simp only [updDo, anchor_upd]

@[simp] theorem updGrp_anchor (s : State) (g : Nat) (f : DoGroup → DoGroup) : (updGrp s g f).anchor = s.anchor := by
  simp only [updGrp, anchor_upd]

@[simp] theorem updTp_anchor (s : State) (k : Nat) (f : TpGen → TpGen) : (updTp s k f).anchor = s.anchor := by
  simp only [updTp, anchor_upd]

@[simp] theorem dioEvent_anchor (s : State) (i : Nat) : (dioEvent s i).anchor = s.anchor := by
  simp only [dioEvent, anchor_upd]

@[simp] theorem sampleInputs_anchor (s : State) (t : Nat) (di : BitVec 96) (si : BitVec 32) : (sampleInputs s t di si).anchor = s.anchor := by
  simp only [sampleInputs, anchor_upd]

@[simp] theorem doTpFault_anchor (s : State) (k : Nat) : (doTpFault s k).anchor = s.anchor := by
  simp [doTpFault]

@[simp] theorem doSupplyFault_anchor (s : State) (k : Nat) : (doSupplyFault s k).anchor = s.anchor := by
  simp [doSupplyFault]

@[simp] theorem doSupplySound_anchor (s : State) (k : Nat) : (doSupplySound s k).anchor = s.anchor := by
  simp only [doSupplySound, anchor_upd]

@[simp] theorem clampFilters_anchor (s : State) : (clampFilters s).anchor = s.anchor := by
  simp only [clampFilters, anchor_upd]

@[simp] theorem dropTests_anchor (old : List Rec) (s : State) : (dropTests old s).anchor = s.anchor := by
  simp only [dropTests, anchor_upd]

@[simp] theorem startDio_anchor (old : List Rec) (s0 : State) : (startDio old s0).anchor = s0.anchor := by
  simp [startDio]

@[simp] theorem tickGenerators_anchor (s : State) : (tickGenerators s).anchor = s.anchor := by
  simp only [tickGenerators, anchor_upd]

@[simp] theorem doGroupLow_anchor (s : State) (g : Nat) : (doGroupLow s g).anchor = s.anchor := by
  simp [doGroupLow]

@[simp] theorem doGroupLowEnd_anchor (s : State) (g : Nat) : (doGroupLowEnd s g).anchor = s.anchor := by
  simp [doGroupLowEnd]

@[simp] theorem doGroupMissing_anchor (s : State) (g : Nat) : (doGroupMissing s g).anchor = s.anchor := by
  simp [doGroupMissing]

@[simp] theorem doGroupAck_anchor (s : State) (v : Word) : (doGroupAck s v).anchor = s.anchor := by
  simp [doGroupAck, anchor_foldl]

@[simp] theorem doLatchedRelease_anchor (s : State) (w : Nat) (v : Word) : (doLatchedRelease s w v).anchor = s.anchor := by
  simp [doLatchedRelease, anchor_foldl]

@[simp] theorem tickDio_anchor (s : State) : (tickDio s).anchor = s.anchor := by
  simp only [tickDio, anchor_upd]

end Sys2Proof.Machine
end

