-- ==== Sys2Proof/Laws/Pf.lean ====
section
/-! SUPPORT. What the operations of Machine/Pf.lean leave of the anchor of a state. -/

namespace Sys2Proof.Machine

open Sys2Proof

@[simp] theorem updPf_anchor (s : State) (c : Nat) (f : PfCh → PfCh) : (updPf s c f).anchor = s.anchor := by
  simp only [updPf, anchor_upd]

@[simp] theorem pfEvent_anchor (s : State) (k : Nat) (c : Nat) : (pfEvent s k c).anchor = s.anchor := by
  simp only [pfEvent, anchor_upd]

@[simp] theorem pfReference_anchor (s : State) (c : Nat) : (pfReference s c).anchor = s.anchor := by
  simp [pfReference]

@[simp] theorem pfUnreference_anchor (s : State) (c : Nat) : (pfUnreference s c).anchor = s.anchor := by
  simp [pfUnreference]

@[simp] theorem pfFifo_anchor (s : State) (c : Nat) (kind : Nat) (sw : Nat) (rising : Bool) : (pfFifo s c kind sw rising).anchor = s.anchor := by
  simp [pfFifo]

@[simp] theorem pfCompare_anchor (s : State) (c : Nat) (up : Bool) : (pfCompare s c up).anchor = s.anchor := by
  simp [pfCompare]

@[simp] theorem cmpDrop_anchor (s : State) : (cmpDrop s).anchor = s.anchor := by
  simp [cmpDrop]

@[simp] theorem pfStep_anchor (s : State) (c : Nat) (up : Bool) : (pfStep s c up).anchor = s.anchor := by
  simp [pfStep]

@[simp] theorem pfQuad_anchor (s : State) (c : Nat) (a : Bool) (b : Bool) (na : Nat) (nb : Nat) : (pfQuad s c a b na nb).anchor = s.anchor := by
  simp only [pfQuad]
  (repeat' first | split | refine (anchor_foldl _ (fun _ _ => ?_) _ _).trans ?_) <;> simp

@[simp] theorem pfIndexEdge_anchor (s : State) (c : Nat) : (pfIndexEdge s c).anchor = s.anchor := by
  simp [pfIndexEdge]

@[simp] theorem pfIndex_anchor (s : State) (c : Nat) (z : Bool) (nz : Nat) : (pfIndex s c z nz).anchor = s.anchor := by
  simp [pfIndex]

@[simp] theorem pfLatchIn_anchor (s : State) (c : Nat) (rising : Bool) : (pfLatchIn s c rising).anchor = s.anchor := by
  simp [pfLatchIn]

@[simp] theorem pfSwitchEdge_anchor (s : State) (c : Nat) (sw : Nat) (rising : Bool) : (pfSwitchEdge s c sw rising).anchor = s.anchor := by
  unfold pfSwitchEdge
  (repeat' split) <;> simp

@[simp] theorem pfSwitch_anchor (s : State) (c : Nat) (sw : Nat) (level : Bool) : (pfSwitch s c sw level).anchor = s.anchor := by
  simp [pfSwitch]

@[simp] theorem pfHap_anchor (s : State) (c : Nat) (x2 : PfHap) : (pfHap s c x2).anchor = s.anchor := by
  unfold pfHap
  (repeat' split) <;> simp

@[simp] theorem pfHeld_anchor (s : State) : (pfHeld s).anchor = s.anchor := by
  unfold pfHeld
  (repeat' first | split | refine (anchor_foldl _ (fun _ _ => ?_) _ _).trans ?_) <;> simp

@[simp] theorem serFail_anchor (s : State) (c : Nat) : (serFail s c).anchor = s.anchor := by
  simp [serFail]

@[simp] theorem doSerBad_anchor (s : State) (c : Nat) : (doSerBad s c).anchor = s.anchor := by
  simp [doSerBad]

@[simp] theorem doLineFault_anchor (s : State) (c : Nat) : (doLineFault s c).anchor = s.anchor := by
  simp [doLineFault]

@[simp] theorem doLineFaultEnd_anchor (s : State) (c : Nat) : (doLineFaultEnd s c).anchor = s.anchor := by
  simp [doLineFaultEnd]

@[simp] theorem doPfSupply_anchor (s : State) (c : Nat) : (doPfSupply s c).anchor = s.anchor := by
  simp [doPfSupply]

@[simp] theorem doPfSupplySound_anchor (s : State) (c : Nat) : (doPfSupplySound s c).anchor = s.anchor := by
  simp [doPfSupplySound]

@[simp] theorem pfArmAt_anchor (s : State) (c : Nat) (arm : Bool) : (pfArmAt s c arm).1.anchor = s.anchor := by
  unfold pfArmAt
  (repeat' split) <;> simp

@[simp] theorem pfCorrect_anchor (s : State) (c : Nat) : (pfCorrect s c).anchor = s.anchor := by
  unfold pfCorrect
  (repeat' split) <;> simp

@[simp] theorem pfLatch_anchor (s : State) (c : Nat) : (pfLatch s c).1.anchor = s.anchor := by
  simp only [pfLatch]
  (repeat' first | split | refine (anchor_foldl _ (fun _ _ => ?_) _ _).trans ?_) <;> simp

@[simp] theorem cmpExpire_anchor (s : State) : (cmpExpire s).anchor = s.anchor := by
  simp only [cmpExpire, anchor_upd]

@[simp] theorem tickPf_anchor (s : State) : (tickPf s).1.anchor = s.anchor := by
  simp only [tickPf, anchor_upd]
  rw [anchor_foldl_fst _ (fun p c => by simp)]
  simp

@[simp] theorem startPf_anchor (old : List Rec) (keep : Bool) (s : State) (c : Nat) : (startPf old keep s c).anchor = s.anchor := by
  unfold startPf
  (repeat' split) <;> simp

@[simp] theorem doPfSnap_anchor (s : State) (v : Word) : (doPfSnap s v).anchor = s.anchor := by
  simp only [doPfSnap, anchor_upd]

@[simp] theorem pfWrite_anchor (s : State) (off : Nat) (v : Word) : (pfWrite s off v).anchor = s.anchor := by
  simp [pfWrite]

end Sys2Proof.Machine
end

