-- ==== Sys2Proof/Laws/Analog.lean ====
section
/-! SUPPORT. What the operations of Machine/Analog.lean leave of the anchor of a state. -/

namespace Sys2Proof.Machine

open Sys2Proof

@[simp] theorem updAi_anchor (s : State) (c : Nat) (f : AiCh → AiCh) : (updAi s c f).anchor = s.anchor := by
  simp only [updAi, anchor_upd]

@[simp] theorem updAo_anchor (s : State) (c : Nat) (f : AoCh → AoCh) : (updAo s c f).anchor = s.anchor := by
  simp only [updAo, anchor_upd]

@[simp] theorem updBank_anchor (s : State) (ao : Bool) (b : Nat) (f : RotBank → RotBank) : (updBank s ao b f).anchor = s.anchor := by
  simp [updBank]

@[simp] theorem updCal_anchor (s : State) (ao : Bool) (b : Nat) (c : Nat) (f : Cal → Cal) : (updCal s ao b c f).anchor = s.anchor := by
  simp [updCal]

@[simp] theorem anEvent_anchor (s : State) (i : Nat) : (anEvent s i).anchor = s.anchor := by
  simp only [anEvent, anchor_upd]

@[simp] theorem retire_anchor (s : State) (ao : Bool) (b : Nat) (c : Nat) : (retire s ao b c).anchor = s.anchor := by
  simp [retire]

@[simp] theorem doShuntOpen_anchor (s : State) (c : Nat) : (doShuntOpen s c).anchor = s.anchor := by
  simp [doShuntOpen]

@[simp] theorem doShuntRetest_anchor (s : State) (c : Nat) (still : Bool) : (doShuntRetest s c still).anchor = s.anchor := by
  simp [doShuntRetest]

@[simp] theorem doStepStart_anchor (s : State) (b : Nat) : (doStepStart s b).anchor = s.anchor := by
  simp [doStepStart]

@[simp] theorem doSarStep_anchor (s : State) (g : Nat) (diff : F64) : (doSarStep s g diff).anchor = s.anchor := by
  simp [doSarStep]

@[simp] theorem noteIFail_anchor (s : State) (ao : Bool) (b : Nat) (c : Nat) (ok : Bool) (iok : Bool) : (noteIFail s ao b c ok iok).anchor = s.anchor := by
  simp [noteIFail]

@[simp] theorem doReference_anchor (s0 : State) (ao : Bool) (b : Nat) (z : Int) (h : Int) (u : Int) (i : Int) : (doReference s0 ao b z h u i).anchor = s0.anchor := by
  simp only [doReference]
  (repeat' first | split | refine (anchor_foldl _ (fun _ _ => ?_) _ _).trans ?_) <;> simp

@[simp] theorem doRecheck_anchor (s : State) (ao : Bool) (b : Nat) (z : Int) (u : Int) : (doRecheck s ao b z u).anchor = s.anchor := by
  simp only [doRecheck]
  (repeat' first | split | refine (anchor_foldl _ (fun _ _ => ?_) _ _).trans ?_) <;> simp

@[simp] theorem tickBank_anchor (ao : Bool) (s : State) (b : Nat) : (tickBank ao s b).anchor = s.anchor := by
  simp only [tickBank]
  (repeat' first | split | refine (anchor_foldl _ (fun _ _ => ?_) _ _).trans ?_) <;> simp

@[simp] theorem restoreConv_anchor (ao : Bool) (s : State) (i : Nat) : (restoreConv ao s i).anchor = s.anchor := by
  simp [restoreConv]

@[simp] theorem doAiRestore_anchor (s : State) (w : Nat) (v : Word) : (doAiRestore s w v).anchor = s.anchor := by
  simp [doAiRestore, anchor_foldl]

@[simp] theorem doAoRestore_anchor (s : State) (w : Nat) (v : Word) : (doAoRestore s w v).anchor = s.anchor := by
  simp [doAoRestore, anchor_foldl]

@[simp] theorem doBankTimeout_anchor (s : State) (b : Nat) : (doBankTimeout s b).anchor = s.anchor := by
  simp [doBankTimeout]

@[simp] theorem bankLinkBack_anchor (s : State) (b : Nat) : (bankLinkBack s b).anchor = s.anchor := by
  simp [bankLinkBack]

@[simp] theorem doBankBad_anchor (s : State) (b : Nat) : (doBankBad s b).anchor = s.anchor := by
  simp [doBankBad]

@[simp] theorem tickAi_anchor (s : State) : (tickAi s).anchor = s.anchor := by
  simp [tickAi, anchor_foldl]

@[simp] theorem storeModes_anchor (s : State) : (storeModes s).anchor = s.anchor := by
  simp only [storeModes, anchor_upd]

@[simp] theorem tickAo_anchor (s : State) : (tickAo s).anchor = s.anchor := by
  simp only [tickAo, anchor_upd]

@[simp] theorem markAo_anchor (s : State) : (markAo s).anchor = s.anchor := by
  simp only [markAo, anchor_upd]

@[simp] theorem doComplEnter_anchor (s : State) (c : Nat) : (doComplEnter s c).anchor = s.anchor := by
  simp [doComplEnter]

@[simp] theorem doComplEnd_anchor (s : State) (c : Nat) : (doComplEnd s c).anchor = s.anchor := by
  simp [doComplEnd]

@[simp] theorem doComplClear_anchor (s : State) (v : Word) : (doComplClear s v).anchor = s.anchor := by
  simp [doComplClear, anchor_foldl]

@[simp] theorem enterMismatch_anchor (s : State) (c : Nat) : (enterMismatch s c).anchor = s.anchor := by
  simp [enterMismatch]

@[simp] theorem doMismatch_anchor (s : State) (c : Nat) : (doMismatch s c).anchor = s.anchor := by
  simp [doMismatch]

@[simp] theorem doParallelDone_anchor (s : State) (c : Nat) (spare : F64) : (doParallelDone s c spare).anchor = s.anchor := by
  simp [doParallelDone]

@[simp] theorem doMisClear_anchor (s : State) (v : Word) : (doMisClear s v).anchor = s.anchor := by
  simp [doMisClear, anchor_foldl]

@[simp] theorem doAoLow_anchor (s : State) (g : Nat) : (doAoLow s g).anchor = s.anchor := by
  simp only [doAoLow, anchor_upd]

@[simp] theorem doAoLowEnd_anchor (s : State) (g : Nat) : (doAoLowEnd s g).anchor = s.anchor := by
  simp only [doAoLowEnd, anchor_upd]

@[simp] theorem anWrite_anchor (s : State) (off : Nat) (v : Word) : (anWrite s off v).anchor = s.anchor := by
  simp [anWrite]

@[simp] theorem dioWrite_anchor (s : State) (off : Nat) (v : Word) : (dioWrite s off v).anchor = s.anchor := by
  simp [dioWrite]

end Sys2Proof.Machine
end

