-- ==== Sys2Proof/Laws/Table.lean ====
section
/-! SUPPORT. The laws of sparse tables: a read after a write, of any table, and that every operation keeps the canonical form. -/

namespace Sys2Proof.Machine

variable {α : Type}

theorem Tab.get_ins (t : Tab α) (d v : α) (k i : Nat) : Tab.get (Tab.ins t k v) d i = if i = k then v else Tab.get t d i := by
  induction t with
  | nil => simp only [Tab.ins, Tab.get, eq_comm]
  | cons x r ih =>
    obtain ⟨j, w⟩ := x
    simp only [Tab.ins]
    split
    · rename_i h
      subst h
      simp only [Tab.get, @eq_comm _ i j]
      split <;> rfl
    · split
      · simp only [Tab.get, @eq_comm _ i k]
      · simp only [Tab.get, ih]
        split
        · rename_i h1 _ h2
          rw [if_neg (by omega)]
        · rfl

theorem Tab.get_del (t : Tab α) (d : α) (k i : Nat) : Tab.get (Tab.del t k) d i = if i = k then d else Tab.get t d i := by
  induction t with
  | nil => simp [Tab.del, Tab.get]
  | cons x r ih =>
    obtain ⟨j, w⟩ := x
    simp only [Tab.del]
    split
    · rename_i h
      subst h
      rw [ih]
      simp only [Tab.get, @eq_comm _ i j]
      split <;> rfl
    · rename_i h
      simp only [Tab.get, ih]
      split
      · rename_i h2
        rw [if_neg (by omega)]
      · rfl

section
variable [DecidableEq α]

/-- A write reaches its item and no other. -/
theorem Tab.get_set (d v : α) (t : Tab α) (k i : Nat) : Tab.get (Tab.set t d k v) d i = if i = k then v else Tab.get t d i := by
  unfold Tab.set
  split
  · rename_i e
    rw [Tab.get_del, e]
  · exact Tab.get_ins t d v k i

/-- Read after write. -/
theorem Tab.get_set_same (d v : α) (t : Tab α) (k : Nat) : Tab.get (Tab.set t d k v) d k = v := (Tab.get_set d v t k k).trans (if_pos rfl)

/-- A write leaves every other item alone. -/
theorem Tab.get_set_other (d v : α) (t : Tab α) (k i : Nat) (hi : i ≠ k) : Tab.get (Tab.set t d k v) d i = Tab.get t d i :=
  (Tab.get_set d v t k i).trans (if_neg hi)

/-- A change reaches its item and no other. -/
theorem Tab.get_upd (d : α) (t : Tab α) (k i : Nat) (f : α → α) :
    Tab.get (Tab.upd t d k f) d i = if i = k then f (Tab.get t d i) else Tab.get t d i := by
  unfold Tab.upd
  rw [Tab.get_set]
  split
  · rename_i h
    rw [h]
  · rfl

theorem Tab.wf_ins (d v : α) (t : Tab α) (k : Nat) (lo : Option Nat) (h : Tab.wfFrom d lo t = true) (hv : v ≠ d)
    (hl : ∀ l, lo = some l → l < k) : Tab.wfFrom d lo (Tab.ins t k v) = true := by
  induction t generalizing lo with
  | nil =>
    cases lo with
    | none => simp [Tab.ins, Tab.wfFrom, hv]
    | some l => simp [Tab.ins, Tab.wfFrom, hv, hl l rfl]
  | cons x r ih =>
    obtain ⟨j, w⟩ := x
    simp only [Tab.wfFrom, Bool.and_eq_true] at h
    by_cases h1 : j = k
    · subst h1
      simp only [Tab.ins, if_true, Tab.wfFrom, Bool.and_eq_true, decide_eq_true_eq]
      exact ⟨⟨h.1.1, hv⟩, h.2⟩
    · by_cases h2 : k < j
      · simp only [Tab.ins, h1, h2, if_false, if_true, Tab.wfFrom, Bool.and_eq_true, decide_eq_true_eq]
        refine ⟨⟨?_, hv⟩, ⟨trivial, by simpa using h.1.2⟩, h.2⟩
        cases lo with
        | none => rfl
        | some l => simpa using hl l rfl
      · simp only [Tab.ins, h1, h2, if_false, Tab.wfFrom, Bool.and_eq_true]
        refine ⟨h.1, ih (some j) h.2 ?_⟩
        intro l e
        injection e with e
        omega

theorem Tab.wf_del (d : α) (t : Tab α) (k : Nat) (lo : Option Nat) (h : Tab.wfFrom d lo t = true) : Tab.wfFrom d lo (Tab.del t k) = true := by
  induction t generalizing lo with
  | nil => rfl
  | cons x r ih =>
    obtain ⟨j, w⟩ := x
    simp only [Tab.wfFrom, Bool.and_eq_true] at h
    simp only [Tab.del]
    split
    · refine ih lo ?_
      cases r with
      | nil => rfl
      | cons y q =>
        obtain ⟨i, u⟩ := y
        have h2 := h.2
        simp only [Tab.wfFrom, Bool.and_eq_true, decide_eq_true_eq] at h2 ⊢
        refine ⟨⟨?_, h2.1.2⟩, h2.2⟩
        cases lo with
        | none => rfl
        | some l =>
          have := h.1.1
          simp only [decide_eq_true_eq] at this ⊢
          omega
    · simp only [Tab.wfFrom, Bool.and_eq_true]
      exact ⟨h.1, ih (some j) h.2⟩

/-- A write keeps the canonical form. -/
theorem Tab.wf_set (d v : α) (t : Tab α) (k : Nat) (h : Tab.wf d t = true) : Tab.wf d (Tab.set t d k v) = true := by
  unfold Tab.set
  split
  · exact Tab.wf_del d t k none h
  · exact Tab.wf_ins d v t k none h ‹_› (fun l e => by cases e)

theorem Tab.wf_upd (d : α) (t : Tab α) (k : Nat) (f : α → α) (h : Tab.wf d t = true) : Tab.wf d (Tab.upd t d k f) = true :=
  Tab.wf_set d _ t k h

/-- A fold of writes keeps the canonical form. -/
theorem Tab.wf_foldl {β : Type} (d : α) (key : Tab α → β → Nat) (val : Tab α → β → α) (l : List β) (t : Tab α) (h : Tab.wf d t = true) :
    Tab.wf d (l.foldl (fun acc x => Tab.set acc d (key acc x) (val acc x)) t) = true := by
  induction l generalizing t with
  | nil => exact h
  | cons x r ih => exact ih _ (Tab.wf_set d _ t _ h)

/-- A change of every listed item leaves a canonical table. -/
theorem Tab.wf_mapAll (d : α) (t : Tab α) (f : Nat → α → α) : Tab.wf d (Tab.mapAll t d f) = true := by
  induction t with
  | nil => rfl
  | cons x r ih => exact Tab.wf_set d _ _ _ ih

theorem Tab.wf_updMany (d : α) (t : Tab α) (ks : List Nat) (f : Nat → α → α) (h : Tab.wf d t = true) :
    Tab.wf d (Tab.updMany t d ks f) = true :=
  Tab.wf_foldl d (fun _ k => k) (fun acc k => f k (Tab.get acc d k)) ks t h

/-- The items of a list without repeats are changed each once, from what they held before. -/
theorem Tab.get_updMany (d : α) (t : Tab α) (ks : List Nat) (f : Nat → α → α) (hn : ks.Nodup) (k : Nat) :
    Tab.get (Tab.updMany t d ks f) d k = if k ∈ ks then f k (Tab.get t d k) else Tab.get t d k := by
  induction ks generalizing t with
  | nil => rfl
  | cons i r ih =>
    obtain ⟨hi, hr⟩ := List.nodup_cons.1 hn
    show Tab.get (Tab.updMany (Tab.set t d i (f i (Tab.get t d i))) d r f) d k = _
    rw [ih _ hr]
    by_cases e : k = i
    · subst e
      rw [if_neg hi, if_pos List.mem_cons_self, Tab.get_set_same d _ t k]
    · rw [Tab.get_set_other d _ t i k e]
      simp only [List.mem_cons, e, false_or]

/-- Every listed item is changed; a change that keeps what an unlisted item holds changes every item. -/
theorem Tab.get_mapAll (d : α) (t : Tab α) (f : Nat → α → α) (k : Nat) (hd : f k d = d) :
    Tab.get (Tab.mapAll t d f) d k = f k (Tab.get t d k) := by
  induction t with
  | nil => exact hd.symm
  | cons x r ih =>
    obtain ⟨j, w⟩ := x
    show Tab.get (Tab.set (Tab.mapAll r d f) d j (f j w)) d k = _
    rw [Tab.get_set]
    simp only [Tab.get]
    by_cases e : k = j
    · rw [if_pos e, if_pos e.symm, e]
    · rw [if_neg e, if_neg (fun x => e x.symm)]
      exact ih

end

end Sys2Proof.Machine
end

