-- ==== Sys2Proof/Laws/Window.lean ====
section
/-! SUPPORT. What the operations of Machine/Window.lean leave of the anchor of a state. -/

namespace Sys2Proof.Machine

open Sys2Proof

@[simp] theorem setDir_anchor (s : State) (n : Nat) (d : Dir) : (setDir s n d).anchor = s.anchor := by
  simp only [setDir, anchor_upd]

@[simp] theorem setSlot_anchor (s : State) (n : Nat) (x : Slot) : (setSlot s n x).anchor = s.anchor := by
  simp only [setSlot, anchor_upd]

@[simp] theorem winWrite_anchor (s : State) (a : Nat) (b : List Byte) : (winWrite s a b).anchor = s.anchor := by
  simp only [winWrite, anchor_upd]

@[simp] theorem tgtEvent_anchor (s : State) (t : Nat) (k : Nat) : (tgtEvent s t k).anchor = s.anchor := by
  simp only [tgtEvent, anchor_upd]

@[simp] theorem handback_anchor (s : State) (t : Nat) (kind : Option Nat) (n : Nat) : (handback s t kind n).anchor = s.anchor := by
  simp [handback]

@[simp] theorem violation_anchor (s : State) (seg : Nat) (off : Nat) (dirWrite : Bool) : (violation s seg off dirWrite).anchor = s.anchor := by
  simp only [violation, anchor_upd]

@[simp] theorem doDirWrite_anchor (s : State) (n : Nat) (v : Word) : (doDirWrite s n v).anchor = s.anchor := by
  simp [doDirWrite]

@[simp] theorem doBar2_anchor (s : State) (a : Nat) (data : List (Option Byte)) : (doBar2 s a data).anchor = s.anchor := by
  simp only [doBar2]
  (repeat' first | split | refine (anchor_foldl _ (fun _ _ => ?_) _ _).trans ?_) <;> simp

@[simp] theorem doReclaim_anchor (s : State) (v : Word) : (doReclaim s v).anchor = s.anchor := by
  simp [doReclaim]

@[simp] theorem tickReclaim_anchor (s : State) : (tickReclaim s).anchor = s.anchor := by
  unfold tickReclaim
  (repeat' split) <;> simp [anchor_foldl]

@[simp] theorem cmdError_anchor (s : State) (tag : Nat) (ring : Nat) (cause : Nat) (tgt : Nat) : (cmdError s tag ring cause tgt).anchor = s.anchor := by
  simp only [cmdError, anchor_upd]

@[simp] theorem doDoorbell_anchor (s : State) (t : Nat) (v : Word) : (doDoorbell s t v).anchor = s.anchor := by
  simp [doDoorbell]

@[simp] theorem doRelease_anchor (s : State) (v : Word) : (doRelease s v).anchor = s.anchor := by
  simp [doRelease]

@[simp] theorem ringAdvance_anchor (s : State) : (ringAdvance s).anchor = s.anchor := by
  simp [ringAdvance, anchor_foldl]

@[simp] theorem answerSlot_anchor (s : State) (tag : Nat) (tgt : Nat) (a : Answer) : (answerSlot s tag tgt a).anchor = s.anchor := by
  simp [answerSlot]

@[simp] theorem complete_anchor (s : State) (c : Cmd) (a : Answer) : (complete s c a).anchor = s.anchor := by
  simp [complete, anchor_foldl]

@[simp] theorem replaceCmd_anchor (s : State) (c : Cmd) (d : Cmd) : (replaceCmd s c d).anchor = s.anchor := by
  simp only [replaceCmd, anchor_upd]

/-- Window memory after reset is in canonical form. -/
theorem reset_win_wf : Tab.wf 0 State.reset.hp.win = true := rfl

/-- A write by the module keeps the canonical form of the window's memory. -/
theorem winWrite_wf (s : State) (a : Nat) (b : List Byte) (h : Tab.wf 0 s.hp.win = true) : Tab.wf 0 (winWrite s a b).hp.win = true :=
  Tab.wf_foldl 0 (fun _ (x : Byte × Nat) => a + x.2) (fun _ (x : Byte × Nat) => x.1) b.zipIdx s.hp.win h

/-- A write of the host keeps the canonical form of the window's memory. -/
theorem doBar2_wf (s : State) (a : Nat) (data : List (Option Byte)) (h : Tab.wf 0 s.hp.win = true) : Tab.wf 0 (doBar2 s a data).hp.win = true := by
  have key : ∀ (bs : List (Nat × Byte)) (w : Tab Byte), Tab.wf 0 w = true →
      Tab.wf 0 (bs.foldl (fun w x => if devOwned s x.1 then w else Tab.set w 0 x.1 x.2) w) = true := by
    intro bs
    induction bs with
    | nil => exact fun _ hw => hw
    | cons x r ih =>
      intro w hw
      simp only [List.foldl_cons]
      refine ih _ ?_
      split
      · exact hw
      · exact Tab.wf_set 0 x.2 w x.1 hw
  unfold doBar2
  split
  · exact h
  · dsimp only
    split
    · exact key _ _ h
    · exact key _ _ h

/-- The stored byte at an address after a write by the module of bytes `b` from `a` on. -/
theorem winWrite_get (s : State) (a : Nat) (b : List Byte) (k : Nat) :
    Tab.get (winWrite s a b).hp.win 0 k = if a ≤ k then (b[k - a]?).getD (Tab.get s.hp.win 0 k) else Tab.get s.hp.win 0 k := by
  have key : ∀ (b : List Byte) (i : Nat) (w : Tab Byte), Tab.get ((b.zipIdx i).foldl (fun w x => Tab.set w 0 (a + x.2) x.1) w) 0 k =
      if a + i ≤ k then (b[k - (a + i)]?).getD (Tab.get w 0 k) else Tab.get w 0 k := by
    intro b
    induction b with
    | nil => intro i w; simp
    | cons x r ih =>
      intro i w
      simp only [List.zipIdx_cons, List.foldl_cons]
      rw [ih (i + 1), Tab.get_set]
      by_cases h1 : k = a + i
      · subst h1
        have h5 : ¬ a + (i + 1) ≤ a + i := by omega
        rw [if_neg h5, if_pos rfl, if_pos (Nat.le_refl _), Nat.sub_self]; rfl
      · by_cases h2 : a + i ≤ k
        · have h3 : a + (i + 1) ≤ k := by omega
          have h4 : k - (a + i) = (k - (a + (i + 1))) + 1 := by omega
          rw [if_pos h2, if_pos h3, if_neg h1, h4, List.getElem?_cons_succ]
        · have h3 : ¬ a + (i + 1) ≤ k := by omega
          rw [if_neg h2, if_neg h3, if_neg h1]
  exact key b 0 s.hp.win

end Sys2Proof.Machine
end

