-- ==== Sys2Proof/Laws/Engine.lean ====
section
/-! SUPPORT. What the operations of Machine/Engine.lean leave of the anchor of a state. -/

namespace Sys2Proof.Machine

open Sys2Proof

@[simp] theorem setStage_anchor (s : State) (i : Nat) (x : Stage) : (setStage s i x).anchor = s.anchor := by
  simp only [setStage, anchor_upd]

@[simp] theorem setSig_anchor (s : State) (k : Nat) (x : Sig) : (setSig s k x).anchor = s.anchor := by
  simp only [setSig, anchor_upd]

@[simp] theorem writeOuts_anchor (s : State) (b : List Byte) (outs : List F64) (q : Qual) : (writeOuts s b outs q).anchor = s.anchor := by
  simp [writeOuts, anchor_foldl]

@[simp] theorem holdOuts_anchor (s : State) (b : List Byte) (q : Qual) : (holdOuts s b q).anchor = s.anchor := by
  simp [holdOuts, anchor_foldl]

@[simp] theorem finishStage_anchor (s : State) (i : Nat) (b : List Byte) (x : Stage) (outs : List F64) (q : Qual) : (finishStage s i b x outs q).anchor = s.anchor := by
  simp [finishStage]

@[simp] theorem heldStage_anchor (s : State) (i : Nat) (b : List Byte) (x : Stage) (q : Qual) : (heldStage s i b x q).anchor = s.anchor := by
  simp [heldStage]

@[simp] theorem runPi_anchor (s : State) (i : Nat) (b : List Byte) (x : Stage) (ins : List (Option Sig)) (q : Qual) : (runPi s i b x ins q).anchor = s.anchor := by
  simp [runPi]

@[simp] theorem runPiMod_anchor (s : State) (i : Nat) (b : List Byte) (x : Stage) (ins : List (Option Sig)) (q : Qual) : (runPiMod s i b x ins q).anchor = s.anchor := by
  simp [runPiMod]

@[simp] theorem runManual_anchor (s : State) (i : Nat) (b : List Byte) (x : Stage) (ins : List (Option Sig)) : (runManual s i b x ins).anchor = s.anchor := by
  simp [runManual]

@[simp] theorem runBiquad_anchor (s : State) (i : Nat) (b : List Byte) (x : Stage) (ins : List (Option Sig)) (q : Qual) : (runBiquad s i b x ins q).anchor = s.anchor := by
  simp [runBiquad]

@[simp] theorem runLimiter_anchor (s : State) (i : Nat) (b : List Byte) (x : Stage) (ins : List (Option Sig)) (q : Qual) : (runLimiter s i b x ins q).anchor = s.anchor := by
  simp [runLimiter]

@[simp] theorem runSum_anchor (s : State) (i : Nat) (b : List Byte) (x : Stage) (ins : List (Option Sig)) (q : Qual) : (runSum s i b x ins q).anchor = s.anchor := by
  simp [runSum]

@[simp] theorem setPage_anchor (s : State) (p : Page) : (setPage s p).anchor = s.anchor := by
  simp [setPage]

@[simp] theorem runOutput_anchor (s : State) (i : Nat) (b : List Byte) (x : Stage) : (runOutput s i b x).anchor = s.anchor := by
  simp [runOutput]

@[simp] theorem startEngine_anchor (cold : Bool) (s : State) : (startEngine cold s).anchor = s.anchor := by
  simp [startEngine, anchor_foldl]

@[simp] theorem doStageSnap_anchor (s : State) (v : Word) : (doStageSnap s v).anchor = s.anchor := by
  simp [doStageSnap]

@[simp] theorem setLoopMode_anchor (s : State) (lp : Nat) (auto : Bool) (man : F64) : (setLoopMode s lp auto man).1.anchor = s.anchor := by
  unfold setLoopMode
  (repeat' split) <;> simp

end Sys2Proof.Machine
end

