-- ==== Sys2Proof/Laws/Profile.lean ====
section
/-! SUPPORT. What the operations of Machine/Profile.lean leave of the anchor of a state. -/

namespace Sys2Proof.Machine

open Sys2Proof

@[simp] theorem runProfile_anchor (s : State) (i : Nat) (b : List Byte) (x0 : Stage) (ins : List (Option Sig)) : (runProfile s i b x0 ins).anchor = s.anchor := by
  simp [runProfile]

@[simp] theorem stopEdit_anchor (s : State) (i : Nat) (act : Nat) (pos : Int) : (stopEdit s i act pos).1.anchor = s.anchor := by
  simp only [stopEdit]
  (repeat' first | split | refine (anchor_foldl _ (fun _ _ => ?_) _ _).trans ?_) <;> simp

@[simp] theorem runDoor_anchor (s : State) (i : Nat) (b : List Byte) (x0 : Stage) (ins : List (Option Sig)) : (runDoor s i b x0 ins).anchor = s.anchor := by
  simp only [runDoor]
  (repeat' first | split | refine (anchor_foldl _ (fun _ _ => ?_) _ _).trans ?_) <;> simp

@[simp] theorem setLearner_anchor (s : State) (l : Nat) (x : Learner) : (setLearner s l x).anchor = s.anchor := by
  simp only [setLearner, anchor_upd]

@[simp] theorem runRepeat_anchor (s : State) (i : Nat) (b : List Byte) (x : Stage) (ins : List (Option Sig)) (q : Qual) : (runRepeat s i b x ins q).anchor = s.anchor := by
  simp [runRepeat]

@[simp] theorem learnControl_anchor (s : State) (l : Nat) (act : Nat) : (learnControl s l act).1.anchor = s.anchor := by
  simp only [learnControl]
  (repeat' first | split | refine (anchor_foldl _ (fun _ _ => ?_) _ _).trans ?_) <;> simp

@[simp] theorem runInject_anchor (s : State) (i : Nat) (b : List Byte) (x : Stage) (ins : List (Option Sig)) (q : Qual) : (runInject s i b x ins q).anchor = s.anchor := by
  simp [runInject]

@[simp] theorem injAdvance_anchor (s : State) : (injAdvance s).anchor = s.anchor := by
  simp [injAdvance, anchor_foldl]

@[simp] theorem injStop_anchor (s : State) (i : Nat) : (injStop s i).anchor = s.anchor := by
  simp [injStop]

@[simp] theorem injTick_anchor (s : State) : (injTick s).anchor = s.anchor := by
  simp [injTick, anchor_foldl]

@[simp] theorem injStopAll_anchor (s : State) : (injStopAll s).anchor = s.anchor := by
  simp [injStopAll, anchor_foldl]

@[simp] theorem doInjectEnded_anchor (s : State) (i : Nat) : (doInjectEnded s i).anchor = s.anchor := by
  simp [doInjectEnded]

@[simp] theorem injStart_anchor (s : State) (i : Nat) (frames : Nat) (factor : F64) : (injStart s i frames factor).1.anchor = s.anchor := by
  simp only [injStart]
  (repeat' first | split | refine (anchor_foldl _ (fun _ _ => ?_) _ _).trans ?_) <;> simp

@[simp] theorem injStopCmd_anchor (s : State) (i : Nat) : (injStopCmd s i).1.anchor = s.anchor := by
  unfold injStopCmd
  (repeat' split) <;> simp

@[simp] theorem setCap_anchor (s : State) (c : Nat) (x : Capture) : (setCap s c x).anchor = s.anchor := by
  simp only [setCap, anchor_upd]

@[simp] theorem capSample_anchor (s : State) (c : Nat) : (capSample s c).anchor = s.anchor := by
  simp [capSample]

@[simp] theorem capSampleAll_anchor (s : State) : (capSampleAll s).anchor = s.anchor := by
  simp [capSampleAll, anchor_foldl]

@[simp] theorem doCapComplete_anchor (s : State) (c : Nat) : (doCapComplete s c).anchor = s.anchor := by
  simp [doCapComplete]

@[simp] theorem capArm_anchor (s : State) (c : Nat) (act : Nat) : (capArm s c act).1.anchor = s.anchor := by
  unfold capArm
  (repeat' split) <;> simp

@[simp] theorem feedApply_anchor (s : State) : (feedApply s).anchor = s.anchor := by
  simp [feedApply, anchor_foldl]

@[simp] theorem feedGather_anchor (point : Nat → Sig) (s : State) : (feedGather point s).anchor = s.anchor := by
  simp [feedGather, anchor_foldl]

@[simp] theorem runStage_anchor (s : State) (i : Nat) : (runStage s i).anchor = s.anchor := by
  simp [runStage]

@[simp] theorem enginePhase_anchor (n : Nat) (endAt : Nat) (s : State) : (enginePhase n endAt s).anchor = s.anchor := by
  simp [enginePhase, anchor_foldl]

@[simp] theorem doProfileSnap_anchor (s : State) (v : Word) : (doProfileSnap s v).anchor = s.anchor := by
  unfold doProfileSnap
  (repeat' split) <;> simp

@[simp] theorem ceWrite_anchor (s : State) (off : Nat) (v : Word) : (ceWrite s off v).anchor = s.anchor := by
  simp [ceWrite]

end Sys2Proof.Machine
end

