-- ==== Sys2Proof/Laws/Program.lean ====
section
/-! SUPPORT. What the operations of Machine/Program.lean leave of the anchor of a state. -/

namespace Sys2Proof.Machine

open Sys2Proof

@[simp] theorem setTask_anchor (s : State) (t : Nat) (x : TaskSt) : (setTask s t x).anchor = s.anchor := by
  simp only [setTask, anchor_upd]

@[simp] theorem setInst_anchor (s : State) (k : Nat) (x : Inst) : (setInst s k x).anchor = s.anchor := by
  simp only [setInst, anchor_upd]

@[simp] theorem writeRef_anchor (s : State) (t : Nat) (r : Nat) (v : Val) : (writeRef s t r v).anchor = s.anchor := by
  simp [writeRef]

@[simp] theorem runInst_anchor (pts : Nat → Sig) (img : Image) (s : State) (kb : Nat × List Byte) : (runInst pts img s kb).anchor = s.anchor := by
  simp only [runInst]
  (repeat' first | split | refine (anchor_foldl _ (fun _ _ => ?_) _ _).trans ?_) <;> simp

@[simp] theorem runTask_anchor (pts : Nat → Sig) (lim : Option Nat) (s : State) (t : Nat) : (runTask pts lim s t).anchor = s.anchor := by
  simp [runTask, anchor_foldl]

@[simp] theorem publishTask_anchor (s : State) (t : Nat) : (publishTask s t).anchor = s.anchor := by
  simp [publishTask]

@[simp] theorem programPhase_anchor (pts : Nat → Sig) (stop : Option (List (Nat × Nat))) (runs : List (Nat × Nat)) (s : State) : (programPhase pts stop runs s).anchor = s.anchor := by
  simp [programPhase, anchor_foldl]

@[simp] theorem pfCompareLoad_anchor (s : State) (c : Int) (cmp : F64) (sp : Int) (cnt : Int) : (pfCompareLoad s c cmp sp cnt).1.anchor = s.anchor := by
  simp only [pfCompareLoad]
  (repeat' first | split | refine (anchor_foldl _ (fun _ _ => ?_) _ _).trans ?_) <;> simp

/-- What a request does keeps the anchor where the acknowledgement does. -/
@[simp] theorem runReq_anchor (ack : State → Nat → State × Bool) (hack : ∀ s n, (ack s n).1.anchor = s.anchor) (s : State) (r : Req) :
    (runReq ack s r).1.anchor = s.anchor := by
  simp only [runReq]
  (repeat' split) <;> simp [hack]

@[simp] theorem setReqResult_anchor (s : State) (k : Nat) (ok : Bool) (o : Int) : (setReqResult s k ok o).anchor = s.anchor := by
  simp [setReqResult]

@[simp] theorem refuseAwaiting_anchor (s : State) : (refuseAwaiting s).anchor = s.anchor := by
  simp only [refuseAwaiting, anchor_upd]

@[simp] theorem tickReqs_anchor (early : Bool) (ack : State → Nat → State × Bool) (hack : ∀ s n, (ack s n).1.anchor = s.anchor) (s : State) :
    (tickReqs early ack s).anchor = s.anchor := by
  have h : ∀ (l : List Req) (s : State),
      (l.foldl (fun s r => setReqResult (runReq ack s r).1 r.inst (runReq ack s r).2.1 (runReq ack s r).2.2) s).anchor = s.anchor :=
    fun l s => anchor_foldl _ (fun s r => by simp [hack]) l s
  simp only [tickReqs]
  split <;> simp [h]

@[simp] theorem overrunReqs_anchor (s : State) : (overrunReqs s).anchor = s.anchor := by
  simp [overrunReqs, anchor_foldl]

@[simp] theorem commitEvents_anchor (s : State) : (commitEvents s).anchor = s.anchor := by
  simp only [commitEvents, anchor_upd]

@[simp] theorem writeJournal_anchor (ok : Bool) (s : State) : (writeJournal ok s).anchor = s.anchor := by
  simp only [writeJournal]
  (repeat' first | split | refine (anchor_foldl _ (fun _ _ => ?_) _ _).trans ?_) <;> simp

@[simp] theorem startProgram_anchor (restore : Bool) (kind : Nat) (s : State) : (startProgram restore kind s).anchor = s.anchor := by
  simp only [startProgram, anchor_upd]

@[simp] theorem exchangeProgram_anchor (old : List Rec) (s : State) : (exchangeProgram old s).anchor = s.anchor := by
  simp only [exchangeProgram, anchor_upd]

@[simp] theorem setConst_anchor (s : State) (v : Nat) (x : F64) : (setConst s v x).anchor = s.anchor := by
  simp only [setConst, anchor_upd]

@[simp] theorem tickForces_anchor (s : State) : (tickForces s).anchor = s.anchor := by
  simp [tickForces]

@[simp] theorem doPeakClr_anchor (s : State) (v : Word) : (doPeakClr s v).anchor = s.anchor := by
  simp [doPeakClr, anchor_foldl]

@[simp] theorem pgWrite_anchor (s : State) (off : Nat) (v : Word) : (pgWrite s off v).anchor = s.anchor := by
  simp [pgWrite]

end Sys2Proof.Machine
end

