-- ==== Sys2Proof/Laws/Points.lean ====
section
/-! SUPPORT. What the operations of Machine/Points.lean leave of the anchor of a state. -/

namespace Sys2Proof.Machine

open Sys2Proof

@[simp] theorem setPoint_anchor (s : State) (n : Nat) (p : Point) : (setPoint s n p).anchor = s.anchor := by
  simp only [setPoint, anchor_upd]

@[simp] theorem openQueue_anchor (cut : Option Nat) (writes : List (Nat × F64)) (s : State) : (openQueue cut writes s).anchor = s.anchor := by
  simp [openQueue]

@[simp] theorem queueOuts_anchor (doV : Nat → F64) (s : State) : (queueOuts doV s).anchor = s.anchor := by
  simp only [queueOuts, anchor_upd]

@[simp] theorem journalAdd_anchor (s : State) (t10 slot old new cond cause : Nat) : (journalAdd s t10 slot old new cond cause).anchor = s.anchor := by
  unfold journalAdd
  exact anchor_upd ..

@[simp] theorem applyUpd_anchor (frame : Nat) (tick : Nat) (s : State) (u : PtUpd) : (applyUpd frame tick s u).anchor = s.anchor := by
  unfold applyUpd
  split
  · rfl
  · extract_lets p changed p1 tpl cond raw delay act flip used alarm p2 sj pj s1 len gap append sm p3 s2
    have h1 : s1.anchor = s.anchor := by
      unfold s1
      split
      · exact (anchor_upd ..).trans (journalAdd_anchor ..)
      · rfl
    have h2 : s2.anchor = s.anchor := (setPoint_anchor ..).trans h1
    split
    · exact (anchor_upd ..).trans h2
    · exact h2

@[simp] theorem ackPoint_anchor (tick : Nat) (s : State) (n : Nat) : (ackPoint tick s n).1.anchor = s.anchor := by
  unfold ackPoint
  extract_lets p new s1
  split
  · rfl
  · exact (anchor_upd ..).trans ((journalAdd_anchor ..).trans (setPoint_anchor ..))

@[simp] theorem ackRun_anchor (s : State) (j : AckJob) (k : Nat) : (ackRun s j k).1.anchor = s.anchor := by
  induction k generalizing s j with
  | zero => rfl
  | succ k ih =>
    unfold ackRun
    split
    · rfl
    · rw [ih, ackPoint_anchor]

@[simp] theorem ackAll_anchor (frame budget : Nat) (s : State) (l : List AckJob) : (ackAll frame budget s l).1.anchor = s.anchor := by
  induction l generalizing s budget with
  | nil => rfl
  | cons j r ih =>
    unfold ackAll
    split
    · rfl
    · simp only [ih, ackRun_anchor]

@[simp] theorem applyQueue_anchor (q : PtQueue) (s : State) : (applyQueue q s).anchor = s.anchor := by
  simp [applyQueue, anchor_foldl]

@[simp] theorem markLate_anchor (n : Nat) (s : State) : (markLate n s).anchor = s.anchor := by
  simp [markLate]

@[simp] theorem doPointLate_anchor (s : State) : (doPointLate s).anchor = s.anchor := by
  simp [doPointLate]

@[simp] theorem doSnapshot_anchor (s : State) (id : Nat) : (doSnapshot s id).anchor = s.anchor := by
  unfold doSnapshot
  (repeat' split) <;> simp

@[simp] theorem dueSnapshots_anchor (s : State) : (dueSnapshots s).anchor = s.anchor := by
  simp [dueSnapshots, anchor_foldl]

@[simp] theorem doPointQueue_anchor (s : State) : (doPointQueue s).anchor = s.anchor := by
  have h := dueSnapshots_anchor s
  unfold doPointQueue
  generalize dueSnapshots s = c at h ⊢
  (repeat' split) <;> simp [h]

@[simp] theorem endSub_anchor (s : State) (id : Nat) : (endSub s id).anchor = s.anchor := by
  unfold endSub
  (repeat' split) <;> simp [anchor_foldl]

@[simp] theorem endSubs_anchor (s : State) : (endSubs s).anchor = s.anchor := by
  simp [endSubs, anchor_foldl]

@[simp] theorem startPoints_anchor (cold : Bool) (old : List Rec) (s : State) : (startPoints cold old s).anchor = s.anchor := by
  simp [startPoints]

@[simp] theorem ptWrite_anchor (s : State) (off : Nat) (v : Word) : (ptWrite s off v).anchor = s.anchor := by
  simp [ptWrite]

@[simp] theorem blockAck_anchor (s : State) (n : Nat) : (blockAck s n).1.anchor = s.anchor := by
  simp only [blockAck, anchor_upd]

@[simp] theorem dropBlockAcks_anchor (s : State) : (dropBlockAcks s).anchor = s.anchor := by
  simp only [dropBlockAcks, anchor_upd]

end Sys2Proof.Machine
end

