-- ==== Sys2Proof/Laws/Bus.lean ====
section
/-! SUPPORT. What the operations of Machine/Bus.lean leave of the anchor of a state. -/

namespace Sys2Proof.Machine

open Sys2Proof

@[simp] theorem updPort_anchor (s : State) (p : Nat) (f : Port → Port) : (updPort s p f).anchor = s.anchor := by
  simp only [updPort, anchor_upd]

@[simp] theorem setTxq_anchor (s : State) (p : Nat) (q : List TxFrame) : (setTxq s p q).anchor = s.anchor := by
  simp only [setTxq, anchor_upd]

@[simp] theorem setNode_anchor (s : State) (n : Nat) (x : Node) : (setNode s n x).anchor = s.anchor := by
  simp only [setNode, anchor_upd]

@[simp] theorem busEvent_anchor (s : State) (k : Nat) (p : Nat) : (busEvent s k p).anchor = s.anchor := by
  simp only [busEvent, anchor_upd]

@[simp] theorem confine_anchor (s : State) (p : Nat) (tec : Nat) (rec : Nat) : (confine s p tec rec).anchor = s.anchor := by
  simp [confine]

@[simp] theorem goNormal_anchor (s : State) (p : Nat) : (goNormal s p).anchor = s.anchor := by
  simp [goNormal]

@[simp] theorem openInFrame_anchor (s : State) (p : Nat) : (openInFrame s p).anchor = s.anchor := by
  simp [openInFrame]

@[simp] theorem startJoin_anchor (s : State) (p : Nat) : (startJoin s p).anchor = s.anchor := by
  simp [startJoin]

@[simp] theorem goOffline_anchor (s : State) (p : Nat) : (goOffline s p).anchor = s.anchor := by
  simp [goOffline]

@[simp] theorem portMode_anchor (s : State) (p : Nat) : (portMode s p).anchor = s.anchor := by
  simp [portMode]

@[simp] theorem portGate_anchor (s : State) (p : Nat) : (portGate s p).anchor = s.anchor := by
  simp [portGate]

@[simp] theorem loseNode_anchor (s : State) (n : Nat) : (loseNode s n).anchor = s.anchor := by
  simp [loseNode]

@[simp] theorem doNodeLost_anchor (s : State) (n : Nat) : (doNodeLost s n).anchor = s.anchor := by
  simp [doNodeLost]

@[simp] theorem nodeFrame_anchor (s : State) (n : Nat) (ide : Bool) (id : Nat) (fdf : Bool) (data : List Byte) (tmpl : Nat) (lost : Bool) : (nodeFrame s n ide id fdf data tmpl lost).anchor = s.anchor := by
  simp [nodeFrame]

@[simp] theorem refuseDyn_anchor (s : State) (p : Nat) : (refuseDyn s p).anchor = s.anchor := by
  simp [refuseDyn]

@[simp] theorem newDyn_anchor (s : State) (p : Nat) (ide : Bool) (id : Nat) (fdf : Bool) (data : List Byte) (t n : Nat) :
    (newDyn s p ide id fdf data t n).anchor = s.anchor := by
  unfold newDyn
  extract_lets tb g n0 e
  have he : ∀ s1 k, e = some (s1, k) → s1.anchor = s.anchor := by
    intro s1 k h
    unfold e at h
    split at h
    · simp only [Option.some.injEq, Prod.mk.injEq] at h
      rw [← h.1]
    · cases hf : freeNode s with
      | none => simp [hf] at h
      | some j =>
        simp only [hf, Option.map_some, Option.some.injEq, Prod.mk.injEq] at h
        rw [← h.1]
        simp
  clear_value e
  split
  · simp
  · rename_i s1 k
    have h := he _ _ rfl
    rw [← h]
    dsimp only
    split <;> simp

@[simp] theorem countDropped_anchor (s : State) (p : Nat) : (countDropped s p).anchor = s.anchor := by
  simp [countDropped]

@[simp] theorem countUnmatched_anchor (s : State) (p : Nat) : (countUnmatched s p).anchor = s.anchor := by
  simp [countUnmatched]

@[simp] theorem lookupFrame_anchor (s : State) (p : Nat) (ide : Bool) (id : Nat) (fdf : Bool) (data : List Byte) : (lookupFrame s p ide id fdf data).anchor = s.anchor := by
  simp only [lookupFrame]
  (repeat' first | split | refine (anchor_foldl _ (fun _ _ => ?_) _ _).trans ?_) <;> simp

@[simp] theorem frameSeen_anchor (s : State) (p : Nat) : (frameSeen s p).anchor = s.anchor := by
  simp [frameSeen]

@[simp] theorem busReceive_anchor (s : State) (p : Nat) (ide : Bool) (id : Nat) (fdf : Bool) (rtr : Bool) (data : List Byte) : (busReceive s p ide id fdf rtr data).1.anchor = s.anchor := by
  unfold busReceive
  (repeat' split) <;> simp

@[simp] theorem tickObjs_anchor (s : State) : (tickObjs s).1.anchor = s.anchor := by
  simp only [tickObjs, anchor_upd]

@[simp] theorem busLevels_anchor (s : State) : (busLevels s).anchor = s.anchor := by
  simp [busLevels, anchor_foldl]

@[simp] theorem aloneCheck_anchor (s : State) (p : Nat) : (aloneCheck s p).anchor = s.anchor := by
  simp [aloneCheck]

@[simp] theorem tickBus_anchor (s : State) : (tickBus s).anchor = s.anchor := by
  simp [tickBus, anchor_foldl]

@[simp] theorem enqueue_anchor (s : State) (p : Nat) (order : Nat) (src : Nat) (isMsg : Bool) (data : List Byte) : (enqueue s p order src isMsg data).anchor = s.anchor := by
  simp [enqueue]

@[simp] theorem applyObj_anchor (n : Nat) (objs : Tab (List Byte)) (s : State) (kb : Nat × List Byte) : (applyObj n objs s kb).anchor = s.anchor := by
  simp [applyObj]

@[simp] theorem applyObjs_anchor (n : Nat) (objs : Tab (List Byte)) (s : State) : (applyObjs n objs s).anchor = s.anchor := by
  simp [applyObjs, anchor_foldl]

@[simp] theorem portCtrl_anchor (s : State) (p : Nat) (act : Nat) : (portCtrl s p act).1.anchor = s.anchor := by
  unfold portCtrl
  (repeat' split) <;> simp

@[simp] theorem startBus_anchor (s : State) : (startBus s).anchor = s.anchor := by
  simp [startBus, anchor_foldl]

@[simp] theorem busWrite_anchor (s : State) (off : Nat) (v : Word) : (busWrite s off v).anchor = s.anchor := by
  simp [busWrite]

end Sys2Proof.Machine
end

