-- ==== Sys2Proof/Laws/SafetyFn.lean ====
section
/-! SUPPORT. What the operations of Machine/SafetyFn.lean leave of the anchor of a state. -/

namespace Sys2Proof.Machine

open Sys2Proof

@[simp] theorem sfEvent_anchor (s : State) (i : Nat) : (sfEvent s i).anchor = s.anchor := by
  simp only [sfEvent, anchor_upd]

@[simp] theorem pendCause_anchor (s : State) (c : Nat) : (pendCause s c).anchor = s.anchor := by
  simp [pendCause]

@[simp] theorem openSwitches_anchor (s : State) : (openSwitches s).anchor = s.anchor := by
  simp only [openSwitches, anchor_upd]

@[simp] theorem openAll_anchor (s : State) : (openAll s).anchor = s.anchor := by
  simp [openAll]

@[simp] theorem setMsg_anchor (s : State) (attar : Bool) (m : Nat) (x : MsgCh) : (setMsg s attar m x).anchor = s.anchor := by
  simp [setMsg]

@[simp] theorem ageMsg_anchor (s : State) (attar : Bool) (m : Nat) : (ageMsg s attar m).anchor = s.anchor := by
  simp [ageMsg]

@[simp] theorem countRejects_anchor (s : State) (n : Nat) : (countRejects s n).anchor = s.anchor := by
  simp only [countRejects, anchor_upd]

@[simp] theorem windowMsg_anchor (s : State) (attar : Bool) (m : Nat) : (windowMsg s attar m).anchor = s.anchor := by
  simp [windowMsg]

@[simp] theorem losePort_anchor (s : State) (p : Nat) : (losePort s p).anchor = s.anchor := by
  simp [losePort]

@[simp] theorem watchPorts_anchor (s : State) : (watchPorts s).anchor = s.anchor := by
  simp [watchPorts, anchor_foldl]

@[simp] theorem tickDegraded_anchor (s : State) : (tickDegraded s).anchor = s.anchor := by
  simp [tickDegraded]

@[simp] theorem safeCopy_anchor (s : State) (p : Nat) (m : Nat) (ide : Bool) (id : Nat) (fdf : Bool) (data : List Byte) : (safeCopy s p m ide id fdf data).anchor = s.anchor := by
  simp [safeCopy]

@[simp] theorem sendMsg_anchor (n : Nat) (t : Nat) (s : State) (m : Nat) : (sendMsg n t s m).anchor = s.anchor := by
  simp [sendMsg]

@[simp] theorem sendMsgs_anchor (n : Nat) (t : Nat) (s : State) : (sendMsgs n t s).anchor = s.anchor := by
  simp [sendMsgs, anchor_foldl]

@[simp] theorem attarMsgs_anchor (s : State) : (attarMsgs s).anchor = s.anchor := by
  simp [attarMsgs, anchor_foldl]

@[simp] theorem edmFaultAt_anchor (s : State) (k : Nat) : (edmFaultAt s k).anchor = s.anchor := by
  simp [edmFaultAt]

@[simp] theorem edmCheck_anchor (s : State) : (edmCheck s).anchor = s.anchor := by
  simp [edmCheck, anchor_foldl]

@[simp] theorem setDemand_anchor (s : State) : (setDemand s).anchor = s.anchor := by
  simp [setDemand]

@[simp] theorem cycleSnapshot_anchor (s : State) : (cycleSnapshot s).anchor = s.anchor := by
  simp [cycleSnapshot]

@[simp] theorem latchAll_anchor (s : State) : (latchAll s).anchor = s.anchor := by
  simp [latchAll]

@[simp] theorem discFaultAt_anchor (s : State) (k : Nat) : (discFaultAt s k).anchor = s.anchor := by
  simp [discFaultAt]

@[simp] theorem switchFaultAt_anchor (s : State) (k : Nat) : (switchFaultAt s k).anchor = s.anchor := by
  simp [switchFaultAt]

@[simp] theorem endDiscrepancy_anchor (s : State) : (endDiscrepancy s).anchor = s.anchor := by
  simp [endDiscrepancy, anchor_foldl]

@[simp] theorem imageMismatch_anchor (s : State) : (imageMismatch s).anchor = s.anchor := by
  simp [imageMismatch]

@[simp] theorem doAttarCrc_anchor (s : State) (crc : Nat) : (doAttarCrc s crc).anchor = s.anchor := by
  simp [doAttarCrc]

@[simp] theorem doScImage_anchor (s : State) (ok : Bool) : (doScImage s ok).anchor = s.anchor := by
  simp [doScImage]

@[simp] theorem scBlock_anchor (s : State) (kb : Nat × List Byte) : (scBlock s kb).anchor = s.anchor := by
  simp [scBlock]

@[simp] theorem showSafety_anchor (s : State) : (showSafety s).anchor = s.anchor := by
  simp only [showSafety, anchor_upd]

@[simp] theorem safetyLevels_anchor (s : State) : (safetyLevels s).anchor = s.anchor := by
  simp only [safetyLevels, anchor_upd]

@[simp] theorem safetyPhase_anchor (endAt : Nat) (late : Option Nat) (s0 : State) : (safetyPhase endAt late s0).anchor = s0.anchor := by
  unfold safetyPhase
  (repeat' split) <;> simp [anchor_foldl]

@[simp] theorem endResetWait_anchor (s : State) : (endResetWait s).anchor = s.anchor := by
  simp only [endResetWait, anchor_upd]

@[simp] theorem clearLatches_anchor (s : State) : (clearLatches s).anchor = s.anchor := by
  simp only [clearLatches, anchor_upd]

@[simp] theorem safetyReset_anchor (s : State) (m : Mode) : (safetyReset s m).anchor = s.anchor := by
  unfold safetyReset
  (repeat' split) <;> simp

@[simp] theorem loadSafety_anchor (l : List Rec) (agreed : Bool) (s : State) : (loadSafety l agreed s).anchor = s.anchor := by
  simp only [loadSafety, anchor_upd]

@[simp] theorem startSafety_anchor (s : State) : (startSafety s).anchor = s.anchor := by
  simp only [startSafety, anchor_upd]

@[simp] theorem sfWrite_anchor (s : State) (off : Nat) (v : Word) : (sfWrite s off v).anchor = s.anchor := by
  simp [sfWrite]

end Sys2Proof.Machine
end

