-- ==== Sys2Proof/Laws/Health.lean ====
section
/-! SUPPORT. What the operations of Machine/Health.lean leave of the anchor of a state. -/

namespace Sys2Proof.Machine

open Sys2Proof

@[simp] theorem updTest_anchor (s : State) (t : Nat) (f : TestSt → TestSt) : (updTest s t f).anchor = s.anchor := by
  simp only [updTest, anchor_upd]

@[simp] theorem hlEvent_anchor (s : State) (i : Nat) : (hlEvent s i).anchor = s.anchor := by
  simp only [hlEvent, anchor_upd]

@[simp] theorem startPass_anchor (s : State) (t : Nat) : (startPass s t).anchor = s.anchor := by
  simp [startPass]

@[simp] theorem endPass_anchor (s : State) (t : Nat) : (endPass s t).anchor = s.anchor := by
  simp [endPass]

@[simp] theorem verdict_anchor (s : State) (t : Nat) (item : Nat) (ok : Bool) : (verdict s t item ok).anchor = s.anchor := by
  simp [verdict]

@[simp] theorem runUnit_anchor (s0 : State) (t : Nat) (ok : Bool) : (runUnit s0 t ok).anchor = s0.anchor := by
  simp only [runUnit]
  (repeat' first | split | refine (anchor_foldl _ (fun _ _ => ?_) _ _).trans ?_) <;> simp

@[simp] theorem doDrydownUnit_anchor (s : State) (t : Nat) (ok : Bool) : (doDrydownUnit s t ok).anchor = s.anchor := by
  simp [doDrydownUnit]

@[simp] theorem doScMarch_anchor (s : State) (ok : Bool) : (doScMarch s ok).anchor = s.anchor := by
  simp [doScMarch]

@[simp] theorem doScrub_anchor (s : State) : (doScrub s).anchor = s.anchor := by
  simp [doScrub]

@[simp] theorem skipItems_anchor (s : State) (t : Nat) (l : List Nat) : (skipItems s t l).anchor = s.anchor := by
  simp [skipItems]

@[simp] theorem doFieldStart_anchor (s0 : State) (t : Nat) (item : Nat) (peer : Bool) : (doFieldStart s0 t item peer).anchor = s0.anchor := by
  simp [doFieldStart]

@[simp] theorem finishTest_anchor (s : State) (t : Nat) (item : Nat) (ok : Bool) : (finishTest s t item ok).anchor = s.anchor := by
  simp [finishTest]

@[simp] theorem doDarkEnd_anchor (s : State) (c : Nat) (low : Bool) : (doDarkEnd s c low).anchor = s.anchor := by
  simp [doDarkEnd]

@[simp] theorem nextSide_anchor (s : State) (t : Nat) (k : Nat) : (nextSide s t k).anchor = s.anchor := by
  simp only [nextSide, anchor_upd]

@[simp] theorem doSwitchStep_anchor (s : State) (k : Nat) (ok : Bool) : (doSwitchStep s k ok).anchor = s.anchor := by
  unfold doSwitchStep
  (repeat' split) <;> simp

@[simp] theorem doCrossEnd_anchor (s : State) (c : Nat) (mA : F64) : (doCrossEnd s c mA).anchor = s.anchor := by
  simp [doCrossEnd]

@[simp] theorem doShadowEnd_anchor (s : State) (so : Bool) (item : Nat) (ok : Bool) : (doShadowEnd s so item ok).anchor = s.anchor := by
  simp [doShadowEnd]

@[simp] theorem loopTest_anchor (s0 : State) (t : Nat) (item : Nat) (ok : Bool) : (loopTest s0 t item ok).anchor = s0.anchor := by
  simp [loopTest]

@[simp] theorem doLoopback_anchor (s : State) (line : Nat) (ok : Bool) : (doLoopback s line ok).anchor = s.anchor := by
  simp [doLoopback]

@[simp] theorem doErrWindow_anchor (s : State) (port : Nat) (discarded : Nat) : (doErrWindow s port discarded).anchor = s.anchor := by
  simp [doErrWindow]

@[simp] theorem abandonTests_anchor (all : Bool) (s : State) : (abandonTests all s).anchor = s.anchor := by
  simp [abandonTests]

@[simp] theorem sweepTest_anchor (s0 : State) (t : Nat) : (sweepTest s0 t).anchor = s0.anchor := by
  simp [sweepTest]

@[simp] theorem collectTest_anchor (s0 : State) (t : Nat) : (collectTest s0 t).anchor = s0.anchor := by
  simp [collectTest]

@[simp] theorem tickScore_anchor (s : State) : (tickScore s).anchor = s.anchor := by
  simp [tickScore]

@[simp] theorem tickCycle_anchor (s : State) : (tickCycle s).anchor = s.anchor := by
  simp [tickCycle]

@[simp] theorem showHealth_anchor (s : State) : (showHealth s).anchor = s.anchor := by
  simp only [showHealth, anchor_upd]

@[simp] theorem tickHealth_anchor (s : State) : (tickHealth s).anchor = s.anchor := by
  simp [tickHealth]

@[simp] theorem doEccCorr_anchor (s : State) (dram : Bool) (_addr : Nat) : (doEccCorr s dram _addr).anchor = s.anchor := by
  simp [doEccCorr]

@[simp] theorem doEccUnc_anchor (s : State) (_dram : Bool) (addr : Nat) : (doEccUnc s _dram addr).anchor = s.anchor := by
  simp [doEccUnc]

@[simp] theorem doLogWrite_anchor (s : State) : (doLogWrite s).anchor = s.anchor := by
  unfold doLogWrite
  (repeat' split) <;> simp

@[simp] theorem hlWrite_anchor (s : State) (off : Nat) (v : Word) : (hlWrite s off v).anchor = s.anchor := by
  simp [hlWrite]

end Sys2Proof.Machine
end

