-- ==== Sys2Proof/Laws/Group.lean ====
section
/-! SUPPORT. What the operations of Machine/Group.lean leave of the anchor of a state. -/

namespace Sys2Proof.Machine

open Sys2Proof

@[simp] theorem grEvent_anchor (s : State) (i : Nat) : (grEvent s i).anchor = s.anchor := by
  simp only [grEvent, anchor_upd]

@[simp] theorem updPeer_anchor (s : State) (u : Nat) (f : Peer → Peer) : (updPeer s u f).anchor = s.anchor := by
  simp only [updPeer, anchor_upd]

@[simp] theorem setStatus_anchor (s : State) (i : Nat) (v : Bool) : (setStatus s i v).anchor = s.anchor := by
  simp [setStatus]

@[simp] theorem ownTime_anchor (s : State) : (ownTime s).anchor = s.anchor := by
  simp [ownTime]

@[simp] theorem unlock_anchor (s : State) : (unlock s).anchor = s.anchor := by
  simp [unlock]

@[simp] theorem dropTarget_anchor (s : State) : (dropTarget s).anchor = s.anchor := by
  simp only [dropTarget, anchor_upd]

@[simp] theorem endRequest_anchor (s : State) (a : Answer) : (endRequest s a).anchor = s.anchor := by
  unfold endRequest
  (repeat' split) <;> simp

@[simp] theorem openGate_anchor (s : State) (k : Nat) : (openGate s k).anchor = s.anchor := by
  simp [openGate]

@[simp] theorem syncDiscard_anchor (s : State) : (syncDiscard s).anchor = s.anchor := by
  simp [syncDiscard]

@[simp] theorem compareMaster_anchor (s : State) (x : Section) : (compareMaster s x).anchor = s.anchor := by
  simp [compareMaster]

@[simp] theorem notePeer_anchor (s : State) (u : Nat) (x : Section) : (notePeer s u x).anchor = s.anchor := by
  simp [notePeer]

@[simp] theorem doSection_anchor (s : State) (u : Nat) (port : Nat) (crcOk : Bool) (x : Section) : (doSection s u port crcOk x).anchor = s.anchor := by
  unfold doSection
  split
  · rfl
  split
  · simp
  · extract_lets s1 s2 g2 s3 s4 isHolder mm rr s5 gg s6 s7
    have h1 : s1.anchor = s.anchor := by
      unfold s1
      simp
    have h2 : s2.anchor = s.anchor := (notePeer_anchor ..).trans h1
    have h3 : s3.anchor = s.anchor := by
      unfold s3
      split <;> exact (anchor_upd ..).trans h2
    have h4 : s4.anchor = s.anchor := by
      unfold s4
      (repeat' split) <;> simp [h3]
    have h5 : s5.anchor = s.anchor := by
      unfold s5
      split
      · exact (anchor_upd_md_mram ..).trans h4
      · exact h4
    have h6 : s6.anchor = s.anchor := by
      unfold s6
      (repeat' split) <;> simp [h5]
    have h7 : s7.anchor = s.anchor := by
      unfold s7
      (repeat' split) <;> simp [h6]
    split
    · exact (anchor_upd ..).trans h7
    · exact h7

/-- What a frame of the holder does keeps the anchor: T10 is this unit's own again when it is stored (17 R503). -/
@[simp] theorem doSyncEvent_anchor (s : State) (ev : SyncEvent) : (doSyncEvent s ev).anchor = s.anchor := by
  unfold doSyncEvent
  split
  · rfl
  split
  · rename_i p t10 ide id fdf data
    have h := lookupFrame_anchor { s with fr := { s.fr with t10 := t10 } } p.val ide id fdf data
    generalize lookupFrame { s with fr := { s.fr with t10 := t10 } } p.val ide id fdf data = r at h ⊢
    simp only [State.anchor, Anchor.mk.injEq] at h ⊢
    simp only [h, and_self]
  · simp

@[simp] theorem doPortDown_anchor (s : State) (port : Nat) : (doPortDown s port).anchor = s.anchor := by
  simp [doPortDown]

@[simp] theorem doPortUp_anchor (s : State) (port : Nat) : (doPortUp s port).anchor = s.anchor := by
  simp only [doPortUp, anchor_upd]

@[simp] theorem doPeerLost_anchor (s : State) (u : Nat) : (doPeerLost s u).anchor = s.anchor := by
  simp [doPeerLost]

@[simp] theorem doFallback_anchor (s : State) : (doFallback s).anchor = s.anchor := by
  simp [doFallback]

@[simp] theorem stopTracking_anchor (s : State) : (stopTracking s).anchor = s.anchor := by
  simp only [stopTracking, anchor_upd]

@[simp] theorem loadTracked_anchor (s : State) (c : Tracked) : (loadTracked s c).anchor = s.anchor := by
  simp only [loadTracked, anchor_upd]

@[simp] theorem doJoinCopy_anchor (s : State) (ok : Bool) (mib : Nat) (all : Nat) (c : Tracked) : (doJoinCopy s ok mib all c).anchor = s.anchor := by
  simp [doJoinCopy]

@[simp] theorem doBackground_anchor (s : State) (mib : Nat) (c : TrackedBg) : (doBackground s mib c).anchor = s.anchor := by
  simp [doBackground]

@[simp] theorem becomeSynced_anchor (s : State) : (becomeSynced s).anchor = s.anchor := by
  simp [becomeSynced]

@[simp] theorem notePfOffsets_anchor (s : State) (img : Image) : (notePfOffsets s img).anchor = s.anchor := by
  simp only [notePfOffsets, anchor_upd]

@[simp] theorem applyPfOffsets_anchor (s : State) : (applyPfOffsets s).anchor = s.anchor := by
  unfold applyPfOffsets
  (repeat' split) <;> simp [anchor_foldl]

@[simp] theorem takeoverCheck_anchor (s : State) : (takeoverCheck s).anchor = s.anchor := by
  simp only [takeoverCheck]
  (repeat' first | split | refine (anchor_foldl _ (fun _ _ => ?_) _ _).trans ?_) <;> simp

@[simp] theorem doCapClr_anchor (s : State) (v : Word) : (doCapClr s v).anchor = s.anchor := by
  simp [doCapClr]

@[simp] theorem doAbandon_anchor (s : State) : (doAbandon s).anchor = s.anchor := by
  simp [doAbandon]

@[simp] theorem requestWon_anchor (s : State) : (requestWon s).anchor = s.anchor := by
  unfold requestWon
  (repeat' split) <;> simp

@[simp] theorem markGroup_anchor (s : State) : (markGroup s).anchor = s.anchor := by
  simp [markGroup]

@[simp] theorem tickPeers_anchor (s : State) : (tickPeers s).anchor = s.anchor := by
  simp [tickPeers, anchor_foldl]

@[simp] theorem tickMaster_anchor (s : State) : (tickMaster s).anchor = s.anchor := by
  simp [tickMaster]

@[simp] theorem tickGroup_anchor (s : State) : (tickGroup s).anchor = s.anchor := by
  simp only [tickGroup]
  (repeat' first | split | refine (anchor_foldl _ (fun _ _ => ?_) _ _).trans ?_) <;> simp

@[simp] theorem tickTracking_anchor (s : State) : (tickTracking s).anchor = s.anchor := by
  simp [tickTracking]

@[simp] theorem keepTracking_anchor (s : State) : (keepTracking s).anchor = s.anchor := by
  simp [keepTracking]

@[simp] theorem startGroup_anchor (was : Bool) (s : State) : (startGroup was s).anchor = s.anchor := by
  simp [startGroup, anchor_foldl]

@[simp] theorem grWrite_anchor (s : State) (off : Nat) (v : Word) : (grWrite s off v).anchor = s.anchor := by
  simp [grWrite]

end Sys2Proof.Machine
end

