-- ==== Sys2Proof/Laws/Regs.lean ====
section
/-! SUPPORT. What the operations of Machine/Regs.lean leave of the anchor of a state. -/

namespace Sys2Proof.Machine

open Sys2Proof

@[simp] theorem timeSnap_anchor (s : State) (v : Word) : (timeSnap s v).anchor = s.anchor := by
  simp [timeSnap]

@[simp] theorem frWrite_anchor (s : State) (off : Nat) (v : Word) : (frWrite s off v).anchor = s.anchor := by
  simp [frWrite]

@[simp] theorem mdWrite_anchor (s : State) (off : Nat) (v : Word) : (mdWrite s off v).anchor = s.anchor := by
  simp [mdWrite]

@[simp] theorem hifWrite_anchor (s : State) (off : Nat) (v : Word) : (hifWrite s off v).anchor = s.anchor := by
  simp [hifWrite]

@[simp] theorem barWrite_anchor (s : State) (off : Nat) (v : Word) : (barWrite s off v).anchor = s.anchor := by
  simp [barWrite]

@[simp] theorem accessErr_anchor (s : State) : (accessErr s).anchor = s.anchor := by
  simp only [accessErr, anchor_upd]

@[simp] theorem barWrites_anchor (s : State) (off : Nat) (ws : List Word) : (barWrites s off ws).anchor = s.anchor := by
  simp [barWrites, anchor_foldl]

@[simp] theorem doRegisterWrite_anchor (s : State) (off : Nat) (data : List (Option Byte)) : (doRegisterWrite s off data).anchor = s.anchor := by
  unfold doRegisterWrite
  (repeat' split) <;> simp

@[simp] theorem cutWord_anchor (s : State) (cut : Bool) : (cutWord s cut).anchor = s.anchor := by
  simp [cutWord]

@[simp] theorem doQspiRead_anchor (s : State) (a : Nat) (n : Nat) (cut : Bool) : (doQspiRead s a n cut).anchor = s.anchor := by
  simp [doQspiRead]

@[simp] theorem qspiPut_anchor (s : State) (a : Nat) (v : Word) : (qspiPut s a v).anchor = s.anchor := by
  simp [qspiPut]

@[simp] theorem doQspiWrite_anchor (s : State) (a : Nat) (data : List Word) (cut : Bool) : (doQspiWrite s a data cut).anchor = s.anchor := by
  simp [doQspiWrite, anchor_foldl]

@[simp] theorem doQspiReadId_anchor (s : State) : (doQspiReadId s).anchor = s.anchor := by
  simp [doQspiReadId]

@[simp] theorem doQspiBad_anchor (s : State) : (doQspiBad s).anchor = s.anchor := by
  simp [doQspiBad]

@[simp] theorem linkDown_anchor (s : State) : (linkDown s).anchor = s.anchor := by
  simp [linkDown]

@[simp] theorem pciReset_anchor (s : State) : (pciReset s).anchor = s.anchor := by
  simp [pciReset]

@[simp] theorem doLinkUp_anchor (s : State) (gen2 : Bool) : (doLinkUp s gen2).anchor = s.anchor := by
  simp [doLinkUp]

@[simp] theorem doPowerState_anchor (s : State) (d3 : Bool) : (doPowerState s d3).anchor = s.anchor := by
  simp [doPowerState]

end Sys2Proof.Machine
end

