-- ==== Sys2Proof/Laws/Accept.lean ====
section
/-! SUPPORT. What the operations of Machine/Accept.lean leave of the anchor of a state. -/

namespace Sys2Proof.Machine

open Sys2Proof

@[simp] theorem takeSlot_anchor (s : State) (tag : Nat) (status : Nat) : (takeSlot s tag status).anchor = s.anchor := by
  simp [takeSlot]

@[simp] theorem addCmd_anchor (s : State) (c : Cmd) : (addCmd s c).anchor = s.anchor := by
  simp only [addCmd, anchor_upd]

end Sys2Proof.Machine
end

