-- ==== Sys2Proof/Laws/Bits.lean ====
section
/-! SUPPORT. The bits of the words that Machine/Bytes.lean builds. -/

namespace Sys2Proof.Machine

open Sys2Proof

@[simp] theorem getLsbD_bset {n : Nat} (w : BitVec n) (i k : Nat) : (bset w i).getLsbD k = (w.getLsbD k || (decide (i = k) && decide (k < n))) := by
  simp only [bset, BitVec.getLsbD_or, BitVec.getLsbD_twoPow]
  by_cases h : i = k <;> simp [h]

@[simp] theorem getLsbD_bclr {n : Nat} (w : BitVec n) (i k : Nat) : (bclr w i).getLsbD k = (w.getLsbD k && !decide (i = k)) := by
  simp only [bclr, BitVec.getLsbD_and, BitVec.getLsbD_not, BitVec.getLsbD_twoPow]
  by_cases h : i = k <;> by_cases g : k < n <;> simp [h, g]
  · exact BitVec.getLsbD_of_ge w k (by omega)

theorem getLsbD_fold {n : Nat} (f : Nat → Bool) (m : Nat) (hm : m ≤ n) (k : Nat) :
    ((List.range m).foldl (fun (w : BitVec n) i => if f i then bset w i else w) 0#n).getLsbD k = (decide (k < m) && f k) := by
  induction m with
  | zero => simp
  | succ m ih =>
    rw [List.range_succ, List.foldl_append]
    simp only [List.foldl_cons, List.foldl_nil]
    have h := ih (by omega)
    generalize List.foldl (fun (w : BitVec n) i => if f i then bset w i else w) 0#n (List.range m) = x at h ⊢
    rcases Nat.lt_trichotomy k m with g | g | g
    · have g1 : ¬ m = k := by omega
      have g2 : k < m + 1 := by omega
      by_cases hf : f m = true <;> simp [hf, h, g, g1, g2]
    · subst g
      have g2 : k < n := by omega
      have h0 : x.getLsbD k = false := by rw [h]; simp
      by_cases hf : f k = true
      · rw [if_pos hf, getLsbD_bset, h0]; simp [hf, g2]
      · rw [if_neg hf, h0]; simp [hf]
    · have g1 : ¬ m = k := by omega
      have g2 : ¬ k < m + 1 := by omega
      have g3 : ¬ k < m := by omega
      by_cases hf : f m = true <;> simp [hf, h, g1, g2, g3]

/-- Bit k of the word that the bits `f` make. -/
@[simp] theorem getLsbD_ofBits (n : Nat) (f : Nat → Bool) (k : Nat) : (ofBits n f).getLsbD k = (decide (k < n) && f k) :=
  getLsbD_fold f n (Nat.le_refl n) k

/-- Two words with the same bits are one. -/
theorem ofBits_eq {n : Nat} (w : BitVec n) (f : Nat → Bool) (h : ∀ i < n, w.getLsbD i = f i) : w = ofBits n f := by
  apply BitVec.eq_of_getLsbD_eq
  intro i hi
  rw [h i hi, getLsbD_ofBits, decide_eq_true hi, Bool.true_and]

@[simp] theorem testBit_getLsbD {n : Nat} (w : BitVec n) (i : Nat) : w.toNat.testBit i = w.getLsbD i := rfl

/-- Bit k of a 32-bit word laid out as word w of a longer register. -/
theorem getLsbD_spread (n w : Nat) (v : Word) (k : Nat) :
    (spread n w v).getLsbD k = (decide (k < n) && decide (k / 32 = w) && v.getLsbD (k % 32)) := by
  unfold spread
  rw [BitVec.getLsbD_ofNat, Nat.testBit_mul_two_pow]
  by_cases h : 32 * w ≤ k
  · by_cases g : k < 32 * w + 32
    · have h1 : k / 32 = w := by omega
      have h2 : k - 32 * w = k % 32 := by omega
      simp [h, h1, h2]
    · have h1 : ¬ k / 32 = w := by omega
      have : v.toNat.testBit (k - 32 * w) = false := by
        rw [testBit_getLsbD]; exact BitVec.getLsbD_of_ge v _ (by omega)
      simp [h1, this]
  · have h1 : ¬ k / 32 = w := by omega
    have h2 : ¬ k ≥ 32 * w := h
    simp [h1, h2]

end Sys2Proof.Machine
end

