-- ==== Sys2Proof/Laws/Copy.lean ====
section
/-! SUPPORT. What the operations of Machine/Copy.lean leave of the anchor of a state. -/

namespace Sys2Proof.Machine

open Sys2Proof

@[simp] theorem setBankSet_anchor (s : State) (b : Bool) (ok : Bool) (crc : Nat) : (setBankSet s b ok crc).anchor = s.anchor := by
  unfold setBankSet
  (repeat' split) <;> simp

@[simp] theorem fwErase_anchor (s : State) (c : Cmd) : (fwErase s c).anchor = s.anchor := by
  simp [fwErase]

@[simp] theorem doCopyStart_anchor (s : State) : (doCopyStart s).anchor = s.anchor := by
  unfold doCopyStart
  (repeat' split) <;> simp

@[simp] theorem segPut_anchor (s : State) (p : List Byte) (b : Nat) (x : List Byte) : (segPut s p b x).anchor = s.anchor := by
  simp [segPut]

@[simp] theorem copyLoad_anchor (s : State) (p : List Byte) : (copyLoad s p).1.anchor = s.anchor := by
  unfold copyLoad
  (repeat' split) <;> simp

@[simp] theorem copyReadback_anchor (s : State) (p : List Byte) : (copyReadback s p).1.anchor = s.anchor := by
  simp [copyReadback]

@[simp] theorem copyPoints_anchor (s : State) (p : List Byte) : (copyPoints s p).1.anchor = s.anchor := by
  simp [copyPoints]

@[simp] theorem copyTrend_anchor (s : State) (p : List Byte) : (copyTrend s p).1.anchor = s.anchor := by
  simp [copyTrend]

@[simp] theorem copyForces_anchor (s : State) (p : List Byte) : (copyForces s p).1.anchor = s.anchor := by
  simp [copyForces]

@[simp] theorem copyCapture_anchor (s : State) (p : List Byte) : (copyCapture s p).1.anchor = s.anchor := by
  simp [copyCapture]

@[simp] theorem copyTests_anchor (s : State) (p : List Byte) : (copyTests s p).1.anchor = s.anchor := by
  simp [copyTests]

@[simp] theorem copyLog_anchor (s : State) (p : List Byte) : (copyLog s p).1.anchor = s.anchor := by
  simp [copyLog]

@[simp] theorem copyCal_anchor (s : State) (p : List Byte) : (copyCal s p).1.anchor = s.anchor := by
  simp [copyCal]

@[simp] theorem copyNodes_anchor (s : State) (p : List Byte) : (copyNodes s p).1.anchor = s.anchor := by
  simp [copyNodes]

@[simp] theorem copyEffect_anchor (s : State) (c : Cmd) : (copyEffect s c).1.anchor = s.anchor := by
  unfold copyEffect
  (repeat' split) <;> simp

@[simp] theorem doCopyComplete_anchor (s0 : State) (share : Nat) (tail : Nat) : (doCopyComplete s0 share tail).anchor = s0.anchor := by
  unfold doCopyComplete
  (repeat' split) <;> simp

@[simp] theorem doFwProgrammed_anchor (s : State) (ok : Bool) : (doFwProgrammed s ok).anchor = s.anchor := by
  unfold doFwProgrammed
  (repeat' split) <;> simp

end Sys2Proof.Machine
end

