-- ==== Sys2Proof/Laws/Commands.lean ====
section
/-! SUPPORT. What the operations of Machine/Commands.lean leave of the anchor of a state. -/

namespace Sys2Proof.Machine

open Sys2Proof

@[simp] theorem fwActivate_anchor (s : State) (p : List Byte) : (fwActivate s p).1.anchor = s.anchor := by
  simp only [fwActivate]
  exact anchor_upd_md_mram ..

@[simp] theorem instantEffect_anchor (s : State) (op : Op) (p : List Byte) : (instantEffect s op p).1.anchor = s.anchor := by
  unfold instantEffect
  (repeat' split) <;> simp

@[simp] theorem setStaging_anchor (s : State) (st : Nat) (b : List Byte) : (setStaging s st b).anchor = s.anchor := by
  simp only [setStaging, anchor_upd]

@[simp] theorem progStart_anchor (s : State) : (progStart s).anchor = s.anchor := by
  simp only [progStart, anchor_upd]

@[simp] theorem startCmd_anchor (s : State) (op : Op) (e : Entry) : (startCmd s op e).anchor = s.anchor := by
  simp only [startCmd]
  (repeat' first | split | refine (anchor_foldl _ (fun _ _ => ?_) _ _).trans ?_) <;> simp

@[simp] theorem runEntry_anchor (s : State) (opc : Nat) (e0 : Entry) : (runEntry s opc e0).anchor = s.anchor := by
  simp only [runEntry]
  (repeat' first | split | refine (anchor_foldl _ (fun _ _ => ?_) _ _).trans ?_) <;> simp

@[simp] theorem runOp_anchor (s : State) (op : Op) (e : Entry) : (runOp s op e).anchor = s.anchor := by
  simp [runOp]

@[simp] theorem doRingRead_anchor (s : State) : (doRingRead s).anchor = s.anchor := by
  simp [doRingRead]

@[simp] theorem setForce_anchor (s : State) (kind : Nat) (item : Nat) (v : F64) : (setForce s kind item v).anchor = s.anchor := by
  simp only [setForce, anchor_upd]

@[simp] theorem keepForces_anchor (s : State) (f : Force → Bool) : (keepForces s f).anchor = s.anchor := by
  simp only [keepForces, anchor_upd]

@[simp] theorem clearOutForces_anchor (s : State) : (clearOutForces s).anchor = s.anchor := by
  simp [clearOutForces]

@[simp] theorem refuseDue_anchor (s : State) : (refuseDue s).anchor = s.anchor := by
  simp [refuseDue, anchor_foldl]

/-- The effect of a due command, whatever it is. -/
@[simp] theorem dueEffect_anchor (s : State) (w : List (Nat × F64)) (tag : Option Nat) (target : Nat) (op : Op) (p : List Byte) (inSeg : Bool) :
    (dueEffect s w tag target op p inSeg).st.anchor = s.anchor := by
  unfold dueEffect
  split <;> (repeat' split) <;> simp [Due.of]
  refine anchor_foldl _ (fun s x => ?_) _ _
  split <;> simp

@[simp] theorem takeDue_anchor (x : State × List (Nat × F64)) (c : Cmd) : (takeDue x c).1.anchor = x.1.anchor := by
  unfold takeDue
  dsimp only
  (repeat' split) <;> simp

@[simp] theorem runDue_anchor (early : Bool) (s : State) : (runDue early s).1.anchor = s.anchor := by
  unfold runDue
  exact anchor_foldl_fst _ (fun p c => takeDue_anchor p c) _ _

@[simp] theorem finishAcks_anchor (all : Bool) (s : State) : (finishAcks all s).anchor = s.anchor := by
  unfold finishAcks
  (repeat' first | split | refine (anchor_foldl _ (fun _ _ => ?_) _ _).trans ?_) <;> simp

end Sys2Proof.Machine
end

