-- ==== Sys2Proof/Laws/Modes.lean ====
section
/-! SUPPORT. What the operations of Machine/Modes.lean leave of the anchor of a state. -/

namespace Sys2Proof.Machine

open Sys2Proof

@[simp] theorem confirmTrial_anchor (s : State) : (confirmTrial s).anchor = s.anchor := by
  unfold confirmTrial
  (repeat' split) <;> simp

@[simp] theorem abortCmds_anchor (keep : Option Op) (s : State) : (abortCmds keep s).anchor = s.anchor := by
  simp [abortCmds, anchor_foldl]

@[simp] theorem dropProgCheck_anchor (s : State) : (dropProgCheck s).anchor = s.anchor := by
  simp [dropProgCheck]

@[simp] theorem stageNine_anchor (s : State) (c : CheckIn) (r : CheckRes) : (stageNine s c r).anchor = s.anchor := by
  simp [stageNine]

@[simp] theorem noteCheck_anchor (s : State) (r : CheckRes) : (noteCheck s r).anchor = s.anchor := by
  simp [noteCheck]

@[simp] theorem dropJournals_anchor (s : State) : (dropJournals s).anchor = s.anchor := by
  simp [dropJournals]

@[simp] theorem endCmd_anchor (s : State) (op : Op) (a : Answer) : (endCmd s op a).anchor = s.anchor := by
  unfold endCmd
  (repeat' split) <;> simp

@[simp] theorem takeEnabled_anchor (s : State) : (takeEnabled s).anchor = s.anchor := by
  simp only [takeEnabled, anchor_upd]

@[simp] theorem tickProgCheck_anchor (s : State) : (tickProgCheck s).anchor = s.anchor := by
  unfold tickProgCheck
  (repeat' split) <;> simp

@[simp] theorem dropConfig.dropSafety_anchor (s : State) : (dropConfig.dropSafety s).anchor = s.anchor := by
  simp only [dropConfig.dropSafety, anchor_upd]

@[simp] theorem handoverStart_anchor (s : State) (c : Cmd) : (handoverStart s c).anchor = s.anchor := by
  simp [handoverStart]

@[simp] theorem clearPend_anchor (s : State) : (clearPend s).anchor = s.anchor := by
  simp [clearPend]

@[simp] theorem readBoot_anchor (s : State) : (readBoot s).anchor = s.anchor := by
  simp [readBoot]

@[simp] theorem bootTick_anchor (s : State) : (bootTick s).anchor = s.anchor := by
  simp [bootTick]

end Sys2Proof.Machine
end

