-- ==== Sys2Proof/Laws/Boot.lean ====
section
/-! SUPPORT. What the operations of Machine/Boot.lean leave of the anchor of a state. -/

namespace Sys2Proof.Machine

open Sys2Proof

@[simp] theorem strapField_anchor (s : State) : (strapField s).anchor = s.anchor := by
  simp [strapField]

@[simp] theorem doLinkReset_anchor (s : State) : (doLinkReset s).anchor = s.anchor := by
  simp [doLinkReset]

@[simp] theorem doAlmsel_anchor (s : State) (v : Bool) : (doAlmsel s v).anchor = s.anchor := by
  simp [doAlmsel]

@[simp] theorem doBootFail_anchor (s : State) : (doBootFail s).anchor = s.anchor := by
  simp [doBootFail]

end Sys2Proof.Machine
end

