-- ==== Sys2Proof/Laws/Links.lean ====
section
/-! SUPPORT. What the operations of Machine/Links.lean leave of the anchor of a state. -/

namespace Sys2Proof.Machine

open Sys2Proof

@[simp] theorem linkDiscard_anchor (s : State) (l : Link) : (linkDiscard s l).anchor = s.anchor := by
  unfold linkDiscard
  (repeat' split) <;> simp

@[simp] theorem linkOut_anchor (s : State) (l : Link) : (linkOut s l).anchor = s.anchor := by
  unfold linkOut
  (repeat' split) <;> simp

@[simp] theorem linkIn_anchor (s0 : State) (l : Link) (p : Payload) : (linkIn s0 l p).anchor = s0.anchor := by
  unfold linkIn
  (repeat' split) <;> simp

@[simp] theorem linkStale_anchor (s : State) (l : Link) : (linkStale s l).anchor = s.anchor := by
  unfold linkStale
  (repeat' split) <;> simp

@[simp] theorem doLink_anchor (s : State) (l : Link) (out : Bool) (crcOk : Bool) (repeatOk : Bool) (p : Payload) : (doLink s l out crcOk repeatOk p).anchor = s.anchor := by
  simp [doLink]

@[simp] theorem doLockLost_anchor (s : State) (err : Int) : (doLockLost s err).anchor = s.anchor := by
  simp [doLockLost]

@[simp] theorem doLockRegained_anchor (s : State) (err : Int) : (doLockRegained s err).anchor = s.anchor := by
  simp [doLockRegained]

@[simp] theorem doSyncLost_anchor (s : State) : (doSyncLost s).anchor = s.anchor := by
  simp [doSyncLost]

@[simp] theorem countMissing_anchor (s : State) : (countMissing s).anchor = s.anchor := by
  simp [countMissing]

end Sys2Proof.Machine
end

