-- ==== Sys2Proof/Laws/Outputs.lean ====
section
/-! SUPPORT. What the operations of Machine/Outputs.lean leave of the anchor of a state. -/

namespace Sys2Proof.Machine

open Sys2Proof

@[simp] theorem applyDo_anchor (t : Nat) (s : State) : (applyDo t s).anchor = s.anchor := by
  unfold applyDo
  (repeat' split) <;> simp

@[simp] theorem applyAo_anchor (t : Nat) (s : State) (g : Nat) : (applyAo t s g).anchor = s.anchor := by
  unfold applyAo
  (repeat' split) <;> simp

@[simp] theorem applyRelease_anchor (t : Nat) (s : State) : (applyRelease t s).anchor = s.anchor := by
  simp only [applyRelease, anchor_upd]

/-- The mode of the page's frame stands only while it is sent (15 R428). -/
@[simp] theorem applySend_anchor (f : Frozen) (s : State) : (applySend f s).anchor = s.anchor := by
  unfold applySend
  extract_lets m g s1 s2
  have h : s2.anchor = s1.anchor := by
    unfold s2
    simp
  clear_value s2
  simp only [State.anchor, Anchor.mk.injEq, s1] at h ⊢
  exact ⟨h.1, rfl, h.2.2⟩

/-- An apply that falls on the tick takes no time (02 R37). -/
@[simp] theorem tickApply_anchor (s : State) : (tickApply s).anchor = s.anchor := by
  unfold tickApply
  split
  · rfl
  · rename_i f hf
    unfold applyFrame
    extract_lets f1 s0 t s1 f2 s2
    have h0 : s0.anchor = s.anchor := by
      unfold s0 f1 advanceTo
      rw [advance_anchor]
      simp only [State.anchor, Anchor.mk.injEq, true_and, and_true]
      omega
    have h1 : s1.anchor = s0.anchor := (anchor_foldl _ (fun s g => applyAo_anchor t s g) _ _).trans (applyDo_anchor t s0)
    have h2 : s2.anchor = s1.anchor := (applyRelease_anchor _ _).trans (anchor_upd_fr ..)
    exact (abandonTests_anchor ..).trans ((applySend_anchor ..).trans (h2.trans (h1.trans h0)))

@[simp] theorem overrun_anchor (s : State) : (overrun s).anchor = s.anchor := by
  simp [overrun]

@[simp] theorem freeze_anchor (s : State) : (freeze s).anchor = s.anchor := by
  simp [freeze]

end Sys2Proof.Machine
end

