-- ==== Sys2Proof/Laws/Frame.lean ====
section
/-! SUPPORT. What the operations of Machine/Frame.lean leave of the anchor of a state. -/

namespace Sys2Proof.Machine

open Sys2Proof

@[simp] theorem computePhases_anchor (i : TickIn) (s : State) : (computePhases i s).anchor = s.anchor := by
  simp [computePhases]

@[simp] theorem runPhases_anchor (i : TickIn) (w : List (Nat × F64)) (s : State) : (runPhases i w s).anchor = s.anchor := by
  simp [runPhases]

@[simp] theorem trackFifo_anchor (s : State) (img : Image) : (trackFifo s img).1.anchor = s.anchor := by
  simp only [trackFifo, anchor_upd]

@[simp] theorem trackCmd_anchor (x : State × List (Nat × F64)) (c : Nat × List Byte) : (trackCmd x c).1.anchor = x.1.anchor := by
  unfold trackCmd
  (repeat' split) <;> simp

@[simp] theorem runTracked_anchor (p : TickPart) (i : TickIn) (s : State) : (runTracked p i s).anchor = s.anchor := by
  unfold runTracked
  extract_lets im x y yf yb ys yp s1 r s2
  have hx : x.1.anchor = s.anchor := trackFifo_anchor ..
  have h1 : s1.anchor = s.anchor := (anchor_upd_fr ..).trans hx
  have hr : r.1.anchor = s1.anchor := anchor_foldl_fst _ (fun p c => trackCmd_anchor p c) _ _
  have h2 : s2.anchor = r.1.anchor := by
    unfold s2
    simp
  rw [runPhases_anchor, tickForces_anchor, h2, hr, h1]

@[simp] theorem runUntracked_anchor (bit : Nat) (i : TickIn) (s : State) : (runUntracked bit i s).anchor = s.anchor := by
  simp [runUntracked]

@[simp] theorem doOverrunLimit_anchor (s : State) : (doOverrunLimit s).anchor = s.anchor := by
  simp [doOverrunLimit]

@[simp] theorem moveImg_anchor (s : State) (k : Nat) : (moveImg s k).anchor = s.anchor := by
  unfold moveImg
  (repeat' split) <;> simp

@[simp] theorem tickAnalog_anchor (s0 : State) : (tickAnalog s0).anchor = s0.anchor := by
  simp [tickAnalog, anchor_foldl]

@[simp] theorem latchFrame_anchor (forces : List Force) (s : State) : (latchFrame forces s).anchor = s.anchor := by
  simp [latchFrame]

@[simp] theorem clearTransfers_anchor (s : State) : (clearTransfers s).anchor = s.anchor := by
  simp only [clearTransfers, anchor_upd]

@[simp] theorem endOverruns_anchor (s : State) : (endOverruns s).anchor = s.anchor := by
  simp [endOverruns]

@[simp] theorem frameMarks_anchor (s : State) : (frameMarks s).anchor = s.anchor := by
  simp [frameMarks]

@[simp] theorem deferPhases_anchor (i : TickIn) (s : State) : (deferPhases i s).anchor = s.anchor := by
  simp only [deferPhases, anchor_upd]

@[simp] theorem earlyDue_anchor (s : State) : (earlyDue s).anchor = s.anchor := by
  simp [earlyDue]

@[simp] theorem tickWork_anchor (i : TickIn) (forces : List Force) (s0 : State) : (tickWork i forces s0).anchor = s0.anchor := by
  simp only [tickWork, tickHealth_anchor, clearTransfers_anchor]
  generalize hr : runDue false _ = r
  have h : r.1.anchor = s0.anchor := by
    rw [← hr, runDue_anchor, anchor_foldl _ (fun s k => by simp), injTick_anchor, anchor_ite, takeoverCheck_anchor, ite_self]
    simp
  clear hr
  split <;> simp [h]

end Sys2Proof.Machine
end

