-- ==== Sys2Proof/Laws/Timed.lean ====
section
/-! SUPPORT. The commands that carry an instant move device time on and leave the rest of the anchor. -/

namespace Sys2Proof.Machine

open Sys2Proof

/-- `b` is `a` with device time moved on, never past the next tick where `a` kept that; the rest of the anchor stands. -/
def Onward (a b : State) : Prop := b.anchor = { a.anchor with t10 := b.fr.t10 } ∧ (a.TimeOk → a.fr.t10 ≤ b.fr.t10 ∧ b.fr.t10 ≤ a.fr.next)

theorem anchor_t10 {a b : State} (h : b.anchor = a.anchor) : b.fr.t10 = a.fr.t10 := congrArg Anchor.t10 h

theorem anchor_next {a b : State} (h : b.anchor = a.anchor) : b.fr.next = a.fr.next := congrArg Anchor.next h

theorem anchor_pending {a b : State} (h : b.anchor = a.anchor) : b.pending = a.pending := congrArg Anchor.pending h

theorem anchor_straps {a b : State} (h : b.anchor = a.anchor) : b.md.straps = a.md.straps := congrArg Anchor.straps h

theorem anchor_mode {a b : State} (h : b.anchor = a.anchor) : b.md.mode = a.md.mode := congrArg Anchor.mode h

theorem anchor_frame {a b : State} (h : b.anchor = a.anchor) : b.fr.frame = a.fr.frame := congrArg Anchor.frame h

theorem Onward.of_anchor {a b : State} (h : b.anchor = a.anchor) : Onward a b := by
  refine ⟨?_, fun hk => ?_⟩
  · rw [anchor_t10 h, h]
    rfl
  · rw [anchor_t10 h]
    exact ⟨Nat.le_refl _, hk⟩

theorem Onward.advance (a : State) (dt : Nat) : Onward a (advance a dt) := by
  refine ⟨rfl, fun hk => ?_⟩
  have hk' : a.fr.t10 ≤ a.fr.next := hk
  show a.fr.t10 ≤ min (a.fr.t10 + dt) (max a.fr.t10 (a.fr.next - 1)) ∧ min (a.fr.t10 + dt) (max a.fr.t10 (a.fr.next - 1)) ≤ a.fr.next
  omega

theorem Onward.advanceTo (a : State) (t : Nat) : Onward a (advanceTo a t) := Onward.advance a _

theorem Onward.next {a b : State} (h : Onward a b) : b.fr.next = a.fr.next := congrArg Anchor.next h.1

theorem Onward.pending {a b : State} (h : Onward a b) : b.pending = a.pending := congrArg Anchor.pending h.1

theorem Onward.straps {a b : State} (h : Onward a b) : b.md.straps = a.md.straps := congrArg Anchor.straps h.1

theorem Onward.mode {a b : State} (h : Onward a b) : b.md.mode = a.md.mode := congrArg Anchor.mode h.1

theorem Onward.frame {a b : State} (h : Onward a b) : b.fr.frame = a.fr.frame := congrArg Anchor.frame h.1

theorem Onward.timeOk {a b : State} (h : Onward a b) (ha : a.TimeOk) : b.TimeOk := by
  have h1 := h.2 ha
  have h2 := h.next
  unfold State.TimeOk
  omega

theorem Onward.trans {a b c : State} (h : Onward a b) (g : Onward b c) : Onward a c := by
  refine ⟨?_, fun hk => ?_⟩
  · rw [g.1, h.1]
  · have h1 := h.2 hk
    have h2 := g.2 (h.timeOk hk)
    have h3 := h.next
    omega

theorem Onward.keep {a b c : State} (h : Onward a b) (g : c.anchor = b.anchor) : Onward a c := h.trans (Onward.of_anchor g)

/-- A command that is refuted where it stands, and acts at its own instant elsewhere. -/
theorem Onward.foldl {α : Type} (g : State → α → State) (h : ∀ s x, Onward s (g s x)) (l : List α) (s : State) : Onward s (l.foldl g s) := by
  induction l generalizing s with
  | nil => exact Onward.of_anchor rfl
  | cons x r ih => exact (h s x).trans (ih _)

theorem doArbitration_onward (s : State) : Onward s (doArbitration s) := by
  unfold doArbitration
  extract_lets c s1 h
  split
  · exact Onward.of_anchor rfl
  · exact (Onward.advanceTo s c).keep ((anchor_foldl _ (fun s t => arbitrate_anchor s t) _ _).trans (anchor_upd ..))

theorem doWindowEnd_onward (s : State) (t : Nat) : Onward s (doWindowEnd s t) := by
  unfold doWindowEnd
  split
  · exact Onward.of_anchor rfl
  · split
    · exact Onward.of_anchor rfl
    · exact (Onward.advanceTo _ _).keep (updTgt_anchor ..)

theorem doSample_onward (s : State) (di : BitVec 96) (si : BitVec 32) : Onward s (doSample s di si) := by
  have ho : Onward s (advanceTo s (nextSample s)) := Onward.advanceTo _ _
  simp only [doSample]
  (repeat' split) <;> first
    | exact Onward.of_anchor rfl
    | (refine ho.keep ?_; simp; done)
    | (refine ho.keep ?_; simp [anchor_foldl]; done)
    | (refine Onward.of_anchor ?_; simp; done)

theorem doPulseStart_onward (s0 : State) (k : Nat) (dt : Nat) : Onward s0 (doPulseStart s0 k dt) := by
  have ho : Onward s0 (advance s0 dt) := Onward.advance _ _
  simp only [doPulseStart]
  (repeat' split) <;> first
    | exact Onward.of_anchor rfl
    | (refine ho.keep ?_; simp; done)
    | (refine ho.keep ?_; simp [anchor_foldl]; done)
    | (refine Onward.of_anchor ?_; simp; done)

theorem doPulseEnd_onward (s0 : State) (k : Nat) : Onward s0 (doPulseEnd s0 k) := by
  have ho : Onward s0 (advanceTo s0 ((tpGen s0 k).prev.getD 0 + tpWidth s0 k)) := Onward.advanceTo _ _
  simp only [doPulseEnd]
  (repeat' split) <;> first
    | exact Onward.of_anchor rfl
    | (refine ho.keep ?_; simp; done)
    | (refine ho.keep ?_; simp [anchor_foldl]; done)
    | (refine Onward.of_anchor ?_; simp; done)

theorem doOverloadAt_onward (s0 : State) (c : Nat) (dt : Nat) : Onward s0 (doOverloadAt s0 c dt) := by
  have ho : Onward s0 (advance s0 dt) := Onward.advance _ _
  simp only [doOverloadAt]
  (repeat' split) <;> first
    | exact Onward.of_anchor rfl
    | (refine ho.keep ?_; simp; done)
    | (refine ho.keep ?_; simp [anchor_foldl]; done)
    | (refine Onward.of_anchor ?_; simp; done)

theorem doRetryAt_onward (s0 : State) (c : Nat) (dt : Nat) : Onward s0 (doRetryAt s0 c dt) := by
  have ho : Onward s0 (advance s0 dt) := Onward.advance _ _
  simp only [doRetryAt]
  (repeat' split) <;> first
    | exact Onward.of_anchor rfl
    | (refine ho.keep ?_; simp; done)
    | (refine ho.keep ?_; simp [anchor_foldl]; done)
    | (refine Onward.of_anchor ?_; simp; done)

theorem doRetryReset_onward (s0 : State) (c : Nat) : Onward s0 (doRetryReset s0 c) := by
  have ho : Onward s0 (advanceTo s0 ((doCh s0 c).since + 1000000000)) := Onward.advanceTo _ _
  simp only [doRetryReset]
  (repeat' split) <;> first
    | exact Onward.of_anchor rfl
    | (refine ho.keep ?_; simp; done)
    | (refine ho.keep ?_; simp [anchor_foldl]; done)
    | (refine Onward.of_anchor ?_; simp; done)

theorem doPwmStart_onward (s0 : State) (c : Nat) (dt : Nat) : Onward s0 (doPwmStart s0 c dt) := by
  have ho : Onward s0 (advance s0 dt) := Onward.advance _ _
  simp only [doPwmStart]
  (repeat' split) <;> first
    | exact Onward.of_anchor rfl
    | (refine ho.keep ?_; simp; done)
    | (refine ho.keep ?_; simp [anchor_foldl]; done)
    | (refine Onward.of_anchor ?_; simp; done)

theorem doExtFeed_onward (s0 : State) (c : Nat) (dt : Nat) : Onward s0 (doExtFeed s0 c dt) := by
  have ho : Onward s0 (advance s0 dt) := Onward.advance _ _
  simp only [doExtFeed]
  (repeat' split) <;> first
    | exact Onward.of_anchor rfl
    | (refine ho.keep ?_; simp; done)
    | (refine ho.keep ?_; simp [anchor_foldl]; done)
    | (refine Onward.of_anchor ?_; simp; done)

theorem doDarkStart_onward (s0 : State) (c : Nat) (peer : Bool) (dt : Nat) : Onward s0 (doDarkStart s0 c peer dt) := by
  have ho : Onward s0 (advance s0 dt) := Onward.advance _ _
  simp only [doDarkStart]
  (repeat' split) <;> first
    | exact Onward.of_anchor rfl
    | (refine ho.keep ?_; simp; done)
    | (refine ho.keep ?_; simp [anchor_foldl]; done)
    | (refine Onward.of_anchor ?_; simp; done)

theorem doGroupMissingEnd_onward (s0 : State) (g : Nat) (dt : Nat) : Onward s0 (doGroupMissingEnd s0 g dt) := by
  have ho : Onward s0 (advance s0 dt) := Onward.advance _ _
  simp only [doGroupMissingEnd]
  (repeat' split) <;> first
    | exact Onward.of_anchor rfl
    | (refine ho.keep ?_; simp; done)
    | (refine ho.keep ?_; simp [anchor_foldl]; done)
    | (refine Onward.of_anchor ?_; simp; done)

theorem doTrip_onward (s0 : State) (k : Nat) : Onward s0 (doTrip s0 k) := by
  have ho : Onward s0 (advanceTo s0 (Tab.get s0.dio.lastImg 0 k + fwdTimeout s0)) := Onward.advanceTo _ _
  simp only [doTrip]
  (repeat' split) <;> first
    | exact Onward.of_anchor rfl
    | (refine ho.keep ?_; simp; done)
    | (refine ho.keep ?_; simp [anchor_foldl]; done)
    | (refine Onward.of_anchor ?_; simp; done)

theorem doConversion_onward (s0 : State) (b : Nat) (c : Nat) (dt : Nat) (code : Int) : Onward s0 (doConversion s0 b c dt code) := by
  have ho : Onward s0 (advance s0 dt) := Onward.advance _ _
  simp only [doConversion]
  (repeat' split) <;> first
    | exact Onward.of_anchor rfl
    | (refine ho.keep ?_; simp; done)
    | (refine ho.keep ?_; simp [anchor_foldl]; done)
    | (refine Onward.of_anchor ?_; simp; done)

theorem doCmpEnd_onward (s : State) (c : Nat) : Onward s (doCmpEnd s c) := by
  have ho : Onward s (advanceTo s (pfCh s c).cmpEnd) := Onward.advanceTo _ _
  simp only [doCmpEnd]
  (repeat' split) <;> first
    | exact Onward.of_anchor rfl
    | (refine ho.keep ?_; simp; done)
    | (refine ho.keep ?_; simp [anchor_foldl]; done)
    | (refine Onward.of_anchor ?_; simp; done)

/-- A decoder sample, or one that waits for the tick. -/
theorem pfSample_onward (s0 : State) (c dt : Nat) (h : PfHap) : Onward s0 (pfSample s0 c dt h) := by
  unfold pfSample
  extract_lets s p
  (repeat' split) <;> first
    | exact Onward.of_anchor rfl
    | exact (Onward.advance s0 dt).keep (pfHap_anchor ..)
    | exact (Onward.advance s0 dt).keep (anchor_upd ..)

theorem doSerStart_onward (s0 : State) (c : Nat) (dt : Nat) : Onward s0 (doSerStart s0 c dt) := by
  have ho : Onward s0 (advance s0 dt) := Onward.advance _ _
  simp only [doSerStart]
  (repeat' split) <;> first
    | exact Onward.of_anchor rfl
    | (refine ho.keep ?_; simp; done)
    | (refine ho.keep ?_; simp [anchor_foldl]; done)
    | (refine Onward.of_anchor ?_; simp; done)

theorem doSerWord_onward (s0 : State) (c : Nat) (dt : Nat) (data : Nat) (crc : Nat) : Onward s0 (doSerWord s0 c dt data crc) := by
  have ho : Onward s0 (advance s0 dt) := Onward.advance _ _
  simp only [doSerWord]
  (repeat' split) <;> first
    | exact Onward.of_anchor rfl
    | (refine ho.keep ?_; simp; done)
    | (refine ho.keep ?_; simp [anchor_foldl]; done)
    | (refine Onward.of_anchor ?_; simp; done)

theorem doSerTimeout_onward (s0 : State) (c : Nat) (dt : Nat) : Onward s0 (doSerTimeout s0 c dt) := by
  have ho : Onward s0 (advance s0 dt) := Onward.advance _ _
  simp only [doSerTimeout]
  (repeat' split) <;> first
    | exact Onward.of_anchor rfl
    | (refine ho.keep ?_; simp; done)
    | (refine ho.keep ?_; simp [anchor_foldl]; done)
    | (refine Onward.of_anchor ?_; simp; done)

theorem doJoinEnd_onward (s0 : State) (p : Nat) (dt : Nat) : Onward s0 (doJoinEnd s0 p dt) := by
  have ho : Onward s0 (advance s0 dt) := Onward.advance _ _
  simp only [doJoinEnd]
  (repeat' split) <;> first
    | exact Onward.of_anchor rfl
    | (refine ho.keep ?_; simp; done)
    | (refine ho.keep ?_; simp [anchor_foldl]; done)
    | (refine Onward.of_anchor ?_; simp; done)

theorem doTxComplete_onward (s0 : State) (p : Nat) (dt : Nat) : Onward s0 (doTxComplete s0 p dt) := by
  have ho : Onward s0 (advance s0 dt) := Onward.advance _ _
  simp only [doTxComplete]
  (repeat' split) <;> first
    | exact Onward.of_anchor rfl
    | (refine ho.keep ?_; simp; done)
    | (refine ho.keep ?_; simp [anchor_foldl]; done)
    | (refine Onward.of_anchor ?_; simp; done)

theorem doTxError_onward (s0 : State) (p : Nat) (dt : Nat) (ackErr : Bool) (dominant : Bool) : Onward s0 (doTxError s0 p dt ackErr dominant) := by
  have ho : Onward s0 (advance s0 dt) := Onward.advance _ _
  simp only [doTxError]
  (repeat' split) <;> first
    | exact Onward.of_anchor rfl
    | (refine ho.keep ?_; simp; done)
    | (refine ho.keep ?_; simp [anchor_foldl]; done)
    | (refine Onward.of_anchor ?_; simp; done)

theorem doRxError_onward (s0 : State) (p : Nat) (dt : Nat) (n : Nat) : Onward s0 (doRxError s0 p dt n) := by
  have ho : Onward s0 (advance s0 dt) := Onward.advance _ _
  simp only [doRxError]
  (repeat' split) <;> first
    | exact Onward.of_anchor rfl
    | (refine ho.keep ?_; simp; done)
    | (refine ho.keep ?_; simp [anchor_foldl]; done)
    | (refine Onward.of_anchor ?_; simp; done)

theorem doRecStart_onward (s0 : State) (p : Nat) (dt : Nat) : Onward s0 (doRecStart s0 p dt) := by
  have ho : Onward s0 (advance s0 dt) := Onward.advance _ _
  simp only [doRecStart]
  (repeat' split) <;> first
    | exact Onward.of_anchor rfl
    | (refine ho.keep ?_; simp; done)
    | (refine ho.keep ?_; simp [anchor_foldl]; done)
    | (refine Onward.of_anchor ?_; simp; done)

theorem doRecDone_onward (s0 : State) (p : Nat) (dt : Nat) : Onward s0 (doRecDone s0 p dt) := by
  have ho : Onward s0 (advance s0 dt) := Onward.advance _ _
  simp only [doRecDone]
  (repeat' split) <;> first
    | exact Onward.of_anchor rfl
    | (refine ho.keep ?_; simp; done)
    | (refine ho.keep ?_; simp [anchor_foldl]; done)
    | (refine Onward.of_anchor ?_; simp; done)

theorem doPortAlone_onward (s0 : State) (p : Nat) (dt : Nat) : Onward s0 (doPortAlone s0 p dt) := by
  have ho : Onward s0 (advance s0 dt) := Onward.advance _ _
  simp only [doPortAlone]
  (repeat' split) <;> first
    | exact Onward.of_anchor rfl
    | (refine ho.keep ?_; simp; done)
    | (refine ho.keep ?_; simp [anchor_foldl]; done)
    | (refine Onward.of_anchor ?_; simp; done)

theorem doMaxAge_onward (s0 : State) (m : Nat) (attar : Bool) (dt : Nat) : Onward s0 (doMaxAge s0 m attar dt) := by
  have ho : Onward s0 (advance s0 dt) := Onward.advance _ _
  simp only [doMaxAge]
  (repeat' split) <;> first
    | exact Onward.of_anchor rfl
    | (refine ho.keep ?_; simp; done)
    | (refine ho.keep ?_; simp [anchor_foldl]; done)
    | (refine Onward.of_anchor ?_; simp; done)

theorem doWindow_onward (s0 : State) (m : Nat) (attar : Bool) (dt : Nat) : Onward s0 (doWindow s0 m attar dt) := by
  have ho : Onward s0 (advance s0 dt) := Onward.advance _ _
  simp only [doWindow]
  (repeat' split) <;> first
    | exact Onward.of_anchor rfl
    | (refine ho.keep ?_; simp; done)
    | (refine ho.keep ?_; simp [anchor_foldl]; done)
    | (refine Onward.of_anchor ?_; simp; done)

theorem doNetTimeout_onward (s0 : State) (p : Nat) (dt : Nat) : Onward s0 (doNetTimeout s0 p dt) := by
  have ho : Onward s0 (advance s0 dt) := Onward.advance _ _
  simp only [doNetTimeout]
  (repeat' split) <;> first
    | exact Onward.of_anchor rfl
    | (refine ho.keep ?_; simp; done)
    | (refine ho.keep ?_; simp [anchor_foldl]; done)
    | (refine Onward.of_anchor ?_; simp; done)

theorem doDegExpiry_onward (s0 : State) (dt : Nat) : Onward s0 (doDegExpiry s0 dt) := by
  have ho : Onward s0 (advance s0 dt) := Onward.advance _ _
  simp only [doDegExpiry]
  (repeat' split) <;> first
    | exact Onward.of_anchor rfl
    | (refine ho.keep ?_; simp; done)
    | (refine ho.keep ?_; simp [anchor_foldl]; done)
    | (refine Onward.of_anchor ?_; simp; done)

theorem doCanFrame_onward (s0 : State) (p : Nat) (dt : Nat) (ide : Bool) (id : Nat) (fdf : Bool) (rtr : Bool) (data : List Byte) : Onward s0 (doCanFrame s0 p dt ide id fdf rtr data) := by
  have ho : Onward s0 (advance s0 dt) := Onward.advance _ _
  simp only [doCanFrame]
  (repeat' split) <;> first
    | exact Onward.of_anchor rfl
    | (refine ho.keep ?_; simp; done)
    | (refine ho.keep ?_; simp [anchor_foldl]; done)
    | (refine Onward.of_anchor ?_; simp; done)

theorem doEdmFault_onward (s0 : State) (k : Nat) (dt : Nat) : Onward s0 (doEdmFault s0 k dt) := by
  have ho : Onward s0 (advance s0 dt) := Onward.advance _ _
  simp only [doEdmFault]
  (repeat' split) <;> first
    | exact Onward.of_anchor rfl
    | (refine ho.keep ?_; simp; done)
    | (refine ho.keep ?_; simp [anchor_foldl]; done)
    | (refine Onward.of_anchor ?_; simp; done)

theorem doCycle_onward (s0 : State) (dt : Nat) : Onward s0 (doCycle s0 dt) := by
  refine (Onward.advance s0 dt).keep ?_
  unfold doCycle
  extract_lets s s1 w flags y s2 z s3
  split
  · rfl
  · have h1 : s1.anchor = s.anchor := (attarMsgs_anchor _).trans (cycleSnapshot_anchor _)
    have h2 : s2.anchor = s1.anchor := anchor_upd ..
    have h3 : s3.anchor = s2.anchor := anchor_upd ..
    refine (anchor_foldl _ (fun s k => ?_) _ _).trans (h3.trans (h2.trans h1))
    split <;> simp

theorem doTimerExpiry_onward (s0 : State) (k : Nat) (dt : Nat) : Onward s0 (doTimerExpiry s0 k dt) := by
  have ho : Onward s0 (advance s0 dt) := Onward.advance _ _
  simp only [doTimerExpiry]
  (repeat' split) <;> first
    | exact Onward.of_anchor rfl
    | (refine ho.keep ?_; simp; done)
    | (refine ho.keep ?_; simp [anchor_foldl]; done)
    | (refine Onward.of_anchor ?_; simp; done)

theorem doDiscFault_onward (s0 : State) (k : Nat) (dt : Nat) : Onward s0 (doDiscFault s0 k dt) := by
  have ho : Onward s0 (advance s0 dt) := Onward.advance _ _
  simp only [doDiscFault]
  (repeat' split) <;> first
    | exact Onward.of_anchor rfl
    | (refine ho.keep ?_; simp; done)
    | (refine ho.keep ?_; simp [anchor_foldl]; done)
    | (refine Onward.of_anchor ?_; simp; done)

theorem doSwitchFault_onward (s0 : State) (k : Nat) (high : Bool) (dt : Nat) : Onward s0 (doSwitchFault s0 k high dt) := by
  have ho : Onward s0 (advance s0 dt) := Onward.advance _ _
  simp only [doSwitchFault]
  (repeat' split) <;> first
    | exact Onward.of_anchor rfl
    | (refine ho.keep ?_; simp; done)
    | (refine ho.keep ?_; simp [anchor_foldl]; done)
    | (refine Onward.of_anchor ?_; simp; done)

theorem doGateClose_onward (s0 : State) (rx : Option (Fin 8)) (arrived : Bool) : Onward s0 (doGateClose s0 rx arrived) := by
  have ho : Onward s0 (advanceTo s0 (s0.fr.tick + 300)) := Onward.advanceTo _ _
  simp only [doGateClose]
  (repeat' split) <;> first
    | exact Onward.of_anchor rfl
    | (refine ho.keep ?_; simp; done)
    | (refine ho.keep ?_; simp [anchor_foldl]; done)
    | (refine Onward.of_anchor ?_; simp; done)

theorem doGateOpen_onward (s0 : State) (rx : Option (Fin 8)) (arrived : Bool) : Onward s0 (doGateOpen s0 rx arrived) := by
  have ho : Onward s0 (advanceTo s0 (s0.fr.tick + 350)) := Onward.advanceTo _ _
  simp only [doGateOpen]
  (repeat' split) <;> first
    | exact Onward.of_anchor rfl
    | (refine ho.keep ?_; simp; done)
    | (refine ho.keep ?_; simp [anchor_foldl]; done)
    | (refine Onward.of_anchor ?_; simp; done)

theorem doDwellEnd_onward (s0 : State) (dt : Nat) : Onward s0 (doDwellEnd s0 dt) := by
  have ho : Onward s0 (advance s0 dt) := Onward.advance _ _
  simp only [doDwellEnd]
  (repeat' split) <;> first
    | exact Onward.of_anchor rfl
    | (refine ho.keep ?_; simp; done)
    | (refine ho.keep ?_; simp [anchor_foldl]; done)
    | (refine Onward.of_anchor ?_; simp; done)

theorem doClaimLatch_onward (s0 : State) (l0 l1 : LineObs) : Onward s0 (doClaimLatch s0 l0 l1) := by
  unfold doClaimLatch
  split
  · exact Onward.of_anchor rfl
  refine (Onward.advanceTo s0 (s0.fr.tick + 200)).keep ?_
  extract_lets s g r0 r1 latch w0 w1 differ holder vacant loses gained s1 s2 s3 s4 s5 s6
  have h1 : s1.anchor = s.anchor := anchor_upd ..
  have h2 : s2.anchor = s1.anchor := by
    unfold s2
    rw [cmpDrop_anchor]
    split
    · exact (anchor_foldl _ (fun s p => openInFrame_anchor s p) _ _).trans (grEvent_anchor ..)
    · rfl
  have h3 : s3.anchor = s2.anchor := by
    unfold s3
    split <;> simp
  have h4 : s4.anchor = s3.anchor := by
    unfold s4
    split <;> simp
  have h5 : s5.anchor = s4.anchor := by
    unfold s5
    (repeat' split) <;> simp
  have h6 : s6.anchor = s5.anchor := by
    unfold s6
    split <;> simp
  exact (anchor_upd ..).trans (h6.trans (h5.trans (h4.trans (h3.trans (h2.trans h1)))))

theorem doClockFault_onward (s0 : State) (dt : Nat) : Onward s0 (doClockFault s0 dt) := by
  have ho : Onward s0 (advance s0 dt) := Onward.advance _ _
  simp only [doClockFault]
  (repeat' split) <;> first
    | exact Onward.of_anchor rfl
    | (refine ho.keep ?_; simp; done)
    | (refine ho.keep ?_; simp [anchor_foldl]; done)
    | (refine Onward.of_anchor ?_; simp; done)

/-- The windows of the eight targets. -/
theorem endWindows_onward (s : State) : Onward s (endWindows s) := Onward.foldl _ doWindowEnd_onward _ _

end Sys2Proof.Machine
end

