-- ==== Sys2Proof/Laws/Tick.lean ====
section
/-! SUPPORT. The slot, the commit, the apply and the deadline move device time on; a tick ends the frame. -/

namespace Sys2Proof.Machine

open Sys2Proof

theorem applyFrame_onward (f : Frozen) (s0 : State) : Onward s0 (applyFrame f s0) := by
  unfold applyFrame
  extract_lets f1 s t s1 f2 s2
  have h0 : Onward s0 s := Onward.trans (b := { s0 with fr := { s0.fr with toApply := none } }) (Onward.of_anchor rfl) (Onward.advanceTo _ _)
  have h1 : s1.anchor = s.anchor := (anchor_foldl _ (fun s g => applyAo_anchor t s g) _ _).trans (applyDo_anchor t s)
  have h2 : s2.anchor = s1.anchor := (applyRelease_anchor _ _).trans (anchor_upd_fr ..)
  exact h0.keep ((abandonTests_anchor ..).trans ((applySend_anchor ..).trans (h2.trans h1)))

theorem doApply_onward (s : State) : Onward s (doApply s) := by
  unfold doApply
  split
  · exact Onward.of_anchor rfl
  · split
    · exact Onward.of_anchor rfl
    · exact applyFrame_onward _ s

theorem slotBody_onward (s0 : State) : Onward s0 (slotBody s0) := by
  unfold slotBody
  extract_lets s f s1
  have h1 : s1.anchor = s.anchor := anchor_upd_fr ..
  have hs : s.anchor = (advanceTo s0 (commitT s0 - 400)).anchor := capSampleAll_anchor _
  refine (Onward.advanceTo s0 (commitT s0 - 400)).keep ?_
  split
  · exact (freeze_anchor _).trans (h1.trans hs)
  · exact (overrun_anchor _).trans (h1.trans hs)

theorem doDeadline_onward (s0 : State) (digest : Option Nat) : Onward s0 (doDeadline s0 digest) := by
  unfold doDeadline
  split
  · exact Onward.of_anchor rfl
  refine (Onward.advanceTo s0 (s0.fr.tick + 380)).keep ?_
  extract_lets s1 g s i
  have h : s.anchor = (advanceTo s0 (s0.fr.tick + 380)).anchor := anchor_upd ..
  (repeat' split) <;> simp [h]

theorem doSlot_onward (s : State) : Onward s (doSlot s) := by
  unfold doSlot
  split
  · exact Onward.of_anchor rfl
  · exact (doDeadline_onward s none).trans (slotBody_onward _)

theorem doCommit_onward (s0 : State) (ok : Bool) : Onward s0 (doCommit s0 ok) := by
  unfold doCommit
  split
  · exact Onward.of_anchor rfl
  extract_lets sa sb s s1 f2 s2
  have ha : Onward s0 sa := doSlot_onward s0
  have hb : Onward sa sb := by
    unfold sb
    split
    · split
      · exact doApply_onward sa
      · exact Onward.of_anchor rfl
    · exact Onward.of_anchor rfl
  have h1 : s1.anchor = s.anchor := anchor_foldl _ (fun s k => moveImg_anchor s k) _ _
  have h2 : s2.anchor = s1.anchor := anchor_upd_fr ..
  refine ((ha.trans hb).trans (Onward.advanceTo sb (commitT sb))).keep ?_
  split
  · exact h2.trans h1
  · split
    · simp [h2, h1, s]
    · exact h2.trans h1

theorem catchUp_onward (s : State) : Onward s (catchUp s) := by
  unfold catchUp
  extract_lets s1 s2
  have h1 : Onward s s1 := doCommit_onward s true
  have h2 : Onward s1 s2 := by
    unfold s2
    split
    · split
      · exact doApply_onward s1
      · exact Onward.of_anchor rfl
    · exact Onward.of_anchor rfl
  exact ((h1.trans h2).trans (Onward.foldl _ (fun s k => doTrip_onward s k) _ _)).trans (endWindows_onward _)

end Sys2Proof.Machine
end

