-- ==== Sys2Proof/Laws/Mode.lean ====
section
/-! SUPPORT. What a change of mode leaves: the queue, the straps, device time, the tick and the frame. -/

namespace Sys2Proof.Machine

open Sys2Proof

/-- `b` may stand in another mode than `a`, in the same frame at the same instant; its next tick is the one of `a` or falls at or
after the tick (02 R48, 03 R61). -/
structure SameFrame (a b : State) : Prop where
  pending : b.pending = a.pending
  straps : b.md.straps = a.md.straps
  t10 : b.fr.t10 = a.fr.t10
  tick : b.fr.tick = a.fr.tick
  frame : b.fr.frame = a.fr.frame
  next : b.fr.next = a.fr.next ∨ a.fr.tick ≤ b.fr.next

theorem SameFrame.of_anchor {a b : State} (h : b.anchor = a.anchor) : SameFrame a b :=
  { pending := congrArg Anchor.pending h, straps := congrArg Anchor.straps h, t10 := congrArg Anchor.t10 h, tick := congrArg Anchor.tick h
    frame := congrArg Anchor.frame h, next := Or.inl (congrArg Anchor.next h) }

theorem SameFrame.trans {a b c : State} (h : SameFrame a b) (g : SameFrame b c) : SameFrame a c := by
  refine ⟨g.pending.trans h.pending, g.straps.trans h.straps, g.t10.trans h.t10, g.tick.trans h.tick, g.frame.trans h.frame, ?_⟩
  have h1 := h.next
  have g1 := g.next
  have ht := h.tick
  omega

theorem SameFrame.keep {a b c : State} (h : SameFrame a b) (g : c.anchor = b.anchor) : SameFrame a c := h.trans (SameFrame.of_anchor g)

theorem recordMode_frame (s : State) (new : Mode) (cause : Nat) : SameFrame s (recordMode s new cause) := by
  unfold recordMode
  extract_lets st m f c s1
  have h : SameFrame s s1 := ⟨rfl, rfl, rfl, rfl, rfl, Or.inl rfl⟩
  split
  · exact h.keep (pushLog_anchor ..)
  · exact h

/-- The mode after a change, and its record (03 R61, R84). -/
theorem recordMode_mode (s : State) (new : Mode) (cause : Nat) : (recordMode s new cause).md.mode = new := by
  unfold recordMode
  dsimp only
  split <;> rfl

/-- What follows the record of a mode change keeps the anchor. -/
theorem setMode_anchor (s : State) (new : Mode) (cause : Nat) (keep : Option Op) :
    (setMode s new cause keep).anchor = (recordMode s new cause).anchor := by
  unfold setMode
  extract_lets old s1 s2 s3 s4 s5 s6 p s7 s8
  have h2 : s2.anchor = s1.anchor := by
    unfold s2
    split <;> simp
  have h3 : s3.anchor = s2.anchor := by
    unfold s3
    split <;> simp
  have h4 : s4.anchor = s3.anchor := abortCmds_anchor ..
  have h5 : s5.anchor = s4.anchor := by
    unfold s5
    split <;> simp
  have h6 : s6.anchor = s5.anchor := by
    unfold s6
    split <;> simp
  have h7 : s7.anchor = s6.anchor := by
    unfold s7
    split
    · exact anchor_upd ..
    · rfl
  have h8 : s8.anchor = s7.anchor := by
    unfold s8
    split <;> simp
  exact (abandonTests_anchor ..).trans ((injStopAll_anchor _).trans (h8.trans (h7.trans (h6.trans (h5.trans (h4.trans (h3.trans h2)))))))

theorem setMode_frame (s : State) (new : Mode) (cause : Nat) (keep : Option Op) : SameFrame s (setMode s new cause keep) :=
  (recordMode_frame s new cause).keep (setMode_anchor s new cause keep)

theorem setMode_mode (s : State) (new : Mode) (cause : Nat) (keep : Option Op) : (setMode s new cause keep).md.mode = new :=
  (congrArg Anchor.mode (setMode_anchor s new cause keep)).trans (recordMode_mode s new cause)

theorem startCheck_frame (s : State) (o : Origin) (img : List Byte) (cold hold : Bool) (keep : Option Op) :
    SameFrame s (startCheck s o img cold hold keep) :=
  (setMode_frame s .checking 0 keep).trans ⟨rfl, rfl, rfl, rfl, rfl, Or.inl rfl⟩

theorem frameSettings_frame (s : State) : SameFrame s (frameSettings s) :=
  ⟨rfl, rfl, rfl, rfl, rfl, Or.inr (Nat.le_add_right _ _)⟩

theorem frameDefaults_frame (s : State) : SameFrame s (frameDefaults s) :=
  ⟨rfl, rfl, rfl, rfl, rfl, Or.inr (Nat.le_add_right _ _)⟩

theorem startConfig_frame (s0 : State) : SameFrame s0 (startConfig s0) := by
  unfold startConfig
  extract_lets old was cold kind restore ff cf mf s s1 s2 s3 s4 s5 df s6
  have h0 : SameFrame s0 s := ⟨rfl, rfl, rfl, rfl, rfl, Or.inl rfl⟩
  have h1 : SameFrame s s1 := (frameSettings_frame s).keep (applyHecRecords_anchor _)
  have h2 : s2.anchor = s1.anchor := (storeModes_anchor _).trans (startDio_anchor ..)
  have h3 : s3.anchor = s2.anchor := anchor_foldl _ (fun s c => startPf_anchor _ _ s c) _ _
  have h4 : s4.anchor = s3.anchor := by
    refine (startProgram_anchor ..).trans ((startEngine_anchor ..).trans ?_)
    split <;> simp
  have h5 : s5.anchor = s4.anchor := (startSafety_anchor _).trans ((startBus_anchor _).trans (startPoints_anchor ..))
  have h6 : s6.anchor = s5.anchor := by
    unfold s6
    split
    · exact anchor_upd ..
    · rfl
  exact (h0.trans h1).keep ((startGroup_anchor ..).trans (h6.trans (h5.trans (h4.trans (h3.trans h2)))))

theorem checkPassed_frame (s : State) (r : CheckRes) : SameFrame s (checkPassed s r) := by
  unfold checkPassed
  extract_lets o img s1 s2 s3
  have h1 : SameFrame s s1 := (SameFrame.of_anchor (noteCheck_anchor s r)).trans (startConfig_frame _)
  have h2 : s2.anchor = s1.anchor := by
    unfold s2
    split <;> simp
  have h3 : SameFrame s2 s3 := setMode_frame ..
  refine ((h1.keep h2).trans h3).keep ?_
  (repeat' split) <;> simp

theorem checkRefused_frame (s : State) (r : CheckRes) : SameFrame s (checkRefused s r) := by
  unfold checkRefused
  extract_lets o img s1
  have h1 : SameFrame s s1 := SameFrame.of_anchor (noteCheck_anchor s r)
  clear_value o
  split
  · exact (h1.trans (setMode_frame ..)).keep (endCmd_anchor ..)
  · exact (h1.keep (setStaging_anchor ..)).trans ((setMode_frame ..).trans ⟨rfl, rfl, rfl, rfl, rfl, Or.inl rfl⟩)
  · exact (h1.trans (setMode_frame ..)).keep (endCmd_anchor ..)
  · exact h1.trans (setMode_frame ..)

theorem takeEnabled_frame (s : State) : SameFrame s (takeEnabled s) := ⟨rfl, rfl, rfl, rfl, rfl, Or.inl rfl⟩

theorem abandonCheck_frame (s : State) (new : Mode) (cause : Nat) : SameFrame s (abandonCheck s new cause) := by
  unfold abandonCheck
  split
  · extract_lets o cf s1 s2
    have h1 : SameFrame s s1 := by
      unfold s1
      split
      · exact ⟨rfl, rfl, rfl, rfl, rfl, Or.inl rfl⟩
      · rename_i r _
        have hn : SameFrame s (noteCheck s r) := SameFrame.of_anchor (noteCheck_anchor s r)
        split
        · exact hn.trans (takeEnabled_frame _)
        · exact hn
    clear_value s1
    have h2 : SameFrame s1 s2 := by
      unfold s2
      split
      · exact SameFrame.trans (SameFrame.of_anchor (setStaging_anchor s1 0 [])) (setMode_frame ..)
      · exact setMode_frame ..
    clear_value s2
    split
    · exact (h1.trans h2).keep (endCmd_anchor ..)
    · exact h1.trans h2
  · exact setMode_frame ..

theorem dropConfig_frame (s : State) : SameFrame s (dropConfig s) := by
  unfold dropConfig
  extract_lets s0 m c g s1
  have h0 : SameFrame s s0 := SameFrame.of_anchor (injStopAll_anchor s)
  have h1 : SameFrame s0 s1 := ⟨rfl, rfl, rfl, rfl, rfl, Or.inl rfl⟩
  have h2 : SameFrame s1 (dropConfig.dropSafety s1) := ⟨rfl, rfl, rfl, rfl, rfl, Or.inl rfl⟩
  exact (((h0.trans h1).trans h2).trans (frameDefaults_frame _)).keep ((ownTime_anchor _).trans (setStatus_anchor ..))

theorem modeCommand_frame (s : State) (c : Cmd) : SameFrame s (modeCommand s c) := by
  unfold modeCommand
  extract_lets m fin
  have hf : ∀ x, SameFrame s x → SameFrame s (fin x) := fun x h => h.keep (complete_anchor ..)
  have h0 : SameFrame s s := SameFrame.of_anchor rfl
  split
  · apply hf
    split
    · exact setMode_frame ..
    · exact h0
  · exact ((h0.keep (setStaging_anchor ..)).trans (setMode_frame ..)).keep (complete_anchor ..)
  · exact (startCheck_frame ..).keep (replaceCmd_anchor ..)
  · apply hf
    have h1 : SameFrame s (dropConfig s) := dropConfig_frame s
    split
    · exact h1.trans (setMode_frame ..)
    · exact h1
  · refine SameFrame.keep ?_ (replaceCmd_anchor ..)
    exact SameFrame.trans (b := { s with gr := { s.gr with capped := false } }) ⟨rfl, rfl, rfl, rfl, rfl, Or.inl rfl⟩ (startCheck_frame ..)
  · exact hf _ (setMode_frame ..)
  · apply hf
    split
    · exact startCheck_frame ..
    · exact setMode_frame ..
  · split
    · exact h0.keep (complete_anchor ..)
    · apply hf
      exact SameFrame.trans (b := { s with md := { s.md with alarmCh := decide (p8 c.par 8 = 1) } }) ⟨rfl, rfl, rfl, rfl, rfl, Or.inl rfl⟩
        (setMode_frame ..)
  · apply hf
    have h1 : SameFrame s (clearOutForces s) := h0.keep (clearOutForces_anchor s)
    split
    · exact h1.trans (setMode_frame ..)
    · exact h1.trans (setMode_frame ..)
  · split
    · apply hf
      have h1 : SameFrame s (safetyReset s m) := h0.keep (safetyReset_anchor ..)
      split
      · exact h1.trans (setMode_frame ..)
      · exact h1
    · exact h0.keep (complete_anchor ..)
  · exact h0.keep (handoverStart_anchor ..)
  · exact h0

theorem loseClaim_frame (s : State) : SameFrame s (loseClaim s) :=
  (setMode_frame s .standby 0 _).keep ((keepTracking_anchor _).trans (requestWon_anchor _))

theorem beginStore_frame (s : State) (img : List Byte) : SameFrame s (beginStore s img) := ⟨rfl, rfl, rfl, rfl, rfl, Or.inl rfl⟩

theorem finishStore_frame (s : State) : SameFrame s (finishStore s) := by
  unfold finishStore
  split <;> exact ⟨rfl, rfl, rfl, rfl, rfl, Or.inl rfl⟩

theorem enterHandover_frame (s : State) : SameFrame s (enterHandover s) := by
  unfold enterHandover
  extract_lets prog s1 g s2
  have h1 : SameFrame s s1 := (SameFrame.of_anchor (applyPfOffsets_anchor s)).trans (setMode_frame ..)
  have h2 : SameFrame s1 s2 := ⟨rfl, rfl, rfl, rfl, rfl, Or.inl rfl⟩
  refine (h1.trans h2).trans ?_
  clear_value s2
  split
  · exact SameFrame.of_anchor rfl
  · rename_i img h
    have h3 : SameFrame s2 (beginStore { s2 with cfg := { s2.cfg with run := imgRecs img, started := imgRecs img, ids := imgIds img } } img) :=
      ⟨rfl, rfl, rfl, rfl, rfl, Or.inl rfl⟩
    exact ((h3.keep (exchangeProgram_anchor ..)).keep (anchor_upd ..)).keep (setStatus_anchor ..)

theorem clearPend_frame (s : State) : SameFrame s (clearPend s) := ⟨rfl, rfl, rfl, rfl, rfl, Or.inl rfl⟩

theorem leaveBoot_frame (s : State) : SameFrame s (leaveBoot s) := by
  unfold leaveBoot
  extract_lets img m c a h s1
  have h1 : SameFrame s s1 := ⟨rfl, rfl, rfl, rfl, rfl, Or.inl rfl⟩
  clear_value s1
  split
  · exact h1.trans (setMode_frame ..)
  split
  · exact (h1.keep (setStaging_anchor ..)).trans (setMode_frame ..)
  · exact h1.trans (startCheck_frame ..)

theorem selectMode_frame (s : State) : SameFrame s (selectMode s) := by
  unfold selectMode
  extract_lets m mr s0
  have h0 : SameFrame s0 s0 := SameFrame.of_anchor rfl
  have h1 : SameFrame s s0 := clearPend_frame s
  clear_value s0
  split
  · exact SameFrame.of_anchor rfl
  split
  · split
    · exact leaveBoot_frame s
    · exact SameFrame.of_anchor rfl
  split
  · refine SameFrame.trans (b := { s with mram := { s.mram with lockout := true } }) ⟨rfl, rfl, rfl, rfl, rfl, Or.inl rfl⟩ ?_
    exact (abandonCheck_frame ..).trans (clearPend_frame _)
  split
  · exact (abandonCheck_frame ..).trans (clearPend_frame _)
  refine h1.trans ?_
  (repeat' split) <;> first
    | exact h0
    | exact modeCommand_frame ..
    | exact loseClaim_frame ..
    | exact setMode_frame ..
    | exact checkPassed_frame ..
    | exact checkRefused_frame ..
    | exact enterHandover_frame ..

theorem tickMode_frame (s : State) : SameFrame s (tickMode s) := by
  unfold tickMode
  extract_lets s1 s2
  have h1 : SameFrame s s1 := (finishStore_frame s).keep (tickGroup_anchor _)
  have h2 : s2.anchor = s1.anchor := by
    unfold s2
    split <;> simp
  exact ((h1.keep h2).trans (selectMode_frame s2)).keep ((finishAcks_anchor ..).trans ((tickReclaim_anchor _).trans ((refuseDue_anchor _).trans
    ((frameMarks_anchor _).trans (tickProgCheck_anchor _)))))

end Sys2Proof.Machine
end

