-- ==== Sys2Proof/Laws/Clock.lean ====
section
/-! SUPPORT. The frame a TICK begins (02 R32, R33, R48), and what the rows that set the clock leave of it. -/

namespace Sys2Proof.Machine

open Sys2Proof

/-- T10 and the number of the frame a tick begins: the step to the master's where one waits in a mode that may step (02 R49), else
one frame on (02 R32, R33). -/
def frameStart (s : State) : Nat × Nat :=
  match (match s.gr.stepTo with | some x => if mayStep s.md.mode then some x else none | none => none) with
  | some x => x
  | none => (s.fr.next, s.fr.frame + 1)

/-- What `startFrame` sets and what it leaves. -/
structure FrameBegun (s b : State) : Prop where
  pending : b.pending = s.pending
  straps : b.md.straps = s.md.straps
  mode : b.md.mode = s.md.mode
  t10 : b.fr.t10 = b.fr.tick
  next : b.fr.next = b.fr.tick + s.fr.fUs * 100
  tick : b.fr.tick = (frameStart s).1
  frame : b.fr.frame = (frameStart s).2

theorem FrameBegun.keep {s b c : State} (h : FrameBegun s b) (g : c.anchor = b.anchor) : FrameBegun s c := by
  have h1 := h.1; have h2 := h.2; have h3 := h.3; have h4 := h.4; have h5 := h.5; have h6 := h.6; have h7 := h.7
  simp only [State.anchor, Anchor.mk.injEq] at g
  constructor <;> simp only [*]

theorem countMissing_keeps (s : State) : (endOverruns (countMissing s)).gr = s.gr ∧ (endOverruns (countMissing s)).fr.fUs = s.fr.fUs := by
  have h : (countMissing s).gr = s.gr ∧ (countMissing s).fr.fUs = s.fr.fUs := by
    unfold countMissing
    dsimp only
    (repeat' split) <;> exact ⟨rfl, rfl⟩
  unfold endOverruns
  split <;> exact h

theorem startFrame_begins (s0 : State) : FrameBegun s0 (startFrame s0) := by
  unfold startFrame
  extract_lets s F step t n calm g1 g2 g3 s1 s2 h3
  have ha : s.anchor = s0.anchor := (endOverruns_anchor _).trans (countMissing_anchor s0)
  have hk := countMissing_keeps s0
  have hs : frameStart s = frameStart s0 := by
    have hg : s.gr = s0.gr := hk.1
    have hu : s.fr.fUs = s0.fr.fUs := hk.2
    simp only [State.anchor, Anchor.mk.injEq] at ha
    simp only [frameStart, hg, hu, ha]
  have h1 : FrameBegun s0 s1 := by
    simp only [State.anchor, Anchor.mk.injEq] at ha
    refine ⟨ha.1, ha.2.2.2.2.2.1, ha.2.1, rfl, ?_, ?_, ?_⟩
    · show t + F = t + s0.fr.fUs * 100
      have : s.fr.fUs = s0.fr.fUs := hk.2
      simp only [F, this]
    · rw [← hs]
      show (match step with | some x => x.1 | none => s.fr.next) = (match step with | some x => x | none => (s.fr.next, s.fr.frame + 1)).1
      generalize step = q
      cases q <;> rfl
    · rw [← hs]
      show (match step with | some x => x.2 | none => s.fr.frame + 1) = (match step with | some x => x | none => (s.fr.next, s.fr.frame + 1)).2
      generalize step = q
      cases q <;> rfl
  have h2 : s2.anchor = s1.anchor := by
    unfold s2
    (repeat' split) <;> simp
  exact h1.keep ((anchor_upd ..).trans h2)

/-- The frame that ends moves device time on, at most to its tick. -/
theorem endFrame_onward (i : TickIn) (s : State) : Onward s (endFrame i s) :=
  (catchUp_onward s).keep ((endDiscrepancy_anchor _).trans (anchor_upd ..))

/-- What a tick in a mode other than RESET begins; its queue and its straps stand, and the tick after it lies at or after it. -/
structure Ticked (i : TickIn) (s b : State) : Prop where
  pending : b.pending = s.pending
  straps : b.md.straps = s.md.straps
  t10 : b.fr.t10 = b.fr.tick
  next : b.fr.tick ≤ b.fr.next
  tick : b.fr.tick = (frameStart (endFrame i s)).1
  frame : b.fr.frame = (frameStart (endFrame i s)).2

theorem Ticked.then {i : TickIn} {s b c : State} (h0 : Ticked i s b) (hf : SameFrame b c) : Ticked i s c := by
  refine ⟨hf.pending.trans h0.pending, hf.straps.trans h0.straps, ?_, ?_, hf.tick.trans h0.tick, hf.frame.trans h0.frame⟩
  · rw [hf.t10, hf.tick]
    exact h0.t10
  · have hn := hf.next
    have ht := hf.tick
    have h1 := h0.next
    omega

theorem doTick_ticks (s : State) (i : TickIn) (hm : s.md.mode ≠ .reset) : Ticked i s (doTick s i) := by
  have hc := endFrame_onward i s
  have hb := startFrame_begins (endFrame i s)
  have h0 : Ticked i s (startFrame (endFrame i s)) :=
    ⟨hb.pending.trans hc.pending, hb.straps.trans hc.straps, hb.t10, by rw [hb.next]; exact Nat.le_add_right _ _, hb.tick, hb.frame⟩
  unfold doTick
  extract_lets s1
  change Ticked i s s1 at h0
  clear_value s1
  split
  · contradiction
  split
  · exact h0.then (SameFrame.of_anchor ((tickReclaim_anchor _).trans (bootTick_anchor s1)))
  · exact h0.then ((tickMode_frame s1).keep (tickWork_anchor i _ _))

/-- Without a step to the master's timebase a tick falls where the frame before said, one frame on (02 R32, R33). -/
theorem doTick_next (s : State) (i : TickIn) (hm : s.md.mode ≠ .reset) (hs : (endFrame i s).gr.stepTo = none) :
    (doTick s i).fr.tick = s.fr.next ∧ (doTick s i).fr.frame = s.fr.frame + 1 := by
  have ht := doTick_ticks s i hm
  have hc := endFrame_onward i s
  rw [ht.tick, ht.frame]
  simp only [frameStart, hs, hc.next, hc.frame, and_self]

theorem enterReset_timeOk (internal : Bool) (s : State) (h : s.TimeOk) : (enterReset internal s).TimeOk := by
  unfold enterReset
  split
  · exact h
  · exact Nat.zero_le _

theorem doLeaveReset_timeOk (s : State) (p : Straps) (h : s.TimeOk) : (doLeaveReset s p).TimeOk := by
  unfold doLeaveReset
  split
  · exact h
  · dsimp only
    (repeat' split) <;> exact Nat.zero_le _

theorem doBootComplete_frame (s : State) : SameFrame s (doBootComplete s) := by
  unfold doBootComplete
  split
  · exact SameFrame.of_anchor rfl
  · exact SameFrame.of_anchor ((readBoot_anchor _).trans (anchor_upd_md ..))

end Sys2Proof.Machine
end

