-- ==== Sys2Proof/Laws/Settle.lean ====
section
/-! SUPPORT. What every command settles once its effect is done (18 R535, 07 R161): all it can change, and what it leaves in order. -/

namespace Sys2Proof.Machine

open Sys2Proof

@[simp] theorem settle_fr (a b : State) : (settle a b).fr = b.fr := rfl
@[simp] theorem settle_md (a b : State) : (settle a b).md = b.md := rfl
@[simp] theorem settle_cfg (a b : State) : (settle a b).cfg = b.cfg := rfl
@[simp] theorem settle_hp (a b : State) : (settle a b).hp = b.hp := rfl
@[simp] theorem settle_cm (a b : State) : (settle a b).cm = b.cm := rfl
@[simp] theorem settle_dio (a b : State) : (settle a b).dio = b.dio := rfl
@[simp] theorem settle_an (a b : State) : (settle a b).an = b.an := rfl
@[simp] theorem settle_pf (a b : State) : (settle a b).pf = b.pf := rfl
@[simp] theorem settle_ce (a b : State) : (settle a b).ce = b.ce := rfl
@[simp] theorem settle_pg (a b : State) : (settle a b).pg = b.pg := rfl
@[simp] theorem settle_pt (a b : State) : (settle a b).pt = b.pt := rfl
@[simp] theorem settle_bus (a b : State) : (settle a b).bus = b.bus := rfl
@[simp] theorem settle_sf (a b : State) : (settle a b).sf = b.sf := rfl
@[simp] theorem settle_gr (a b : State) : (settle a b).gr = b.gr := rfl
@[simp] theorem settle_mram (a b : State) : (settle a b).mram = b.mram := rfl
@[simp] theorem settle_pending (a b : State) : (settle a b).pending = b.pending := rfl
@[simp] theorem settle_free (a b : State) : (settle a b).free = b.free := rfl

/-- Of the host event controller a command settles the rankings of its targets only. -/
theorem settle_hec (a b : State) : (settle a b).hec = { b.hec with tgt := (settle a b).hec.tgt } := rfl

/-- The queue of fault-log entries holds at most 64 (18 R535). -/
theorem queueLog_bound (h : HealthSt) (es : List LogEntry) : (queueLog h es).queue.length ≤ 64 := by
  unfold queueLog
  rw [List.length_take]
  exact Nat.min_le_left _ _

theorem settle_queue (a b : State) : (settle a b).hl.queue.length ≤ 64 := queueLog_bound _ _

/-- The table of the targets is canonical after every command. -/
theorem settle_tgt_wf (a b : State) : Tab.wf Target.init (settle a b).hec.tgt = true := Tab.wf_mapAll _ _ _

/-- Every command that answers `done` answers a next state. -/
theorem done_next (a b : State) : done a b = .next (settle a b) := rfl

end Sys2Proof.Machine
end

