-- ==== Sys2Proof/Laws/State.lean ====
section
/-! SUPPORT. The frames of the updates of State: an update of one part leaves every other part as it is. One lemma per
update and part, true by rfl, so that no proof unfolds a record update. -/

namespace Sys2Proof.Machine

open Sys2Proof

@[simp] theorem updTgt_fr (s : State) (t : Nat) (f : Target → Target) : (updTgt s t f).fr = s.fr := rfl
@[simp] theorem updTgt_md (s : State) (t : Nat) (f : Target → Target) : (updTgt s t f).md = s.md := rfl
@[simp] theorem updTgt_cfg (s : State) (t : Nat) (f : Target → Target) : (updTgt s t f).cfg = s.cfg := rfl
@[simp] theorem updTgt_hp (s : State) (t : Nat) (f : Target → Target) : (updTgt s t f).hp = s.hp := rfl
@[simp] theorem updTgt_cm (s : State) (t : Nat) (f : Target → Target) : (updTgt s t f).cm = s.cm := rfl
@[simp] theorem updTgt_dio (s : State) (t : Nat) (f : Target → Target) : (updTgt s t f).dio = s.dio := rfl
@[simp] theorem updTgt_an (s : State) (t : Nat) (f : Target → Target) : (updTgt s t f).an = s.an := rfl
@[simp] theorem updTgt_pf (s : State) (t : Nat) (f : Target → Target) : (updTgt s t f).pf = s.pf := rfl
@[simp] theorem updTgt_ce (s : State) (t : Nat) (f : Target → Target) : (updTgt s t f).ce = s.ce := rfl
@[simp] theorem updTgt_pg (s : State) (t : Nat) (f : Target → Target) : (updTgt s t f).pg = s.pg := rfl
@[simp] theorem updTgt_pt (s : State) (t : Nat) (f : Target → Target) : (updTgt s t f).pt = s.pt := rfl
@[simp] theorem updTgt_bus (s : State) (t : Nat) (f : Target → Target) : (updTgt s t f).bus = s.bus := rfl
@[simp] theorem updTgt_sf (s : State) (t : Nat) (f : Target → Target) : (updTgt s t f).sf = s.sf := rfl
@[simp] theorem updTgt_gr (s : State) (t : Nat) (f : Target → Target) : (updTgt s t f).gr = s.gr := rfl
@[simp] theorem updTgt_hl (s : State) (t : Nat) (f : Target → Target) : (updTgt s t f).hl = s.hl := rfl
@[simp] theorem updTgt_mram (s : State) (t : Nat) (f : Target → Target) : (updTgt s t f).mram = s.mram := rfl
@[simp] theorem updTgt_pending (s : State) (t : Nat) (f : Target → Target) : (updTgt s t f).pending = s.pending := rfl
@[simp] theorem updTgt_free (s : State) (t : Nat) (f : Target → Target) : (updTgt s t f).free = s.free := rfl

@[simp] theorem setDir_fr (s : State) (n : Nat) (d : Dir) : (setDir s n d).fr = s.fr := rfl
@[simp] theorem setDir_md (s : State) (n : Nat) (d : Dir) : (setDir s n d).md = s.md := rfl
@[simp] theorem setDir_cfg (s : State) (n : Nat) (d : Dir) : (setDir s n d).cfg = s.cfg := rfl
@[simp] theorem setDir_cm (s : State) (n : Nat) (d : Dir) : (setDir s n d).cm = s.cm := rfl
@[simp] theorem setDir_hec (s : State) (n : Nat) (d : Dir) : (setDir s n d).hec = s.hec := rfl
@[simp] theorem setDir_dio (s : State) (n : Nat) (d : Dir) : (setDir s n d).dio = s.dio := rfl
@[simp] theorem setDir_an (s : State) (n : Nat) (d : Dir) : (setDir s n d).an = s.an := rfl
@[simp] theorem setDir_pf (s : State) (n : Nat) (d : Dir) : (setDir s n d).pf = s.pf := rfl
@[simp] theorem setDir_ce (s : State) (n : Nat) (d : Dir) : (setDir s n d).ce = s.ce := rfl
@[simp] theorem setDir_pg (s : State) (n : Nat) (d : Dir) : (setDir s n d).pg = s.pg := rfl
@[simp] theorem setDir_pt (s : State) (n : Nat) (d : Dir) : (setDir s n d).pt = s.pt := rfl
@[simp] theorem setDir_bus (s : State) (n : Nat) (d : Dir) : (setDir s n d).bus = s.bus := rfl
@[simp] theorem setDir_sf (s : State) (n : Nat) (d : Dir) : (setDir s n d).sf = s.sf := rfl
@[simp] theorem setDir_gr (s : State) (n : Nat) (d : Dir) : (setDir s n d).gr = s.gr := rfl
@[simp] theorem setDir_hl (s : State) (n : Nat) (d : Dir) : (setDir s n d).hl = s.hl := rfl
@[simp] theorem setDir_mram (s : State) (n : Nat) (d : Dir) : (setDir s n d).mram = s.mram := rfl
@[simp] theorem setDir_pending (s : State) (n : Nat) (d : Dir) : (setDir s n d).pending = s.pending := rfl
@[simp] theorem setDir_free (s : State) (n : Nat) (d : Dir) : (setDir s n d).free = s.free := rfl

@[simp] theorem setSlot_fr (s : State) (n : Nat) (x : Slot) : (setSlot s n x).fr = s.fr := rfl
@[simp] theorem setSlot_md (s : State) (n : Nat) (x : Slot) : (setSlot s n x).md = s.md := rfl
@[simp] theorem setSlot_cfg (s : State) (n : Nat) (x : Slot) : (setSlot s n x).cfg = s.cfg := rfl
@[simp] theorem setSlot_hp (s : State) (n : Nat) (x : Slot) : (setSlot s n x).hp = s.hp := rfl
@[simp] theorem setSlot_hec (s : State) (n : Nat) (x : Slot) : (setSlot s n x).hec = s.hec := rfl
@[simp] theorem setSlot_dio (s : State) (n : Nat) (x : Slot) : (setSlot s n x).dio = s.dio := rfl
@[simp] theorem setSlot_an (s : State) (n : Nat) (x : Slot) : (setSlot s n x).an = s.an := rfl
@[simp] theorem setSlot_pf (s : State) (n : Nat) (x : Slot) : (setSlot s n x).pf = s.pf := rfl
@[simp] theorem setSlot_ce (s : State) (n : Nat) (x : Slot) : (setSlot s n x).ce = s.ce := rfl
@[simp] theorem setSlot_pg (s : State) (n : Nat) (x : Slot) : (setSlot s n x).pg = s.pg := rfl
@[simp] theorem setSlot_pt (s : State) (n : Nat) (x : Slot) : (setSlot s n x).pt = s.pt := rfl
@[simp] theorem setSlot_bus (s : State) (n : Nat) (x : Slot) : (setSlot s n x).bus = s.bus := rfl
@[simp] theorem setSlot_sf (s : State) (n : Nat) (x : Slot) : (setSlot s n x).sf = s.sf := rfl
@[simp] theorem setSlot_gr (s : State) (n : Nat) (x : Slot) : (setSlot s n x).gr = s.gr := rfl
@[simp] theorem setSlot_hl (s : State) (n : Nat) (x : Slot) : (setSlot s n x).hl = s.hl := rfl
@[simp] theorem setSlot_mram (s : State) (n : Nat) (x : Slot) : (setSlot s n x).mram = s.mram := rfl
@[simp] theorem setSlot_pending (s : State) (n : Nat) (x : Slot) : (setSlot s n x).pending = s.pending := rfl
@[simp] theorem setSlot_free (s : State) (n : Nat) (x : Slot) : (setSlot s n x).free = s.free := rfl

@[simp] theorem tgtEvent_fr (s : State) (t k : Nat) : (tgtEvent s t k).fr = s.fr := rfl
@[simp] theorem tgtEvent_md (s : State) (t k : Nat) : (tgtEvent s t k).md = s.md := rfl
@[simp] theorem tgtEvent_cfg (s : State) (t k : Nat) : (tgtEvent s t k).cfg = s.cfg := rfl
@[simp] theorem tgtEvent_cm (s : State) (t k : Nat) : (tgtEvent s t k).cm = s.cm := rfl
@[simp] theorem tgtEvent_hec (s : State) (t k : Nat) : (tgtEvent s t k).hec = s.hec := rfl
@[simp] theorem tgtEvent_dio (s : State) (t k : Nat) : (tgtEvent s t k).dio = s.dio := rfl
@[simp] theorem tgtEvent_an (s : State) (t k : Nat) : (tgtEvent s t k).an = s.an := rfl
@[simp] theorem tgtEvent_pf (s : State) (t k : Nat) : (tgtEvent s t k).pf = s.pf := rfl
@[simp] theorem tgtEvent_ce (s : State) (t k : Nat) : (tgtEvent s t k).ce = s.ce := rfl
@[simp] theorem tgtEvent_pg (s : State) (t k : Nat) : (tgtEvent s t k).pg = s.pg := rfl
@[simp] theorem tgtEvent_pt (s : State) (t k : Nat) : (tgtEvent s t k).pt = s.pt := rfl
@[simp] theorem tgtEvent_bus (s : State) (t k : Nat) : (tgtEvent s t k).bus = s.bus := rfl
@[simp] theorem tgtEvent_sf (s : State) (t k : Nat) : (tgtEvent s t k).sf = s.sf := rfl
@[simp] theorem tgtEvent_gr (s : State) (t k : Nat) : (tgtEvent s t k).gr = s.gr := rfl
@[simp] theorem tgtEvent_hl (s : State) (t k : Nat) : (tgtEvent s t k).hl = s.hl := rfl
@[simp] theorem tgtEvent_mram (s : State) (t k : Nat) : (tgtEvent s t k).mram = s.mram := rfl
@[simp] theorem tgtEvent_pending (s : State) (t k : Nat) : (tgtEvent s t k).pending = s.pending := rfl
@[simp] theorem tgtEvent_free (s : State) (t k : Nat) : (tgtEvent s t k).free = s.free := rfl

@[simp] theorem winWrite_fr (s : State) (a : Nat) (b : List Byte) : (winWrite s a b).fr = s.fr := rfl
@[simp] theorem winWrite_md (s : State) (a : Nat) (b : List Byte) : (winWrite s a b).md = s.md := rfl
@[simp] theorem winWrite_cfg (s : State) (a : Nat) (b : List Byte) : (winWrite s a b).cfg = s.cfg := rfl
@[simp] theorem winWrite_cm (s : State) (a : Nat) (b : List Byte) : (winWrite s a b).cm = s.cm := rfl
@[simp] theorem winWrite_hec (s : State) (a : Nat) (b : List Byte) : (winWrite s a b).hec = s.hec := rfl
@[simp] theorem winWrite_dio (s : State) (a : Nat) (b : List Byte) : (winWrite s a b).dio = s.dio := rfl
@[simp] theorem winWrite_an (s : State) (a : Nat) (b : List Byte) : (winWrite s a b).an = s.an := rfl
@[simp] theorem winWrite_pf (s : State) (a : Nat) (b : List Byte) : (winWrite s a b).pf = s.pf := rfl
@[simp] theorem winWrite_ce (s : State) (a : Nat) (b : List Byte) : (winWrite s a b).ce = s.ce := rfl
@[simp] theorem winWrite_pg (s : State) (a : Nat) (b : List Byte) : (winWrite s a b).pg = s.pg := rfl
@[simp] theorem winWrite_pt (s : State) (a : Nat) (b : List Byte) : (winWrite s a b).pt = s.pt := rfl
@[simp] theorem winWrite_bus (s : State) (a : Nat) (b : List Byte) : (winWrite s a b).bus = s.bus := rfl
@[simp] theorem winWrite_sf (s : State) (a : Nat) (b : List Byte) : (winWrite s a b).sf = s.sf := rfl
@[simp] theorem winWrite_gr (s : State) (a : Nat) (b : List Byte) : (winWrite s a b).gr = s.gr := rfl
@[simp] theorem winWrite_hl (s : State) (a : Nat) (b : List Byte) : (winWrite s a b).hl = s.hl := rfl
@[simp] theorem winWrite_mram (s : State) (a : Nat) (b : List Byte) : (winWrite s a b).mram = s.mram := rfl
@[simp] theorem winWrite_pending (s : State) (a : Nat) (b : List Byte) : (winWrite s a b).pending = s.pending := rfl
@[simp] theorem winWrite_free (s : State) (a : Nat) (b : List Byte) : (winWrite s a b).free = s.free := rfl

@[simp] theorem replaceCmd_fr (s : State) (c d : Cmd) : (replaceCmd s c d).fr = s.fr := rfl
@[simp] theorem replaceCmd_md (s : State) (c d : Cmd) : (replaceCmd s c d).md = s.md := rfl
@[simp] theorem replaceCmd_cfg (s : State) (c d : Cmd) : (replaceCmd s c d).cfg = s.cfg := rfl
@[simp] theorem replaceCmd_hp (s : State) (c d : Cmd) : (replaceCmd s c d).hp = s.hp := rfl
@[simp] theorem replaceCmd_hec (s : State) (c d : Cmd) : (replaceCmd s c d).hec = s.hec := rfl
@[simp] theorem replaceCmd_dio (s : State) (c d : Cmd) : (replaceCmd s c d).dio = s.dio := rfl
@[simp] theorem replaceCmd_an (s : State) (c d : Cmd) : (replaceCmd s c d).an = s.an := rfl
@[simp] theorem replaceCmd_pf (s : State) (c d : Cmd) : (replaceCmd s c d).pf = s.pf := rfl
@[simp] theorem replaceCmd_ce (s : State) (c d : Cmd) : (replaceCmd s c d).ce = s.ce := rfl
@[simp] theorem replaceCmd_pg (s : State) (c d : Cmd) : (replaceCmd s c d).pg = s.pg := rfl
@[simp] theorem replaceCmd_pt (s : State) (c d : Cmd) : (replaceCmd s c d).pt = s.pt := rfl
@[simp] theorem replaceCmd_bus (s : State) (c d : Cmd) : (replaceCmd s c d).bus = s.bus := rfl
@[simp] theorem replaceCmd_sf (s : State) (c d : Cmd) : (replaceCmd s c d).sf = s.sf := rfl
@[simp] theorem replaceCmd_gr (s : State) (c d : Cmd) : (replaceCmd s c d).gr = s.gr := rfl
@[simp] theorem replaceCmd_hl (s : State) (c d : Cmd) : (replaceCmd s c d).hl = s.hl := rfl
@[simp] theorem replaceCmd_mram (s : State) (c d : Cmd) : (replaceCmd s c d).mram = s.mram := rfl
@[simp] theorem replaceCmd_pending (s : State) (c d : Cmd) : (replaceCmd s c d).pending = s.pending := rfl
@[simp] theorem replaceCmd_free (s : State) (c d : Cmd) : (replaceCmd s c d).free = s.free := rfl

@[simp] theorem updDo_fr (s : State) (c : Nat) (f : DoCh → DoCh) : (updDo s c f).fr = s.fr := rfl
@[simp] theorem updDo_md (s : State) (c : Nat) (f : DoCh → DoCh) : (updDo s c f).md = s.md := rfl
@[simp] theorem updDo_cfg (s : State) (c : Nat) (f : DoCh → DoCh) : (updDo s c f).cfg = s.cfg := rfl
@[simp] theorem updDo_hp (s : State) (c : Nat) (f : DoCh → DoCh) : (updDo s c f).hp = s.hp := rfl
@[simp] theorem updDo_cm (s : State) (c : Nat) (f : DoCh → DoCh) : (updDo s c f).cm = s.cm := rfl
@[simp] theorem updDo_hec (s : State) (c : Nat) (f : DoCh → DoCh) : (updDo s c f).hec = s.hec := rfl
@[simp] theorem updDo_an (s : State) (c : Nat) (f : DoCh → DoCh) : (updDo s c f).an = s.an := rfl
@[simp] theorem updDo_pf (s : State) (c : Nat) (f : DoCh → DoCh) : (updDo s c f).pf = s.pf := rfl
@[simp] theorem updDo_ce (s : State) (c : Nat) (f : DoCh → DoCh) : (updDo s c f).ce = s.ce := rfl
@[simp] theorem updDo_pg (s : State) (c : Nat) (f : DoCh → DoCh) : (updDo s c f).pg = s.pg := rfl
@[simp] theorem updDo_pt (s : State) (c : Nat) (f : DoCh → DoCh) : (updDo s c f).pt = s.pt := rfl
@[simp] theorem updDo_bus (s : State) (c : Nat) (f : DoCh → DoCh) : (updDo s c f).bus = s.bus := rfl
@[simp] theorem updDo_sf (s : State) (c : Nat) (f : DoCh → DoCh) : (updDo s c f).sf = s.sf := rfl
@[simp] theorem updDo_gr (s : State) (c : Nat) (f : DoCh → DoCh) : (updDo s c f).gr = s.gr := rfl
@[simp] theorem updDo_hl (s : State) (c : Nat) (f : DoCh → DoCh) : (updDo s c f).hl = s.hl := rfl
@[simp] theorem updDo_mram (s : State) (c : Nat) (f : DoCh → DoCh) : (updDo s c f).mram = s.mram := rfl
@[simp] theorem updDo_pending (s : State) (c : Nat) (f : DoCh → DoCh) : (updDo s c f).pending = s.pending := rfl
@[simp] theorem updDo_free (s : State) (c : Nat) (f : DoCh → DoCh) : (updDo s c f).free = s.free := rfl

@[simp] theorem updGrp_fr (s : State) (g : Nat) (f : DoGroup → DoGroup) : (updGrp s g f).fr = s.fr := rfl
@[simp] theorem updGrp_md (s : State) (g : Nat) (f : DoGroup → DoGroup) : (updGrp s g f).md = s.md := rfl
@[simp] theorem updGrp_cfg (s : State) (g : Nat) (f : DoGroup → DoGroup) : (updGrp s g f).cfg = s.cfg := rfl
@[simp] theorem updGrp_hp (s : State) (g : Nat) (f : DoGroup → DoGroup) : (updGrp s g f).hp = s.hp := rfl
@[simp] theorem updGrp_cm (s : State) (g : Nat) (f : DoGroup → DoGroup) : (updGrp s g f).cm = s.cm := rfl
@[simp] theorem updGrp_hec (s : State) (g : Nat) (f : DoGroup → DoGroup) : (updGrp s g f).hec = s.hec := rfl
@[simp] theorem updGrp_an (s : State) (g : Nat) (f : DoGroup → DoGroup) : (updGrp s g f).an = s.an := rfl
@[simp] theorem updGrp_pf (s : State) (g : Nat) (f : DoGroup → DoGroup) : (updGrp s g f).pf = s.pf := rfl
@[simp] theorem updGrp_ce (s : State) (g : Nat) (f : DoGroup → DoGroup) : (updGrp s g f).ce = s.ce := rfl
@[simp] theorem updGrp_pg (s : State) (g : Nat) (f : DoGroup → DoGroup) : (updGrp s g f).pg = s.pg := rfl
@[simp] theorem updGrp_pt (s : State) (g : Nat) (f : DoGroup → DoGroup) : (updGrp s g f).pt = s.pt := rfl
@[simp] theorem updGrp_bus (s : State) (g : Nat) (f : DoGroup → DoGroup) : (updGrp s g f).bus = s.bus := rfl
@[simp] theorem updGrp_sf (s : State) (g : Nat) (f : DoGroup → DoGroup) : (updGrp s g f).sf = s.sf := rfl
@[simp] theorem updGrp_gr (s : State) (g : Nat) (f : DoGroup → DoGroup) : (updGrp s g f).gr = s.gr := rfl
@[simp] theorem updGrp_hl (s : State) (g : Nat) (f : DoGroup → DoGroup) : (updGrp s g f).hl = s.hl := rfl
@[simp] theorem updGrp_mram (s : State) (g : Nat) (f : DoGroup → DoGroup) : (updGrp s g f).mram = s.mram := rfl
@[simp] theorem updGrp_pending (s : State) (g : Nat) (f : DoGroup → DoGroup) : (updGrp s g f).pending = s.pending := rfl
@[simp] theorem updGrp_free (s : State) (g : Nat) (f : DoGroup → DoGroup) : (updGrp s g f).free = s.free := rfl

@[simp] theorem updTp_fr (s : State) (k : Nat) (f : TpGen → TpGen) : (updTp s k f).fr = s.fr := rfl
@[simp] theorem updTp_md (s : State) (k : Nat) (f : TpGen → TpGen) : (updTp s k f).md = s.md := rfl
@[simp] theorem updTp_cfg (s : State) (k : Nat) (f : TpGen → TpGen) : (updTp s k f).cfg = s.cfg := rfl
@[simp] theorem updTp_hp (s : State) (k : Nat) (f : TpGen → TpGen) : (updTp s k f).hp = s.hp := rfl
@[simp] theorem updTp_cm (s : State) (k : Nat) (f : TpGen → TpGen) : (updTp s k f).cm = s.cm := rfl
@[simp] theorem updTp_hec (s : State) (k : Nat) (f : TpGen → TpGen) : (updTp s k f).hec = s.hec := rfl
@[simp] theorem updTp_an (s : State) (k : Nat) (f : TpGen → TpGen) : (updTp s k f).an = s.an := rfl
@[simp] theorem updTp_pf (s : State) (k : Nat) (f : TpGen → TpGen) : (updTp s k f).pf = s.pf := rfl
@[simp] theorem updTp_ce (s : State) (k : Nat) (f : TpGen → TpGen) : (updTp s k f).ce = s.ce := rfl
@[simp] theorem updTp_pg (s : State) (k : Nat) (f : TpGen → TpGen) : (updTp s k f).pg = s.pg := rfl
@[simp] theorem updTp_pt (s : State) (k : Nat) (f : TpGen → TpGen) : (updTp s k f).pt = s.pt := rfl
@[simp] theorem updTp_bus (s : State) (k : Nat) (f : TpGen → TpGen) : (updTp s k f).bus = s.bus := rfl
@[simp] theorem updTp_sf (s : State) (k : Nat) (f : TpGen → TpGen) : (updTp s k f).sf = s.sf := rfl
@[simp] theorem updTp_gr (s : State) (k : Nat) (f : TpGen → TpGen) : (updTp s k f).gr = s.gr := rfl
@[simp] theorem updTp_hl (s : State) (k : Nat) (f : TpGen → TpGen) : (updTp s k f).hl = s.hl := rfl
@[simp] theorem updTp_mram (s : State) (k : Nat) (f : TpGen → TpGen) : (updTp s k f).mram = s.mram := rfl
@[simp] theorem updTp_pending (s : State) (k : Nat) (f : TpGen → TpGen) : (updTp s k f).pending = s.pending := rfl
@[simp] theorem updTp_free (s : State) (k : Nat) (f : TpGen → TpGen) : (updTp s k f).free = s.free := rfl

@[simp] theorem dioEvent_fr (s : State) (i : Nat) : (dioEvent s i).fr = s.fr := rfl
@[simp] theorem dioEvent_md (s : State) (i : Nat) : (dioEvent s i).md = s.md := rfl
@[simp] theorem dioEvent_cfg (s : State) (i : Nat) : (dioEvent s i).cfg = s.cfg := rfl
@[simp] theorem dioEvent_hp (s : State) (i : Nat) : (dioEvent s i).hp = s.hp := rfl
@[simp] theorem dioEvent_cm (s : State) (i : Nat) : (dioEvent s i).cm = s.cm := rfl
@[simp] theorem dioEvent_hec (s : State) (i : Nat) : (dioEvent s i).hec = s.hec := rfl
@[simp] theorem dioEvent_an (s : State) (i : Nat) : (dioEvent s i).an = s.an := rfl
@[simp] theorem dioEvent_pf (s : State) (i : Nat) : (dioEvent s i).pf = s.pf := rfl
@[simp] theorem dioEvent_ce (s : State) (i : Nat) : (dioEvent s i).ce = s.ce := rfl
@[simp] theorem dioEvent_pg (s : State) (i : Nat) : (dioEvent s i).pg = s.pg := rfl
@[simp] theorem dioEvent_pt (s : State) (i : Nat) : (dioEvent s i).pt = s.pt := rfl
@[simp] theorem dioEvent_bus (s : State) (i : Nat) : (dioEvent s i).bus = s.bus := rfl
@[simp] theorem dioEvent_sf (s : State) (i : Nat) : (dioEvent s i).sf = s.sf := rfl
@[simp] theorem dioEvent_gr (s : State) (i : Nat) : (dioEvent s i).gr = s.gr := rfl
@[simp] theorem dioEvent_hl (s : State) (i : Nat) : (dioEvent s i).hl = s.hl := rfl
@[simp] theorem dioEvent_mram (s : State) (i : Nat) : (dioEvent s i).mram = s.mram := rfl
@[simp] theorem dioEvent_pending (s : State) (i : Nat) : (dioEvent s i).pending = s.pending := rfl
@[simp] theorem dioEvent_free (s : State) (i : Nat) : (dioEvent s i).free = s.free := rfl

@[simp] theorem updAi_fr (s : State) (c : Nat) (f : AiCh → AiCh) : (updAi s c f).fr = s.fr := rfl
@[simp] theorem updAi_md (s : State) (c : Nat) (f : AiCh → AiCh) : (updAi s c f).md = s.md := rfl
@[simp] theorem updAi_cfg (s : State) (c : Nat) (f : AiCh → AiCh) : (updAi s c f).cfg = s.cfg := rfl
@[simp] theorem updAi_hp (s : State) (c : Nat) (f : AiCh → AiCh) : (updAi s c f).hp = s.hp := rfl
@[simp] theorem updAi_cm (s : State) (c : Nat) (f : AiCh → AiCh) : (updAi s c f).cm = s.cm := rfl
@[simp] theorem updAi_hec (s : State) (c : Nat) (f : AiCh → AiCh) : (updAi s c f).hec = s.hec := rfl
@[simp] theorem updAi_dio (s : State) (c : Nat) (f : AiCh → AiCh) : (updAi s c f).dio = s.dio := rfl
@[simp] theorem updAi_pf (s : State) (c : Nat) (f : AiCh → AiCh) : (updAi s c f).pf = s.pf := rfl
@[simp] theorem updAi_ce (s : State) (c : Nat) (f : AiCh → AiCh) : (updAi s c f).ce = s.ce := rfl
@[simp] theorem updAi_pg (s : State) (c : Nat) (f : AiCh → AiCh) : (updAi s c f).pg = s.pg := rfl
@[simp] theorem updAi_pt (s : State) (c : Nat) (f : AiCh → AiCh) : (updAi s c f).pt = s.pt := rfl
@[simp] theorem updAi_bus (s : State) (c : Nat) (f : AiCh → AiCh) : (updAi s c f).bus = s.bus := rfl
@[simp] theorem updAi_sf (s : State) (c : Nat) (f : AiCh → AiCh) : (updAi s c f).sf = s.sf := rfl
@[simp] theorem updAi_gr (s : State) (c : Nat) (f : AiCh → AiCh) : (updAi s c f).gr = s.gr := rfl
@[simp] theorem updAi_hl (s : State) (c : Nat) (f : AiCh → AiCh) : (updAi s c f).hl = s.hl := rfl
@[simp] theorem updAi_mram (s : State) (c : Nat) (f : AiCh → AiCh) : (updAi s c f).mram = s.mram := rfl
@[simp] theorem updAi_pending (s : State) (c : Nat) (f : AiCh → AiCh) : (updAi s c f).pending = s.pending := rfl
@[simp] theorem updAi_free (s : State) (c : Nat) (f : AiCh → AiCh) : (updAi s c f).free = s.free := rfl

@[simp] theorem updAo_fr (s : State) (c : Nat) (f : AoCh → AoCh) : (updAo s c f).fr = s.fr := rfl
@[simp] theorem updAo_md (s : State) (c : Nat) (f : AoCh → AoCh) : (updAo s c f).md = s.md := rfl
@[simp] theorem updAo_cfg (s : State) (c : Nat) (f : AoCh → AoCh) : (updAo s c f).cfg = s.cfg := rfl
@[simp] theorem updAo_hp (s : State) (c : Nat) (f : AoCh → AoCh) : (updAo s c f).hp = s.hp := rfl
@[simp] theorem updAo_cm (s : State) (c : Nat) (f : AoCh → AoCh) : (updAo s c f).cm = s.cm := rfl
@[simp] theorem updAo_hec (s : State) (c : Nat) (f : AoCh → AoCh) : (updAo s c f).hec = s.hec := rfl
@[simp] theorem updAo_dio (s : State) (c : Nat) (f : AoCh → AoCh) : (updAo s c f).dio = s.dio := rfl
@[simp] theorem updAo_pf (s : State) (c : Nat) (f : AoCh → AoCh) : (updAo s c f).pf = s.pf := rfl
@[simp] theorem updAo_ce (s : State) (c : Nat) (f : AoCh → AoCh) : (updAo s c f).ce = s.ce := rfl
@[simp] theorem updAo_pg (s : State) (c : Nat) (f : AoCh → AoCh) : (updAo s c f).pg = s.pg := rfl
@[simp] theorem updAo_pt (s : State) (c : Nat) (f : AoCh → AoCh) : (updAo s c f).pt = s.pt := rfl
@[simp] theorem updAo_bus (s : State) (c : Nat) (f : AoCh → AoCh) : (updAo s c f).bus = s.bus := rfl
@[simp] theorem updAo_sf (s : State) (c : Nat) (f : AoCh → AoCh) : (updAo s c f).sf = s.sf := rfl
@[simp] theorem updAo_gr (s : State) (c : Nat) (f : AoCh → AoCh) : (updAo s c f).gr = s.gr := rfl
@[simp] theorem updAo_hl (s : State) (c : Nat) (f : AoCh → AoCh) : (updAo s c f).hl = s.hl := rfl
@[simp] theorem updAo_mram (s : State) (c : Nat) (f : AoCh → AoCh) : (updAo s c f).mram = s.mram := rfl
@[simp] theorem updAo_pending (s : State) (c : Nat) (f : AoCh → AoCh) : (updAo s c f).pending = s.pending := rfl
@[simp] theorem updAo_free (s : State) (c : Nat) (f : AoCh → AoCh) : (updAo s c f).free = s.free := rfl

@[simp] theorem anEvent_fr (s : State) (i : Nat) : (anEvent s i).fr = s.fr := rfl
@[simp] theorem anEvent_md (s : State) (i : Nat) : (anEvent s i).md = s.md := rfl
@[simp] theorem anEvent_cfg (s : State) (i : Nat) : (anEvent s i).cfg = s.cfg := rfl
@[simp] theorem anEvent_hp (s : State) (i : Nat) : (anEvent s i).hp = s.hp := rfl
@[simp] theorem anEvent_cm (s : State) (i : Nat) : (anEvent s i).cm = s.cm := rfl
@[simp] theorem anEvent_hec (s : State) (i : Nat) : (anEvent s i).hec = s.hec := rfl
@[simp] theorem anEvent_dio (s : State) (i : Nat) : (anEvent s i).dio = s.dio := rfl
@[simp] theorem anEvent_pf (s : State) (i : Nat) : (anEvent s i).pf = s.pf := rfl
@[simp] theorem anEvent_ce (s : State) (i : Nat) : (anEvent s i).ce = s.ce := rfl
@[simp] theorem anEvent_pg (s : State) (i : Nat) : (anEvent s i).pg = s.pg := rfl
@[simp] theorem anEvent_pt (s : State) (i : Nat) : (anEvent s i).pt = s.pt := rfl
@[simp] theorem anEvent_bus (s : State) (i : Nat) : (anEvent s i).bus = s.bus := rfl
@[simp] theorem anEvent_sf (s : State) (i : Nat) : (anEvent s i).sf = s.sf := rfl
@[simp] theorem anEvent_gr (s : State) (i : Nat) : (anEvent s i).gr = s.gr := rfl
@[simp] theorem anEvent_hl (s : State) (i : Nat) : (anEvent s i).hl = s.hl := rfl
@[simp] theorem anEvent_mram (s : State) (i : Nat) : (anEvent s i).mram = s.mram := rfl
@[simp] theorem anEvent_pending (s : State) (i : Nat) : (anEvent s i).pending = s.pending := rfl
@[simp] theorem anEvent_free (s : State) (i : Nat) : (anEvent s i).free = s.free := rfl

@[simp] theorem updPf_fr (s : State) (c : Nat) (f : PfCh → PfCh) : (updPf s c f).fr = s.fr := rfl
@[simp] theorem updPf_md (s : State) (c : Nat) (f : PfCh → PfCh) : (updPf s c f).md = s.md := rfl
@[simp] theorem updPf_cfg (s : State) (c : Nat) (f : PfCh → PfCh) : (updPf s c f).cfg = s.cfg := rfl
@[simp] theorem updPf_hp (s : State) (c : Nat) (f : PfCh → PfCh) : (updPf s c f).hp = s.hp := rfl
@[simp] theorem updPf_cm (s : State) (c : Nat) (f : PfCh → PfCh) : (updPf s c f).cm = s.cm := rfl
@[simp] theorem updPf_hec (s : State) (c : Nat) (f : PfCh → PfCh) : (updPf s c f).hec = s.hec := rfl
@[simp] theorem updPf_dio (s : State) (c : Nat) (f : PfCh → PfCh) : (updPf s c f).dio = s.dio := rfl
@[simp] theorem updPf_an (s : State) (c : Nat) (f : PfCh → PfCh) : (updPf s c f).an = s.an := rfl
@[simp] theorem updPf_ce (s : State) (c : Nat) (f : PfCh → PfCh) : (updPf s c f).ce = s.ce := rfl
@[simp] theorem updPf_pg (s : State) (c : Nat) (f : PfCh → PfCh) : (updPf s c f).pg = s.pg := rfl
@[simp] theorem updPf_pt (s : State) (c : Nat) (f : PfCh → PfCh) : (updPf s c f).pt = s.pt := rfl
@[simp] theorem updPf_bus (s : State) (c : Nat) (f : PfCh → PfCh) : (updPf s c f).bus = s.bus := rfl
@[simp] theorem updPf_sf (s : State) (c : Nat) (f : PfCh → PfCh) : (updPf s c f).sf = s.sf := rfl
@[simp] theorem updPf_gr (s : State) (c : Nat) (f : PfCh → PfCh) : (updPf s c f).gr = s.gr := rfl
@[simp] theorem updPf_hl (s : State) (c : Nat) (f : PfCh → PfCh) : (updPf s c f).hl = s.hl := rfl
@[simp] theorem updPf_mram (s : State) (c : Nat) (f : PfCh → PfCh) : (updPf s c f).mram = s.mram := rfl
@[simp] theorem updPf_pending (s : State) (c : Nat) (f : PfCh → PfCh) : (updPf s c f).pending = s.pending := rfl
@[simp] theorem updPf_free (s : State) (c : Nat) (f : PfCh → PfCh) : (updPf s c f).free = s.free := rfl

@[simp] theorem pfEvent_fr (s : State) (k c : Nat) : (pfEvent s k c).fr = s.fr := rfl
@[simp] theorem pfEvent_md (s : State) (k c : Nat) : (pfEvent s k c).md = s.md := rfl
@[simp] theorem pfEvent_cfg (s : State) (k c : Nat) : (pfEvent s k c).cfg = s.cfg := rfl
@[simp] theorem pfEvent_hp (s : State) (k c : Nat) : (pfEvent s k c).hp = s.hp := rfl
@[simp] theorem pfEvent_cm (s : State) (k c : Nat) : (pfEvent s k c).cm = s.cm := rfl
@[simp] theorem pfEvent_hec (s : State) (k c : Nat) : (pfEvent s k c).hec = s.hec := rfl
@[simp] theorem pfEvent_dio (s : State) (k c : Nat) : (pfEvent s k c).dio = s.dio := rfl
@[simp] theorem pfEvent_an (s : State) (k c : Nat) : (pfEvent s k c).an = s.an := rfl
@[simp] theorem pfEvent_ce (s : State) (k c : Nat) : (pfEvent s k c).ce = s.ce := rfl
@[simp] theorem pfEvent_pg (s : State) (k c : Nat) : (pfEvent s k c).pg = s.pg := rfl
@[simp] theorem pfEvent_pt (s : State) (k c : Nat) : (pfEvent s k c).pt = s.pt := rfl
@[simp] theorem pfEvent_bus (s : State) (k c : Nat) : (pfEvent s k c).bus = s.bus := rfl
@[simp] theorem pfEvent_sf (s : State) (k c : Nat) : (pfEvent s k c).sf = s.sf := rfl
@[simp] theorem pfEvent_gr (s : State) (k c : Nat) : (pfEvent s k c).gr = s.gr := rfl
@[simp] theorem pfEvent_hl (s : State) (k c : Nat) : (pfEvent s k c).hl = s.hl := rfl
@[simp] theorem pfEvent_mram (s : State) (k c : Nat) : (pfEvent s k c).mram = s.mram := rfl
@[simp] theorem pfEvent_pending (s : State) (k c : Nat) : (pfEvent s k c).pending = s.pending := rfl
@[simp] theorem pfEvent_free (s : State) (k c : Nat) : (pfEvent s k c).free = s.free := rfl

@[simp] theorem setStage_fr (s : State) (i : Nat) (x : Stage) : (setStage s i x).fr = s.fr := rfl
@[simp] theorem setStage_md (s : State) (i : Nat) (x : Stage) : (setStage s i x).md = s.md := rfl
@[simp] theorem setStage_cfg (s : State) (i : Nat) (x : Stage) : (setStage s i x).cfg = s.cfg := rfl
@[simp] theorem setStage_hp (s : State) (i : Nat) (x : Stage) : (setStage s i x).hp = s.hp := rfl
@[simp] theorem setStage_cm (s : State) (i : Nat) (x : Stage) : (setStage s i x).cm = s.cm := rfl
@[simp] theorem setStage_hec (s : State) (i : Nat) (x : Stage) : (setStage s i x).hec = s.hec := rfl
@[simp] theorem setStage_dio (s : State) (i : Nat) (x : Stage) : (setStage s i x).dio = s.dio := rfl
@[simp] theorem setStage_an (s : State) (i : Nat) (x : Stage) : (setStage s i x).an = s.an := rfl
@[simp] theorem setStage_pf (s : State) (i : Nat) (x : Stage) : (setStage s i x).pf = s.pf := rfl
@[simp] theorem setStage_pg (s : State) (i : Nat) (x : Stage) : (setStage s i x).pg = s.pg := rfl
@[simp] theorem setStage_pt (s : State) (i : Nat) (x : Stage) : (setStage s i x).pt = s.pt := rfl
@[simp] theorem setStage_bus (s : State) (i : Nat) (x : Stage) : (setStage s i x).bus = s.bus := rfl
@[simp] theorem setStage_sf (s : State) (i : Nat) (x : Stage) : (setStage s i x).sf = s.sf := rfl
@[simp] theorem setStage_gr (s : State) (i : Nat) (x : Stage) : (setStage s i x).gr = s.gr := rfl
@[simp] theorem setStage_hl (s : State) (i : Nat) (x : Stage) : (setStage s i x).hl = s.hl := rfl
@[simp] theorem setStage_mram (s : State) (i : Nat) (x : Stage) : (setStage s i x).mram = s.mram := rfl
@[simp] theorem setStage_pending (s : State) (i : Nat) (x : Stage) : (setStage s i x).pending = s.pending := rfl
@[simp] theorem setStage_free (s : State) (i : Nat) (x : Stage) : (setStage s i x).free = s.free := rfl

@[simp] theorem setLearner_fr (s : State) (l : Nat) (x : Learner) : (setLearner s l x).fr = s.fr := rfl
@[simp] theorem setLearner_md (s : State) (l : Nat) (x : Learner) : (setLearner s l x).md = s.md := rfl
@[simp] theorem setLearner_cfg (s : State) (l : Nat) (x : Learner) : (setLearner s l x).cfg = s.cfg := rfl
@[simp] theorem setLearner_hp (s : State) (l : Nat) (x : Learner) : (setLearner s l x).hp = s.hp := rfl
@[simp] theorem setLearner_cm (s : State) (l : Nat) (x : Learner) : (setLearner s l x).cm = s.cm := rfl
@[simp] theorem setLearner_hec (s : State) (l : Nat) (x : Learner) : (setLearner s l x).hec = s.hec := rfl
@[simp] theorem setLearner_dio (s : State) (l : Nat) (x : Learner) : (setLearner s l x).dio = s.dio := rfl
@[simp] theorem setLearner_an (s : State) (l : Nat) (x : Learner) : (setLearner s l x).an = s.an := rfl
@[simp] theorem setLearner_pf (s : State) (l : Nat) (x : Learner) : (setLearner s l x).pf = s.pf := rfl
@[simp] theorem setLearner_pg (s : State) (l : Nat) (x : Learner) : (setLearner s l x).pg = s.pg := rfl
@[simp] theorem setLearner_pt (s : State) (l : Nat) (x : Learner) : (setLearner s l x).pt = s.pt := rfl
@[simp] theorem setLearner_bus (s : State) (l : Nat) (x : Learner) : (setLearner s l x).bus = s.bus := rfl
@[simp] theorem setLearner_sf (s : State) (l : Nat) (x : Learner) : (setLearner s l x).sf = s.sf := rfl
@[simp] theorem setLearner_gr (s : State) (l : Nat) (x : Learner) : (setLearner s l x).gr = s.gr := rfl
@[simp] theorem setLearner_hl (s : State) (l : Nat) (x : Learner) : (setLearner s l x).hl = s.hl := rfl
@[simp] theorem setLearner_mram (s : State) (l : Nat) (x : Learner) : (setLearner s l x).mram = s.mram := rfl
@[simp] theorem setLearner_pending (s : State) (l : Nat) (x : Learner) : (setLearner s l x).pending = s.pending := rfl
@[simp] theorem setLearner_free (s : State) (l : Nat) (x : Learner) : (setLearner s l x).free = s.free := rfl

@[simp] theorem setCap_fr (s : State) (c : Nat) (x : Capture) : (setCap s c x).fr = s.fr := rfl
@[simp] theorem setCap_md (s : State) (c : Nat) (x : Capture) : (setCap s c x).md = s.md := rfl
@[simp] theorem setCap_cfg (s : State) (c : Nat) (x : Capture) : (setCap s c x).cfg = s.cfg := rfl
@[simp] theorem setCap_hp (s : State) (c : Nat) (x : Capture) : (setCap s c x).hp = s.hp := rfl
@[simp] theorem setCap_cm (s : State) (c : Nat) (x : Capture) : (setCap s c x).cm = s.cm := rfl
@[simp] theorem setCap_hec (s : State) (c : Nat) (x : Capture) : (setCap s c x).hec = s.hec := rfl
@[simp] theorem setCap_dio (s : State) (c : Nat) (x : Capture) : (setCap s c x).dio = s.dio := rfl
@[simp] theorem setCap_an (s : State) (c : Nat) (x : Capture) : (setCap s c x).an = s.an := rfl
@[simp] theorem setCap_pf (s : State) (c : Nat) (x : Capture) : (setCap s c x).pf = s.pf := rfl
@[simp] theorem setCap_pg (s : State) (c : Nat) (x : Capture) : (setCap s c x).pg = s.pg := rfl
@[simp] theorem setCap_pt (s : State) (c : Nat) (x : Capture) : (setCap s c x).pt = s.pt := rfl
@[simp] theorem setCap_bus (s : State) (c : Nat) (x : Capture) : (setCap s c x).bus = s.bus := rfl
@[simp] theorem setCap_sf (s : State) (c : Nat) (x : Capture) : (setCap s c x).sf = s.sf := rfl
@[simp] theorem setCap_gr (s : State) (c : Nat) (x : Capture) : (setCap s c x).gr = s.gr := rfl
@[simp] theorem setCap_hl (s : State) (c : Nat) (x : Capture) : (setCap s c x).hl = s.hl := rfl
@[simp] theorem setCap_mram (s : State) (c : Nat) (x : Capture) : (setCap s c x).mram = s.mram := rfl
@[simp] theorem setCap_pending (s : State) (c : Nat) (x : Capture) : (setCap s c x).pending = s.pending := rfl
@[simp] theorem setCap_free (s : State) (c : Nat) (x : Capture) : (setCap s c x).free = s.free := rfl

@[simp] theorem setTask_fr (s : State) (t : Nat) (x : TaskSt) : (setTask s t x).fr = s.fr := rfl
@[simp] theorem setTask_md (s : State) (t : Nat) (x : TaskSt) : (setTask s t x).md = s.md := rfl
@[simp] theorem setTask_cfg (s : State) (t : Nat) (x : TaskSt) : (setTask s t x).cfg = s.cfg := rfl
@[simp] theorem setTask_hp (s : State) (t : Nat) (x : TaskSt) : (setTask s t x).hp = s.hp := rfl
@[simp] theorem setTask_cm (s : State) (t : Nat) (x : TaskSt) : (setTask s t x).cm = s.cm := rfl
@[simp] theorem setTask_hec (s : State) (t : Nat) (x : TaskSt) : (setTask s t x).hec = s.hec := rfl
@[simp] theorem setTask_dio (s : State) (t : Nat) (x : TaskSt) : (setTask s t x).dio = s.dio := rfl
@[simp] theorem setTask_an (s : State) (t : Nat) (x : TaskSt) : (setTask s t x).an = s.an := rfl
@[simp] theorem setTask_pf (s : State) (t : Nat) (x : TaskSt) : (setTask s t x).pf = s.pf := rfl
@[simp] theorem setTask_ce (s : State) (t : Nat) (x : TaskSt) : (setTask s t x).ce = s.ce := rfl
@[simp] theorem setTask_pt (s : State) (t : Nat) (x : TaskSt) : (setTask s t x).pt = s.pt := rfl
@[simp] theorem setTask_bus (s : State) (t : Nat) (x : TaskSt) : (setTask s t x).bus = s.bus := rfl
@[simp] theorem setTask_sf (s : State) (t : Nat) (x : TaskSt) : (setTask s t x).sf = s.sf := rfl
@[simp] theorem setTask_gr (s : State) (t : Nat) (x : TaskSt) : (setTask s t x).gr = s.gr := rfl
@[simp] theorem setTask_hl (s : State) (t : Nat) (x : TaskSt) : (setTask s t x).hl = s.hl := rfl
@[simp] theorem setTask_mram (s : State) (t : Nat) (x : TaskSt) : (setTask s t x).mram = s.mram := rfl
@[simp] theorem setTask_pending (s : State) (t : Nat) (x : TaskSt) : (setTask s t x).pending = s.pending := rfl
@[simp] theorem setTask_free (s : State) (t : Nat) (x : TaskSt) : (setTask s t x).free = s.free := rfl

@[simp] theorem setInst_fr (s : State) (k : Nat) (x : Inst) : (setInst s k x).fr = s.fr := rfl
@[simp] theorem setInst_md (s : State) (k : Nat) (x : Inst) : (setInst s k x).md = s.md := rfl
@[simp] theorem setInst_cfg (s : State) (k : Nat) (x : Inst) : (setInst s k x).cfg = s.cfg := rfl
@[simp] theorem setInst_hp (s : State) (k : Nat) (x : Inst) : (setInst s k x).hp = s.hp := rfl
@[simp] theorem setInst_cm (s : State) (k : Nat) (x : Inst) : (setInst s k x).cm = s.cm := rfl
@[simp] theorem setInst_hec (s : State) (k : Nat) (x : Inst) : (setInst s k x).hec = s.hec := rfl
@[simp] theorem setInst_dio (s : State) (k : Nat) (x : Inst) : (setInst s k x).dio = s.dio := rfl
@[simp] theorem setInst_an (s : State) (k : Nat) (x : Inst) : (setInst s k x).an = s.an := rfl
@[simp] theorem setInst_pf (s : State) (k : Nat) (x : Inst) : (setInst s k x).pf = s.pf := rfl
@[simp] theorem setInst_ce (s : State) (k : Nat) (x : Inst) : (setInst s k x).ce = s.ce := rfl
@[simp] theorem setInst_pt (s : State) (k : Nat) (x : Inst) : (setInst s k x).pt = s.pt := rfl
@[simp] theorem setInst_bus (s : State) (k : Nat) (x : Inst) : (setInst s k x).bus = s.bus := rfl
@[simp] theorem setInst_sf (s : State) (k : Nat) (x : Inst) : (setInst s k x).sf = s.sf := rfl
@[simp] theorem setInst_gr (s : State) (k : Nat) (x : Inst) : (setInst s k x).gr = s.gr := rfl
@[simp] theorem setInst_hl (s : State) (k : Nat) (x : Inst) : (setInst s k x).hl = s.hl := rfl
@[simp] theorem setInst_mram (s : State) (k : Nat) (x : Inst) : (setInst s k x).mram = s.mram := rfl
@[simp] theorem setInst_pending (s : State) (k : Nat) (x : Inst) : (setInst s k x).pending = s.pending := rfl
@[simp] theorem setInst_free (s : State) (k : Nat) (x : Inst) : (setInst s k x).free = s.free := rfl

@[simp] theorem setPoint_fr (s : State) (n : Nat) (p : Point) : (setPoint s n p).fr = s.fr := rfl
@[simp] theorem setPoint_md (s : State) (n : Nat) (p : Point) : (setPoint s n p).md = s.md := rfl
@[simp] theorem setPoint_cfg (s : State) (n : Nat) (p : Point) : (setPoint s n p).cfg = s.cfg := rfl
@[simp] theorem setPoint_hp (s : State) (n : Nat) (p : Point) : (setPoint s n p).hp = s.hp := rfl
@[simp] theorem setPoint_cm (s : State) (n : Nat) (p : Point) : (setPoint s n p).cm = s.cm := rfl
@[simp] theorem setPoint_hec (s : State) (n : Nat) (p : Point) : (setPoint s n p).hec = s.hec := rfl
@[simp] theorem setPoint_dio (s : State) (n : Nat) (p : Point) : (setPoint s n p).dio = s.dio := rfl
@[simp] theorem setPoint_an (s : State) (n : Nat) (p : Point) : (setPoint s n p).an = s.an := rfl
@[simp] theorem setPoint_pf (s : State) (n : Nat) (p : Point) : (setPoint s n p).pf = s.pf := rfl
@[simp] theorem setPoint_ce (s : State) (n : Nat) (p : Point) : (setPoint s n p).ce = s.ce := rfl
@[simp] theorem setPoint_pg (s : State) (n : Nat) (p : Point) : (setPoint s n p).pg = s.pg := rfl
@[simp] theorem setPoint_bus (s : State) (n : Nat) (p : Point) : (setPoint s n p).bus = s.bus := rfl
@[simp] theorem setPoint_sf (s : State) (n : Nat) (p : Point) : (setPoint s n p).sf = s.sf := rfl
@[simp] theorem setPoint_gr (s : State) (n : Nat) (p : Point) : (setPoint s n p).gr = s.gr := rfl
@[simp] theorem setPoint_hl (s : State) (n : Nat) (p : Point) : (setPoint s n p).hl = s.hl := rfl
@[simp] theorem setPoint_mram (s : State) (n : Nat) (p : Point) : (setPoint s n p).mram = s.mram := rfl
@[simp] theorem setPoint_pending (s : State) (n : Nat) (p : Point) : (setPoint s n p).pending = s.pending := rfl
@[simp] theorem setPoint_free (s : State) (n : Nat) (p : Point) : (setPoint s n p).free = s.free := rfl

@[simp] theorem updPort_fr (s : State) (p : Nat) (f : Port → Port) : (updPort s p f).fr = s.fr := rfl
@[simp] theorem updPort_md (s : State) (p : Nat) (f : Port → Port) : (updPort s p f).md = s.md := rfl
@[simp] theorem updPort_cfg (s : State) (p : Nat) (f : Port → Port) : (updPort s p f).cfg = s.cfg := rfl
@[simp] theorem updPort_hp (s : State) (p : Nat) (f : Port → Port) : (updPort s p f).hp = s.hp := rfl
@[simp] theorem updPort_cm (s : State) (p : Nat) (f : Port → Port) : (updPort s p f).cm = s.cm := rfl
@[simp] theorem updPort_hec (s : State) (p : Nat) (f : Port → Port) : (updPort s p f).hec = s.hec := rfl
@[simp] theorem updPort_dio (s : State) (p : Nat) (f : Port → Port) : (updPort s p f).dio = s.dio := rfl
@[simp] theorem updPort_an (s : State) (p : Nat) (f : Port → Port) : (updPort s p f).an = s.an := rfl
@[simp] theorem updPort_pf (s : State) (p : Nat) (f : Port → Port) : (updPort s p f).pf = s.pf := rfl
@[simp] theorem updPort_ce (s : State) (p : Nat) (f : Port → Port) : (updPort s p f).ce = s.ce := rfl
@[simp] theorem updPort_pg (s : State) (p : Nat) (f : Port → Port) : (updPort s p f).pg = s.pg := rfl
@[simp] theorem updPort_pt (s : State) (p : Nat) (f : Port → Port) : (updPort s p f).pt = s.pt := rfl
@[simp] theorem updPort_sf (s : State) (p : Nat) (f : Port → Port) : (updPort s p f).sf = s.sf := rfl
@[simp] theorem updPort_gr (s : State) (p : Nat) (f : Port → Port) : (updPort s p f).gr = s.gr := rfl
@[simp] theorem updPort_hl (s : State) (p : Nat) (f : Port → Port) : (updPort s p f).hl = s.hl := rfl
@[simp] theorem updPort_mram (s : State) (p : Nat) (f : Port → Port) : (updPort s p f).mram = s.mram := rfl
@[simp] theorem updPort_pending (s : State) (p : Nat) (f : Port → Port) : (updPort s p f).pending = s.pending := rfl
@[simp] theorem updPort_free (s : State) (p : Nat) (f : Port → Port) : (updPort s p f).free = s.free := rfl

@[simp] theorem setTxq_fr (s : State) (p : Nat) (q : List TxFrame) : (setTxq s p q).fr = s.fr := rfl
@[simp] theorem setTxq_md (s : State) (p : Nat) (q : List TxFrame) : (setTxq s p q).md = s.md := rfl
@[simp] theorem setTxq_cfg (s : State) (p : Nat) (q : List TxFrame) : (setTxq s p q).cfg = s.cfg := rfl
@[simp] theorem setTxq_hp (s : State) (p : Nat) (q : List TxFrame) : (setTxq s p q).hp = s.hp := rfl
@[simp] theorem setTxq_cm (s : State) (p : Nat) (q : List TxFrame) : (setTxq s p q).cm = s.cm := rfl
@[simp] theorem setTxq_hec (s : State) (p : Nat) (q : List TxFrame) : (setTxq s p q).hec = s.hec := rfl
@[simp] theorem setTxq_dio (s : State) (p : Nat) (q : List TxFrame) : (setTxq s p q).dio = s.dio := rfl
@[simp] theorem setTxq_an (s : State) (p : Nat) (q : List TxFrame) : (setTxq s p q).an = s.an := rfl
@[simp] theorem setTxq_pf (s : State) (p : Nat) (q : List TxFrame) : (setTxq s p q).pf = s.pf := rfl
@[simp] theorem setTxq_ce (s : State) (p : Nat) (q : List TxFrame) : (setTxq s p q).ce = s.ce := rfl
@[simp] theorem setTxq_pg (s : State) (p : Nat) (q : List TxFrame) : (setTxq s p q).pg = s.pg := rfl
@[simp] theorem setTxq_pt (s : State) (p : Nat) (q : List TxFrame) : (setTxq s p q).pt = s.pt := rfl
@[simp] theorem setTxq_sf (s : State) (p : Nat) (q : List TxFrame) : (setTxq s p q).sf = s.sf := rfl
@[simp] theorem setTxq_gr (s : State) (p : Nat) (q : List TxFrame) : (setTxq s p q).gr = s.gr := rfl
@[simp] theorem setTxq_hl (s : State) (p : Nat) (q : List TxFrame) : (setTxq s p q).hl = s.hl := rfl
@[simp] theorem setTxq_mram (s : State) (p : Nat) (q : List TxFrame) : (setTxq s p q).mram = s.mram := rfl
@[simp] theorem setTxq_pending (s : State) (p : Nat) (q : List TxFrame) : (setTxq s p q).pending = s.pending := rfl
@[simp] theorem setTxq_free (s : State) (p : Nat) (q : List TxFrame) : (setTxq s p q).free = s.free := rfl

@[simp] theorem setNode_fr (s : State) (n : Nat) (x : Node) : (setNode s n x).fr = s.fr := rfl
@[simp] theorem setNode_md (s : State) (n : Nat) (x : Node) : (setNode s n x).md = s.md := rfl
@[simp] theorem setNode_cfg (s : State) (n : Nat) (x : Node) : (setNode s n x).cfg = s.cfg := rfl
@[simp] theorem setNode_hp (s : State) (n : Nat) (x : Node) : (setNode s n x).hp = s.hp := rfl
@[simp] theorem setNode_cm (s : State) (n : Nat) (x : Node) : (setNode s n x).cm = s.cm := rfl
@[simp] theorem setNode_hec (s : State) (n : Nat) (x : Node) : (setNode s n x).hec = s.hec := rfl
@[simp] theorem setNode_dio (s : State) (n : Nat) (x : Node) : (setNode s n x).dio = s.dio := rfl
@[simp] theorem setNode_an (s : State) (n : Nat) (x : Node) : (setNode s n x).an = s.an := rfl
@[simp] theorem setNode_pf (s : State) (n : Nat) (x : Node) : (setNode s n x).pf = s.pf := rfl
@[simp] theorem setNode_ce (s : State) (n : Nat) (x : Node) : (setNode s n x).ce = s.ce := rfl
@[simp] theorem setNode_pg (s : State) (n : Nat) (x : Node) : (setNode s n x).pg = s.pg := rfl
@[simp] theorem setNode_pt (s : State) (n : Nat) (x : Node) : (setNode s n x).pt = s.pt := rfl
@[simp] theorem setNode_sf (s : State) (n : Nat) (x : Node) : (setNode s n x).sf = s.sf := rfl
@[simp] theorem setNode_gr (s : State) (n : Nat) (x : Node) : (setNode s n x).gr = s.gr := rfl
@[simp] theorem setNode_hl (s : State) (n : Nat) (x : Node) : (setNode s n x).hl = s.hl := rfl
@[simp] theorem setNode_mram (s : State) (n : Nat) (x : Node) : (setNode s n x).mram = s.mram := rfl
@[simp] theorem setNode_pending (s : State) (n : Nat) (x : Node) : (setNode s n x).pending = s.pending := rfl
@[simp] theorem setNode_free (s : State) (n : Nat) (x : Node) : (setNode s n x).free = s.free := rfl

@[simp] theorem busEvent_fr (s : State) (k p : Nat) : (busEvent s k p).fr = s.fr := rfl
@[simp] theorem busEvent_md (s : State) (k p : Nat) : (busEvent s k p).md = s.md := rfl
@[simp] theorem busEvent_cfg (s : State) (k p : Nat) : (busEvent s k p).cfg = s.cfg := rfl
@[simp] theorem busEvent_hp (s : State) (k p : Nat) : (busEvent s k p).hp = s.hp := rfl
@[simp] theorem busEvent_cm (s : State) (k p : Nat) : (busEvent s k p).cm = s.cm := rfl
@[simp] theorem busEvent_hec (s : State) (k p : Nat) : (busEvent s k p).hec = s.hec := rfl
@[simp] theorem busEvent_dio (s : State) (k p : Nat) : (busEvent s k p).dio = s.dio := rfl
@[simp] theorem busEvent_an (s : State) (k p : Nat) : (busEvent s k p).an = s.an := rfl
@[simp] theorem busEvent_pf (s : State) (k p : Nat) : (busEvent s k p).pf = s.pf := rfl
@[simp] theorem busEvent_ce (s : State) (k p : Nat) : (busEvent s k p).ce = s.ce := rfl
@[simp] theorem busEvent_pg (s : State) (k p : Nat) : (busEvent s k p).pg = s.pg := rfl
@[simp] theorem busEvent_pt (s : State) (k p : Nat) : (busEvent s k p).pt = s.pt := rfl
@[simp] theorem busEvent_sf (s : State) (k p : Nat) : (busEvent s k p).sf = s.sf := rfl
@[simp] theorem busEvent_gr (s : State) (k p : Nat) : (busEvent s k p).gr = s.gr := rfl
@[simp] theorem busEvent_hl (s : State) (k p : Nat) : (busEvent s k p).hl = s.hl := rfl
@[simp] theorem busEvent_mram (s : State) (k p : Nat) : (busEvent s k p).mram = s.mram := rfl
@[simp] theorem busEvent_pending (s : State) (k p : Nat) : (busEvent s k p).pending = s.pending := rfl
@[simp] theorem busEvent_free (s : State) (k p : Nat) : (busEvent s k p).free = s.free := rfl

@[simp] theorem sfEvent_fr (s : State) (i : Nat) : (sfEvent s i).fr = s.fr := rfl
@[simp] theorem sfEvent_md (s : State) (i : Nat) : (sfEvent s i).md = s.md := rfl
@[simp] theorem sfEvent_cfg (s : State) (i : Nat) : (sfEvent s i).cfg = s.cfg := rfl
@[simp] theorem sfEvent_hp (s : State) (i : Nat) : (sfEvent s i).hp = s.hp := rfl
@[simp] theorem sfEvent_cm (s : State) (i : Nat) : (sfEvent s i).cm = s.cm := rfl
@[simp] theorem sfEvent_hec (s : State) (i : Nat) : (sfEvent s i).hec = s.hec := rfl
@[simp] theorem sfEvent_dio (s : State) (i : Nat) : (sfEvent s i).dio = s.dio := rfl
@[simp] theorem sfEvent_an (s : State) (i : Nat) : (sfEvent s i).an = s.an := rfl
@[simp] theorem sfEvent_pf (s : State) (i : Nat) : (sfEvent s i).pf = s.pf := rfl
@[simp] theorem sfEvent_ce (s : State) (i : Nat) : (sfEvent s i).ce = s.ce := rfl
@[simp] theorem sfEvent_pg (s : State) (i : Nat) : (sfEvent s i).pg = s.pg := rfl
@[simp] theorem sfEvent_pt (s : State) (i : Nat) : (sfEvent s i).pt = s.pt := rfl
@[simp] theorem sfEvent_bus (s : State) (i : Nat) : (sfEvent s i).bus = s.bus := rfl
@[simp] theorem sfEvent_gr (s : State) (i : Nat) : (sfEvent s i).gr = s.gr := rfl
@[simp] theorem sfEvent_hl (s : State) (i : Nat) : (sfEvent s i).hl = s.hl := rfl
@[simp] theorem sfEvent_mram (s : State) (i : Nat) : (sfEvent s i).mram = s.mram := rfl
@[simp] theorem sfEvent_pending (s : State) (i : Nat) : (sfEvent s i).pending = s.pending := rfl
@[simp] theorem sfEvent_free (s : State) (i : Nat) : (sfEvent s i).free = s.free := rfl

@[simp] theorem updPeer_fr (s : State) (u : Nat) (f : Peer → Peer) : (updPeer s u f).fr = s.fr := rfl
@[simp] theorem updPeer_md (s : State) (u : Nat) (f : Peer → Peer) : (updPeer s u f).md = s.md := rfl
@[simp] theorem updPeer_cfg (s : State) (u : Nat) (f : Peer → Peer) : (updPeer s u f).cfg = s.cfg := rfl
@[simp] theorem updPeer_hp (s : State) (u : Nat) (f : Peer → Peer) : (updPeer s u f).hp = s.hp := rfl
@[simp] theorem updPeer_cm (s : State) (u : Nat) (f : Peer → Peer) : (updPeer s u f).cm = s.cm := rfl
@[simp] theorem updPeer_hec (s : State) (u : Nat) (f : Peer → Peer) : (updPeer s u f).hec = s.hec := rfl
@[simp] theorem updPeer_dio (s : State) (u : Nat) (f : Peer → Peer) : (updPeer s u f).dio = s.dio := rfl
@[simp] theorem updPeer_an (s : State) (u : Nat) (f : Peer → Peer) : (updPeer s u f).an = s.an := rfl
@[simp] theorem updPeer_pf (s : State) (u : Nat) (f : Peer → Peer) : (updPeer s u f).pf = s.pf := rfl
@[simp] theorem updPeer_ce (s : State) (u : Nat) (f : Peer → Peer) : (updPeer s u f).ce = s.ce := rfl
@[simp] theorem updPeer_pg (s : State) (u : Nat) (f : Peer → Peer) : (updPeer s u f).pg = s.pg := rfl
@[simp] theorem updPeer_pt (s : State) (u : Nat) (f : Peer → Peer) : (updPeer s u f).pt = s.pt := rfl
@[simp] theorem updPeer_bus (s : State) (u : Nat) (f : Peer → Peer) : (updPeer s u f).bus = s.bus := rfl
@[simp] theorem updPeer_sf (s : State) (u : Nat) (f : Peer → Peer) : (updPeer s u f).sf = s.sf := rfl
@[simp] theorem updPeer_hl (s : State) (u : Nat) (f : Peer → Peer) : (updPeer s u f).hl = s.hl := rfl
@[simp] theorem updPeer_mram (s : State) (u : Nat) (f : Peer → Peer) : (updPeer s u f).mram = s.mram := rfl
@[simp] theorem updPeer_pending (s : State) (u : Nat) (f : Peer → Peer) : (updPeer s u f).pending = s.pending := rfl
@[simp] theorem updPeer_free (s : State) (u : Nat) (f : Peer → Peer) : (updPeer s u f).free = s.free := rfl

@[simp] theorem grEvent_fr (s : State) (i : Nat) : (grEvent s i).fr = s.fr := rfl
@[simp] theorem grEvent_md (s : State) (i : Nat) : (grEvent s i).md = s.md := rfl
@[simp] theorem grEvent_cfg (s : State) (i : Nat) : (grEvent s i).cfg = s.cfg := rfl
@[simp] theorem grEvent_hp (s : State) (i : Nat) : (grEvent s i).hp = s.hp := rfl
@[simp] theorem grEvent_cm (s : State) (i : Nat) : (grEvent s i).cm = s.cm := rfl
@[simp] theorem grEvent_hec (s : State) (i : Nat) : (grEvent s i).hec = s.hec := rfl
@[simp] theorem grEvent_dio (s : State) (i : Nat) : (grEvent s i).dio = s.dio := rfl
@[simp] theorem grEvent_an (s : State) (i : Nat) : (grEvent s i).an = s.an := rfl
@[simp] theorem grEvent_pf (s : State) (i : Nat) : (grEvent s i).pf = s.pf := rfl
@[simp] theorem grEvent_ce (s : State) (i : Nat) : (grEvent s i).ce = s.ce := rfl
@[simp] theorem grEvent_pg (s : State) (i : Nat) : (grEvent s i).pg = s.pg := rfl
@[simp] theorem grEvent_pt (s : State) (i : Nat) : (grEvent s i).pt = s.pt := rfl
@[simp] theorem grEvent_bus (s : State) (i : Nat) : (grEvent s i).bus = s.bus := rfl
@[simp] theorem grEvent_sf (s : State) (i : Nat) : (grEvent s i).sf = s.sf := rfl
@[simp] theorem grEvent_hl (s : State) (i : Nat) : (grEvent s i).hl = s.hl := rfl
@[simp] theorem grEvent_mram (s : State) (i : Nat) : (grEvent s i).mram = s.mram := rfl
@[simp] theorem grEvent_pending (s : State) (i : Nat) : (grEvent s i).pending = s.pending := rfl
@[simp] theorem grEvent_free (s : State) (i : Nat) : (grEvent s i).free = s.free := rfl

@[simp] theorem updTest_fr (s : State) (t : Nat) (f : TestSt → TestSt) : (updTest s t f).fr = s.fr := rfl
@[simp] theorem updTest_md (s : State) (t : Nat) (f : TestSt → TestSt) : (updTest s t f).md = s.md := rfl
@[simp] theorem updTest_cfg (s : State) (t : Nat) (f : TestSt → TestSt) : (updTest s t f).cfg = s.cfg := rfl
@[simp] theorem updTest_hp (s : State) (t : Nat) (f : TestSt → TestSt) : (updTest s t f).hp = s.hp := rfl
@[simp] theorem updTest_cm (s : State) (t : Nat) (f : TestSt → TestSt) : (updTest s t f).cm = s.cm := rfl
@[simp] theorem updTest_hec (s : State) (t : Nat) (f : TestSt → TestSt) : (updTest s t f).hec = s.hec := rfl
@[simp] theorem updTest_dio (s : State) (t : Nat) (f : TestSt → TestSt) : (updTest s t f).dio = s.dio := rfl
@[simp] theorem updTest_an (s : State) (t : Nat) (f : TestSt → TestSt) : (updTest s t f).an = s.an := rfl
@[simp] theorem updTest_pf (s : State) (t : Nat) (f : TestSt → TestSt) : (updTest s t f).pf = s.pf := rfl
@[simp] theorem updTest_ce (s : State) (t : Nat) (f : TestSt → TestSt) : (updTest s t f).ce = s.ce := rfl
@[simp] theorem updTest_pg (s : State) (t : Nat) (f : TestSt → TestSt) : (updTest s t f).pg = s.pg := rfl
@[simp] theorem updTest_pt (s : State) (t : Nat) (f : TestSt → TestSt) : (updTest s t f).pt = s.pt := rfl
@[simp] theorem updTest_bus (s : State) (t : Nat) (f : TestSt → TestSt) : (updTest s t f).bus = s.bus := rfl
@[simp] theorem updTest_sf (s : State) (t : Nat) (f : TestSt → TestSt) : (updTest s t f).sf = s.sf := rfl
@[simp] theorem updTest_gr (s : State) (t : Nat) (f : TestSt → TestSt) : (updTest s t f).gr = s.gr := rfl
@[simp] theorem updTest_mram (s : State) (t : Nat) (f : TestSt → TestSt) : (updTest s t f).mram = s.mram := rfl
@[simp] theorem updTest_pending (s : State) (t : Nat) (f : TestSt → TestSt) : (updTest s t f).pending = s.pending := rfl
@[simp] theorem updTest_free (s : State) (t : Nat) (f : TestSt → TestSt) : (updTest s t f).free = s.free := rfl

@[simp] theorem hlEvent_fr (s : State) (i : Nat) : (hlEvent s i).fr = s.fr := rfl
@[simp] theorem hlEvent_md (s : State) (i : Nat) : (hlEvent s i).md = s.md := rfl
@[simp] theorem hlEvent_cfg (s : State) (i : Nat) : (hlEvent s i).cfg = s.cfg := rfl
@[simp] theorem hlEvent_hp (s : State) (i : Nat) : (hlEvent s i).hp = s.hp := rfl
@[simp] theorem hlEvent_cm (s : State) (i : Nat) : (hlEvent s i).cm = s.cm := rfl
@[simp] theorem hlEvent_hec (s : State) (i : Nat) : (hlEvent s i).hec = s.hec := rfl
@[simp] theorem hlEvent_dio (s : State) (i : Nat) : (hlEvent s i).dio = s.dio := rfl
@[simp] theorem hlEvent_an (s : State) (i : Nat) : (hlEvent s i).an = s.an := rfl
@[simp] theorem hlEvent_pf (s : State) (i : Nat) : (hlEvent s i).pf = s.pf := rfl
@[simp] theorem hlEvent_ce (s : State) (i : Nat) : (hlEvent s i).ce = s.ce := rfl
@[simp] theorem hlEvent_pg (s : State) (i : Nat) : (hlEvent s i).pg = s.pg := rfl
@[simp] theorem hlEvent_pt (s : State) (i : Nat) : (hlEvent s i).pt = s.pt := rfl
@[simp] theorem hlEvent_bus (s : State) (i : Nat) : (hlEvent s i).bus = s.bus := rfl
@[simp] theorem hlEvent_sf (s : State) (i : Nat) : (hlEvent s i).sf = s.sf := rfl
@[simp] theorem hlEvent_gr (s : State) (i : Nat) : (hlEvent s i).gr = s.gr := rfl
@[simp] theorem hlEvent_mram (s : State) (i : Nat) : (hlEvent s i).mram = s.mram := rfl
@[simp] theorem hlEvent_pending (s : State) (i : Nat) : (hlEvent s i).pending = s.pending := rfl
@[simp] theorem hlEvent_free (s : State) (i : Nat) : (hlEvent s i).free = s.free := rfl

@[simp] theorem setStatus_md (s : State) (i : Nat) (v : Bool) : (setStatus s i v).md = s.md := rfl
@[simp] theorem setStatus_cfg (s : State) (i : Nat) (v : Bool) : (setStatus s i v).cfg = s.cfg := rfl
@[simp] theorem setStatus_hp (s : State) (i : Nat) (v : Bool) : (setStatus s i v).hp = s.hp := rfl
@[simp] theorem setStatus_cm (s : State) (i : Nat) (v : Bool) : (setStatus s i v).cm = s.cm := rfl
@[simp] theorem setStatus_hec (s : State) (i : Nat) (v : Bool) : (setStatus s i v).hec = s.hec := rfl
@[simp] theorem setStatus_dio (s : State) (i : Nat) (v : Bool) : (setStatus s i v).dio = s.dio := rfl
@[simp] theorem setStatus_an (s : State) (i : Nat) (v : Bool) : (setStatus s i v).an = s.an := rfl
@[simp] theorem setStatus_pf (s : State) (i : Nat) (v : Bool) : (setStatus s i v).pf = s.pf := rfl
@[simp] theorem setStatus_ce (s : State) (i : Nat) (v : Bool) : (setStatus s i v).ce = s.ce := rfl
@[simp] theorem setStatus_pg (s : State) (i : Nat) (v : Bool) : (setStatus s i v).pg = s.pg := rfl
@[simp] theorem setStatus_pt (s : State) (i : Nat) (v : Bool) : (setStatus s i v).pt = s.pt := rfl
@[simp] theorem setStatus_bus (s : State) (i : Nat) (v : Bool) : (setStatus s i v).bus = s.bus := rfl
@[simp] theorem setStatus_sf (s : State) (i : Nat) (v : Bool) : (setStatus s i v).sf = s.sf := rfl
@[simp] theorem setStatus_gr (s : State) (i : Nat) (v : Bool) : (setStatus s i v).gr = s.gr := rfl
@[simp] theorem setStatus_hl (s : State) (i : Nat) (v : Bool) : (setStatus s i v).hl = s.hl := rfl
@[simp] theorem setStatus_mram (s : State) (i : Nat) (v : Bool) : (setStatus s i v).mram = s.mram := rfl
@[simp] theorem setStatus_pending (s : State) (i : Nat) (v : Bool) : (setStatus s i v).pending = s.pending := rfl
@[simp] theorem setStatus_free (s : State) (i : Nat) (v : Bool) : (setStatus s i v).free = s.free := rfl

@[simp] theorem pushLog_fr (s : State) (c i d : Nat) : (pushLog s c i d).fr = s.fr := rfl
@[simp] theorem pushLog_md (s : State) (c i d : Nat) : (pushLog s c i d).md = s.md := rfl
@[simp] theorem pushLog_cfg (s : State) (c i d : Nat) : (pushLog s c i d).cfg = s.cfg := rfl
@[simp] theorem pushLog_hp (s : State) (c i d : Nat) : (pushLog s c i d).hp = s.hp := rfl
@[simp] theorem pushLog_cm (s : State) (c i d : Nat) : (pushLog s c i d).cm = s.cm := rfl
@[simp] theorem pushLog_hec (s : State) (c i d : Nat) : (pushLog s c i d).hec = s.hec := rfl
@[simp] theorem pushLog_dio (s : State) (c i d : Nat) : (pushLog s c i d).dio = s.dio := rfl
@[simp] theorem pushLog_an (s : State) (c i d : Nat) : (pushLog s c i d).an = s.an := rfl
@[simp] theorem pushLog_pf (s : State) (c i d : Nat) : (pushLog s c i d).pf = s.pf := rfl
@[simp] theorem pushLog_ce (s : State) (c i d : Nat) : (pushLog s c i d).ce = s.ce := rfl
@[simp] theorem pushLog_pg (s : State) (c i d : Nat) : (pushLog s c i d).pg = s.pg := rfl
@[simp] theorem pushLog_pt (s : State) (c i d : Nat) : (pushLog s c i d).pt = s.pt := rfl
@[simp] theorem pushLog_bus (s : State) (c i d : Nat) : (pushLog s c i d).bus = s.bus := rfl
@[simp] theorem pushLog_sf (s : State) (c i d : Nat) : (pushLog s c i d).sf = s.sf := rfl
@[simp] theorem pushLog_gr (s : State) (c i d : Nat) : (pushLog s c i d).gr = s.gr := rfl
@[simp] theorem pushLog_mram (s : State) (c i d : Nat) : (pushLog s c i d).mram = s.mram := rfl
@[simp] theorem pushLog_pending (s : State) (c i d : Nat) : (pushLog s c i d).pending = s.pending := rfl
@[simp] theorem pushLog_free (s : State) (c i d : Nat) : (pushLog s c i d).free = s.free := rfl

@[simp] theorem advance_md (s : State) (dt : Nat) : (advance s dt).md = s.md := rfl
@[simp] theorem advance_cfg (s : State) (dt : Nat) : (advance s dt).cfg = s.cfg := rfl
@[simp] theorem advance_hp (s : State) (dt : Nat) : (advance s dt).hp = s.hp := rfl
@[simp] theorem advance_cm (s : State) (dt : Nat) : (advance s dt).cm = s.cm := rfl
@[simp] theorem advance_hec (s : State) (dt : Nat) : (advance s dt).hec = s.hec := rfl
@[simp] theorem advance_dio (s : State) (dt : Nat) : (advance s dt).dio = s.dio := rfl
@[simp] theorem advance_an (s : State) (dt : Nat) : (advance s dt).an = s.an := rfl
@[simp] theorem advance_pf (s : State) (dt : Nat) : (advance s dt).pf = s.pf := rfl
@[simp] theorem advance_ce (s : State) (dt : Nat) : (advance s dt).ce = s.ce := rfl
@[simp] theorem advance_pg (s : State) (dt : Nat) : (advance s dt).pg = s.pg := rfl
@[simp] theorem advance_pt (s : State) (dt : Nat) : (advance s dt).pt = s.pt := rfl
@[simp] theorem advance_bus (s : State) (dt : Nat) : (advance s dt).bus = s.bus := rfl
@[simp] theorem advance_sf (s : State) (dt : Nat) : (advance s dt).sf = s.sf := rfl
@[simp] theorem advance_gr (s : State) (dt : Nat) : (advance s dt).gr = s.gr := rfl
@[simp] theorem advance_hl (s : State) (dt : Nat) : (advance s dt).hl = s.hl := rfl
@[simp] theorem advance_mram (s : State) (dt : Nat) : (advance s dt).mram = s.mram := rfl
@[simp] theorem advance_pending (s : State) (dt : Nat) : (advance s dt).pending = s.pending := rfl
@[simp] theorem advance_free (s : State) (dt : Nat) : (advance s dt).free = s.free := rfl

@[simp] theorem advanceTo_md (s : State) (t : Nat) : (advanceTo s t).md = s.md := rfl
@[simp] theorem advanceTo_cfg (s : State) (t : Nat) : (advanceTo s t).cfg = s.cfg := rfl
@[simp] theorem advanceTo_hp (s : State) (t : Nat) : (advanceTo s t).hp = s.hp := rfl
@[simp] theorem advanceTo_cm (s : State) (t : Nat) : (advanceTo s t).cm = s.cm := rfl
@[simp] theorem advanceTo_hec (s : State) (t : Nat) : (advanceTo s t).hec = s.hec := rfl
@[simp] theorem advanceTo_dio (s : State) (t : Nat) : (advanceTo s t).dio = s.dio := rfl
@[simp] theorem advanceTo_an (s : State) (t : Nat) : (advanceTo s t).an = s.an := rfl
@[simp] theorem advanceTo_pf (s : State) (t : Nat) : (advanceTo s t).pf = s.pf := rfl
@[simp] theorem advanceTo_ce (s : State) (t : Nat) : (advanceTo s t).ce = s.ce := rfl
@[simp] theorem advanceTo_pg (s : State) (t : Nat) : (advanceTo s t).pg = s.pg := rfl
@[simp] theorem advanceTo_pt (s : State) (t : Nat) : (advanceTo s t).pt = s.pt := rfl
@[simp] theorem advanceTo_bus (s : State) (t : Nat) : (advanceTo s t).bus = s.bus := rfl
@[simp] theorem advanceTo_sf (s : State) (t : Nat) : (advanceTo s t).sf = s.sf := rfl
@[simp] theorem advanceTo_gr (s : State) (t : Nat) : (advanceTo s t).gr = s.gr := rfl
@[simp] theorem advanceTo_hl (s : State) (t : Nat) : (advanceTo s t).hl = s.hl := rfl
@[simp] theorem advanceTo_mram (s : State) (t : Nat) : (advanceTo s t).mram = s.mram := rfl
@[simp] theorem advanceTo_pending (s : State) (t : Nat) : (advanceTo s t).pending = s.pending := rfl
@[simp] theorem advanceTo_free (s : State) (t : Nat) : (advanceTo s t).free = s.free := rfl

@[simp] theorem openSwitches_fr (s : State) : (openSwitches s).fr = s.fr := rfl
@[simp] theorem openSwitches_md (s : State) : (openSwitches s).md = s.md := rfl
@[simp] theorem openSwitches_cfg (s : State) : (openSwitches s).cfg = s.cfg := rfl
@[simp] theorem openSwitches_hp (s : State) : (openSwitches s).hp = s.hp := rfl
@[simp] theorem openSwitches_cm (s : State) : (openSwitches s).cm = s.cm := rfl
@[simp] theorem openSwitches_hec (s : State) : (openSwitches s).hec = s.hec := rfl
@[simp] theorem openSwitches_dio (s : State) : (openSwitches s).dio = s.dio := rfl
@[simp] theorem openSwitches_an (s : State) : (openSwitches s).an = s.an := rfl
@[simp] theorem openSwitches_pf (s : State) : (openSwitches s).pf = s.pf := rfl
@[simp] theorem openSwitches_ce (s : State) : (openSwitches s).ce = s.ce := rfl
@[simp] theorem openSwitches_pg (s : State) : (openSwitches s).pg = s.pg := rfl
@[simp] theorem openSwitches_pt (s : State) : (openSwitches s).pt = s.pt := rfl
@[simp] theorem openSwitches_bus (s : State) : (openSwitches s).bus = s.bus := rfl
@[simp] theorem openSwitches_gr (s : State) : (openSwitches s).gr = s.gr := rfl
@[simp] theorem openSwitches_hl (s : State) : (openSwitches s).hl = s.hl := rfl
@[simp] theorem openSwitches_mram (s : State) : (openSwitches s).mram = s.mram := rfl
@[simp] theorem openSwitches_pending (s : State) : (openSwitches s).pending = s.pending := rfl
@[simp] theorem openSwitches_free (s : State) : (openSwitches s).free = s.free := rfl

@[simp] theorem loadSafety_fr (l : List Rec) (agreed : Bool) (s : State) : (loadSafety l agreed s).fr = s.fr := rfl
@[simp] theorem loadSafety_md (l : List Rec) (agreed : Bool) (s : State) : (loadSafety l agreed s).md = s.md := rfl
@[simp] theorem loadSafety_cfg (l : List Rec) (agreed : Bool) (s : State) : (loadSafety l agreed s).cfg = s.cfg := rfl
@[simp] theorem loadSafety_hp (l : List Rec) (agreed : Bool) (s : State) : (loadSafety l agreed s).hp = s.hp := rfl
@[simp] theorem loadSafety_cm (l : List Rec) (agreed : Bool) (s : State) : (loadSafety l agreed s).cm = s.cm := rfl
@[simp] theorem loadSafety_hec (l : List Rec) (agreed : Bool) (s : State) : (loadSafety l agreed s).hec = s.hec := rfl
@[simp] theorem loadSafety_dio (l : List Rec) (agreed : Bool) (s : State) : (loadSafety l agreed s).dio = s.dio := rfl
@[simp] theorem loadSafety_an (l : List Rec) (agreed : Bool) (s : State) : (loadSafety l agreed s).an = s.an := rfl
@[simp] theorem loadSafety_pf (l : List Rec) (agreed : Bool) (s : State) : (loadSafety l agreed s).pf = s.pf := rfl
@[simp] theorem loadSafety_ce (l : List Rec) (agreed : Bool) (s : State) : (loadSafety l agreed s).ce = s.ce := rfl
@[simp] theorem loadSafety_pg (l : List Rec) (agreed : Bool) (s : State) : (loadSafety l agreed s).pg = s.pg := rfl
@[simp] theorem loadSafety_pt (l : List Rec) (agreed : Bool) (s : State) : (loadSafety l agreed s).pt = s.pt := rfl
@[simp] theorem loadSafety_bus (l : List Rec) (agreed : Bool) (s : State) : (loadSafety l agreed s).bus = s.bus := rfl
@[simp] theorem loadSafety_gr (l : List Rec) (agreed : Bool) (s : State) : (loadSafety l agreed s).gr = s.gr := rfl
@[simp] theorem loadSafety_hl (l : List Rec) (agreed : Bool) (s : State) : (loadSafety l agreed s).hl = s.hl := rfl
@[simp] theorem loadSafety_mram (l : List Rec) (agreed : Bool) (s : State) : (loadSafety l agreed s).mram = s.mram := rfl
@[simp] theorem loadSafety_pending (l : List Rec) (agreed : Bool) (s : State) : (loadSafety l agreed s).pending = s.pending := rfl
@[simp] theorem loadSafety_free (l : List Rec) (agreed : Bool) (s : State) : (loadSafety l agreed s).free = s.free := rfl

@[simp] theorem beginStore_fr (s : State) (img : List Byte) : (beginStore s img).fr = s.fr := rfl
@[simp] theorem beginStore_md (s : State) (img : List Byte) : (beginStore s img).md = s.md := rfl
@[simp] theorem beginStore_hp (s : State) (img : List Byte) : (beginStore s img).hp = s.hp := rfl
@[simp] theorem beginStore_cm (s : State) (img : List Byte) : (beginStore s img).cm = s.cm := rfl
@[simp] theorem beginStore_hec (s : State) (img : List Byte) : (beginStore s img).hec = s.hec := rfl
@[simp] theorem beginStore_dio (s : State) (img : List Byte) : (beginStore s img).dio = s.dio := rfl
@[simp] theorem beginStore_an (s : State) (img : List Byte) : (beginStore s img).an = s.an := rfl
@[simp] theorem beginStore_pf (s : State) (img : List Byte) : (beginStore s img).pf = s.pf := rfl
@[simp] theorem beginStore_ce (s : State) (img : List Byte) : (beginStore s img).ce = s.ce := rfl
@[simp] theorem beginStore_pg (s : State) (img : List Byte) : (beginStore s img).pg = s.pg := rfl
@[simp] theorem beginStore_pt (s : State) (img : List Byte) : (beginStore s img).pt = s.pt := rfl
@[simp] theorem beginStore_bus (s : State) (img : List Byte) : (beginStore s img).bus = s.bus := rfl
@[simp] theorem beginStore_sf (s : State) (img : List Byte) : (beginStore s img).sf = s.sf := rfl
@[simp] theorem beginStore_gr (s : State) (img : List Byte) : (beginStore s img).gr = s.gr := rfl
@[simp] theorem beginStore_hl (s : State) (img : List Byte) : (beginStore s img).hl = s.hl := rfl
@[simp] theorem beginStore_pending (s : State) (img : List Byte) : (beginStore s img).pending = s.pending := rfl
@[simp] theorem beginStore_free (s : State) (img : List Byte) : (beginStore s img).free = s.free := rfl

@[simp] theorem takeEnabled_fr (s : State) : (takeEnabled s).fr = s.fr := rfl
@[simp] theorem takeEnabled_md (s : State) : (takeEnabled s).md = s.md := rfl
@[simp] theorem takeEnabled_hp (s : State) : (takeEnabled s).hp = s.hp := rfl
@[simp] theorem takeEnabled_cm (s : State) : (takeEnabled s).cm = s.cm := rfl
@[simp] theorem takeEnabled_hec (s : State) : (takeEnabled s).hec = s.hec := rfl
@[simp] theorem takeEnabled_dio (s : State) : (takeEnabled s).dio = s.dio := rfl
@[simp] theorem takeEnabled_an (s : State) : (takeEnabled s).an = s.an := rfl
@[simp] theorem takeEnabled_pf (s : State) : (takeEnabled s).pf = s.pf := rfl
@[simp] theorem takeEnabled_ce (s : State) : (takeEnabled s).ce = s.ce := rfl
@[simp] theorem takeEnabled_pg (s : State) : (takeEnabled s).pg = s.pg := rfl
@[simp] theorem takeEnabled_pt (s : State) : (takeEnabled s).pt = s.pt := rfl
@[simp] theorem takeEnabled_bus (s : State) : (takeEnabled s).bus = s.bus := rfl
@[simp] theorem takeEnabled_sf (s : State) : (takeEnabled s).sf = s.sf := rfl
@[simp] theorem takeEnabled_gr (s : State) : (takeEnabled s).gr = s.gr := rfl
@[simp] theorem takeEnabled_hl (s : State) : (takeEnabled s).hl = s.hl := rfl
@[simp] theorem takeEnabled_mram (s : State) : (takeEnabled s).mram = s.mram := rfl
@[simp] theorem takeEnabled_pending (s : State) : (takeEnabled s).pending = s.pending := rfl
@[simp] theorem takeEnabled_free (s : State) : (takeEnabled s).free = s.free := rfl

@[simp] theorem clearPend_fr (s : State) : (clearPend s).fr = s.fr := rfl
@[simp] theorem clearPend_cfg (s : State) : (clearPend s).cfg = s.cfg := rfl
@[simp] theorem clearPend_hp (s : State) : (clearPend s).hp = s.hp := rfl
@[simp] theorem clearPend_cm (s : State) : (clearPend s).cm = s.cm := rfl
@[simp] theorem clearPend_hec (s : State) : (clearPend s).hec = s.hec := rfl
@[simp] theorem clearPend_an (s : State) : (clearPend s).an = s.an := rfl
@[simp] theorem clearPend_pf (s : State) : (clearPend s).pf = s.pf := rfl
@[simp] theorem clearPend_ce (s : State) : (clearPend s).ce = s.ce := rfl
@[simp] theorem clearPend_pg (s : State) : (clearPend s).pg = s.pg := rfl
@[simp] theorem clearPend_pt (s : State) : (clearPend s).pt = s.pt := rfl
@[simp] theorem clearPend_bus (s : State) : (clearPend s).bus = s.bus := rfl
@[simp] theorem clearPend_sf (s : State) : (clearPend s).sf = s.sf := rfl
@[simp] theorem clearPend_gr (s : State) : (clearPend s).gr = s.gr := rfl
@[simp] theorem clearPend_hl (s : State) : (clearPend s).hl = s.hl := rfl
@[simp] theorem clearPend_mram (s : State) : (clearPend s).mram = s.mram := rfl
@[simp] theorem clearPend_pending (s : State) : (clearPend s).pending = s.pending := rfl
@[simp] theorem clearPend_free (s : State) : (clearPend s).free = s.free := rfl

@[simp] theorem readBoot_fr (s : State) : (readBoot s).fr = s.fr := rfl
@[simp] theorem readBoot_cfg (s : State) : (readBoot s).cfg = s.cfg := rfl
@[simp] theorem readBoot_hp (s : State) : (readBoot s).hp = s.hp := rfl
@[simp] theorem readBoot_cm (s : State) : (readBoot s).cm = s.cm := rfl
@[simp] theorem readBoot_hec (s : State) : (readBoot s).hec = s.hec := rfl
@[simp] theorem readBoot_dio (s : State) : (readBoot s).dio = s.dio := rfl
@[simp] theorem readBoot_an (s : State) : (readBoot s).an = s.an := rfl
@[simp] theorem readBoot_pf (s : State) : (readBoot s).pf = s.pf := rfl
@[simp] theorem readBoot_ce (s : State) : (readBoot s).ce = s.ce := rfl
@[simp] theorem readBoot_pg (s : State) : (readBoot s).pg = s.pg := rfl
@[simp] theorem readBoot_pt (s : State) : (readBoot s).pt = s.pt := rfl
@[simp] theorem readBoot_bus (s : State) : (readBoot s).bus = s.bus := rfl
@[simp] theorem readBoot_sf (s : State) : (readBoot s).sf = s.sf := rfl
@[simp] theorem readBoot_gr (s : State) : (readBoot s).gr = s.gr := rfl
@[simp] theorem readBoot_hl (s : State) : (readBoot s).hl = s.hl := rfl
@[simp] theorem readBoot_mram (s : State) : (readBoot s).mram = s.mram := rfl
@[simp] theorem readBoot_pending (s : State) : (readBoot s).pending = s.pending := rfl
@[simp] theorem readBoot_free (s : State) : (readBoot s).free = s.free := rfl

end Sys2Proof.Machine
end

