-- ==== Sys2Proof/WellFormed.lean ====
section
/-! DEFINITION. Which commands are well-formed: every operand within the width or the range the spec gives it. -/

namespace Sys2Proof

open Sys2Proof.Machine

/-- A ring entry: eight targets, 1,024 ring entries, the field widths of 06 R131, 56 bytes after the header. -/
def Entry.wf (e : Entry) : Bool :=
  decide (e.target < 8) && decide (e.ring < 1024) && decide (e.tag < 65536) && decide (e.length < 65536) && decide (e.flags < 256) &&
    decide (e.rsv < 256) && decide (e.par.length = 56)

/-- A CAN frame: identifier by IDE, a payload length of classical CAN or CAN FD, no remote frame in CAN FD (15 R420). -/
def frameWf (ide : Bool) (id : Nat) (fdf rtr : Bool) (data : List Byte) : Bool :=
  decide (id < if ide then 2 ^ 29 else 2 ^ 11) && !(fdf && rtr) && (if rtr then data.isEmpty
    else if fdf then [0, 1, 2, 3, 4, 5, 6, 7, 8, 12, 16, 20, 24, 32, 48, 64].contains data.length else decide (data.length ≤ 8))

/-- What a unit saw of a claim line: a 16-bit word (17 R490). -/
def LineObs.wf (l : LineObs) : Bool := decide (l.word < 65536)

/-- A section: 48-bit FRAME_NO, 64-bit T10, a mode, a 16-bit claim word, a score of at most 15 (17 R490, R502). -/
def secWf (x : Section) : Bool :=
  decide (x.frame < 2 ^ 48) && decide (x.t10 < 2 ^ 64) && decide (x.mode < 12) && decide (x.claim < 65536) && decide (x.score ≤ 15) &&
    (match x.announce with | none => true | some t => decide (t.1 < 4))

/-- Ends of the phases in their order (02 R35). -/
def TickIn.wf (i : TickIn) : Bool :=
  decide (i.gatherEnd ≤ i.safetyEnd) && decide (i.safetyEnd ≤ i.engineEnd) && decide (i.engineEnd ≤ i.progEnd)

/-- A command is well-formed. -/
def Instr.WellFormed (i : Instr) : Bool :=
  match i with
  | .nop e => e.wf | .identify e => e.wf | .getMode e => e.wf | .cfgOpen e => e.wf | .cfgLoad e => e.wf | .cfgClose e => e.wf
  | .cfgReadback e => e.wf | .enable e => e.wf | .disable e => e.wf | .restart e => e.wf | .safeHoldEnter e => e.wf
  | .safeHoldLeave e => e.wf | .serviceEnter e => e.wf | .serviceLeave e => e.wf | .pointRead e => e.wf | .pointWrite e => e.wf
  | .pointSubscribe e => e.wf | .pointUnsubscribe e => e.wf | .alarmAck e => e.wf | .trendRead e => e.wf | .forceSet e => e.wf
  | .forceClear e => e.wf | .forceList e => e.wf | .valueChange e => e.wf | .progStage e => e.wf | .handoverRequest e => e.wf
  | .groupStatus e => e.wf | .captureArm e => e.wf | .captureRead e => e.wf | .injectStart e => e.wf | .injectStop e => e.wf
  | .learnControl e => e.wf | .loopMode e => e.wf | .stopQueueEdit e => e.wf | .pfArm e => e.wf | .testReport e => e.wf
  | .faultLogRead e => e.wf | .calReport e => e.wf | .fwStage e => e.wf | .fwActivate e => e.wf | .busPortCtrl e => e.wf
  | .nodeTableRead e => e.wf | .safetyStatus e => e.wf | .safetyReset e => e.wf
  | .badOpcode opc e => decide (opc < 65536) && (opOf opc).isNone && e.wf
  | .copyStart => true
  | .copyComplete _ _ => true
  | .checkComplete c => decide (c.answers.length ≤ 3)
  | .fwChunkProgrammed _ => true
  | .fwActivateReset => true
  | .hifDoorbell _ _ => true
  | .ringEntryRead => true
  | .hifRelease _ => true
  | .winDirectoryWrite _ _ => true
  | .bar2Write addr data => decide (addr + data.length ≤ 67108864)
  | .winReclaim _ => true
  | .diagTimeSnap _ v => v.toNat.testBit 0
  | .phasePeakClear _ v => v.toNat.testBit 1
  | .hecClaim _ _ => true
  | .hecComplete _ _ _ => true
  | .hecStackReset _ => true
  | .hecSetpend _ _ => true
  | .hecClrpend _ _ => true
  | .hecSeten _ _ => true
  | .hecClren _ _ => true
  | .hecPseten _ _ => true
  | .hecPclren _ _ => true
  | .hecSleepWrite _ _ => true
  | .diagDoLatchedRelease _ _ => true
  | .diagDoGroupAck _ => true
  | .complianceClear _ => true
  | .mismatchClear _ => true
  | .aiConverterRestore _ _ => true
  | .aoSarRestore _ _ => true
  | .diagPfSnap _ => true
  | .diagStageSnap _ => true
  | .diagProfileSnap _ => true
  | .diagTaskPeakClr _ => true
  | .diagGroupCapClr _ => true
  | .registerWrite _ off data => decide (off + data.length ≤ 65536)
  | .qspiRead addr _ _ => decide (addr < 2 ^ 32)
  | .qspiWrite _ addr _ _ => decide (addr < 2 ^ 32)
  | .qspiReadId => true
  | .qspiBadTransaction => true
  | .perst => true
  | .functionLevelReset => true
  | .msixEnableChange _ _ => true
  | .msixUnmask _ => true
  | .pmeEnWrite _ => true
  | .pcieLinkDown => true
  | .resetAssert => true
  | .supplySupervisorReset => true
  | .leaveReset p => decide (p.unitId < 4)
  | .almselChange _ => true
  | .bootComplete => true
  | .bootStepFail => true
  | .fcSupervisoryTimeout => true
  | .tick i => i.wf
  | .outputTransferSlot => true
  | .overrunLimitReached => true
  | .captureComplete _ => true
  | .commit _ => true
  | .apply => true
  | .clockFault _ _ => true
  | .timebaseLockLost err => decide (10 < err.natAbs)
  | .timebaseLockRegained err => decide (err.natAbs ≤ 10)
  | .syncInEdge _ ppm _ => decide (ppm.natAbs ≤ 200)
  | .syncInLost => true
  | .linkTransfer l _ _ _ p => decide (p.frame < 2 ^ 48) && (match l with | .ob _ => decide (p.vals.length = 4) | _ => true)
  | .linkResetCode => true
  | .fieldWatchdogTrip _ => true
  | .testPulseStart _ _ => true
  | .testPulseEnd _ => true
  | .tpGeneratorFault _ => true
  | .sensorSupplyFault _ => true
  | .sensorSupplySound _ => true
  | .doOverload _ _ => true
  | .doRetry _ _ => true
  | .doRetryCountReset _ => true
  | .pwmPeriodStart _ _ => true
  | .extFeed _ _ => true
  | .darkTestStart _ _ => true
  | .darkTestEnd _ _ => true
  | .groupSupplyLow _ => true
  | .groupSupplyLowEnd _ => true
  | .groupSupplyMissing _ => true
  | .groupSupplyMissingEnd _ _ => true
  | .aiConversionResult _ _ _ code => decide (code.natAbs ≤ 8388608)
  | .aiShuntOpen _ => true
  | .aiShuntRetest _ _ => true
  | .rotationStepStart _ => true
  | .referenceMeasurementDone ao b _ _ _ _ => ao || decide (b.val < 6)
  | .disagreementRecheckDone ao b _ _ => ao || decide (b.val < 6)
  | .aiBankLinkTimeout _ => true
  | .aiBankLinkBad _ => true
  | .spareSarStep _ _ => true
  | .complianceEnter _ => true
  | .complianceEnd _ => true
  | .mismatchDetect _ => true
  | .spareParallelDone _ _ => true
  | .aoSupplyLow _ => true
  | .aoSupplyLowEnd _ => true
  | .pfQuadStep _ _ _ => true
  | .cmpWidthEnd _ => true
  | .pfIndexEdge _ _ _ _ => true
  | .pfLatchEdge _ _ _ => true
  | .pfSwitchEdge _ _ _ _ => true
  | .pfSerialStart _ _ => true
  | .pfSerialWord _ _ _ _ => true
  | .pfSerialTimeout _ _ => true
  | .pfSerialBad _ => true
  | .pfLineFault _ => true
  | .pfLineFaultEnd _ => true
  | .pfEncoderSupplyFault _ => true
  | .pfEncoderSupplySound _ => true
  | .injectEnded _ => true
  | .pointEngineQueue => true
  | .pointQueueLate => true
  | .subscriptionSnapshot _ => true
  | .canFrameReceived _ _ ide id fdf rtr data => frameWf ide id fdf rtr data
  | .canTxComplete _ _ => true
  | .canTxError _ _ _ _ => true
  | .busOffRecoveryStart _ _ => true
  | .busOffRecoveryDone _ _ => true
  | .joinEnd _ _ => true
  | .nodeLost n => decide (n < 4096)
  | .portAlone _ _ => true
  | .attarCycle _ => true
  | .attarTimerExpiry _ _ => true
  | .discrepancyFault _ _ => true
  | .soSwitchFault _ _ _ => true
  | .edmFault _ _ => true
  | .discWindowExpiry _ _ _ => true
  | .safeMsgMaxAge _ _ _ => true
  | .safeNetTimeout _ _ => true
  | .degradedTimerExpiry _ => true
  | .attarCrcCheck crc => decide (crc < 2 ^ 32)
  | .scImageCheck _ => true
  | .claimLatch l0 l1 => l0.wf && l1.wf
  | .gateClose _ _ => true
  | .gateOpen _ _ => true
  | .syncSectionReceived _ _ _ sec => secWf sec
  | .syncEventReceived ev => match ev with | .rxFrame _ _ ide id fdf data => frameWf ide id fdf false data | .fifo _ _ => true
  | .trackingDeadline digest => decide (digest < 2 ^ 32)
  | .peerLost _ => true
  | .timeMasterFallback => true
  | .joinCopyDone _ _ _ _ => true
  | .dwellEnd _ => true
  | .handoverAbandon => true
  | .drydownUnit test _ => decide (test = 4) || decide (test = 7)
  | .fieldTestStart test _ => decide (test < 14)
  | .soSwitchTestStep _ _ => true
  | .aoCrossCheckEnd _ _ => true
  | .shadowTestEnd so item _ => decide (item < if so then 8 else 64)
  | .claimLoopback _ _ => true
  | .syncErrorWindow _ _ => true
  | .dramScrubBurst => true
  | .eccCorrected _ _ => true
  | .eccUncorrectable _ _ => true
  | .faultLogEntryWrite => true
  | .hecArbitration => true
  | .moderationWindowEnd _ => true
  | .sillageWake => true
  | .wakeRelease => true
  | .diSiSample _ _ => true
  | .canRxError _ _ n => decide (n = 1) || decide (n = 8)
  | .pcieLinkUp _ => true
  | .syncPortDown _ => true
  | .syncPortUp _ => true
  | .backgroundCopyDone _ _ => true
  | .pmPmeRepeat => true
  | .pmeStatusClear => true
  | .powerStateChange _ => true
  | .scSramMarchUnit _ => true

end Sys2Proof
end

