-- ==== Sys2Proof/Tests/Slice0.lean ====
section
/-! SUPPORT. Tests: the smoke test of WellFormed, and for each statement with hypotheses a witness that meets them, clause by clause,
on small states built from the state after reset. Expected results come from the spec's rules, by hand. -/

set_option Elab.async false

namespace Sys2Proof.Tests

open Sys2Proof Sys2Proof.Machine

/-! ### Builders -/

/-- The state after reset, in a mode, with the host port usable. -/
def inMode (m : Mode) : State := { State.reset with md := { ModeSt.init with mode := m, ready := true } }

/-- A record with a body. -/
def rec_ (ty idx : Nat) (body : List Byte) : Rec := { ty := ty, idx := idx, flags := 0, off := 0, len := body.length, body := body }

/-- A state in a mode that runs the configuration of some records, its safety image loaded. -/
def cfgd (m : Mode) (l : List Rec) : State := loadSafety l false { inMode m with cfg := { CfgSt.init with run := l, started := l } }

/-- A body of bytes with 0 behind. -/
def body_ (n : Nat) (l : List Nat) : List Byte := fit n (l.map fun x => BitVec.ofNat 8 x)

/-- A ring entry in slot 7 with parameters from layout byte 8 on. -/
def ent (len : Nat) (l : List Nat) : Entry := { target := 0, ring := 0, tag := 7, length := len, flags := 0, rsv := 0, par := body_ 56 l }

/-- The state in RESET. -/
def off : State := { State.reset with md := { ModeSt.init with mode := .reset } }

/-- The state a command leaves. -/
def after (c : Instr) (s : State) : State :=
  match exec c s with
  | .next t => t
  | _ => s

/-- Quad-SPI chosen. -/
def spi : State := { State.reset with md := { ModeSt.init with ready := true, straps := { Straps.open_ with hostsel := true } } }

def due_ (op : Op) : Cmd := { op := op, tag := 7, target := 0, par := zeros 56, inSeg := false, segs := [], ph := .due, num := 0, ans := 0 }

def cmds_ (m : Mode) (l : List Cmd) : State := { inMode m with cm := { CmdSt.init with cmds := l } }

/-- A group record whose mask names this unit and unit 1. -/
def groupRec : Rec := rec_ 0x0901 0 (body_ 24 [3])

def tick0 : TickIn := { gatherEnd := 0, safetyEnd := 0, engineEnd := 0, progEnd := 0, updates := 0, sblocks := 0, stages := 0, share := 0, tail := 0, blocks := [], runs := [] }

/-- Segment n handed to the module. -/
def rich_dir (n : Nat) : State := { inMode .active with hp := { HostSt.init with dir := HostSt.init.dir ++ [(n, { Dir.init with dev := true })] } }

/-- The least image: a header and an end record. -/
def leastImage : List Byte :=
  let h := body_ 48 [1, 0, 40, 0, 0, 0, 0, 0, 0x49, 0x44, 0x58, 0x43, 1, 0, 0, 0, 64, 0, 0, 0, 2]
  let e := body_ 8 [0xFF, 0, 8]
  h ++ e ++ leBytes 4 (crc32 (h ++ e)) ++ zeros 4

/-- Bytes of a SEGREF: segment 2 from offset 0, a length. -/
def sref (n : Nat) : List Nat := [2, 0, 0, 0, 0, 0, 0, 0, n % 256, n / 256, 0, 0]

/-! ### WellFormed: a well-formed term, and an ill-formed one for each check -/

theorem test_wf_accepts : (Instr.nop (ent 0 [])).WellFormed = true ∧ (Instr.bar2Write 67108860 (List.replicate 4 (some 1))).WellFormed = true ∧
    (Instr.canFrameReceived 0 0 true 536870911 true false (zeros 64)).WellFormed = true ∧ (Instr.drydownUnit 7 true).WellFormed = true := by decide +kernel

theorem test_wf_refuses_entry :
    (Instr.nop { ent 0 [] with target := 8 }).WellFormed = false ∧ (Instr.nop { ent 0 [] with ring := 1024 }).WellFormed = false ∧
    (Instr.nop { ent 0 [] with tag := 65536 }).WellFormed = false ∧ (Instr.nop { ent 0 [] with length := 65536 }).WellFormed = false ∧
    (Instr.nop { ent 0 [] with flags := 256 }).WellFormed = false ∧ (Instr.nop { ent 0 [] with rsv := 256 }).WellFormed = false ∧
    (Instr.nop { ent 0 [] with par := zeros 55 }).WellFormed = false := by decide +kernel

theorem test_wf_refuses_opcode : (Instr.badOpcode 65536 (ent 0 [])).WellFormed = false ∧ (Instr.badOpcode 0x0001 (ent 0 [])).WellFormed = false ∧
    (Instr.badOpcode 0xFFFF { ent 0 [] with rsv := 256 }).WellFormed = false := by decide +kernel

theorem test_wf_refuses_host :
    (Instr.bar2Write 67108861 (List.replicate 4 (some 1))).WellFormed = false ∧ (Instr.diagTimeSnap 0 2#32).WellFormed = false ∧
    (Instr.phasePeakClear 0 1#32).WellFormed = false ∧ (Instr.registerWrite 0 65536 [none]).WellFormed = false ∧
    (Instr.qspiRead (2 ^ 32) 1 false).WellFormed = false ∧ (Instr.qspiWrite 0 (2 ^ 32) [] false).WellFormed = false := by decide +kernel

def peerAns : PeerAns := { unit := 0, fUs := 0, commit := 0, out := 0, agree := 0, program := 0, unitId := 0 }

theorem test_wf_refuses_machine :
    (Instr.checkComplete { scDiff := false, attarDiff := none, answers := List.replicate 4 peerAns }).WellFormed = false ∧
    (Instr.leaveReset { Straps.open_ with unitId := 4 }).WellFormed = false ∧
    (Instr.tick { tick0 with gatherEnd := 2, safetyEnd := 1, engineEnd := 3, progEnd := 3 }).WellFormed = false ∧
    (Instr.tick { tick0 with gatherEnd := 1, safetyEnd := 3, engineEnd := 2, progEnd := 3 }).WellFormed = false ∧
    (Instr.tick { tick0 with gatherEnd := 1, safetyEnd := 1, engineEnd := 3, progEnd := 2 }).WellFormed = false ∧
    (Instr.timebaseLockLost 10).WellFormed = false ∧ (Instr.timebaseLockRegained 11).WellFormed = false ∧
    (Instr.syncInEdge ⟨0, true⟩ 201 false).WellFormed = false ∧
    (Instr.linkTransfer (.ob 0) false true true { frame := 0, word := 0, high := 0, low := 0, vals := [] }).WellFormed = false ∧
    (Instr.linkTransfer .field false true true { frame := 2 ^ 48, word := 0, high := 0, low := 0, vals := [] }).WellFormed = false := by decide +kernel

theorem test_wf_refuses_field :
    (Instr.aiConversionResult 0 0 0 8388609).WellFormed = false ∧ (Instr.referenceMeasurementDone false 6 0 0 0 0).WellFormed = false ∧
    (Instr.disagreementRecheckDone false 6 0 0).WellFormed = false ∧
    (Instr.canFrameReceived 0 0 false 2048 false false []).WellFormed = false ∧ (Instr.canFrameReceived 0 0 false 0 true true []).WellFormed = false ∧
    (Instr.canFrameReceived 0 0 false 0 false false (zeros 9)).WellFormed = false ∧ (Instr.canFrameReceived 0 0 false 0 true false (zeros 9)).WellFormed = false ∧
    (Instr.canFrameReceived 0 0 false 0 false true (zeros 1)).WellFormed = false ∧ (Instr.nodeLost 4096).WellFormed = false ∧
    (Instr.canRxError 0 0 2).WellFormed = false ∧ (Instr.attarCrcCheck (2 ^ 32)).WellFormed = false := by decide +kernel

def sec0 : Section :=
  { frame := 0, t10 := 0, mode := 6, claim := 0, score := 15, synced := false, staged := false, capped := false, lockout := false, programId := 0,
    agreeCrc := 0, proto := 0, dwell := 0, announce := none, part := none }

theorem test_wf_refuses_group :
    (Instr.claimLatch { word := 65536, dominant := false, recessive := false } { word := 0, dominant := false, recessive := false }).WellFormed = false ∧
    (Instr.claimLatch { word := 0, dominant := false, recessive := false } { word := 65536, dominant := false, recessive := false }).WellFormed = false ∧
    (Instr.syncSectionReceived 0 0 true { sec0 with frame := 2 ^ 48 }).WellFormed = false ∧
    (Instr.syncSectionReceived 0 0 true { sec0 with t10 := 2 ^ 64 }).WellFormed = false ∧
    (Instr.syncSectionReceived 0 0 true { sec0 with mode := 12 }).WellFormed = false ∧
    (Instr.syncSectionReceived 0 0 true { sec0 with claim := 65536 }).WellFormed = false ∧
    (Instr.syncSectionReceived 0 0 true { sec0 with score := 16 }).WellFormed = false ∧
    (Instr.syncSectionReceived 0 0 true { sec0 with announce := some (4, false) }).WellFormed = false ∧
    (Instr.syncEventReceived (.rxFrame 0 0 false 2048 false [])).WellFormed = false ∧
    (Instr.trackingDeadline (2 ^ 32)).WellFormed = false := by decide +kernel

theorem test_wf_refuses_health :
    (Instr.drydownUnit 5 true).WellFormed = false ∧ (Instr.fieldTestStart 14 ⟨0, false⟩).WellFormed = false ∧
    (Instr.shadowTestEnd true 8 true).WellFormed = false ∧ (Instr.shadowTestEnd false 64 true).WellFormed = false := by decide +kernel

/-! ### Witnesses: the step, the modes, the event controller -/

theorem witness_AStepCarriesOutTheFrontCommand : State.reset.pending = [] := rfl

theorem witness_EveryCommandAnswersANextState : (after .hecArbitration State.reset).fr.t10 = 10 := by decide +kernel

theorem witness_ResetLeavesTheResetColumn : off.md.mode = .reset ∧ (after (.leaveReset Straps.open_) off).md.mode = .boot ∧
    (after (.leaveReset Straps.open_) off).hl.score = 15 := by decide +kernel

theorem witness_EveryStepKeepsTheInvariant : State.reset.Inv ∧ ∃ t, step State.reset = .next t := ⟨by unfold State.Inv; decide +kernel, _, rfl⟩


theorem witness_TheModeChangesByTheTableAlone :
    (after .resetAssert State.reset).md.mode = .reset ∧ (after (.leaveReset Straps.open_) off).md.mode = .boot ∧
    (after (.tick tick0) (after .bootComplete State.reset)).md.mode = .unconfigured ∧
    (after (.tick tick0) { inMode .active with md := { (inMode .active).md with pendFault := [5] } }).md.mode = .safeHold := by decide +kernel

/-- A configuration with a safe message on pair 0 in single-network operation. -/
def degraded_ (m : Mode) : State :=
  let s := cfgd m [rec_ 0x0801 0 (body_ 40 [1]), rec_ 0x0806 0 (body_ 40 []), rec_ 0x0807 0 (body_ 24 [0, 0, 0, 0, 1])]
  { s with sf := { s.sf with lost := 1 } }

theorem witness_CausesOfAModeChangeHaveAnOrder :
    (let s := { inMode .active with md := { (inMode .active).md with pendEdm := true, pendFault := [5] } };
      s.md.pendEdm = true ∧ edmMode s.md.mode = true ∧ s.md.mode ≠ .reset ∧ s.md.mode ≠ .boot) ∧
    (let s := { inMode .active with md := { (inMode .active).md with pendFault := [5, 7] } };
      ¬ (s.md.pendEdm = true ∧ edmMode s.md.mode = true) ∧ (if faultMode s.md.mode then faultCause s else none) = some 5) ∧
    (let s := cmds_ .active [due_ .safeHoldEnter];
      ¬ (s.md.pendEdm = true) ∧ faultCause s = none ∧ dueMode (clearPend s) (fun o => decide (o = .safeHoldEnter)) = some (due_ .safeHoldEnter)) ∧
    (let s := cfgd .active [groupRec];
      faultCause s = none ∧ dueMode (clearPend s) (fun o => decide (o = .safeHoldEnter)) = none ∧ s.md.mode.driven = true ∧ claimLost (clearPend s) = true) ∧
    (let s := degraded_ .active;
      faultCause s = none ∧ dueMode (clearPend s) (fun o => decide (o = .safeHoldEnter)) = none ∧ ¬ (s.md.mode.driven = true ∧ claimLost (clearPend s) = true) ∧
        degCause (clearPend s) = true) ∧
    (let s := inMode .degraded;
      faultCause s = none ∧ dueMode (clearPend s) (fun o => decide (o = .safeHoldEnter)) = none ∧ ¬ (s.md.mode.driven = true ∧ claimLost (clearPend s) = true) ∧
        degCause (clearPend s) = false) := by decide +kernel

theorem witness_HecWritesActOnEnablesAndTargets : hostUp State.reset = true ∧ tgtExists State.reset 7 = true ∧ hostUp spi = true ∧ tgtExists spi 4 = false := by
  decide +kernel

/-- Target 1 with source 4 soft-pending and enabled, ranked first; source 5 ranked but cleared. -/
def soft_ : State :=
  { State.reset with hec := { HecSt.init with tgt := [(1, { Target.init with soft := 0x10, pen := 0x10, rank := [(5, 2), (4, 3)], stack := [] })] } }
/-- Target 1 with source 4 on its stack. -/
def serving : State := { State.reset with hec := { HecSt.init with tgt := [(1, { Target.init with stack := [(5, 1), (4, 2)], modUs := 50, window := some 60 })] } }

theorem witness_ClaimPushesTheBestAndCompletePopsIt :
    ((hecTgt soft_ 1).rank = [(5, 2)] ++ (4, 3) :: [] ∧ (∀ x ∈ [(5, 2)], deliverPrio soft_ 1 x.1 ≠ x.2) ∧ deliverPrio soft_ 1 4 = 3) ∧
    (∀ x ∈ (hecTgt State.reset 1).rank, deliverPrio State.reset 1 x.1 ≠ x.2) ∧
    (hecTgt serving 1).stack = [(5, 1)] ++ [((4#32).toNat % 256, 2)] ∧
    ((after (.hecComplete 1 0 4#32) serving).hec.tgt.map fun x => x.2.stack) = [[(5, 1)]] ∧
    (hecTgt State.reset 1).stack = [] := by decide +kernel

theorem witness_ArbitrationPicksTheHighestPriority : State.reset.md.mode ≠ .reset ∧ tgtExists State.reset 7 = true ∧
    (hecTgt (after .hecArbitration soft_) 1).best = 4 ∧ (hecTgt (after .hecArbitration soft_) 0).req = false ∧
    (hecTgt serving 1).window = some 60 ∧ (hecTgt State.reset 1).window = none := by decide +kernel

def sleeping (h : Bool) : State :=
  { (if h then spi else State.reset) with
    hec := { HecSt.init with wakeset := 0x10, tgt := [(1, { Target.init with soft := 0x10, pen := 0x10, sleep := true })] } }

theorem witness_SillageWakesTheHost : (sleeping false).hec.wake = false ∧ anyWake (sleeping false) = true ∧ (sleeping false).hp.pmeStatus = false ∧
    anyWake (sleeping true) = true ∧ (sleeping true).md.straps.hostsel = true ∧ anyWake State.reset = false := by decide +kernel

def pend7 (fm : Bool) : State := { State.reset with hp := { HostSt.init with msixEn := true, msixFm := fm, pba := 0x80 } }

theorem witness_MsixUnmaskSendsWhatIsPending :
    (hostUp (pend7 false) = true ∧ (pend7 false).hp.msixFm = false ∧ (pend7 false).hp.pba.getLsbD 7 = true) ∧ (pend7 true).hp.msixFm = true ∧
    State.reset.hp.msixEn = false ∧ State.reset.md.straps.hostsel = false := by decide +kernel

/-! ### Witnesses: host commands -/

/-- A unit that holds control of a group of two, with one item of each kind that a command names. -/
def rich (m : Mode) : State :=
  let s := cfgd m [rec_ 0x0401 0 (body_ 40 [0, 0, 0, 2]), rec_ 0x0501 0 (body_ 24 []), rec_ 0x0601 0 (body_ 24 [3]),
    rec_ 0x0602 0 (body_ 48 [0x0B]), rec_ 0x0602 1 (body_ 48 [1]), rec_ 0x0602 2 (body_ 48 [8]), rec_ 0x0602 3 (body_ 48 [2]),
    rec_ 0x0605 0 (body_ 48 [1, 0, 0, 0, 4, 0, 0, 0, 1]), rec_ 0x0703 0 (body_ 16 [5, 0, 0, 0, 0, 2]),
    rec_ 0x0A01 0 (body_ 32 [0, 0, 0, 0, 16, 0, 0, 0, 1, 0, 0, 0, 0, 0, 0, 0, 0, 0, 0, 0, 0xFF, 0]), rec_ 0x0A03 0 (body_ 16 [1]), groupRec]
  { s with
    pf := { PfSt.init with ch := [(0, { PfCh.init with decoded := true })] }
    cm := { CmdSt.init with subs := [(0, some { first := 0, count := 1, decim := 1, segFirst := 4, segCount := 2, target := 0, n0 := 1, next := 0, seq := 0, missed := 0, handled := 0 })] }
    mram := { MramSt.init with enabled := true }
    hp := { HostSt.init with dir := HostSt.init.dir ++ [(2, { Dir.init with dev := true }), (3, { Dir.init with dev := true })] }
    gr := { GroupSt.init with latch := 1, claimed := true, peers := [(1, { Peer.init with present := true, mode := 6, synced := true })] } }

/-- The staging area in a state. -/
def staging (st : Nat) (b : List Byte) (s : State) : State := { s with cfg := { s.cfg with stg := st, bytes := b } }

/-- For every command of kind T, C or L: a state and a packet that pass every test of acceptance. -/
def accepted : List (Op × State × Entry) :=
  [(.cfgOpen, inMode .unconfigured, ent 0 []), (.cfgClose, staging 1 [] (inMode .unconfigured), ent 0 []), (.disable, rich .standby, ent 0 []),
   (.safeHoldEnter, rich .active, ent 0 []), (.safeHoldLeave, rich .safeHold, ent 0 []), (.serviceEnter, rich .safeHold, ent 8 [1]),
   (.serviceLeave, rich .service, ent 0 []), (.pointWrite, rich .active, ent 16 [15]), (.pointSubscribe, rich .active, ent 16 [0, 0, 0, 0, 16, 0, 1, 0, 2, 0, 2]),
   (.pointUnsubscribe, rich .active, ent 8 [0]), (.alarmAck, rich .active, ent 8 [0, 0, 0, 0, 0, 0, 1]), (.forceSet, rich .service, ent 16 [4, 0, 0, 0, 63, 0, 0, 0, 1]),
   (.forceClear, rich .active, ent 8 [0]), (.valueChange, rich .active, ent 24 [1, 0, 0, 0, 0, 0, 0, 0, 5, 0, 0, 0, 0xFF, 0xFF, 0, 0, 1]),
   (.captureArm, rich .active, ent 8 [0, 2]), (.injectStart, rich .active, ent 16 [0, 0, 0, 0, 1, 0, 0, 0, 0, 0, 0, 0, 0, 0, 0xF0, 0x3F]),
   (.injectStop, rich .active, ent 8 [0]), (.learnControl, rich .active, ent 8 [0, 3]), (.loopMode, rich .active, ent 16 [0, 1]),
   (.stopQueueEdit, rich .active, ent 16 [1, 0, 0]), (.pfArm, rich .active, ent 8 [0, 1]), (.busPortCtrl, rich .active, ent 8 [0, 3]),
   (.safetyReset, rich .lockout, ent 0 []),
   (.cfgLoad, staging 1 [] (rich .standby), ent 16 (sref 64)), (.cfgReadback, rich .active, ent 20 ([0, 0, 0, 0, 0, 0, 0, 0] ++ sref 8)),
   (.pointRead, rich .active, ent 20 ([15, 0, 0, 0, 1, 0, 0, 0] ++ sref 128)), (.trendRead, rich .active, ent 28 ([0, 0, 0, 0, 1, 0, 0, 0, 0, 0, 0, 0, 0, 0, 0, 0] ++ sref 16)),
   (.forceList, rich .active, ent 16 ([0, 0, 0, 0] ++ sref 8)), (.captureRead, rich .active, ent 20 ([0, 0, 0, 0, 0, 0, 0, 0] ++ sref 8)),
   (.testReport, rich .active, ent 12 (sref 512)), (.faultLogRead, rich .active, ent 16 ([0xFF, 0x0F, 1, 0] ++ sref 64)),
   (.calReport, rich .active, ent 16 ([1, 7, 0, 0] ++ sref 8)), (.nodeTableRead, rich .active, ent 16 ([0xFF, 0x0F, 1, 0] ++ sref 8)),
   (.enable, rich .configured, ent 0 []), (.restart, rich .standby, ent 8 [1]), (.progStage, staging 1 [] (rich .standby), ent 0 []),
   (.handoverRequest, rich .active, ent 8 [1, 0]), (.fwStage, rich .standby, ent 24 (sref 16 ++ [0, 0, 0, 0, 16]))]

theorem test_accepted_covers_every_kind : ∀ o ∈ allOps, o.kind ≠ .i → (accepted.any fun x => decide (x.1 = o)) = true := by decide +kernel

theorem witness_AcceptedCommandsJoinTheQueue : ∀ x ∈ accepted, takesEntries x.2.1 = true ∧ (slotAt x.2.1 7).st = 0 ∧ cutEntry x.2.2 = x.2.2 ∧
    (hostCommands.any fun y => decide (y.2 = x.1)) = true ∧ acceptSteps (takeSlot x.2.1 7 0) x.1 x.2.2 = none := by decide +kernel

theorem witness_PacketsAreTestedInTheOrderOfTheTable :
    (takesEntries (inMode .active) = true ∧ (slotAt (inMode .active) 7).st = 0 ∧ acceptSteps (takeSlot (inMode .active) 7 0) .cfgOpen (ent 0 []) = some wrongMode) ∧
    (slotAt (takeSlot (inMode .active) 7 0) 7).st ≠ 0 ∧ (∀ o ∈ allOps, o.code ≠ 0xFFFF % 65536) := by decide +kernel

theorem witness_InstantCommandsAnswerAtOnce :
    (∀ o ∈ [Op.nop, .identify, .getMode, .groupStatus, .safetyStatus], permits o .active false = true) ∧ cutEntry (ent 0 []) = ent 0 [] ∧
    (ent 0 []).par = zeros 56 ∧ (inMode .active).cm.cmds = [] ∧
    (let s := { inMode .standby with cm := { CmdSt.init with fwDone := true } };
      takesEntries s = true ∧ permits .fwActivate s.md.mode s.md.recovery = true ∧ s.cm.fwDone = true ∧ cutEntry (ent 8 [1]) = ent 8 [1] ∧
      (ent 8 [1]).par = 1#8 :: zeros 55 ∧ s.cm.cmds = []) := by decide +kernel

theorem witness_StagedImagesAreCheckedForSyntax :
    (∀ x ∈ [(Op.cfgClose, Mode.unconfigured), (.progStage, .standby)], ∀ b ∈ [leastImage, []],
      takesEntries (staging 1 b (inMode x.2)) = true ∧ (slotAt (staging 1 b (inMode x.2)) 7).st = 0 ∧ usesSeg (ent 0 []) = false ∧
      acceptSteps (takeSlot (staging 1 b (inMode x.2)) 7 0) x.1 (cutEntry (ent 0 [])) = none) ∧
    (syntaxCheck leastImage).reason = 0 ∧ (syntaxCheck []).reason ≠ 0 := by decide +kernel

/-! ### Witnesses: the window, the ring, the registers -/

theorem witness_UnsupportedRequestsChangeNothing : off.md.mode = .reset ∧
    (let s := { State.reset with hp := { HostSt.init with d3 := true } }; s.md.straps.hostsel = false ∧ s.hp.d3 = true) := by decide +kernel

/-- The ring with HEAD 1,023 and TAIL 1,022: full. -/
def fullRing : State := { inMode .active with hp := { HostSt.init with head := 1023, tail := 1022, bells := [(3, 0), (2, 1022)] } }

theorem witness_DoorbellsAndTheRing :
    (hostUp State.reset = true ∧ ((1023#32).toNat % 1024 + 1024 - State.reset.hp.tail.val) % 1024 = 1023 ∧ (1#32).toNat < 1024) ∧
    (1023 - (fullRing.hp.tail.val + 1024 - fullRing.hp.head.val) % 1024 < ((1023#32).toNat % 1024 + 1024 - fullRing.hp.tail.val) % 1024) ∧
    1024 ≤ (1024#32).toNat ∧ takesEntries fullRing = true ∧ fullRing.hp.head ≠ fullRing.hp.tail ∧
    (after .ringEntryRead fullRing).hp.head = 0 ∧ (after .ringEntryRead fullRing).hp.bells = [(2, 1022)] ∧
    (tgtStatus (after .ringEntryRead fullRing) 3).getLsbD 1 = true ∧
    (∀ o ∈ allOps, o.code ≠ u16 (winBytes fullRing (64 * 1023) 64) 0 % 65536) ∧
    (∃ x ∈ hostCommands, x.2.code = 1) := by decide +kernel

theorem witness_ReleaseEmptiesTheReadySlot :
    (let s := { State.reset with cm := { CmdSt.init with slots := [(255, { Slot.empty with st := 2, tag := 0xFFFF })] } };
      hostUp s = true ∧ (slotAt s 255).st = 2 ∧ (slotAt s 255).tag = (0xFFFF#32).toNat % 65536 ∧ ¬ (slotAt s 255).tag = (0xFF#32).toNat % 65536) := by decide +kernel

theorem witness_DirectoryWritesFollowTheOwner :
    (dirOf State.reset 2).dev = false ∧ (dirOf State.reset 1023).dev = false ∧ (0x80000000#32).getLsbD 31 = true ∧ (dirOf State.reset 1).dev = true ∧
    (dirOf (rich_dir 2) 2).dev = true ∧ (1#32).getLsbD 0 = true ∧ (2#32).getLsbD 0 = false := by decide +kernel

theorem witness_WindowWritesReachHostOwnedSegments :
    (let s := rich_dir 3;
      hostUp s = true ∧ s.md.ready = true ∧ Tab.wf 0 s.hp.win = true ∧ (dirOf s ((196607 + 1) / 65536)).dev = true ∧ (dirOf s (196607 / 65536)).dev = false ∧
      ([some 1#8, some 2#8].getD 1 none).isSome = true ∧
      Tab.get (after (.bar2Write 196607 [some 1, some 2]) s).hp.win 0 196607 = 1 ∧ Tab.get (after (.bar2Write 196607 [some 1, some 2]) s).hp.win 0 196608 = 0) := by
  decide +kernel

theorem witness_RegisterWritesNeedWholeWords : hostUp State.reset = true ∧ (2 : Nat) % 4 ≠ 0 ∧ (none : Option Byte) ∈ [some 1#8, none] ∧
    (after (.registerWrite 0 0x0C ((leBytes 4 0x12345678).map some)) State.reset).hp.scratch = 0x12345678#32 := by decide +kernel

theorem witness_RegisterRowsAreWritesOfTheirRegister : hostUp State.reset = true ∧ State.reset.md.straps.hostsel = false ∧ State.reset.TimeOk :=
  ⟨by decide, by decide, by unfold State.TimeOk; decide⟩

theorem witness_TimeSnapshotCopiesTheTimebase : hostUp State.reset = true ∧ (after (.diagTimeSnap 77 1#32) State.reset).fr.snapT10 = 77 := by decide +kernel

theorem witness_QuadSpiReachesTheSameRegisters : hostUp spi = true ∧ spi.md.straps.hostsel = true ∧
    (after (.qspiRead 0 1 false) spi).hp.qspi = [0x01002880#32] ∧ (4 : Nat) % 4 = 0 ∧ (2 : Nat) % 4 ≠ 0 ∧ (0xFFFC : Nat) < 0x10000 := by decide +kernel

theorem witness_EndpointResetsAndLinkChanges : State.reset.md.straps.hostsel = false ∧ State.reset.md.mode ≠ .reset ∧ spi.md.straps.hostsel = true := by decide +kernel

/-! ### Witnesses: commands in progress, start-up, the frame, the links -/

/-- A copy command waiting for its copy, or copying. -/
def copy_ (op : Op) (ph : Phase) : Cmd := { due_ op with ph := ph, par := body_ 56 (sref 64) }

theorem witness_CopiesRunOneAtATime :
    ((copy_ .cfgLoad .wait).ph = .wait ∧ startFault (cmds_ .standby [copy_ .cfgLoad .wait]) (copy_ .cfgLoad .wait) ≠ none ∧
      startFault (cmds_ .active [copy_ .testReport .wait]) (copy_ .testReport .wait) = none) ∧
    (∃ d ∈ (cmds_ .active [copy_ .testReport .copying]).cm.cmds, d.ph = .copying) ∧ (∀ d ∈ (inMode .active).cm.cmds, d.ph ≠ .wait) ∧
    (copy_ .fwStage .copying).op = .fwStage ∧
    (let s := { cmds_ .standby [copy_ .cfgLoad .copying] with cfg := { CfgSt.init with stg := 1 } };
      s.cm.cmds = [] ++ copy_ .cfgLoad .copying :: [] ∧ s.cfg.stg = 1 ∧ (∀ d ∈ s.cm.cmds, d.op ≠ .cfgClose)) := by decide +kernel

def chunk (par : List Nat) (total : Nat) : State :=
  let s := cmds_ .standby [{ due_ .fwStage with ph := .long, par := body_ 56 par }]
  { s with cm := { s.cm with fwTotal := total } }

theorem witness_FirmwareChunksMakeUpTheSet :
    ((chunk (sref 1) 2).cm.cmds.find? (fun d => decide (d.op = .fwStage ∧ d.ph = .long))).isSome = true ∧
    ((chunk (sref 1) 2).cm.fwBytes ++ winBytes (chunk (sref 1) 2) (65536 * 2) 1).length < 2 ∧
    (1 ≤ (winBytes (chunk (sref 1) 1) (65536 * 2) 1).length ∧ crc32 (winBytes (chunk (sref 1) 1) (65536 * 2) 1) = 0xD202EF8D ∧
      p32 (body_ 56 (sref 1 ++ [0, 0, 0, 0, 1, 0, 0, 0, 0x8D, 0xEF, 0x02, 0xD2])) 28 = 0xD202EF8D) ∧
    crc32 (winBytes (chunk (sref 1) 1) (65536 * 2) 1) ≠ p32 (body_ 56 (sref 1)) 28 := by decide +kernel

def checking (img : List Byte) (cur : Origin) : State := { inMode .checking with cfg := { CfgSt.init with running := true, cur := cur, img := img } }

theorem witness_OnlyAPassedEnableWritesTheStore :
    ((checking leastImage .enable).cfg.running = true ∧ (checking leastImage .enable).cfg.done = none ∧ (checking leastImage .enable).cfg.cur = .enable) ∧
    (runCheck false (checking [] .enable) { scDiff := false, attarDiff := none, answers := [] } []).reason ≠ 0 ∧
    (checking leastImage .restart).cfg.cur ≠ .enable ∧ State.reset.cfg.running = false ∧
    (let s := { inMode .checking with cfg := { CfgSt.init with storing := true } }; s.md.mode = .checking ∧ s.cfg.storing = true) ∧
    (checking leastImage .progStage).cfg.cur = .progStage := by decide +kernel

theorem witness_ResetDiscardsWhatIsNotKept : State.reset.md.mode ≠ .reset ∧ { ModeSt.init with fwReset := true }.fwReset = true ∧ off.md.mode = .reset ∧
    State.reset.md.fwReset = false ∧ State.reset.cfg.storing = false := by decide +kernel

theorem witness_LeavingResetChoosesTheBank : off.md.mode = .reset ∧
    (let m := { MramSt.init with okA := false, okB := true, trial := true, trialLeft := 0 };
      (m.trial && decide (m.trialLeft = 0)) = true ∧ bankOk { off with mram := m } true = true ∧ bankOk { off with mram := m } false = false) ∧
    bankOk { off with mram := { MramSt.init with okA := false } } true = false := by decide +kernel

theorem witness_BootEndsInTheModeTheStoreAsksFor : State.reset.md.mode = .boot ∧ State.reset.md.recovery = false ∧ State.reset.md.bootDue = false ∧
    (after .bootComplete State.reset).md.bootDue = true ∧ (after .bootComplete State.reset).md.mode = .boot ∧ State.reset.mram.enabled = false ∧
    { MramSt.init with enabled := true }.enabled = true ∧ { Straps.open_ with bootsel := true }.bootsel = true ∧ Straps.open_.bootsel = false ∧
    State.reset.md.straps.coldN = true ∧ { Straps.open_ with coldN := false }.coldN = false ∧
    (let m := { MramSt.init with enabled := true, image := leastImage, jA := { MramSt.init.jA with valid := true, imageCrc := imgCrc leastImage } };
      ∃ j ∈ [m.jA, m.jB], m.enabled = true ∧ j.valid = true ∧ j.imageCrc = imgCrc m.image) := by decide +kernel

theorem witness_TheTickStartsTheNextFrame : State.reset.md.mode ≠ .reset ∧ off.md.mode = .reset ∧ mayStep (inMode .active).md.mode = false ∧
    (endFrame tick0 (inMode .configured)).gr.stepTo = none ∧ mayStep .configured = true ∧
    (endFrame tick0 { inMode .configured with gr := { GroupSt.init with stepTo := some (500000, 7) } }).gr.stepTo = some (500000, 7) ∧
    (after (.tick tick0) { inMode .configured with gr := { GroupSt.init with stepTo := some (500000, 7) } }).fr.t10 = 500000 ∧
    State.reset.md.mode = .boot ∧ (startFrame (endFrame tick0 State.reset)).md.bootDue = false ∧
    (after (.tick tick0) (inMode .active)).fr.t10 = 100000 ∧ (after (.tick tick0) (inMode .active)).fr.frame = 1 := by decide +kernel

/-- A unit in ACTIVE, its frame late by a phase or not. -/
def slot_ (late : Nat) : State := { inMode .active with fr := { FrameSt.init with late := late } }

theorem witness_TheSlotFreezesTheFrameOrCountsAnOverrun :
    ((slot_ 0).fr.slotDone = false ∧ (slot_ 0).gr.waiting = false ∧ (after .outputTransferSlot (slot_ 0)).fr.frozen.isSome = true) ∧
    ((slot_ 3).fr.late ≠ 0 ∧ (after .outputTransferSlot (slot_ 3)).fr.ovrCount = 1) ∧ { GroupSt.init with waiting := true }.waiting = true ∧
    State.reset.md.mode = .boot := by decide +kernel

def img_ (n : Nat) (driven : Bool) : OutImg := { frame := n, driven := driven, strap := false, dos := [(0, F64.one)], aos := [(0, F64.one)] }
def frozen_ : Frozen := { frame := 0, mode := .active, page := Page.init, at_ := 50000 }
/-- After the slot of frame 0, an image arrived at the field controller and at bank 7, the latter of another frame. -/
def arrived_ : State :=
  { inMode .active with fr := { FrameSt.init with slotDone := true, frozen := some frozen_, arrived := [(0, some (img_ 0 true)), (8, some (img_ 5 true))] } }

theorem witness_TheCommitMovesTheImagesThatArrived :
    (arrived_.fr.slotDone = true ∧ arrived_.fr.toApply = none ∧ arrived_.fr.commitDone = false ∧ (Tab.get (after (.commit true) arrived_).fr.pend none 0).isSome = true ∧
      (Tab.get (after (.commit true) arrived_).fr.pend none 8).isSome = false) ∧
    (let s := { State.reset with fr := { FrameSt.init with ovrRun := 3 } }; s.fr.ovrLimit ≤ s.fr.ovrRun ∧ 0 < s.fr.ovrRun) ∧
    State.reset.fr.ovrRun < State.reset.fr.ovrLimit := by decide +kernel

theorem witness_TheApplyDrivesThePendingImages :
    (let s := { inMode .active with fr := { FrameSt.init with toApply := some frozen_, pend := [(0, some (img_ 0 true)), (1, some (img_ 0 true))] } };
      s.fr.toApply = some frozen_ ∧ frozen_.at_ < s.fr.next ∧ State.reset.fr.next ≤ { frozen_ with at_ := 100000 }.at_ ∧ pinImg s 0 = some (img_ 0 true) ∧ pinImg s 1 = some (img_ 0 true) ∧ pinImg s 2 = none ∧
        (doCh (after .apply s) 0).cmd = F64.one) ∧
    pinImg (inMode .active) 0 = none ∧
    (let s := { inMode .active with cfg := { CfgSt.init with run := [rec_ 0x0605 0 (body_ 48 [1, 0, 0, 0, 2, 0, 0, 0, 1])] },
                                    ce := { CeSt.init with caps := [(0, { Capture.init with st := 2, trigged := true })] } };
      capFull s 0 = true) ∧ capFull State.reset 15 = false := by decide +kernel

theorem witness_LinkTransfersAreTakenOrDiscarded : off.md.mode = .reset ∧ (inMode .active).md.mode ≠ .reset ∧ imgReceiver .field = some 0 ∧ imgReceiver (.ob 7) = some 8 ∧
    imgReceiver .attar = none ∧ (after .outputTransferSlot (slot_ 0)).fr.outImg.isSome = true := by decide +kernel

theorem witness_ClocksAndSyncInputs :
    (inMode .active).md.mode ≠ .reset ∧ timeMaster (inMode .active) = true ∧
    (let s := { inMode .standby with fr := { FrameSt.init with status := 0x40#32 } }; timeMaster s = false ∧ tbLocked s = true) ∧
    (let s := { inMode .standby with fr := { FrameSt.init with status := 0 } }; timeMaster s = false ∧ tbLocked s = false) ∧
    ((-10 : Int) ≤ 10 ∧ (10 : Int) < 11) ∧
    (let s := { inMode .active with fr := { FrameSt.init with syncIn := 1, t10 := 25000, syncMiss := 3 } };
      s.fr.syncIn ≠ 0 ∧ (edgeError s).2.natAbs ≤ s.fr.fUs * 25 ∧ s.fr.missLimit ≤ s.fr.syncMiss + b2n (edgeMissing s)) ∧
    (let s := { inMode .active with fr := { FrameSt.init with syncIn := 1, t10 := 25001 } }; s.fr.fUs * 25 < (edgeError s).2.natAbs) ∧
    State.reset.fr.syncIn = 0 ∧ off.md.mode = .reset ∧ true ≠ State.reset.fr.syncFall ∧ false = State.reset.fr.syncFall ∧
    GroupSt.init.agrees = false ∧ { GroupSt.init with agrees := true }.agrees = true := by decide +kernel

theorem witness_TheFieldWatchdogTripsAReceiver :
    (let s := { inMode .active with fr := { FrameSt.init with next := 10000001 }, dio := { DioSt.init with arm := 0x101 } };
      s.dio.arm.toNat.testBit 0 = true ∧ s.dio.arm.toNat.testBit 8 = true ∧ s.dio.trip.toNat.testBit 8 = false ∧ Tab.get s.dio.lastImg 0 8 + fwdTimeout s < s.fr.next) ∧
    (let s := { inMode .active with fr := { FrameSt.init with next := 1 }, dio := { DioSt.init with arm := 1, lastImg := [(0, 1)] } }; s.dio.arm.toNat.testBit 0 = true ∧ s.fr.next ≤ Tab.get s.dio.lastImg 0 0 + fwdTimeout s) ∧ { DioSt.init with trip := 1 }.trip.toNat.testBit 0 = true ∧
    State.reset.dio.arm.toNat.testBit 0 = false := by decide +kernel

/-! ### Witnesses: inputs and outputs -/

/-- DI 0 and SI 31 fed by generator 7, which is on. -/
def fed (g : TpGen) (t10 next : Nat) (best : Nat) : State :=
  let s := cfgd .active [rec_ 0x0201 0 (body_ 16 [3, 0, 0, 0, 7]), rec_ 0x0202 31 (body_ 16 [3, 0, 0, 0, 7]), rec_ 0x0203 7 (body_ 8 [1, 0])]
  { s with fr := { FrameSt.init with t10 := t10, next := next },
           dio := { DioSt.init with tp := [(7, { g with on := true })], diT := [(0, { TpTest.init with best := best })], siT := [(31, { TpTest.init with best := best })] } }

theorem witness_InputsAreFilteredAndTested :
    (nextSample (inMode .active) ≤ (inMode .active).fr.next ∧ held (fed { TpGen.init with holdEnd := 201 } 100 1000 0) 0x0201 0 200 = true ∧
      held (fed { TpGen.init with holdEnd := 200 } 100 1000 0) 0x0201 0 200 = false ∧ inPulse (fed { TpGen.init with pulse := true } 0 100 0) 0x0202 31 100 = true ∧
      inPulse (fed TpGen.init 0 100 0) 0x0201 0 100 = false) ∧
    (let s := { inMode .active with fr := { FrameSt.init with t10 := 99950, next := 99999 } }; s.fr.next < nextSample s) ∧
    (let a := fed TpGen.init 1750000 2000000 0;
      (tpGen a 7).pulse = false ∧ (cfgRec a 0x0203 7).isSome = true ∧ a.fr.t10 % 250000 = 0 ∧ a.fr.t10 / 250000 % 8 = 7 ∧ (tpGen a 7).from_ ≤ a.fr.t10 ∧ (tpGen a 7).prev = none) ∧
    (let a := fed { TpGen.init with prev := some 1750000 } 3750000 4000000 0; (tpGen a 7).prev = some 1750000 ∧ 1750000 + tpPeriod a 7 ≤ a.fr.t10) ∧
    (tpGen (inMode .active) 0).on = false ∧
    (let s := fed { TpGen.init with pulse := true, prev := some 1750000 } 1750000 1900000 50;
      (tpGen s 7).pulse = true ∧ (tpGen s 7).prev.getD 0 + tpWidth s 7 < s.fr.next ∧ pulsePasses s 7 = true ∧ tpSource s 0x0201 0 = some 7) ∧
    (let s := fed { TpGen.init with pulse := true, prev := some 1750000 } 1750000 1750001 49;
      s.fr.next ≤ (tpGen s 7).prev.getD 0 + tpWidth s 7 ∧ pulsePasses s 7 = false) := by decide +kernel

/-- DO 63 configured with two retries and FLAGS, commanded by a channel state. -/
def outp (flags : Nat) (d : DoCh) (g : DoGroup) : State :=
  let s := cfgd .active [rec_ 0x0204 63 (body_ 16 [flags, 1, 2]), rec_ 0x0205 7 (body_ 16 [1])]
  { s with fr := { FrameSt.init with t10 := 20000000, next := 20100000 }, dio := { DioSt.init with ch := [(63, d)], grp := [(7, g)] } }

theorem witness_OutputsSwitchOffUnderOverload :
    (doIsOn (outp 0 { DoCh.init with cmd := F64.one, retries := 1 } DoGroup.init) 63 = true ∧ u8 (cfgBody (outp 0 DoCh.init DoGroup.init) 0x0204 63) 2 = 2) ∧
    doIsOn (outp 0 { DoCh.init with cmd := F64.one, retries := 2 } DoGroup.init) 63 = true ∧ doIsOn (outp 0 DoCh.init DoGroup.init) 63 = false ∧
    (let s := outp 0 { DoCh.init with cmd := F64.one, held := true } DoGroup.init;
      (doCh s 63).held = true ∧ (doCh s 63).cmd ≠ 0 ∧ (doGrp s 7).missing = false ∧ (doGrp s 7).ackWait = false) ∧
    (doGrp (outp 0 DoCh.init { DoGroup.init with ackWait := true }) 7).ackWait = true ∧ doFlag (outp 1 DoCh.init DoGroup.init) 63 0 = true ∧
    extEvaluated (outp 0 DoCh.init DoGroup.init) 63 = true ∧ extEvaluated (outp 1 DoCh.init DoGroup.init) 63 = false ∧
    darkAllowed (outp 4 { DoCh.init with cmd := F64.one } DoGroup.init) 63 false = true ∧ darkAllowed (outp 4 { DoCh.init with cmd := F64.one, since := 10000001 } DoGroup.init) 63 false = false ∧
    darkAllowed (outp 6 { DoCh.init with cmd := F64.one } DoGroup.init) 63 true = false ∧ darkAllowed (outp 6 { DoCh.init with cmd := F64.one } DoGroup.init) 63 false = true ∧
    (let s := { outp 1 DoCh.init DoGroup.init with fr := { FrameSt.init with next := 1000000001 } };
      (doCh s 63).since + 1000000000 < s.fr.next ∧ gateShut s 0 = false ∧ doFlag s 63 0 = true ∧ (s.fr.t10 - s.dio.pwmAt) % (pwmUs s 63 * 100) = 0) ∧
    (outp 1 DoCh.init DoGroup.init).fr.next ≤ (doCh (outp 1 DoCh.init DoGroup.init) 63).since + 1000000000 := by decide +kernel

theorem witness_GroupSupplyAndReleases :
    (doGrp (outp 0 DoCh.init { DoGroup.init with missing := true }) 7).missing = true ∧ (doGrp (outp 0 DoCh.init DoGroup.init) 7).missing = false ∧
    hostUp (outp 0 DoCh.init DoGroup.init) = true ∧
    (let s := outp 0 { DoCh.init with latchOff := true } DoGroup.init; (doCh s 63).latchOff = true ∧ (doCh s 63).release = 0 ∧ (0x80000000#32).getLsbD (63 % 32) = true) := by decide +kernel

theorem witness_ADarkTestEndsWithAVerdict :
    (doCh (outp 0 { DoCh.init with dark := true } DoGroup.init) 63).dark = true ∧ (doCh (outp 0 DoCh.init DoGroup.init) 63).dark = false := by decide +kernel

/-- Bank 5 or, for the outputs, 7, in a step. -/
def bank5 (B : RotBank) : State :=
  { inMode .active with fr := { FrameSt.init with t10 := 102000, next := 200000 }, an := { AnSt.init with ab := [(5, B)] } }
def bank7 (B : RotBank) : State := { inMode .active with an := { AnSt.init with ob := [(7, B)] } }

theorem witness_ConversionsAndTheRotation :
    (posOf (aiBank (bank5 RotBank.ai) 5) 7 = some 7 ∧ (aiBank (bank5 RotBank.ai) 5).ph ≠ .compare) ∧
    (let B := { RotBank.ai with ph := .compare, pos := 7, newT := 1 };
      posOf (aiBank (bank5 B) 5) 7 = some 7 ∧ (aiBank (bank5 B) 5).ph = .compare ∧ 1 ≠ 102000 - 2000 - aiWindow (bank5 B) 47 / 2 ∧
      posOf (aiBank (bank5 B) 5) 8 = none ∧ (aiBank (bank5 B) 5).spare = some 8 ∧ (aiBank (bank5 B) 5).oldT ≠ 102000 - 2000 - aiWindow (bank5 B) 47 / 2) ∧
    (let B := { RotBank.ai with ph := .compare, pos := 7, oldT := 102000 - 2000 - aiWindow State.reset 47 / 2, discard := 2 };
      (aiBank (bank5 B) 5).oldT = 102000 - 2000 - aiWindow (bank5 B) 47 / 2 ∧ (aiBank (bank5 B) 5).discard < 3) ∧
    (let B := { RotBank.ai with spare := none }; posOf (aiBank (bank5 B) 5) 8 = none ∧ (aiBank (bank5 B) 5).spare ≠ some 8) ∧
    (9 * (bank5 RotBank.ai).an.bootEnd + (aiBank (bank5 RotBank.ai) 5).step * (rotPeriod (bank5 RotBank.ai) 5 * 100000000) ≤ 9 * (bank5 RotBank.ai).fr.tick ∧
      (aiBank (bank5 RotBank.ai) 5).ph = .idle) ∧
    ((102000 - 2000) % aiWindow (bank5 RotBank.ai) 47 = 0 ∧ ¬ (102001 - 2000) % aiWindow (bank5 RotBank.ai) 47 = 0) ∧
    ((bank5 RotBank.ai).an.noLink.getLsbD 5 = false ∧ ({ AnSt.init with noLink := 0x20 } : AnSt).noLink.getLsbD 5 = true ∧
      8 ≤ Tab.get ({ AnSt.init with miss := [(5, 8)] } : AnSt).miss 0 5) ∧
    (aiBank (bank5 { RotBank.ai with refFault := true }) 5).refFault = true ∧ stepReady (bank7 RotBank.ao) true 7 = true ∧
    stepReady (bank7 { RotBank.ao with spare := none }) true 7 = false := by decide +kernel

theorem witness_CalibrationsKeepOrRetireConverters :
    ((bankOf (bank7 { RotBank.ao with measuring := some 4 }) true 7).measuring = some 4 ∧ RotBank.ao.restore = none ∧ calPasses true 20000 0 20000000 = true ∧
      refPasses true 7 0 20100000 0 = true ∧ calPasses true 20001 0 20000000 = false ∧ refPasses true 7 0 20100001 0 = false) ∧
    (bankOf (bank7 { RotBank.ao with measuring := some 4, lastIFail := true }) true 7).lastIFail = true ∧
    ((bankOf (bank7 { RotBank.ao with refFault := true }) true 7).measuring = none ∧ (bankOf (bank7 { RotBank.ao with refFault := true }) true 7).refFault = true) ∧
    (bankOf (bank7 RotBank.ao) true 7).refFault = false ∧
    ((bankOf (bank7 { RotBank.ao with ph := .decide }) true 7).spare = some 4 ∧
      spareDrifted (bank7 { RotBank.ao with ph := .decide }) true 7 (calOf (bank7 RotBank.ao) true 7 4) 2401 ((calOf (bank7 RotBank.ao) true 7 4).u) = true ∧
      spareDrifted (bank7 { RotBank.ao with ph := .decide }) true 7 (calOf (bank7 RotBank.ao) true 7 4) 2400 ((calOf (bank7 RotBank.ao) true 7 4).u) = false) ∧
    hostUp (inMode .active) = true := by decide +kernel

def aoIn (x : AoCh) (sp : Option Nat) : State :=
  { cfgd .active [rec_ 0x0304 31 (body_ 32 [0, 0, 0, 1])] with an := { AnSt.init with ao := [(31, x), (30, x)], ob := [(7, { RotBank.ao with spare := sp })] } }

theorem witness_OutputsEnterComplianceAndMismatch :
    (3 ≤ (aoCh (aoIn { AoCh.init with lowSatRun := 3 } none) 31).lowSatRun ∧ (aoCh (aoIn AoCh.init none) 31).lowSatRun < 3) ∧
    (let s := aoIn { AoCh.init with compliance := true, nearRun := 3 } none;
      (aoCh s 30).compliance = true ∧ u8 (cfgBody s 0x0304 30) 3 ≠ 1 ∧ 3 ≤ (aoCh s 30).nearRun ∧ u8 (cfgBody s 0x0304 31) 3 = 1) ∧
    (3 ≤ (aoCh (aoIn { AoCh.init with diffRun := 3 } none) 31).diffRun ∧ (aoBank (aoIn AoCh.init none) 7).spare = none ∧
      (aoBank (aoIn AoCh.init (some 4)) 7).spare.isSome = true) ∧
    ((aoCh (aoIn { AoCh.init with parallel := true } none) 31).parallel = true ∧
      F64.le (F64.abs (F64.sub (frac64 5 100) AoCh.init.rbLive)) (frac64 5 100) = true ∧
      F64.le (F64.abs (F64.sub (frac64 6 100) AoCh.init.rbLive)) (frac64 5 100) = false) ∧
    hostUp (aoIn AoCh.init none) = true ∧ (aoCh (aoIn { AoCh.init with mismatch := true } none) 31).mismatch = true := by decide +kernel


/-! ### Witnesses: position and frequency -/

/-- PF channel 7 in a frame, with PF_CHANNEL fields and a switch table of one entry: SW3, falling, any direction, window 2 at 10. -/
def pfc (l : List Nat) (x : PfCh) : State :=
  { cfgd .active [rec_ 0x0401 7 (body_ 40 l), rec_ 0x0402 7 (body_ 24 ([1, 0, 1, 0, 0, 0, 0, 0, 10, 0, 0, 0, 0, 0, 0, 0, 2, 0, 0, 0, 3, 1, 0, 0]))] with
    fr := { FrameSt.init with t10 := 20000000, next := 20100000, tick := 20000000 },
    pf := { PfSt.init with ch := [(7, { x with decoded := true })] } }

/-- Incremental, INDEX_MODE m, INDEX_GATE g; the latch input on edge e. -/
def quad (flags m g e : Nat) (x : PfCh) : State := pfc [1, flags, 0, m, g, 0, 0, 0, 0, 0, 0, 0, 2, e] x

def fullFifo (n : Nat) : List FifoEntry := List.replicate n { stamp := 0, pos := 0, kind := 2, dir := false, sw := 0, rising := true, seq := 0 }

theorem witness_IncrementalChannelsCountAndLatch :
    (pfCounts (quad 0 0 0 0 PfCh.init) 7 = true ∧ pfCounts (quad 0 0 0 0 { PfCh.init with lineFault := true }) 7 = false ∧
      pfFlag (quad 6 0 0 0 PfCh.init) 7 1 = true ∧ pfFlag (quad 6 0 0 0 PfCh.init) 7 2 = true ∧
      (pfCh (quad 0 0 0 0 { PfCh.init with cmpArmed := true, compare := 1 }) 7).cmpArmed = true ∧
      (pfCh (quad 0 0 0 0 { PfCh.init with cmpArmed := true, compare := 1 }) 7).r + 1 = (pfCh (quad 0 0 0 0 { PfCh.init with cmpArmed := true, compare := 1 }) 7).compare) ∧
    (quadStep false false false false = none ∧ quadStep false false true true = some none ∧ quadStep false false true false ≠ none ∧
      quadStep false false true false ≠ some none ∧ off.md.mode = .reset ∧ (quad 0 0 0 0 PfCh.init).md.mode ≠ .reset ∧
      (quad 0 0 0 0 PfCh.init).fr.t10 + 1 < (quad 0 0 0 0 PfCh.init).fr.next ∧ (quad 0 0 0 0 PfCh.init).fr.next ≤ (quad 0 0 0 0 PfCh.init).fr.t10 + 100000 ∧
      cmpDriven (quad 0 0 0 0 PfCh.init) = true ∧ cmpDriven { quad 0 0 0 0 PfCh.init with md := { ModeSt.init with mode := .safeHold } } = false) ∧
    (idxQualified (quad 0 1 4 0 PfCh.init) 7 = true ∧ idxQualified (quad 0 1 3 0 { PfCh.init with la := true, lb := true }) 7 = true ∧
      (pfCh (quad 0 1 4 0 PfCh.init) 7).lz = false ∧ (pfCh (quad 0 1 4 0 { PfCh.init with lz := true }) 7).lz = true ∧ u8 (pfBody (quad 0 1 4 0 PfCh.init) 7) 2 ≤ 0 ∧
      idxQualified (quad 0 1 3 0 { PfCh.init with la := true }) 7 = false ∧ u8 (pfBody (quad 0 1 4 0 PfCh.init) 7) 3 = 1 ∧
      u8 (pfBody (quad 0 2 4 0 { PfCh.init with armed := true }) 7) 3 = 2 ∧ (pfCh (quad 0 2 4 0 { PfCh.init with armed := true }) 7).armed = true ∧
      u8 (pfBody (quad 0 0 4 0 PfCh.init) 7) 3 ≠ 1) ∧
    ((pfCh (quad 0 0 0 2 { PfCh.init with fifo := fullFifo 15 }) 7).decoded = true ∧ u8 (pfBody (quad 0 0 0 2 PfCh.init) 7) 13 = 2 ∧
      (u8 (pfBody (quad 0 0 0 2 PfCh.init) 7) 12).testBit 1 = true ∧ (pfCh (quad 0 0 0 2 { PfCh.init with fifo := fullFifo 15 }) 7).fifo.length < 16 ∧
      16 ≤ (pfCh (quad 0 0 0 0 { PfCh.init with fifo := fullFifo 16 }) 7).fifo.length ∧ u8 (pfBody (quad 0 0 0 1 PfCh.init) 7) 13 ≠ 0) ∧
    (pfFlag (quad 1 0 0 0 PfCh.init) 7 0 = true ∧ pfFlag (quad 0 0 0 0 PfCh.init) 7 0 = false ∧
      switchMatch (quad 1 0 0 0 { PfCh.init with c := 8 }) 7 3 false = some 2 ∧ switchMatch (quad 1 0 0 0 { PfCh.init with c := 12 }) 7 3 false = some (-2) ∧
      switchMatch (quad 1 0 0 0 { PfCh.init with c := 7 }) 7 3 false = none ∧ switchMatch (quad 1 0 0 0 { PfCh.init with c := 8 }) 7 3 true = none ∧
      corrects (quad 1 0 0 0 PfCh.init) 7 = true ∧ (advance (quad 1 0 0 0 PfCh.init) 100).fr.t10 % 100 = 0 ∧ (advance (quad 1 0 0 0 PfCh.init) 1).fr.t10 % 100 ≠ 0 ∧
      u16 (pfBody (pfc [1, 1, 0, 0, 0, 0, 0, 0, 0, 0, 0, 0, 2, 0, 3] PfCh.init) 7) 14 = 3) ∧
    ((pfCh (quad 0 0 0 0 { PfCh.init with cmpOn := true, cmpEnd := 20050000 }) 7).cmpOn = true ∧ 20050000 < (quad 0 0 0 0 PfCh.init).fr.next ∧
      (quad 0 0 0 0 PfCh.init).fr.next ≤ (pfCh (quad 0 0 0 0 { PfCh.init with cmpEnd := 20100000 }) 7).cmpEnd) ∧
    hostUp (quad 0 0 0 0 PfCh.init) = true := by decide +kernel

/-- SSI of 16 bits at bit 0, a word every us microseconds (0: every frame), error bit 20, FAIL_LIMIT 3, CRC of k bits. -/
def ssi (us k : Nat) (x : PfCh) : State :=
  pfc [3, 0x10, 0, 0, 0, 0, 0, 0, 0, 0, 0, 0, 0, 0, 0, 0, 0, 0, 0, 0, 0, 0, 0, 0, 0, 0, 24, 16, 0, 20, 0xFF, k, 3, 0, us % 256, us / 256, 0, 3] x

theorem witness_SerialChannelsTakeWords :
    ((pfCh (ssi 0 0 PfCh.init) 7).decoded = true ∧ pfSerial (ssi 0 0 PfCh.init) 7 = true ∧ (pfCh (ssi 0 0 PfCh.init) 7).serBusy = false ∧
      u16 (pfBody (ssi 0 0 PfCh.init) 7) 34 = 0 ∧ (advance (ssi 0 0 PfCh.init) 0).fr.t10 = (ssi 0 0 PfCh.init).fr.tick ∧
      u16 (pfBody (ssi 500 0 PfCh.init) 7) 34 = 500 ∧ (advance (ssi 500 0 PfCh.init) 50000).fr.t10 % (500 * 100) = 0) ∧
    (pfSerial (quad 0 0 0 0 PfCh.init) 7 = false ∧ (pfCh (ssi 0 0 { PfCh.init with serBusy := true }) 7).serBusy = true) ∧
    (serCrcOk (ssi 0 4 { PfCh.init with serBusy := true }) 7 1 0 = false ∧ serCrcOk (ssi 0 4 { PfCh.init with serBusy := true }) 7 0 0 = true ∧
      serCrcOk (ssi 0 0 { PfCh.init with serBusy := true }) 7 1 1 = true ∧
      serBit (ssi 0 0 PfCh.init) 7 0x100000 20 = true ∧ serBit (ssi 0 0 PfCh.init) 7 0xFFFF 20 = false ∧ u8 (pfBody (ssi 0 0 PfCh.init) 7) 29 = 20 ∧
      pfFlag (ssi 0 0 PfCh.init) 7 4 = true ∧ (pfCh (ssi 0 0 { PfCh.init with serPrev := some 0xFFFF }) 7).serPrev = some 0xFFFF ∧
      (pfCh (ssi 0 0 PfCh.init) 7).serPrev = none ∧ (pfCh (ssi 0 0 { PfCh.init with serBusy := true, lineFault := true }) 7).lineFault = true ∧
      serPosition (ssi 0 0 PfCh.init) 7 1 = 1 ∧ (pfCh (ssi 0 0 { PfCh.init with cmpArmed := true, compare := 1 }) 7).compare = 1 ∧
      (pfCh (ssi 0 0 { PfCh.init with serErr := true }) 7).serErr = true) ∧
    (u8 (pfBody (ssi 0 0 PfCh.init) 7) 37 ≤ (pfCh (ssi 0 0 { PfCh.init with failRun := 3 }) 7).failRun ∧
      (pfCh (ssi 0 0 { PfCh.init with failRun := 2 }) 7).failRun < u8 (pfBody (ssi 0 0 PfCh.init) 7) 37) := by decide +kernel

/-! ### Witnesses: the engine and the points -/

/-- Stage 511: an INJECT (PRBS, or a chirp of 2 ms) with a state. -/
def inj (chirp : Bool) (x : Stage) : State :=
  let s := cfgd .active [rec_ 0x0602 511 (body_ 72 ([0x0B, 0, 0, 0, 0, 0, 0, 0, 0, 0, 0, 0, 0, 0, 0, 0, 0, 0, 0, 0, 0, 0, 0, 0, b2n chirp, 0, 0, 0, 2, 0, 0, 0])),
    rec_ 0x0602 8 (body_ 72 [1])]
  { s with fr := { FrameSt.init with fUs := 1000 }, ce := { s.ce with stages := [(511, x)] } }

theorem witness_EngineWindowsAndInjections :
    (let x := { Stage.init with running := true, frames := 5, k := 5 };
      (stage (inj false x) 511).running = true ∧ 0 < (stage (inj false x) 511).frames ∧ (stage (inj false x) 511).frames ≤ (stage (inj false x) 511).k) ∧
    (let x := { Stage.init with running := true, k := 2 };
      (stage (inj true x) 511).running = true ∧ u8 (stBody (inj true x) 511) 24 = 1 ∧
      u32 (stBody (inj true x) 511) 28 * 1000 ≤ (stage (inj true x) 511).k * (inj true x).fr.fUs) ∧
    (let x := { Stage.init with running := true, frames := 5, k := 4 };
      ¬ ((0 < (stage (inj false x) 511).frames ∧ (stage (inj false x) 511).frames ≤ (stage (inj false x) 511).k) ∨
        (u8 (stBody (inj false x) 511) 24 = 1 ∧ u32 (stBody (inj false x) 511) 28 * 1000 ≤ (stage (inj false x) 511).k * (inj false x).fr.fUs))) ∧
    (stage (inj false Stage.init) 511).running = false ∧ hostUp (inj false Stage.init) = true ∧
    ((0x3FF#32).getLsbD 9 = true ∧ (0x3FF#32).toNat % 512 = 511 ∧ stBody (inj false Stage.init) 511 ≠ [] ∧ stBody (inj false Stage.init) 510 = [] ∧
      (0x1FF#32).getLsbD 9 = false) ∧
    ((0x10#32).getLsbD 4 = true ∧ (0xF#32).getLsbD 4 = false ∧ stOfOrd (inj false Stage.init) 1 ((0x10#32).toNat % 16) = some 8 ∧
      stOfOrd (inj false Stage.init) 1 ((0x11#32).toNat % 16) = none) := by decide +kernel

def range23 : List Nat := [2, 0, 0, 0, 2, 0, 0, 0, 2, 0, 0, 0, 0, 0, 0, 0, 0, 0, 0, 0, 0xFF, 0xFF]

/-- A queue of a frame that takes one input of slot 3, in a range of slots 2 and 3 without alarms and trend. -/
def queued (m : Mode) (qf now : Nat) (late : Option Nat) : State :=
  let s := cfgd m [rec_ 0x0A01 0 (body_ 32 range23)]
  { s with fr := { FrameSt.init with frame := now },
           pt := { s.pt with lateFor := late, queues := [{ frame := qf, tick := 0, ins := [{ slot := 3, v := F64.one, q := .good, off := 0 }], outs := [], writes := [] }] } }

/-- Subscription 31 into segments 2 and 3, from frame 10, every second one, in a state whose latest queue is of frame n. -/
def subbed (n : Nat) (late : Bool) (handled : Nat) (dev : Bool) : State :=
  let s := inMode .active
  { s with cm := { s.cm with subs := [(31, some { first := 0, count := 1, decim := 2, segFirst := 2, segCount := 2, target := 0, n0 := 10, next := 1, seq := 0, missed := 0, handled := handled })] },
           pt := { s.pt with applied := some n, appliedLate := late },
           hp := { HostSt.init with dir := [(3, { Dir.init with dev := dev })] } }

theorem witness_PointQueuesAndSnapshots :
    ((inMode .active).pt.queues = [] ∧ (queued .active 5 5 none).fr.frame ≤ 5 ∧ (queued .active 5 6 none).fr.frame = 6 ∧
      (queued .active 5 6 none).md.mode ≠ .checking ∧ (queued .checking 5 6 none).md.mode = .checking) ∧
    (let s := queued .active 5 6 none;
      s.pt.queues = [{ frame := 5, tick := 0, ins := [{ slot := 3, v := F64.one, q := .good, off := 0 }], outs := [], writes := [] }] ∧ (dueSnapshots s).pt.acks = [] ∧
        rangeOf (dueSnapshots s).cfg.run 3 = some (body_ 32 range23) ∧ alarmTpl (dueSnapshots s).cfg.run (body_ 32 range23) = none ∧ ringLen (dueSnapshots s).cfg.run (body_ 32 range23) = 0) ∧
    ((queued .active 5 5 none).fr.frame + 1 < 5 + 2 ∧ 5 + 2 ≤ (queued .active 5 6 none).fr.frame + 1 ∧
      (queued .active 5 6 none).pt.lateFor ≠ some 7 ∧ (queued .active 5 6 (some 7)).pt.lateFor = some ((queued .active 5 6 none).fr.frame + 1)) ∧
    (Tab.get (subbed 12 false 0 true).cm.subs none 31 ≠ none ∧ Tab.get (subbed 12 false 0 true).cm.subs none 30 = none ∧ (inMode .active).pt.applied = none ∧
      (subbed 12 false 12 true).pt.applied = some 12 ∧ (12 - 10) % max 2 1 = 0 ∧ (11 - 10) % max 2 1 ≠ 0 ∧
      (subbed 12 true 0 true).pt.appliedLate = true ∧ (subbed 12 false 0 true).pt.appliedLate = false ∧ (queued .active 5 6 none).gr.waiting = false ∧
      { GroupSt.init with waiting := true }.waiting = true ∧
      (dirOf (subbed 12 false 0 true) (2 + 1)).dev = true ∧ (dirOf (subbed 12 false 0 false) (2 + 1)).dev = false) := by decide +kernel

/-! ### Witnesses: the CAN ports -/

/-- A static object of port 3, extended identifier 2^29 - 1: FLAGS and length 2. -/
def so (flags last : Nat) : List Nat := [3, flags, 2, 0, last, 0xFF, 0xFF, 0x1F, 0, 0, 0, 0, 0, 0, 0, 0]

/-- Port 3 (FLAGS, RETX_LIMIT 2, JOIN_FRAMES 3, JOIN_MS 100, RECOVER_MS 200), static objects, one template of nodes 1 to 2, a safe message. -/
def canned (flags : Nat) (objs : List Nat) (x : Port) (q : List TxFrame) : State :=
  let s := cfgd .active ([rec_ 0x0501 3 (body_ 24 [flags, 0, 0, 0, 0, 0, 0, 0, 0, 0, 0, 2, 3, 0, 100, 0, 200, 0]),
    rec_ 0x0503 0 (body_ 24 [3, 0, 2, 5, 0, 1, 0, 0, 0, 2, 1, 0, 2, 0, 10, 0, 2, 0]), rec_ 0x0806 1 (body_ 32 [0, 1, 0, 0, 0, 2, 0, 0, 1, 2, 0, 0])] ++
    (if objs = [] then [] else [rec_ 0x0502 0 (body_ 32 objs)]))
  { s with fr := { FrameSt.init with t10 := 30000000, next := 30100000 }, bus := { s.bus with ports := [(3, x)], txq := [(3, q)] } }

def tx_ (order fails : Nat) (onBus : Bool) : TxFrame := { order := order, src := 0, isMsg := false, data := [], fails := fails, onBus := onBus }

theorem witness_TransmissionsUnderErrorConfinement :
    (([tx_ 5 0 true] : List TxFrame).any (·.onBus) = true ∧ ([tx_ 5 0 false, tx_ 4 0 false] : List TxFrame) ≠ [] ∧
      ([tx_ 5 0 false, tx_ 4 0 false] : List TxFrame).any (·.onBus) = false) ∧
    (normalOp (port (canned 0 [] { Port.init with st := 4, tecN := 255 } [tx_ 5 1 true]) 3) = true ∧
      normalOp (port (canned 0 [] { Port.init with st := 2 } [tx_ 5 1 true]) 3) = false ∧
      (txq (canned 0 [] Port.init [tx_ 5 1 true]) 3).any (·.onBus) = true ∧ (txq (canned 0 [] Port.init []) 3).any (·.onBus) = false ∧
      u8 (portBody (canned 0 [] Port.init []) 3) 11 = 2) ∧
    (receives (port (canned 0 [] { Port.init with st := 4, recN := 511 } []) 3) = true ∧ receives (port (canned 0 [] { Port.init with st := 5 } []) 3) = false ∧
      receives (port (canned 0 [] { Port.init with st := 1 } []) 3) = true ∧ normalOp (port (canned 0 [] { Port.init with st := 1 } []) 3) = false) ∧
    (let s := canned 8 [] { Port.init with st := 5, offAt := 10000000 } [];
      (port s 3).st = 5 ∧ portFlag s 3 3 = true ∧ (port s 3).offAt + u16 (portBody s 3) 16 * 100000 ≤ (advance s 0).fr.t10 ∧
      ¬ (port s 3).offAt + u16 (portBody s 3) 16 * 100000 ≤ (canned 8 [] { Port.init with offAt := 10000001 } []).fr.t10 - 1) ∧
    (port (canned 0 [] { Port.init with st := 6 } []) 3).st = 6 ∧
    (let s := canned 0 [] { Port.init with st := 1, joinRx := 3 } []; (port s 3).st = 1 ∧ u8 (portBody s 3) 12 ≤ (port s 3).joinRx) ∧
    (let s := canned 0 [] { Port.init with st := 1, joinFrom := 20000000 } [];
      (port s 3).joinRx = 0 ∧ (port s 3).joinFrom + u16 (portBody s 3) 14 * 100000 ≤ (advance s 0).fr.t10 ∧ ¬ u8 (portBody s 3) 12 ≤ (port s 3).joinRx) ∧
    (let s := canned 0 [] { Port.init with ackRun := 16, lastRx := 20000000 } [];
      (port s 3).alone = false ∧ 16 ≤ (port s 3).ackRun ∧ (port s 3).lastRx + 10000000 ≤ (advance s 0).fr.t10) ∧
    (port (canned 0 [] { Port.init with ackRun := 15 } []) 3).ackRun < 16 ∧
    (let s := canned 0 [] { Port.init with st := 2 } [tx_ 5 1 true]; normalOp (port s 3) = false ∧ (txq s 3).any (·.onBus) = true) := by decide +kernel

def up3 : Port := { Port.init with st := 3 }

/-- Node entry n of port 3, last heard at a time. -/
def noded (n last : Nat) : State :=
  let s := canned 0 [] up3 []
  { s with bus := { s.bus with nodes := [(n, { Node.init with port := 3, st := 1, lastT10 := last })] } }

theorem witness_FramesAreStoredOnce :
    ((port (canned 0 [] { up3 with st := 1, joinRx := 2 } []) 3).st = 1 ∧ (port (canned 0 [] { up3 with st := 2 } []) 3).st = 2 ∧
      (port (canned 0 [] { up3 with recN := 127 } []) 3).recN = 127 ∧ 127 < (port (canned 0 [] { up3 with st := 4, recN := 128 } []) 3).recN) ∧
    (receives (port (canned 0 [] Port.init []) 3) = false ∧ receives (port (canned 0 [] up3 []) 3) = true ∧ portFlag (canned 0 [] up3 []) 3 0 = false ∧
      portFlag (canned 1 [] up3 []) 3 0 = true) ∧
    (safeMatch (canned 0 [] up3 []) 3 false 513 = some (1, true) ∧ safeMatch (canned 0 [] up3 []) 2 false 512 = some (1, false) ∧
      safeMatch (canned 0 [] up3 []) 3 true 513 = none ∧ (canned 0 [] up3 []).gr.tracking = false) ∧
    (let s := canned 1 (so 0x16 0xFF ++ so 2 0xFE) up3 []; let g := frameSeen (advance s 0) 3;
      (objElems g.cfg.run)[0]? = some (body_ 16 (so 0x16 0xFF)) ∧ (objElems g.cfg.run)[1]? = some (body_ 16 (so 2 0xFE)) ∧
      soKey (body_ 16 (so 0x16 0xFF)) = canKey 3 true (2 ^ 29 - 1) ∧ soKey (body_ 16 (so 2 0xFE)) = canKey 3 true (2 ^ 29 - 2) ∧
      soFlag (body_ 16 (so 0x16 0xFF)) 0 = false ∧ soFlag (body_ 16 (so 0x16 0xFF)) 2 = true ∧ soFlag (body_ 16 (so 0x16 0xFF)) 4 = true ∧
      soLen (body_ 16 (so 0x16 0xFF)) = 2 ∧ soFlag (body_ 16 (so 3 0xFF)) 0 = true ∧ safeMatch s 3 true (2 ^ 29 - 1) = none) ∧
    (let s := canned 0 [] up3 []; let g := frameSeen (advance s 0) 3;
      objElems g.cfg.run = [] ∧ g.bus.dyns = [] ∧ safeMatch s 3 false 257 = none ∧ fitTemplate g 3 false 257 false 2 = some (0, 1) ∧
      fitTemplate g 3 false 258 false 2 = some (0, 2) ∧ fitTemplate g 3 false 259 false 2 = none ∧ fitTemplate g 3 false 256 false 2 = none ∧
      fitTemplate g 3 false 257 true 2 = none ∧ findNode g 3 5 1 = none ∧ freeNode g = some 0 ∧
      (placeKey (placesUsed g) (canKey 3 false 257)).isSome = true ∧
      (g.bus.dyns.filter (fun d => d.reserved && decide (d.tmpl = 0))).length < u16 (cfgBody g 0x0503 0) 16) ∧
    (let d : DynObj := { key := canKey 3 false 257, tmpl := 0, node := 0, reserved := true, place := 0, o := Obj.init };
      let s := { canned 0 [] up3 [] with bus := { (canned 0 [] up3 []).bus with dyns := [d] } };
      (frameSeen (advance s 0) 3).bus.dyns.find? (fun d => decide (d.key = canKey 3 false 257)) = some d ∧
      ((u8 (cfgBody s 0x0503 0) 1).testBit 2 = false ∧ u8 (cfgBody s 0x0503 0) 2 = 2)) ∧
    ((node (noded 4095 29000000) 4095).st = 1 ∧ (node (noded 4095 29000000) 4095).lastT10 + u16 (cfgBody (noded 4095 29000000) 0x0503 0) 14 * 100000 < (noded 4095 29000000).fr.next ∧
      ¬ (node (noded 4095 29100000) 4095).lastT10 + u16 (cfgBody (noded 4095 29100000) 0x0503 0) 14 * 100000 < (noded 4095 29100000).fr.next) := by decide +kernel

theorem get_full (x d : Node) (m : Nat) : ∀ a k, a ≤ k → k < a + m → Tab.get ((List.range' a m).map fun n => (n, x)) d k = x := by
  induction m with
  | zero => intro a k h1 h2; omega
  | succ m ih =>
    intro a k h1 h2
    show (if a = k then x else Tab.get ((List.range' (a + 1) m).map fun n => (n, x)) d k) = x
    split
    · rfl
    · exact ih (a + 1) k (by omega) (by omega)

/-- The node table with no free entry. -/
theorem witness_FramesAreStoredOnce_full :
    freeNode { State.reset with bus := { BusSt.init with nodes := (List.range' 0 4096).map fun n => (n, { Node.init with st := 1 }) } } = none := by
  refine List.find?_eq_none.2 fun n hn => ?_
  have h := get_full { Node.init with st := 1 } Node.init 4096 0 n (Nat.zero_le n) (by simpa using hn)
  simp [node, h]

/-! ### Witnesses: the safety functions -/

/-- SO 7 used with an EDM record (SI 4, T_EDM 100 ms), receive message 0 on pair 0 (window 5 ms, MAX_AGE 50 ms), T_DEG 2 s, timers 15 (ON_DELAY
of flag 7, 20 ms) and 14 (OFF_DELAY), terms for output 7 and flag 7 that read timer 15. -/
def safed (f : SafetySt → SafetySt) : State :=
  let s := cfgd .active [rec_ 0x0801 0 (body_ 8 [0x80]), rec_ 0x0805 7 (body_ 8 [4, 0xFF, 0, 0, 100]),
    rec_ 0x0806 0 (body_ 32 [0, 0, 2, 0, 0, 1, 0, 0, 1, 1, 0, 0, 9, 0, 5, 0, 50]), rec_ 0x0807 0 (body_ 8 [2, 0, 0, 0, 1]),
    rec_ 0x0804 15 (body_ 8 [7, 0, 0, 0, 20]), rec_ 0x0804 14 (body_ 8 [7, 1, 0, 0, 20]), rec_ 0x0803 0 (body_ 48 ([7, 1, 0, 0, 15, 0x80] ++ List.replicate 18 0 ++ [15, 0]))]
  { s with fr := { FrameSt.init with t10 := 40000000, next := 40100000, tick := 40000000 }, sf := f { s.sf with scDone := true } }

def safe0 : State := safed id

theorem witness_SafetyFaultsOpenEverySwitch :
    (safetyLive safe0 = true ∧ soIn safe0 7 = true ∧ soIn safe0 0 = false ∧ safetyLive (inMode .active) = false ∧ soTestRuns safe0 7 = false ∧
      hasControl safe0 = true ∧ hasControl { safe0 with cfg := { safe0.cfg with run := safe0.cfg.run ++ [groupRec], started := [groupRec] } } = false) ∧
    (let s := safed fun f => { f with lsc := 0x80, discSince := [(7, some 37999999)] };
      s.sf.scDone = true ∧ s.sf.lsc.getLsbD 7 ≠ s.sf.lat.getLsbD 7 ∧ Tab.get s.sf.discSince none 7 = some 37999999 ∧ 37999999 + 2000000 < s.fr.tick) ∧
    ((safed fun f => { f with scDone := false }).sf.scDone = false ∧ safe0.sf.lsc.getLsbD 7 = safe0.sf.lat.getLsbD 7 ∧
      safe0.fr.tick ≤ 38000000 + 2000000 ∧ Tab.get safe0.sf.discSince none 7 = none) ∧
    (soTestRuns { safe0 with hl := { safe0.hl with running := [{ test := 3, item := 7, step := 0, cmd := 0 }] } } 7 = true) ∧
    (Tab.get (safed fun f => { f with edmSc := [(7, some 29999999)] }).sf.edmSc none 7 = some 29999999 ∧
      29999999 + u16 (cfgBody safe0 0x0805 7) 4 * 100000 < (advance safe0 0).fr.t10 ∧
      ¬ 30000000 + u16 (cfgBody safe0 0x0805 7) 4 * 100000 < (advance safe0 0).fr.t10) ∧
    ((safed fun f => { f with agreed := true }).sf.agreed = true ∧ safe0.sf.agreed = false ∧ attarCrc safe0.sf.copy ≠ 0 ∧ attarCrc safe0.sf.copy = attarCrc safe0.cfg.run) := by decide +kernel

/-- A copy of message 0 for port BP0 with a SEQ and DATA. -/
def copy0 (seq bits : Nat) : List Byte :=
  let d := body_ 12 [seq, 0, 9, 0, seq, 0, 0, 0, bits]
  d ++ leBytes 4 (safetyCrcOf false 256 d)

def msg0 : List Byte := msgBody safe0 0
def heard : MsgCh := { MsgCh.init with started := true, seq := 4, time := 4, valid := true, acceptedAt := 35000000 }

theorem witness_SafeMessagesNeedTwoEqualCopies :
    (windowOver msg0 40500001 { heard with waitPort := some 1, waitAt := 40000000 } = true ∧ windowOver msg0 40500000 { heard with waitPort := some 1, waitAt := 40000000 } = false ∧
      copyValid msg0 heard false 256 true (copy0 5 1) = true ∧ copyValid msg0 heard false 256 true (copy0 4 1) = false ∧
      copyValid msg0 heard false 257 true (copy0 5 1) = false ∧ copyValid msg0 heard false 256 false (copy0 5 1) = false ∧
      copyValid msg0 MsgCh.init false 256 true (copy0 4 1) = true ∧ (copy0 5 1).take 12 ≠ (copy0 5 2).take 12 ∧ heard.waitPort = none) ∧
    (let s := safed fun f => { f with msgs := [(0, heard)], msgsAt := [(0, { heard with acceptedAt := 35000001, waitPort := some 1, waitAt := 39499999 })] };
      (msgOf s false 0).valid = true ∧ (msgOf s false 0).acceptedAt + u16 (msgBody s 0) 16 * 100000 ≤ (advance s 0).fr.t10 ∧
      ¬ (msgOf s true 0).acceptedAt + u16 (msgBody s 0) 16 * 100000 ≤ (advance s 0).fr.t10 ∧
      (msgOf s true 0).waitPort ≠ none ∧ (msgOf s true 0).waitAt + u16 (msgBody s 0) 14 * 100000 < (advance s 0).fr.t10 ∧ (msgOf s false 0).waitPort = none) ∧
    (let s := safed fun f => { f with lastCopy := [(0, some 35000000), (1, some 35000001)], lost := 2 };
      safetyLive s = true ∧ pairRx s 0 ≠ [] ∧ netTimeout s 0 = 5000000 ∧ (lastCopy s 0).getD s.sf.loadAt + netTimeout s 0 ≤ (advance s 0).fr.t10 ∧
      lastCopy s 1 = some 35000001 ∧ (advance s 0).fr.t10 < 35000001 + netTimeout s 0 ∧ s.sf.lost.getLsbD 0 = false ∧ s.sf.lost.getLsbD 1 = true ∧
      (advance s 0).fr.t10 < (lastCopy s 1).getD s.sf.loadAt + netTimeout s 0) ∧
    (let s := { safed fun f => { f with lastCopy := [(0, some 35000000), (1, some 39999999)], degFrom := some 0, lost := 1 } with fr := { FrameSt.init with t10 := 200000000, next := 200100000 } };
      degCause (advance s 0) = true ∧ (advance s 0).md.mode.allPhases = true ∧ s.sf.degFrom = some 0 ∧ 0 + tDeg s ≤ (advance s 0).fr.t10 ∧
      (advance s 0).fr.t10 < 1 + tDeg s) ∧
    (degCause (advance safe0 0) = false ∧ (inMode .safeHold).md.mode.allPhases = false) := by 
  refine ⟨?_, ?_, ?_, ?_, ?_⟩ <;> decide +kernel

theorem witness_AttarAndScComputeTheirResults :
    (hasCfg safe0 = true ∧ hasCfg (inMode .active) = false ∧ timFlag (body_ 8 [7, 0, 0, 0, 20]) < 8 ∧
      findRec safe0.sf.table 0x0804 15 = some (rec_ 0x0804 15 (body_ 8 [7, 0, 0, 0, 20])) ∧ findRec safe0.sf.table 0x0804 0 = none ∧
      (∀ k, k < 16 → sfRec (cfgd .active [rec_ 0x0801 0 (body_ 8 [0x80])]) 0x0805 k = none)) ∧
    (let b := body_ 8 [7, 0, 0, 0, 20]; let s := safed fun f => { f with timers := [(15, { AtTimer.init with input := true, since := 38003000 })] };
      timOff b = false ∧ (Tab.get s.sf.timers AtTimer.init 15).input = true ∧ (Tab.get s.sf.timers AtTimer.init 15).out = false ∧
      timTime b * 999 ≤ ((advance s 0).fr.t10 - 38003000 + 1000) * 1000 ∧ ((advance s 0).fr.t10 - 38003001 + 1000) * 1000 < timTime b * 999) ∧
    (let b := body_ 8 [7, 1, 0, 0, 20]; let s := safed fun f => { f with timers := [(14, { AtTimer.init with out := true, since := 30000000 })] };
      timOff b = true ∧ (Tab.get s.sf.timers AtTimer.init 14).input = false ∧ (Tab.get s.sf.timers AtTimer.init 14).out = true ∧
      timTime b * 999 ≤ ((advance s 0).fr.t10 - 30000000 + 1000) * 1000) ∧
    (Tab.get safe0.sf.timers AtTimer.init 15).input = false ∧
    (u8 (body_ 24 [1, 2, 0xFF, 1]) 0 = 1 ∧ u8 (body_ 24 [2, 2]) 0 = 2 ∧ u8 (body_ 24 [5, 1, 7]) 0 = 5) := by
  refine ⟨?_, ?_, ?_, ?_, ?_⟩ <;> decide +kernel

/-! ### Witnesses: the redundant group -/

/-- Units 0 (this one, a dwell of 3 s) and 1 in a group, at the tick of frame 8. -/
def grp_ (m : Mode) (f : GroupSt → GroupSt) : State :=
  let s := cfgd m [rec_ 0x0901 0 (body_ 24 [3, 0, 3, 0])]
  { s with fr := { FrameSt.init with frame := 8, t10 := 300000000, next := 300100000, tick := 300000000 }, gr := f GroupSt.init, mram := { s.mram with grouped := true } }

theorem witness_TheClaimRoundGivesTheLatch :
    (lineResult (some 0xC000) { word := 0xC000, dominant := true, recessive := false } = 0 ∧ bits 0x0004 2 5 ≠ 0 ∧ bits 0x0040 2 5 ≠ 0 ∧ bits 0xFF83 2 5 = 0 ∧
      lineResult (some 0xC000) { word := 0xC000, dominant := false, recessive := true } = 0 ∧ lineResult none { word := 0, dominant := false, recessive := true } = 3) ∧
    (let s := grp_ .active fun g => { g with word := some 0xC000, claimed := true, vacant := 1, round := some 7 };
      grouped s = true ∧ s.gr.round ≠ some s.fr.frame ∧ s.md.mode ≠ .reset ∧ s.md.mode ≠ .boot ∧
      lineResult s.gr.word { word := 0xC000, dominant := false, recessive := false } = 1 ∧
      lineResult s.gr.word { word := 0xC001, dominant := false, recessive := false } = 2 ∧ lineResult s.gr.word { word := 0, dominant := false, recessive := false } = 3) ∧
    ((grp_ .active fun g => { g with round := some 8 }).gr.round = some (grp_ .active id).fr.frame ∧ grouped (inMode .active) = false) ∧
    ((inMode .active).mram.grouped = false ∧ (grp_ .active id).mram.grouped = true ∧ (grp_ .active id).gr.latch ≠ 1 ∧
      (let s := grp_ .active fun g => { g with latch := 1, round := some 8 }; s.gr.latch = 1 ∧ s.gr.round = some s.fr.frame)) ∧
    (gateShut (grp_ .active fun g => { g with gate := 2 }) 1 = true ∧ gateShut (grp_ .active id) 1 = false ∧ cmpDriven (grp_ .safeHold id) = false ∧
      cmpDriven (cfgd .active []) = true ∧ normalOp { Port.init with st := 3 } = true ∧ normalOp { Port.init with st := 5 } = false) := by decide +kernel

def part_ (d : Nat) : TickPart := { img := Image.init, cmds := [], reqs := [], writes := [], digest := d, hist := [], seqs := [] }

theorem witness_TheSyncRingKeepsAStandby :
    (let s := grp_ .standby id;
      s.md.mode ≠ .reset ∧ 1 ≠ unitId s ∧ grouped s = true ∧ (peerUnits s).contains 1 = true ∧ (peerUnits s).contains 2 = false ∧ hasCfg s = true ∧
      hasCfg (inMode .configured) = false ∧ unitId s = 0) ∧
    ((grp_ .standby fun g => { g with tracking := true }).gr.tracking = true ∧ grouped (inMode .standby) = false ∧ (grp_ .standby id).gr.tracking = false) ∧
    ((grp_ .standby fun g => { g with slUp := 2 }).gr.slUp.getLsbD 1 = true ∧ (grp_ .standby fun g => { g with slUp := 2 }).gr.slUp.getLsbD 0 = false) ∧
    (let s := grp_ .standby fun g => { g with peers := [(1, { Peer.init with missed := 8 })] };
      8 ≤ (peer s 1).missed ∧ (peer s 1).lostSeen = false ∧ (peerUnits s).contains 1 = true ∧ (peer (grp_ .standby id) 1).missed < 8) ∧
    (let s := grp_ .standby fun g => { g with masterMiss := 8 };
      let t := { s with fr := { s.fr with status := 0x40 } };
      grouped t = true ∧ tbLocked t = true ∧ timeMaster t = false ∧ 8 ≤ t.gr.masterMiss ∧ timeMaster s = true) ∧
    (let s := grp_ .standby fun g => { g with joining := true };
      s.gr.joining = true ∧ s.gr.joined = false ∧ s.gr.tracking = false ∧ (grp_ .standby id).gr.joining = false) ∧
    (let s := grp_ .standby fun g => { g with tracking := true };
      s.gr.tracking = true ∧ s.gr.bgDone = false ∧ (grp_ .standby fun g => { g with bgDone := true }).gr.bgDone = true) ∧
    (let s := grp_ .standby fun g => { g with tracking := true, bgDone := true, dwellFrom := some 0 };
      s.gr.tracking = true ∧ s.gr.bgDone = true ∧ s.gr.dwellDone = false ∧ s.md.mode = .standby ∧ s.gr.dwellFrom = some 0 ∧
      0 + u16 (cfgBody s 0x0901 0) 2 * 100000000 ≤ (advance s 0).fr.t10 ∧ ¬ 1 + u16 (cfgBody s 0x0901 0) 2 * 100000000 ≤ (advance s 0).fr.t10) ∧
    (let s := grp_ .active fun g => { g with reqFrame := some 0, round := some 8 };
      s.gr.reqFrame = some 0 ∧ s.gr.round = some 8 ∧ s.gr.latch ≠ 2 ∧ 0 + 8 ≤ 8 ∧ (grp_ .active id).gr.reqFrame = none) ∧
    hostUp (grp_ .active id) = true ∧
    (let s := grp_ .standby fun g => { g with tracking := true, waiting := true, tickIn := some tick0, part := some (part_ 5) };
      s.gr.waiting = true ∧ s.gr.tickIn = some tick0 ∧ s.gr.part = some (part_ 5) ∧ (part_ 5).digest = 5 ∧ (grp_ .standby id).gr.waiting = false ∧
      (grp_ .standby fun g => { g with waiting := true, tickIn := some tick0 }).gr.part = none) := by
  refine ⟨?_, ?_, ?_, ?_, ?_, ?_, ?_, ?_, ?_, ?_, ?_⟩ <;> decide +kernel

/-! ### Witnesses: Drydown and health -/

/-- A memory test in a mode. -/
def mem_ (m : Mode) (t : Nat) (x : TestSt) : State := { inMode m with hl := { HealthSt.init with tests := [(t, x)] } }

theorem witness_MemoryTestsWalkTheirUnits :
    (let s := mem_ .unconfigured 7 { TestSt.init with inPass := true, pos := 262143, due := 5 };
      testAllowed s 7 = true ∧ (test s 7).inPass = true ∧ unitItem 7 (test s 7).pos = some 0 ∧ 262143 + 1 ∈ storeEnds ∧ unitItem 7 262142 = none) ∧
    (let s := mem_ .active 7 { TestSt.init with inPass := true, pos := 567551 }; testAllowed s 7 = true ∧ testUnits 7 ≤ (test s 7).pos + 1 ∧ unitItem 7 (test s 7).pos = some 4) ∧
    (let s := mem_ .active 4 { TestSt.init with inPass := true, pos := 786431 }; testAllowed s 4 = true ∧ testUnits 4 ≤ (test s 4).pos + 1 ∧ unitItem 4 786431 = some 786431) ∧
    (let s := mem_ .configured 5 TestSt.init; testAllowed s 5 = true ∧ (test s 5).inPass = false ∧ (test s 5).due ≤ s.fr.t10 ∧ ¬ testUnits 5 ≤ 0 + 1) ∧
    (let s := mem_ .checking 6 { TestSt.init with inPass := true, pos := 134217727 }; testAllowed s 6 = true ∧ testUnits 6 ≤ (test s 6).pos + 1) ∧
    (let s := { mem_ .active 4 { TestSt.init with inPass := true } with fr := { FrameSt.init with commitDone := true } };
      s.fr.commitDone = true ∧ (∀ q ∈ s.pt.queues, s.fr.frame ≤ q.frame) ∧ s.fr.t10 + 240 ≤ s.fr.next ∧
        testAllowed s 4 = true ∧ (test s 4).inPass = true ∧ before s 7 4 = false ∧
        ¬ (testAllowed s 7 = true ∧ ((test s 7).inPass = true ∨ (test s 7).due ≤ s.fr.t10) ∧ before s 7 4 = true) ∧ before s 4 7 = true ∧
        ¬ 99761 + 240 ≤ s.fr.next) ∧
    (testAllowed (mem_ .checking 5 TestSt.init) 5 = false ∧
      (let s := mem_ .active 4 { TestSt.init with due := 1 }; (test s 4).inPass = false ∧ ¬ (test s 4).due ≤ s.fr.t10)) := by decide +kernel

/-- Tests that run, in a state that uses SO 7, may test DO 63 dark and has AO 31. -/
def drying (m : Mode) (l : List RunTest) (f : GroupSt → GroupSt) : State :=
  let s := cfgd m [rec_ 0x0801 0 (body_ 8 [0x80]), rec_ 0x0204 63 (body_ 16 [6, 1, 2]), rec_ 0x0205 7 (body_ 16 [1]), rec_ 0x0303 7 (body_ 16 []), rec_ 0x0304 31 (body_ 32 []), rec_ 0x0901 0 (body_ 24 [3])]
  { s with fr := { FrameSt.init with t10 := 20000000, next := 20100000 }, gr := f { GroupSt.init with latch := 1 }, sf := { s.sf with scDone := true },
           dio := { DioSt.init with ch := [(63, { DoCh.init with cmd := F64.one }), (62, { DoCh.init with cmd := F64.one })] },
           hl := { HealthSt.init with running := l, tests := [(8, { TestSt.init with inPass := true, pos := 31 }), (9, { TestSt.init with inPass := true, pos := 1 })] } }

def run_ (t i k : Nat) : RunTest := { test := t, item := i, step := k, cmd := 0 }

theorem witness_FieldSideTestsRunAndEnd :
    (let s := drying .active [] id;
      testAllowed s 0 = true ∧ (test s 0).inPass = false ∧ (test s 0).due ≤ s.fr.t10 ∧ testItems s 0 = [63] ∧ testable s 0 63 false = true ∧ testable s 0 63 true = false ∧ fieldServes s 0 = true ∧
      testAllowed s 3 = true ∧ testItems s 3 = [7] ∧ testable s 3 7 false = true ∧ testable (drying .active [run_ 3 7 0] id) 3 7 false = false ∧ fieldServes s 3 = true ∧
      fieldServes { s with hl := { s.hl with tests := [(0, { TestSt.init with due := 5 })] } } 0 = false ∧
      testAllowed (drying .active [] fun g => { g with latch := 2 }) 0 = false) ∧
    (let s := drying .safeHold [] fun g => { g with gate := 1 };
      testAllowed s 8 = true ∧ (test s 8).inPass = true ∧ testItems s 8 = [31] ∧ (test s 8).pos ≤ 31 ∧ testAllowed (drying .active [] id) 8 = false) ∧
    (let s := drying .standby [] fun g => { g with gate := 1, tracking := true };
      testAllowed s 11 = true ∧ testItems s 11 = [63] ∧ testable s 11 63 false = true ∧ testAllowed s 12 = true ∧
      testable { s with sf := { s.sf with rbHigh := 0x80, rbLow := 0x80, lsc := 0x80 } } 12 7 false = true) ∧
    ((drying .active [run_ 3 7 0] id).hl.running.find? (fun r => decide (r.test = 3) && decide (r.item = 7)) = some (run_ 3 7 0) ∧
      (drying .active [run_ 3 7 1] id).hl.running.find? (fun r => decide (r.test = 3) && decide (r.item = 7)) = some (run_ 3 7 1) ∧
      (drying .active [run_ 3 6 1] id).hl.running.find? (fun r => decide (r.test = 3) && decide (r.item = 7)) = none) ∧
    (testRuns (drying .safeHold [run_ 8 31 0] id) 8 31 = true ∧ testRuns (drying .safeHold [] id) 8 31 = false ∧
      testRuns (drying .standby [run_ 12 7 0, run_ 11 63 0] id) 12 7 = true ∧ soStep (drying .standby [run_ 12 7 0] id) 12 7 = some 0 ∧ soStep (drying .standby [run_ 12 7 1] id) 12 7 = some 1 ∧ testRuns (drying .standby [run_ 12 7 0, run_ 11 63 0] id) 11 63 = true) ∧
    (let s := drying .active [] id;
      grouped s = true ∧ s.fr.frame % 4 = unitId s ∧ { s.fr with commitDone := true }.commitDone = true ∧ s.fr.t10 + 190 ≤ s.fr.next ∧ testAllowed s 9 = true ∧ (test s 9).inPass = true ∧ (test s 9).pos ≤ 1 ∧ ¬ (test s 9).pos ≤ 0 ∧
      testAllowed s 10 = true ∧ (test s 10).inPass = false ∧ (test s 10).due ≤ s.fr.t10 ∧ testAllowed (inMode .active) 9 = false) := by
  refine ⟨?_, ?_, ?_, ?_, ?_, ?_⟩ <;> decide +kernel

def entry0 : LogEntry := { code := 1, mode := 0, cause := 0, t10 := 0, frame := 0, item := 0, data := 0 }

theorem witness_MemoryErrorsAndTheFaultLog :
    (let s := { inMode .active with hl := { HealthSt.init with queue := [entry0], written := 15 }, mram := { MramSt.init with logSeq := 4095 } };
      s.hl.queue = entry0 :: [] ∧ s.hl.written < 16 ∧ s.md.mode ≠ .reset ∧ s.fr.commitDone = false ∧ { s.fr with commitDone := true }.commitDone = true ∧ (s.mram.logSeq + 1) % 4096 = 0) ∧
    ((inMode .active).hl.queue = [] ∧ 16 ≤ ({ HealthSt.init with written := 16 } : HealthSt).written ∧ off.md.mode = .reset) := by decide +kernel
end Sys2Proof.Tests
end

section
/-! Proofs about the scope of the block (00): what a register write does, and what leaving RESET leads to. -/

namespace Sys2Proof.Machine

open Sys2Proof

/-! ### Register writes -/

/-- The bytes of a word, each with its byte enable. -/
def wordBytes (w : Word) : List (Option Byte) := (leBytes 4 w.toNat).map some

theorem wordBytes_eq (w : Word) : wordBytes w = [some (BitVec.ofNat 8 w.toNat), some (BitVec.ofNat 8 (w.toNat / 256)),
    some (BitVec.ofNat 8 (w.toNat / 256 / 256)), some (BitVec.ofNat 8 (w.toNat / 256 / 256 / 256))] := rfl

/-- The four bytes of a word spell it again. -/
theorem ofNat_bytes_toNat (w : Word) :
    BitVec.ofNat 32 ((BitVec.ofNat 8 w.toNat).toNat + 256 * (BitVec.ofNat 8 (w.toNat / 256)).toNat +
      65536 * (BitVec.ofNat 8 (w.toNat / 256 / 256)).toNat + 16777216 * (BitVec.ofNat 8 (w.toNat / 256 / 256 / 256)).toNat) = w := by
  apply BitVec.eq_of_toNat_eq
  have hw := w.isLt
  simp only [BitVec.toNat_ofNat]
  omega

@[simp] theorem wholeWords_wordBytes_append (w : Word) (r : List (Option Byte)) :
    wholeWords (wordBytes w ++ r) = (wholeWords r).map (w :: ·) := by
  simp only [wordBytes_eq, List.cons_append, List.nil_append, wholeWords, ofNat_bytes_toNat]

theorem wholeWords_flatMap_wordBytes (ws : List Word) : wholeWords (ws.flatMap wordBytes) = some ws := by
  induction ws with
  | nil => rfl
  | cons w ws ih => simp [ih]

/-- Only requests of whole words with every byte enabled make words. -/
theorem wholeWords_some {data : List (Option Byte)} {ws : List Word} (h : wholeWords data = some ws) :
    data.length % 4 = 0 ∧ none ∉ data := by
  induction data using wholeWords.induct generalizing ws with
  | case1 => simp
  | case2 a b c d r ih =>
    simp only [wholeWords, Option.map_eq_some_iff] at h
    obtain ⟨l, hl, -⟩ := h
    obtain ⟨hlen, hnone⟩ := ih hl
    exact ⟨by simp only [List.length_cons]; omega, by simpa using hnone⟩
  | case3 data hnil hfour =>
    rw [wholeWords] at h
    · simp at h
    · exact hnil
    · exact hfour

/-- A request that is not of whole aligned words is dropped whole and counts once (00 R11, 05 R108). -/
theorem doRegisterWrite_of_partial (s : State) (off : Nat) (data : List (Option Byte))
    (h : off % 4 ≠ 0 ∨ data.length % 4 ≠ 0 ∨ none ∈ data) : doRegisterWrite s off data = accessErr s := by
  unfold doRegisterWrite
  split
  · next ws hws =>
    rw [Option.ite_none_right_eq_some] at hws
    obtain ⟨haligned, hwords⟩ := hws
    obtain ⟨hlen, hnone⟩ := wholeWords_some hwords
    simp [haligned, hlen, hnone] at h
  · rfl

/-- Whole aligned words are written, the lower address first (05 R108). -/
theorem doRegisterWrite_of_words (s : State) (off : Nat) (ws : List Word) (h : off % 4 = 0) :
    doRegisterWrite s off (ws.flatMap wordBytes) = barWrites s off ws := by
  simp only [doRegisterWrite, if_pos h, wholeWords_flatMap_wordBytes]

theorem doRegisterWrite_word (s : State) (off : Nat) (v : Word) (h : off % 4 = 0) :
    doRegisterWrite s off (wordBytes v) = barWrite s off v := by
  simpa [barWrites] using doRegisterWrite_of_words s off [v] h

theorem exec_registerWrite (dt off : Nat) (data : List (Option Byte)) (s : State) (h : hostUp s = true) :
    exec (.registerWrite dt off data) s = .next (settle s (doRegisterWrite (advance s dt) off data)) :=
  congrArg (fun u => Host.Outcome.next (settle s u)) (if_pos h)

/-- The request of one whole aligned word is the write of its register. -/
theorem exec_registerWrite_word (dt off : Nat) (v : Word) (s : State) (h : hostUp s = true) (ho : off % 4 = 0) :
    exec (.registerWrite dt off (wordBytes v)) s = .next (settle s (barWrite (advance s dt) off v)) := by
  rw [exec_registerWrite _ _ _ _ h, doRegisterWrite_word _ _ _ ho]

/-- HIF_SCRATCH keeps the word written (05 R118). -/
theorem barWrite_scratch (s : State) (v : Word) : barWrite s 0x000C v = { s with hp := { s.hp with scratch := v } } := rfl

/-- HIF_EVENT_STATUS is W1C (05 R118). -/
theorem barWrite_hifEvent (s : State) (v : Word) :
    barWrite s 0x0024 v = { s with hp := { s.hp with event := s.hp.event &&& ~~~ v.setWidth 2 } } := by
  rw [← BitVec.ofNat_toNat]; rfl

/-- The W1C bits of DIAG_FRAME_STATUS (02 R57). -/
theorem barWrite_frameStatus (s : State) (v : Word) :
    barWrite s 0x4018 v = { s with fr := { s.fr with status := s.fr.status &&& ~~~ (v &&& 0x2B5#32) } } := rfl

/-- DIAG_MODE_STATUS is W1C (03 R84). -/
theorem barWrite_modeStatus (s : State) (v : Word) :
    barWrite s 0x4044 v = { s with md := { s.md with status := s.md.status &&& ~~~ v.setWidth 6 } } := by
  rw [← BitVec.ofNat_toNat]; rfl

/-- Settles O22: a request makes words exactly when it is whole, and each of the four registers is one case of `barWrite`. -/
theorem registerWritesNeedWholeWords : Obligations.RegisterWritesNeedWholeWords := by
  intro dt off data v s hup word a
  have hword (off : Nat) (ho : off % 4 = 0) : exec (.registerWrite dt off word) s = .next (settle s (barWrite a off v)) :=
    exec_registerWrite_word dt off v s hup ho
  refine ⟨fun hpart => ?_, fun ws z hoff hz => ?_, ?_, ?_, ?_, ?_⟩
  · rw [exec_registerWrite _ _ _ _ hup, doRegisterWrite_of_partial _ _ _ hpart]
    rfl
  · have hws := exec_registerWrite dt off (ws.flatMap wordBytes) s hup
    rw [doRegisterWrite_of_words _ _ _ hoff] at hws
    exact Host.Outcome.next.inj (hz.symm.trans hws)
  · rw [hword _ rfl, barWrite_scratch]; rfl
  · rw [hword _ rfl, barWrite_hifEvent]; rfl
  · rw [hword _ rfl, barWrite_frameStatus]; rfl
  · rw [hword _ rfl, barWrite_modeStatus]; rfl

/-! ### The bank that the boot ROM picks (03 R76) -/

/-- A trial has no start left. -/
def trialSpent (m : MramSt) : Bool := m.trial && decide (m.trialLeft = 0)

/-- The bank whose CRC the boot ROM checks first. -/
def firstBank (m : MramSt) : Bool := if trialSpent m then !m.bank else m.bank

/-- The boot record once the start of a trial has been counted. -/
def countTrial (m : MramSt) : MramSt :=
  if trialSpent m then { m with trial := false } else if m.trial then { m with trialLeft := m.trialLeft - 1 } else m

/-- The selection in its three cases: the first bank, the other one, boot recovery. -/
theorem pickBank_eq (m : MramSt) : pickBank m =
    if bankLoads m (firstBank m) then { mram := { countTrial m with bank := firstBank m }, fallback := trialSpent m, loads := true }
    else if bankLoads m (!firstBank m) then { mram := { countTrial m with bank := !firstBank m, trial := false }, fallback := true, loads := true }
    else { mram := countTrial m, fallback := trialSpent m, loads := false } := rfl

theorem pickBank_of_first_loads {m : MramSt} (h : bankLoads m (firstBank m) = true) :
    pickBank m = { mram := { countTrial m with bank := firstBank m }, fallback := trialSpent m, loads := true } := by
  rw [pickBank_eq, if_pos h]

theorem pickBank_of_other_loads {m : MramSt} (h : bankLoads m (firstBank m) = false) (ho : bankLoads m (!firstBank m) = true) :
    pickBank m = { mram := { countTrial m with bank := !firstBank m, trial := false }, fallback := true, loads := true } := by
  rw [pickBank_eq, if_neg (by simp [h]), if_pos ho]

theorem pickBank_of_none_loads {m : MramSt} (h : bankLoads m (firstBank m) = false) (ho : bankLoads m (!firstBank m) = false) :
    pickBank m = { mram := countTrial m, fallback := trialSpent m, loads := false } := by
  rw [pickBank_eq, if_neg (by simp [h]), if_neg (by simp [ho])]

/-- Counting a start touches the trial alone. -/
theorem countTrial_frame (m : MramSt) :
    countTrial m = { m with trial := (countTrial m).trial, trialLeft := (countTrial m).trialLeft } := by
  unfold countTrial
  (repeat' split) <;> rfl

theorem countTrial_bank (m : MramSt) : (countTrial m).bank = m.bank := by rw [countTrial_frame]

theorem countTrial_trial (m : MramSt) : (countTrial m).trial = (m.trial && !trialSpent m) := by
  cases hs : trialSpent m <;> cases ht : m.trial <;> simp [countTrial, hs, ht]

theorem countTrial_trialLeft (m : MramSt) :
    (countTrial m).trialLeft = if m.trial = true ∧ trialSpent m = false then m.trialLeft - 1 else m.trialLeft := by
  cases hs : trialSpent m <;> cases ht : m.trial <;> simp [countTrial, hs, ht]

/-- The selection writes the boot record alone: bank, trial and starts left. -/
theorem pickBank_frame (m : MramSt) : (pickBank m).mram =
    { m with bank := (pickBank m).mram.bank, trial := (pickBank m).mram.trial, trialLeft := (pickBank m).mram.trialLeft } := by
  rw [pickBank_eq, countTrial_frame]
  (repeat' split) <;> rfl

/-! ### Leaving RESET (03 R71-R77) -/

/-- The mode record of a BOOT that the straps `p` and the picked bank begin. -/
def bootEntry (p : Straps) (k : BankPick) : ModeSt :=
  { ModeSt.init with
    straps := { p with unitId := p.unitId % 4 }, almPin := p.almsel, bank := k.mram.bank, fallback := k.fallback
    confirmed := !k.mram.trial, recovery := !k.loads, ready := !k.loads }

/-- What leaving RESET leads to: the state after reset, with the boot record as the selection wrote it, the commands that wait,
and the field side; of the health part only the queue of the fault log has changed, of the mode record what a read boot record
shows. -/
theorem doLeaveReset_eq (p : Straps) (s : State) (h : s.md.mode = .reset) : ∃ dio an gr queue dropped bootRead status,
    doLeaveReset s p = { State.reset with
      mram := (pickBank s.mram).mram, pending := s.pending, free := s.free, dio := dio, an := an, gr := gr
      hl := { HealthSt.init with queue := queue, dropped := dropped },
      md := { bootEntry p (pickBank s.mram) with bootRead := bootRead, status := status } } := by
  unfold doLeaveReset
  rw [if_neg (by simp [h])]
  dsimp only
  by_cases hloads : (pickBank s.mram).loads = true
  · rw [if_pos hloads]
    split <;> exact ⟨_, _, _, _, _, _, _, rfl⟩
  · rw [if_neg hloads]
    split <;> exact ⟨_, _, _, _, _, _, _, rfl⟩

theorem exec_leaveReset (p : Straps) (s : State) : exec (.leaveReset p) s = .next (settle s (doLeaveReset s p)) := rfl

/-- Settles O31: the state that leaving RESET leads to, and the three cases of the bank selection. -/
theorem leavingResetChoosesTheBank : Obligations.LeavingResetChoosesTheBank := by
  intro p s hreset m spent first ok
  obtain ⟨dio, an, gr, queue, dropped, bootRead, status, hu⟩ := doLeaveReset_eq p s hreset
  rw [exec_leaveReset, hu]
  refine ⟨_, rfl, rfl, rfl, rfl, rfl, rfl, rfl, rfl, rfl, fun hfirst => ?_, fun hfirst hother => ?_, fun hfirst hother => ?_, pickBank_frame m⟩
  · rw [pickBank_of_first_loads hfirst]
    exact ⟨rfl, rfl, rfl, rfl, countTrial_trial m, countTrial_trialLeft m⟩
  · rw [pickBank_of_other_loads hfirst hother]
    exact ⟨rfl, rfl, rfl, rfl, rfl⟩
  · rw [pickBank_of_none_loads hfirst hother]
    exact ⟨rfl, rfl, countTrial_bank m⟩

/-- Settles O3: the fields of the state that leaving RESET leads to, and that the bank selection leaves the rest of MRAM. -/
theorem resetLeavesTheResetColumn : Obligations.ResetLeavesTheResetColumn := by
  refine ⟨rfl, rfl, fun p s hreset => ?_⟩
  obtain ⟨dio, an, gr, queue, dropped, bootRead, status, hu⟩ := doLeaveReset_eq p s hreset
  rw [exec_leaveReset, hu, pickBank_frame]
  exact ⟨_, rfl, rfl, rfl, rfl, rfl, rfl, rfl, rfl, rfl, rfl, rfl, rfl, rfl, rfl, rfl, rfl, rfl, rfl, rfl⟩

end Sys2Proof.Machine
end

section
/-! Proofs about the architecture of the block (01): what every step keeps, the links and clocks, and the commit. -/

namespace Sys2Proof.Machine
open Sys2Proof

/-! ### The clock at every step (02 R31, R32) -/

/-- Device time lies within the frame running. -/
def State.InFrame (s : State) : Prop := s.fr.tick ≤ s.fr.t10 ∧ s.fr.t10 ≤ s.fr.next

theorem State.InFrame.congr {a b : State} (h : a.InFrame) (hfr : b.fr = a.fr) : b.InFrame := by
  unfold State.InFrame
  rwa [hfr]

theorem Onward.inFrame {a b : State} (h : Onward a b) (ha : a.InFrame) : b.InFrame := by
  obtain ⟨htick, hnext⟩ := ha
  have hle := h.2 hnext
  have ht : b.fr.tick = a.fr.tick := congrArg Anchor.tick h.1
  exact ⟨by omega, by rw [h.next]; exact hle.2⟩

theorem hostAccess_onward {s : State} {f : State → State} (h : Onward s (f s)) : Onward s (hostAccess s f) := by
  unfold hostAccess
  split
  · exact h
  · exact Onward.of_anchor rfl

@[simp] theorem doBootComplete_anchor (s : State) : (doBootComplete s).anchor = s.anchor := by
  unfold doBootComplete
  split
  · rfl
  · exact (readBoot_anchor _).trans (anchor_upd_md ..)

/-- A reset of the module starts the timebase at 0 (02 R32). -/
theorem enterReset_inFrame (internal : Bool) {s : State} (h : s.InFrame) : (enterReset internal s).InFrame := by
  unfold enterReset
  split
  · exact h
  · exact ⟨Nat.le_refl 0, Nat.zero_le _⟩

theorem doFwReset_inFrame {s : State} (h : s.InFrame) : (doFwReset s).InFrame := by
  unfold doFwReset
  split
  · exact enterReset_inFrame true h
  · exact h

theorem doLeaveReset_inFrame (p : Straps) {s : State} (h : s.InFrame) : (doLeaveReset s p).InFrame := by
  by_cases hm : s.md.mode = .reset
  · obtain ⟨dio, an, gr, queue, dropped, bootRead, status, hu⟩ := doLeaveReset_eq p s hm
    rw [hu]
    exact ⟨Nat.le_refl 0, Nat.zero_le _⟩
  · rwa [doLeaveReset, if_pos hm]

theorem doCheckComplete_inFrame (c : CheckIn) {s : State} (h : s.InFrame) : (doCheckComplete s c).InFrame := by
  unfold doCheckComplete
  split
  · exact h
  extract_lets prog r s0 cfg s1
  have h0 : s0.anchor = s.anchor := by
    unfold s0
    split
    · rfl
    · exact stageNine_anchor ..
  have h1 : s1.InFrame := (Onward.of_anchor ((anchor_upd ..).trans h0)).inFrame h
  split
  · exact h1.congr (beginStore_fr ..)
  · exact h1

/-- A tick ends the frame and begins the next one at its tick. -/
theorem doTick_inFrame (i : TickIn) {s : State} (h : s.InFrame) : (doTick s i).InFrame := by
  by_cases hm : s.md.mode = .reset
  · rwa [doTick, if_pos hm]
  · have ht := doTick_ticks s i hm
    exact ⟨Nat.le_of_eq ht.t10.symm, Nat.le_trans (Nat.le_of_eq ht.t10) ht.next⟩

/-- A phase step of the tick that a sync edge takes stays ahead of device time (02 R51). -/
theorem doSyncEdge_inFrame (dt : Nat) (rising : Bool) (ppm : Int) (step : Bool) {s : State} (h : s.InFrame) :
    (doSyncEdge s dt rising ppm step).InFrame := by
  have ha : (advance s dt).InFrame := (Onward.advance s dt).inFrame h
  unfold doSyncEdge
  dsimp only
  (repeat' split)
  · exact h
  · exact ha
  · exact ha
  · exact ⟨ha.1, Nat.le_trans (Nat.le_succ _) (Nat.le_max_right _ _)⟩
  · exact ha

/-- The commands that change more of the anchor than device time within the frame running. -/
def movesAnchor (c : Instr) : Bool :=
  resets c || match c with
    | .leaveReset _ | .tick _ | .syncInEdge .. | .checkComplete _ => true
    | _ => false

/-- Every other command answers with device time moved on, at most to the next tick, and the rest of the anchor as it was. -/
theorem exec_onward (c : Instr) (s : State) (h : movesAnchor c = false) : ∃ u, exec c s = .next (settle s u) ∧ Onward s u := by
  cases c with
  | resetAssert | supplySupervisorReset | fcSupervisoryTimeout | fwActivateReset | leaveReset _ | tick _ | syncInEdge _ _ _
  | checkComplete _ => cases h
  | bootComplete => exact ⟨_, rfl, .of_anchor (doBootComplete_anchor s)⟩
  | nop _ | identify _ | getMode _ | cfgOpen _ | cfgLoad _ | cfgClose _ | cfgReadback _ | enable _ | disable _ | restart _
  | safeHoldEnter _ | safeHoldLeave _ | serviceEnter _ | serviceLeave _ | pointRead _ | pointWrite _ | pointSubscribe _
  | pointUnsubscribe _ | alarmAck _ | trendRead _ | forceSet _ | forceClear _ | forceList _ | valueChange _ | progStage _
  | handoverRequest _ | groupStatus _ | captureArm _ | captureRead _ | injectStart _ | injectStop _ | learnControl _ | loopMode _
  | stopQueueEdit _ | pfArm _ | testReport _ | faultLogRead _ | calReport _ | fwStage _ | fwActivate _ | busPortCtrl _
  | nodeTableRead _ | safetyStatus _ | safetyReset _ => exact ⟨_, rfl, .of_anchor (runOp_anchor ..)⟩
  | badOpcode _ _ | copyStart | copyComplete _ _ | fwChunkProgrammed _ | hifDoorbell _ _ | ringEntryRead | hifRelease _
  | winDirectoryWrite _ _ | bar2Write _ _ | winReclaim _ | hecClaim _ _ | hecStackReset _ | hecSetpend _ _ | hecClrpend _ _
  | hecSeten _ _ | hecClren _ _ | hecPseten _ _ | hecPclren _ _ | hecSleepWrite _ _ | diagDoLatchedRelease _ _ | diagDoGroupAck _
  | complianceClear _ | mismatchClear _ | aiConverterRestore _ _ | aoSarRestore _ _ | diagPfSnap _ | diagStageSnap _
  | diagProfileSnap _ | diagTaskPeakClr _ | diagGroupCapClr _ | qspiRead _ _ _ | qspiReadId | qspiBadTransaction | perst
  | functionLevelReset | msixEnableChange _ _ | msixUnmask _ | pmeEnWrite _ | pcieLinkDown | almselChange _ | bootStepFail
  | overrunLimitReached | captureComplete _ | timebaseLockLost _ | timebaseLockRegained _ | syncInLost | linkTransfer _ _ _ _ _
  | linkResetCode | tpGeneratorFault _ | sensorSupplyFault _ | sensorSupplySound _ | darkTestEnd _ _ | groupSupplyLow _
  | groupSupplyLowEnd _ | groupSupplyMissing _ | aiShuntOpen _ | aiShuntRetest _ _ | rotationStepStart _ | aiBankLinkTimeout _
  | aiBankLinkBad _ | spareSarStep _ _ | complianceEnter _ | complianceEnd _ | mismatchDetect _ | spareParallelDone _ _
  | aoSupplyLow _ | aoSupplyLowEnd _ | pfSerialBad _ | pfLineFault _ | pfLineFaultEnd _ | pfEncoderSupplyFault _
  | pfEncoderSupplySound _ | injectEnded _ | pointEngineQueue | pointQueueLate | subscriptionSnapshot _ | nodeLost _
  | attarCrcCheck _ | scImageCheck _ | syncSectionReceived _ _ _ _ | syncEventReceived _ | peerLost _ | timeMasterFallback
  | joinCopyDone _ _ _ _ | handoverAbandon | drydownUnit _ _ | fieldTestStart _ _ | soSwitchTestStep _ _ | aoCrossCheckEnd _ _
  | shadowTestEnd _ _ _ | claimLoopback _ _ | syncErrorWindow _ _ | dramScrubBurst | eccCorrected _ _ | eccUncorrectable _ _
  | faultLogEntryWrite | sillageWake | wakeRelease | pcieLinkUp _ | syncPortDown _ | syncPortUp _ | backgroundCopyDone _ _
  | pmPmeRepeat | pmeStatusClear | powerStateChange _ | scSramMarchUnit _ => exact ⟨_, rfl, .of_anchor (by simp)⟩
  | diagTimeSnap _ _ => exact ⟨_, rfl, hostAccess_onward ((Onward.advance ..).keep (timeSnap_anchor ..))⟩
  | phasePeakClear _ _ => exact ⟨_, rfl, hostAccess_onward ((Onward.advance ..).keep (timeSnap_anchor ..))⟩
  | hecComplete _ _ _ => exact ⟨_, rfl, hostAccess_onward ((Onward.advance ..).keep (doComplete_anchor ..))⟩
  | registerWrite _ _ _ => exact ⟨_, rfl, hostAccess_onward ((Onward.advance ..).keep (doRegisterWrite_anchor ..))⟩
  | qspiWrite _ _ _ _ => exact ⟨_, rfl, hostAccess_onward ((Onward.advance ..).keep (doQspiWrite_anchor ..))⟩
  | pfQuadStep _ _ _ | pfIndexEdge _ _ _ _ | pfLatchEdge _ _ _ | pfSwitchEdge _ _ _ _ => exact ⟨_, rfl, pfSample_onward ..⟩
  | outputTransferSlot => exact ⟨_, rfl, doSlot_onward ..⟩
  | commit _ => exact ⟨_, rfl, doCommit_onward ..⟩
  | apply => exact ⟨_, rfl, doApply_onward ..⟩
  | clockFault _ _ => exact ⟨_, rfl, doClockFault_onward ..⟩
  | fieldWatchdogTrip _ => exact ⟨_, rfl, doTrip_onward ..⟩
  | testPulseStart _ _ => exact ⟨_, rfl, doPulseStart_onward ..⟩
  | testPulseEnd _ => exact ⟨_, rfl, doPulseEnd_onward ..⟩
  | doOverload _ _ => exact ⟨_, rfl, doOverloadAt_onward ..⟩
  | doRetry _ _ => exact ⟨_, rfl, doRetryAt_onward ..⟩
  | doRetryCountReset _ => exact ⟨_, rfl, doRetryReset_onward ..⟩
  | pwmPeriodStart _ _ => exact ⟨_, rfl, doPwmStart_onward ..⟩
  | extFeed _ _ => exact ⟨_, rfl, doExtFeed_onward ..⟩
  | darkTestStart _ _ => exact ⟨_, rfl, doDarkStart_onward ..⟩
  | groupSupplyMissingEnd _ _ => exact ⟨_, rfl, doGroupMissingEnd_onward ..⟩
  | aiConversionResult _ _ _ _ => exact ⟨_, rfl, doConversion_onward ..⟩
  | cmpWidthEnd _ => exact ⟨_, rfl, doCmpEnd_onward ..⟩
  | pfSerialStart _ _ => exact ⟨_, rfl, doSerStart_onward ..⟩
  | pfSerialWord _ _ _ _ => exact ⟨_, rfl, doSerWord_onward ..⟩
  | pfSerialTimeout _ _ => exact ⟨_, rfl, doSerTimeout_onward ..⟩
  | canFrameReceived _ _ _ _ _ _ _ => exact ⟨_, rfl, doCanFrame_onward ..⟩
  | canTxComplete _ _ => exact ⟨_, rfl, doTxComplete_onward ..⟩
  | canTxError _ _ _ _ => exact ⟨_, rfl, doTxError_onward ..⟩
  | busOffRecoveryStart _ _ => exact ⟨_, rfl, doRecStart_onward ..⟩
  | busOffRecoveryDone _ _ => exact ⟨_, rfl, doRecDone_onward ..⟩
  | joinEnd _ _ => exact ⟨_, rfl, doJoinEnd_onward ..⟩
  | portAlone _ _ => exact ⟨_, rfl, doPortAlone_onward ..⟩
  | attarCycle _ => exact ⟨_, rfl, doCycle_onward ..⟩
  | attarTimerExpiry _ _ => exact ⟨_, rfl, doTimerExpiry_onward ..⟩
  | discrepancyFault _ _ => exact ⟨_, rfl, doDiscFault_onward ..⟩
  | soSwitchFault _ _ _ => exact ⟨_, rfl, doSwitchFault_onward ..⟩
  | edmFault _ _ => exact ⟨_, rfl, doEdmFault_onward ..⟩
  | discWindowExpiry _ _ _ => exact ⟨_, rfl, doWindow_onward ..⟩
  | safeMsgMaxAge _ _ _ => exact ⟨_, rfl, doMaxAge_onward ..⟩
  | safeNetTimeout _ _ => exact ⟨_, rfl, doNetTimeout_onward ..⟩
  | degradedTimerExpiry _ => exact ⟨_, rfl, doDegExpiry_onward ..⟩
  | claimLatch _ _ => exact ⟨_, rfl, doClaimLatch_onward ..⟩
  | gateClose _ _ => exact ⟨_, rfl, doGateClose_onward ..⟩
  | gateOpen _ _ => exact ⟨_, rfl, doGateOpen_onward ..⟩
  | trackingDeadline _ => exact ⟨_, rfl, doDeadline_onward ..⟩
  | dwellEnd _ => exact ⟨_, rfl, doDwellEnd_onward ..⟩
  | hecArbitration => exact ⟨_, rfl, doArbitration_onward ..⟩
  | moderationWindowEnd _ => exact ⟨_, rfl, doWindowEnd_onward ..⟩
  | diSiSample _ _ => exact ⟨_, rfl, doSample_onward ..⟩
  | canRxError _ _ _ => exact ⟨_, rfl, doRxError_onward ..⟩
  | referenceMeasurementDone _ _ _ _ _ _ | disagreementRecheckDone _ _ _ _ => exact ⟨_, rfl, .of_anchor (by simp)⟩

/-- Every command answers with a state whose device time lies within the frame running, where the state before had it so. -/
theorem exec_inFrame (c : Instr) {s : State} (h : s.InFrame) : ∃ u, exec c s = .next (settle s u) ∧ u.InFrame := by
  by_cases hc : movesAnchor c = false
  · obtain ⟨u, hu, ho⟩ := exec_onward c s hc
    exact ⟨u, hu, ho.inFrame h⟩
  · cases c with
    | resetAssert => exact ⟨_, rfl, enterReset_inFrame false h⟩
    | supplySupervisorReset => exact ⟨_, rfl, (enterReset_inFrame false h).congr rfl⟩
    | fcSupervisoryTimeout => exact ⟨_, rfl, enterReset_inFrame true h⟩
    | fwActivateReset => exact ⟨_, rfl, doFwReset_inFrame h⟩
    | leaveReset p => exact ⟨_, rfl, doLeaveReset_inFrame p h⟩
    | tick i => exact ⟨_, rfl, doTick_inFrame i h⟩
    | syncInEdge edge ppm step => exact ⟨_, rfl, doSyncEdge_inFrame _ _ ppm step h⟩
    | checkComplete c => exact ⟨_, rfl, doCheckComplete_inFrame c h⟩
    | _ => exact absurd rfl hc

/-- What a command settles meets the rest of the invariant, whatever its effect (18 R535, 07 R161). -/
theorem settle_inv (a : State) {b : State} (h : b.InFrame) : (settle a b).Inv :=
  ⟨h.1, h.2, settle_queue a b, settle_tgt_wf a b⟩

/-- Settles O5: device time is kept by each command's effect, the queue and the table of the targets by what every command settles. -/
theorem everyStepKeepsTheInvariant : Obligations.EveryStepKeepsTheInvariant := by
  intro s t hs hstep
  unfold step at hstep
  split at hstep
  · cases hstep
    exact hs
  next c rest hpending =>
    obtain ⟨htick, hnext, -, -⟩ := hs
    obtain ⟨u, hu, hframe⟩ := exec_inFrame c (s := { s with pending := rest }) ⟨htick, hnext⟩
    rw [hu] at hstep
    cases hstep
    exact settle_inv _ hframe

/-- Settles O4: every clause is a comparison of numbers and lists of the state after reset. -/
theorem theResetStateMeetsTheInvariant : Obligations.TheResetStateMeetsTheInvariant := by
  unfold Obligations.TheResetStateMeetsTheInvariant State.Inv
  decide

/-! ### Clocks and sync inputs (01 R22, 02 R49-R53) -/

/-- A cause of SAFE_HOLD that begins to wait changes the waiting causes alone. -/
theorem pendCause_frame (s : State) (c : Nat) :
    pendCause s c = { s with md := { s.md with pendFault := (pendCause s c).md.pendFault } } := by
  unfold pendCause
  split <;> rfl

theorem mem_pendCause (s : State) (c x : Nat) : x ∈ (pendCause s c).md.pendFault ↔ x = c ∨ x ∈ s.md.pendFault := by
  unfold pendCause
  split
  · next h =>
    have hc : c ∈ s.md.pendFault := by simpa using h
    exact ⟨.inr, by rintro (rfl | hx) <;> assumption⟩
  · next h =>
    have hc : c ∉ s.md.pendFault := by simpa using h
    simp only [List.mem_append, List.mem_filter, List.mem_singleton, decide_eq_true_eq]
    constructor
    · rintro ((⟨hx, -⟩ | rfl) | ⟨hx, -⟩) <;> simp [*]
    · rintro (rfl | hx)
      · exact .inl (.inr rfl)
      · have hne : x ≠ c := fun e => hc (e ▸ hx)
        rcases Nat.lt_or_gt_of_ne hne with hlt | hgt
        · exact .inl (.inl ⟨hx, hlt⟩)
        · exact .inr ⟨hx, hgt⟩

theorem doClockFault_of_reset {s : State} (dt : Nat) (h : s.md.mode = .reset) : doClockFault s dt = s := if_pos h

/-- A clock fault sets its bit, opens every switch and lets cause 0x03 wait (01 R22). -/
theorem doClockFault_eq {s : State} (dt : Nat) (h : s.md.mode ≠ .reset) :
    doClockFault s dt = pendCause (openAll (setStatus (advance s dt) 9 true)) 0x03 := if_neg h

theorem within100_iff (err : Int) : within100 err = true ↔ -10 ≤ err ∧ err ≤ 10 := by simp [within100]

theorem within100_eq_false_iff (err : Int) : within100 err = false ↔ err < -10 ∨ 10 < err := by
  rw [← Bool.not_eq_true, within100_iff]
  omega

theorem doLockLost_of_idle {s : State} {err : Int} (h : s.md.mode = .reset ∨ timeMaster s = true ∨ within100 err = true) :
    doLockLost s err = s := if_pos (by simpa [or_assoc] using h)

/-- An error beyond 100 ns is shown, and ends a lock that stood (02 R50). -/
theorem doLockLost_of_far {s : State} {err : Int} (hmode : s.md.mode ≠ .reset) (hmaster : timeMaster s = false)
    (herr : within100 err = false) :
    doLockLost s err =
      if tbLocked s then unlock { s with fr := { s.fr with syncErr := err } } else { s with fr := { s.fr with syncErr := err } } :=
  if_neg (by simp [hmode, hmaster, herr])

theorem doLockRegained_of_idle {s : State} {err : Int}
    (h : s.md.mode = .reset ∨ timeMaster s = true ∨ within100 err = false ∨ s.gr.agrees = false) : doLockRegained s err = s :=
  if_pos (by simpa [or_assoc] using h)

/-- An error within 100 ns with T10 and FRAME_NO agreed locks the timebase (02 R50). -/
theorem doLockRegained_of_near {s : State} {err : Int} (hmode : s.md.mode ≠ .reset) (hmaster : timeMaster s = false)
    (herr : within100 err = true) (hagrees : s.gr.agrees = true) :
    doLockRegained s err = setStatus { s with fr := { s.fr with syncErr := err }, gr := { s.gr with masterMiss := 0 } } 6 true :=
  if_neg (by simp [hmode, hmaster, herr, hagrees])

theorem doSyncEdge_of_none {s : State} (dt : Nat) {rising : Bool} (ppm : Int) (step : Bool)
    (h : s.fr.syncIn = 0 ∨ s.md.mode = .reset ∨ rising = s.fr.syncFall) : doSyncEdge s dt rising ppm step = s := if_pos h

/-- An edge more than a quarter frame off its tick sets bit 5 alone (02 R52). -/
theorem doSyncEdge_of_far {s : State} {dt : Nat} {rising : Bool} (ppm : Int) (step : Bool)
    (h : ¬(s.fr.syncIn = 0 ∨ s.md.mode = .reset ∨ rising = s.fr.syncFall))
    (hfar : s.fr.fUs * 25 < (edgeError (advance s dt)).2.natAbs) :
    doSyncEdge s dt rising ppm step = setStatus (advance s dt) 5 true := (if_neg h).trans (if_pos hfar)

/-- The error of a nearer edge is shown and its tick counted as met (02 R51, R52). -/
def edgeTaken (s : State) (dt : Nat) : State :=
  let a := advance s dt
  { a with fr := { a.fr with syncErr := (edgeError a).2, syncMiss := 0, syncEdge := (edgeError a).1 + 1 } }

/-- The time master takes its frequency correction with an edge, and shows whether it is within 100 ns (02 R51). -/
def edgeFollowed (s : State) (dt : Nat) (ppm : Int) : State :=
  let b := edgeTaken s dt
  setStatus { b with fr := { b.fr with ppm := clampI ppm (-200) 200 } } 3 (within100 (edgeError (advance s dt)).2)

/-- The next tick after a step of the tick phase by the error of an edge (02 R51). -/
def steppedNext (s : State) (dt : Nat) : Nat :=
  max ((s.fr.next + (edgeError (advance s dt)).2).toNat) ((advance s dt).fr.t10 + 1)

/-- The time master steps its tick phase here: it may do so once, in CONFIGURED or CHECKING. -/
def maySyncStep (s : State) (step : Bool) : Bool :=
  step && (decide (s.md.mode = .configured) || decide (s.md.mode = .checking)) && !s.fr.stepped

theorem maySyncStep_iff (s : State) (step : Bool) :
    maySyncStep s step = true ↔ step = true ∧ (s.md.mode = .configured ∨ s.md.mode = .checking) ∧ s.fr.stepped = false := by
  simp [maySyncStep, and_assoc]

/-- What a nearer edge does, in a unit that is not the time master, and in one that is. -/
theorem doSyncEdge_of_near {s : State} {dt : Nat} {rising : Bool} (ppm : Int) (step : Bool)
    (h : ¬(s.fr.syncIn = 0 ∨ s.md.mode = .reset ∨ rising = s.fr.syncFall))
    (hnear : (edgeError (advance s dt)).2.natAbs ≤ s.fr.fUs * 25) :
    doSyncEdge s dt rising ppm step =
      if timeMaster s = false then edgeTaken s dt
      else if maySyncStep s step = true then
        { edgeFollowed s dt ppm with fr := { (edgeFollowed s dt ppm).fr with stepped := true, next := steppedNext s dt } }
      else edgeFollowed s dt ppm := by
  refine (if_neg h).trans ((if_neg (Nat.not_lt.2 hnear)).trans ?_)
  cases hm : timeMaster s
  · exact if_pos (congrArg (! ·) hm)
  · exact if_neg (by rw [Bool.not_eq_true', Bool.not_eq_false]; exact hm)

theorem clampI_bounds (x : Int) {lo hi : Int} (h : lo ≤ hi) : lo ≤ clampI x lo hi ∧ clampI x lo hi ≤ hi := by
  unfold clampI
  omega

theorem clampI_of_within {x lo hi : Int} (h1 : lo ≤ x) (h2 : x ≤ hi) : clampI x lo hi = x := by
  unfold clampI
  omega

/-- SYNC_MISS_LIMIT missing edges set bit 4 and clear bit 3 (02 R52). -/
theorem doSyncLost_eq (s : State) : doSyncLost s =
    if s.fr.syncIn ≠ 0 ∧ s.fr.missLimit ≤ s.fr.syncMiss + b2n (edgeMissing s) then
      { s with fr := { s.fr with status := bclr (bset s.fr.status 4) 3 } } else s := rfl

theorem exec_clockFault (dt : Nat) (clock : Fin 6) (s : State) :
    exec (.clockFault dt clock) s = .next (settle s (doClockFault s dt)) := rfl

theorem exec_timebaseLockLost (err : Int) (s : State) : exec (.timebaseLockLost err) s = .next (settle s (doLockLost s err)) := rfl

theorem exec_timebaseLockRegained (err : Int) (s : State) :
    exec (.timebaseLockRegained err) s = .next (settle s (doLockRegained s err)) := rfl

theorem exec_syncInEdge (dt : Nat) (rising : Bool) (ppm : Int) (step : Bool) (s : State) :
    exec (.syncInEdge ⟨dt, rising⟩ ppm step) s = .next (settle s (doSyncEdge s dt rising ppm step)) := rfl

theorem exec_syncInLost (s : State) : exec .syncInLost s = .next (settle s (doSyncLost s)) := rfl

/-- Settles O38: each row by the cases of its effect. -/
theorem clocksAndSyncInputs : Obligations.ClocksAndSyncInputs := by
  refine ⟨fun dt clock s => ⟨fun hm => ⟨_, exec_clockFault dt clock s, ?_⟩, fun hm => ?_⟩,
    fun err s => ⟨fun hidle => ?_, fun hm htm => ⟨fun hnear => ?_, fun hfar => ?_⟩⟩,
    fun dt rising ppm step s => ⟨fun hnone => ?_, fun hin hm hdir =>
      ⟨fun hfar => ?_, fun hnear => ⟨_, exec_syncInEdge dt rising ppm step s, ?_⟩⟩⟩,
    fun s => ⟨fun hin hmiss => ?_, fun hnot => ?_⟩⟩
  · rw [doClockFault_eq dt hm]
    exact ⟨pendCause_frame _ _, (mem_pendCause ..).2 (.inl rfl), fun c hc => (mem_pendCause ..).2 (.inr hc)⟩
  · rw [exec_clockFault, doClockFault_of_reset dt hm]
  · rw [exec_timebaseLockLost, exec_timebaseLockRegained, doLockLost_of_idle (hidle.imp_right .inl), doLockRegained_of_idle (hidle.imp_right .inl)]
    exact ⟨rfl, rfl⟩
  · have hw := (within100_iff err).2 hnear
    refine ⟨?_, fun hagrees => ?_, fun hagrees => ?_⟩
    · rw [exec_timebaseLockLost, doLockLost_of_idle (.inr (.inr hw))]
    · rw [exec_timebaseLockRegained, doLockRegained_of_idle (.inr (.inr (.inr hagrees)))]
    · rw [exec_timebaseLockRegained, doLockRegained_of_near hm htm hw hagrees]
      rfl
  · have hw := (within100_eq_false_iff err).2 hfar
    refine ⟨?_, fun hlocked => ?_, fun hlocked => ?_⟩
    · rw [exec_timebaseLockRegained, doLockRegained_of_idle (.inr (.inr (.inl hw)))]
    · rw [exec_timebaseLockLost, doLockLost_of_far hm htm hw, if_pos hlocked]
      rfl
    · rw [exec_timebaseLockLost, doLockLost_of_far hm htm hw, if_neg (by simp [hlocked])]
  · rw [exec_syncInEdge, doSyncEdge_of_none dt ppm step hnone]
  · rw [exec_syncInEdge, doSyncEdge_of_far ppm step (not_or.2 ⟨hin, not_or.2 ⟨hm, hdir⟩⟩) hfar]
  · rw [doSyncEdge_of_near ppm step (not_or.2 ⟨hin, not_or.2 ⟨hm, hdir⟩⟩) hnear]
    obtain ⟨hlo, hhi⟩ := clampI_bounds ppm (lo := -200) (hi := 200) (by decide)
    cases htm : timeMaster s
    · exact ⟨rfl, rfl, rfl, rfl, rfl, fun _ => ⟨rfl, rfl, rfl⟩, fun h => absurd h (by decide), fun h => absurd rfl h⟩
    · rw [if_neg (by decide)]
      split
      · next hstep =>
        obtain ⟨-, hmode, honce⟩ := (maySyncStep_iff s step).1 hstep
        exact ⟨rfl, rfl, rfl, rfl, rfl, fun h => absurd h (by decide), fun _ => ⟨hlo, hhi, clampI_of_within, rfl⟩,
          fun _ => ⟨honce, rfl, hmode, rfl⟩⟩
      · exact ⟨rfl, rfl, rfl, rfl, rfl, fun h => absurd h (by decide), fun _ => ⟨hlo, hhi, clampI_of_within, rfl⟩,
          fun h => absurd rfl h⟩
  · rw [exec_syncInLost, doSyncLost_eq, if_pos ⟨hin, hmiss⟩]
  · rw [exec_syncInLost, doSyncLost_eq, if_neg (by omega)]

/-! ### Link transfers (01 R19-R21) -/

theorem exec_linkTransfer (l : Link) (out crcOk repeatOk : Bool) (p : Payload) (s : State) :
    exec (.linkTransfer l out crcOk repeatOk p) s = .next (settle s (doLink s l out crcOk repeatOk p)) := rfl

theorem doLink_of_reset {s : State} (l : Link) (out crcOk repeatOk : Bool) (p : Payload) (h : s.md.mode = .reset) :
    doLink s l out crcOk repeatOk p = s := if_pos h

/-- Of the two copies one that passes its CRC is taken (01 R20). -/
theorem doLink_of_passed {s : State} (l : Link) (out : Bool) {crcOk repeatOk : Bool} (p : Payload) (hm : s.md.mode ≠ .reset)
    (h : crcOk = true ∨ repeatOk = true) : doLink s l out crcOk repeatOk p = if out then linkOut s l else linkIn s l p :=
  (if_neg hm).trans (if_pos (by simpa using h))

/-- A transfer that fails twice is discarded (01 R20). -/
theorem doLink_of_failed {s : State} (l : Link) (out : Bool) (p : Payload) (hm : s.md.mode ≠ .reset) :
    doLink s l out false false p = if out then linkDiscard s l else linkStale (linkDiscard s l) l := if_neg hm

@[simp] theorem bankLinkBack_fr (s : State) (b : Nat) : (bankLinkBack s b).fr = s.fr := by
  unfold bankLinkBack
  split <;> rfl

/-- The images that have arrived once the transfer of link `l` has: the one of the frame at the receiver of the link. -/
def arrivedBy (s : State) (l : Link) : Tab (Option OutImg) :=
  match imgReceiver l, s.fr.outImg with
  | some k, some img => Tab.set s.fr.arrived none k (some img)
  | _, _ => s.fr.arrived

theorem arrivedBy_of_image {s : State} {l : Link} {k : Nat} {img : OutImg} (hk : imgReceiver l = some k)
    (himg : s.fr.outImg = some img) : arrivedBy s l = Tab.set s.fr.arrived none k (some img) := by
  simp only [arrivedBy, hk, himg]

theorem arrivedBy_of_none {s : State} {l : Link} (h : imgReceiver l = none ∨ s.fr.outImg = none) : arrivedBy s l = s.fr.arrived := by
  unfold arrivedBy
  split
  · next k img hk himg => simp [hk, himg] at h
  · rfl

theorem linkOut_fr (s : State) (l : Link) : (linkOut s l).fr = { s.fr with arrived := arrivedBy s l } := by
  unfold linkOut arrivedBy
  cases l <;> cases s.fr.outImg <;> simp [imgReceiver]

theorem linkOut_field (s : State) :
    linkOut s .field = { s with fr := (linkOut s .field).fr, sf := { s.sf with swHigh := s.sf.high } } := by
  unfold linkOut
  cases s.fr.outImg <;> rfl

theorem linkOut_ob (s : State) (g : Fin 8) : linkOut s (.ob g) = { s with fr := (linkOut s (.ob g)).fr } := by
  unfold linkOut
  cases s.fr.outImg <;> rfl

theorem linkOut_ab (s : State) (b : Fin 6) : linkOut s (.ab b) = bankLinkBack s b.val := rfl

/-- The four channels of an OB bank. -/
theorem mem_bankChannels (g c : Nat) : c ∈ (List.range 4).map (fun i => 4 * g + i) ↔ c / 4 = g := by
  simp only [List.mem_map, List.mem_range]
  constructor
  · rintro ⟨i, hi, rfl⟩
    omega
  · intro h
    exact ⟨c % 4, by omega, by omega⟩

theorem bankChannels_nodup (g : Nat) : ((List.range 4).map (fun i => 4 * g + i)).Nodup :=
  List.Pairwise.map _ (fun a b (h : a ≠ b) => show 4 * g + a ≠ 4 * g + b by omega) List.nodup_range

/-- An input transfer of an OB bank brings the readbacks that it carries, of the channels of the bank alone (09 R225). -/
theorem aoCh_linkIn_ob (s : State) (g : Fin 8) (p : Payload) (c : Nat) : aoCh (linkIn s (.ob g) p) c =
    match if c / 4 = g.val then p.vals[c % 4]? else none with
    | some v => { aoCh s c with rbLive := v.1, satLive := v.2 }
    | none => aoCh s c := by
  simp only [aoCh, linkIn, Tab.get_updMany _ _ _ _ (bankChannels_nodup g.val), mem_bankChannels]
  by_cases hc : c / 4 = g.val
  · simp only [if_pos hc]
    cases p.vals[c % 4]? <;> rfl
  · simp only [if_neg hc]

/-- Settles O37: by the two copies, the direction and the link. -/
theorem linkTransfersAreTakenOrDiscarded : Obligations.LinkTransfersAreTakenOrDiscarded := by
  intro l crcOk repeatOk p s
  refine ⟨fun hm out => ?_, fun hm hok => ?_, fun hm hcrc hrep => ?_⟩
  · rw [exec_linkTransfer, doLink_of_reset l out crcOk repeatOk p hm]
  · have hout : exec (.linkTransfer l true crcOk repeatOk p) s = .next (settle s (linkOut s l)) := by
      rw [exec_linkTransfer, doLink_of_passed l true p hm hok, if_pos rfl]
    have hin : exec (.linkTransfer l false crcOk repeatOk p) s = .next (settle s (linkIn s l p)) := by
      rw [exec_linkTransfer, doLink_of_passed l false p hm hok, if_neg Bool.false_ne_true]
    refine ⟨⟨_, hout, fun k img hk himg => ?_, fun hnone => ?_, ?_, ?_, ?_, ?_⟩, ?_, ?_, ?_, ?_⟩
    · rw [linkOut_fr, arrivedBy_of_image hk himg]
    · rw [linkOut_fr, arrivedBy_of_none hnone]
    · rintro rfl
      exact linkOut_field s
    · rintro rfl
      rfl
    · rintro b rfl
      rw [linkOut_ab, bankLinkBack_fr]
    · rintro g rfl
      exact linkOut_ob s g
    · rintro rfl
      exact hin
    · rintro rfl
      exact hin
    · rintro b rfl
      exact hin
    · rintro g rfl
      exact ⟨_, hin, rfl, aoCh_linkIn_ob s g p⟩
  · subst hcrc hrep
    rw [exec_linkTransfer, exec_linkTransfer, doLink_of_failed _ _ p hm, doLink_of_failed _ _ p hm]
    cases l <;> exact ⟨rfl, rfl⟩

/-! ### The commit (01 R21, 02 R36, 08 R194, R195) -/

/-- The image that receiver `k` takes at the commit: the one that has arrived, with the number of this frame; after a trip only one
with the SAFE marker. -/
def takenImg (s : State) (k : Nat) : Option OutImg :=
  (Tab.get s.fr.arrived none k).filter fun img => decide (img.frame = s.fr.frame) && (!s.dio.trip.getLsbD k || !img.driven)

theorem takenImg_of_none {s : State} {k : Nat} (h : Tab.get s.fr.arrived none k = none) : takenImg s k = none := by
  rw [takenImg, h, Option.filter_none]

theorem takenImg_of_arrived {s : State} {k : Nat} {img : OutImg} (h : Tab.get s.fr.arrived none k = some img) : takenImg s k =
    if img.frame = s.fr.frame ∧ (s.dio.trip.getLsbD k = false ∨ img.driven = false) then some img else none := by
  simp [takenImg, h, Option.filter_some]

/-- A receiver that takes an image holds it as its pending one, armed and no longer tripped. -/
theorem moveImg_eq (s : State) (k : Nat) : moveImg s k =
    match takenImg s k with
    | none => s
    | some img => { s with
        fr := { s.fr with pend := Tab.set s.fr.pend none k (some img) }
        dio := { s.dio with lastImg := Tab.set s.dio.lastImg 0 k s.fr.t10, arm := bset s.dio.arm k, trip := bclr s.dio.trip k } } := by
  unfold moveImg
  cases ha : Tab.get s.fr.arrived none k with
  | none => simp only [takenImg_of_none ha]
  | some img =>
    have hrefused : (img.frame ≠ s.fr.frame ∨ (s.dio.trip.toNat.testBit k && img.driven) = true) ↔
        ¬(img.frame = s.fr.frame ∧ (s.dio.trip.getLsbD k = false ∨ img.driven = false)) := by
      simp only [testBit_getLsbD, ne_eq, Bool.and_eq_true, Decidable.not_and_iff_not_or_not, not_or, Bool.not_eq_false]
    rw [takenImg_of_arrived ha]
    by_cases ht : img.frame = s.fr.frame ∧ (s.dio.trip.getLsbD k = false ∨ img.driven = false)
    · rw [if_pos ht]
      exact if_neg fun h => hrefused.1 h ht
    · rw [if_neg ht]
      exact if_pos (hrefused.2 ht)

/-- A receiver at the commit changes its pending image, the time of its latest one, its arming and its trip. -/
theorem moveImg_frame (s : State) (k : Nat) : moveImg s k = { s with
    fr := { s.fr with pend := (moveImg s k).fr.pend }
    dio := { s.dio with lastImg := (moveImg s k).dio.lastImg, arm := (moveImg s k).dio.arm, trip := (moveImg s k).dio.trip } } := by
  rw [moveImg_eq]
  split <;> rfl

theorem foldl_moveImg_frame (ks : List Nat) (s : State) : ks.foldl moveImg s = { s with
    fr := { s.fr with pend := (ks.foldl moveImg s).fr.pend }
    dio := { s.dio with
      lastImg := (ks.foldl moveImg s).dio.lastImg, arm := (ks.foldl moveImg s).dio.arm, trip := (ks.foldl moveImg s).dio.trip } } := by
  induction ks generalizing s with
  | nil => rfl
  | cons k ks ih => rw [List.foldl_cons, ih (moveImg s k), moveImg_frame s k]

theorem get_pend_moveImg (s : State) (k i : Nat) : Tab.get (moveImg s k).fr.pend none i =
    if i = k then (takenImg s k).or (Tab.get s.fr.pend none k) else Tab.get s.fr.pend none i := by
  rw [moveImg_eq]
  split
  · next h => split <;> simp_all
  · next img h => simp only [Tab.get_set, h, Option.some_or]

theorem trip_moveImg (s : State) (k i : Nat) :
    (moveImg s k).dio.trip.getLsbD i = (s.dio.trip.getLsbD i && !(decide (i = k) && (takenImg s k).isSome)) := by
  rw [moveImg_eq]
  split
  · next h => simp [h]
  · next img h => simp [h, eq_comm]

/-- What one receiver takes is no matter of the others. -/
theorem takenImg_moveImg_other (s : State) {k i : Nat} (h : i ≠ k) : takenImg (moveImg s k) i = takenImg s i := by
  have ht : (moveImg s k).dio.trip.getLsbD i = s.dio.trip.getLsbD i := by simp [trip_moveImg, h]
  rw [takenImg, ht, moveImg_frame]
  rfl

/-- The pending images after the receivers `ks` have each taken theirs. -/
theorem get_pend_foldl_moveImg (ks : List Nat) (hks : ks.Nodup) (s : State) (i : Nat) : Tab.get (ks.foldl moveImg s).fr.pend none i =
    if i ∈ ks then (takenImg s i).or (Tab.get s.fr.pend none i) else Tab.get s.fr.pend none i := by
  induction ks generalizing s with
  | nil => rfl
  | cons k ks ih =>
    obtain ⟨hk, hks⟩ := List.nodup_cons.1 hks
    rw [List.foldl_cons, ih hks, get_pend_moveImg]
    by_cases hi : i = k
    · subst hi
      simp [hk]
    · simp [hi, takenImg_moveImg_other s hi]

/-- The trips that stand after the receivers `ks` have each taken theirs. -/
theorem trip_foldl_moveImg (ks : List Nat) (hks : ks.Nodup) (s : State) (i : Nat) : (ks.foldl moveImg s).dio.trip.getLsbD i =
    (s.dio.trip.getLsbD i && !(decide (i ∈ ks) && (takenImg s i).isSome)) := by
  induction ks generalizing s with
  | nil => simp
  | cons k ks ih =>
    obtain ⟨hk, hks⟩ := List.nodup_cons.1 hks
    rw [List.foldl_cons, ih hks, trip_moveImg]
    by_cases hi : i = k
    · subst hi
      simp [hk]
    · simp [hi, takenImg_moveImg_other s hi]

/-- The instant of the commit, with the slot and an older apply carried out before it (notes/assumptions/10.md). -/
def atCommit (s : State) : State :=
  let sa := doSlot s
  let sb := match sa.fr.toApply with
    | some f => if f.at_ < commitT sa then doApply sa else sa
    | none => sa
  advanceTo sb (commitT sb)

/-- The receivers `ks` take their images, and the frozen page waits for its apply. -/
def commitImages (ks : List Nat) (s : State) : State :=
  let s1 := ks.foldl moveImg s
  { s1 with fr := { s1.fr with arrived := [], toApply := s1.fr.frozen, frozen := none, commitDone := true } }

/-- The journal and the events of a frame with a frozen page `f` (13 R372, R374). -/
def commitJournal (ok : Bool) (f : Option Frozen) (s : State) : State :=
  match f with
  | none => s
  | some _ => if s.md.mode.allPhases && hasCfg s then commitEvents (writeJournal ok s) else s

theorem doCommit_of_idle {s : State} (ok : Bool) (h : s.md.mode = .reset ∨ s.md.mode = .boot ∨ s.fr.commitDone = true) :
    doCommit s ok = s := if_pos h

/-- The commit of the nine receivers. -/
theorem doCommit_eq {s : State} (ok : Bool) (h : ¬(s.md.mode = .reset ∨ s.md.mode = .boot ∨ s.fr.commitDone = true)) :
    doCommit s ok = commitJournal ok ((List.range 9).foldl moveImg (atCommit s)).fr.frozen (commitImages (List.range 9) (atCommit s)) := by
  rw [doCommit, if_neg h]
  generalize List.range 9 = ks
  rfl

/-- With the slot held and no apply waiting, the commit comes at its own instant. -/
theorem atCommit_of_slotDone {s : State} (hslot : s.fr.slotDone = true) (happly : s.fr.toApply = none) :
    atCommit s = advanceTo s (commitT s) := by
  have hs : doSlot s = s := if_pos (.inr (.inr hslot))
  simp only [atCommit, hs, happly]

/-- The journal is written beside the frame, the mode and the digital outputs. -/
theorem commitJournal_frame (ok : Bool) (f : Option Frozen) (s : State) :
    (commitJournal ok f s).fr = s.fr ∧ (commitJournal ok f s).md = s.md ∧ (commitJournal ok f s).dio = s.dio := by
  unfold commitJournal
  split
  · exact ⟨rfl, rfl, rfl⟩
  · split
    · unfold writeJournal
      cases ok <;> exact ⟨rfl, rfl, rfl⟩
    · exact ⟨rfl, rfl, rfl⟩

theorem commitImages_fr (ks : List Nat) (s : State) : (commitImages ks s).fr =
    { s.fr with pend := (commitImages ks s).fr.pend, arrived := [], toApply := s.fr.frozen, frozen := none, commitDone := true } := by
  unfold commitImages
  dsimp only
  rw [foldl_moveImg_frame]

theorem commitImages_md (ks : List Nat) (s : State) : (commitImages ks s).md = s.md := by
  unfold commitImages
  dsimp only
  rw [foldl_moveImg_frame]

theorem commitImages_pend (ks : List Nat) (s : State) : (commitImages ks s).fr.pend = (ks.foldl moveImg s).fr.pend := rfl

theorem commitImages_dio (ks : List Nat) (s : State) : (commitImages ks s).dio = (ks.foldl moveImg s).dio := rfl

/-- The commit in its parts that the statements speak of. -/
theorem doCommit_parts {s : State} (ok : Bool) (h : ¬(s.md.mode = .reset ∨ s.md.mode = .boot ∨ s.fr.commitDone = true)) :
    (doCommit s ok).fr = (commitImages (List.range 9) (atCommit s)).fr ∧ (doCommit s ok).md = (atCommit s).md ∧
      (doCommit s ok).dio = ((List.range 9).foldl moveImg (atCommit s)).dio := by
  rw [doCommit_eq ok h]
  obtain ⟨hfr, hmd, hdio⟩ := commitJournal_frame ok ((List.range 9).foldl moveImg (atCommit s)).fr.frozen
    (commitImages (List.range 9) (atCommit s))
  exact ⟨hfr, hmd.trans (commitImages_md ..), hdio.trans (commitImages_dio ..)⟩

/-- The pending images after the commit of the nine receivers. -/
theorem get_pend_commitImages (s : State) (k : Nat) : Tab.get (commitImages (List.range 9) s).fr.pend none k =
    match Tab.get s.fr.arrived none k with
    | some img =>
      if k < 9 ∧ img.frame = s.fr.frame ∧ (s.dio.trip.toNat.testBit k = false ∨ img.driven = false) then some img
      else Tab.get s.fr.pend none k
    | none => Tab.get s.fr.pend none k := by
  rw [commitImages_pend, get_pend_foldl_moveImg _ List.nodup_range]
  simp only [List.mem_range, testBit_getLsbD]
  cases ha : Tab.get s.fr.arrived none k with
  | none => simp [takenImg_of_none ha]
  | some img =>
    rw [takenImg_of_arrived ha]
    by_cases hk : k < 9
    · rw [if_pos hk]
      by_cases ht : img.frame = s.fr.frame ∧ (s.dio.trip.getLsbD k = false ∨ img.driven = false)
      · rw [if_pos ht]
        exact (if_pos ⟨hk, ht⟩).symm
      · rw [if_neg ht]
        exact (if_neg fun h => ht h.2).symm
    · rw [if_neg hk]
      exact (if_neg fun h => hk h.1).symm

/-- An image of this frame with the SAFE marker ends the trip of its receiver. -/
theorem trip_commit (s : State) {k : Nat} (hk : k < 9) : ((List.range 9).foldl moveImg s).dio.trip.getLsbD k =
    (s.dio.trip.getLsbD k && !((Tab.get s.fr.arrived none k).any fun img => decide (img.frame = s.fr.frame) && !img.driven)) := by
  rw [trip_foldl_moveImg _ List.nodup_range]
  cases ha : Tab.get s.fr.arrived none k with
  | none => simp [takenImg_of_none ha]
  | some img =>
    rw [takenImg_of_arrived ha]
    cases s.dio.trip.getLsbD k
    · rfl
    · by_cases hf : img.frame = s.fr.frame <;> cases hd : img.driven <;> simp [hk, hf, hd]

theorem exec_commit (ok : Bool) (s : State) : exec (.commit ok) s = .next (settle s (doCommit s ok)) := rfl

/-- Settles O35: the nine receivers one after the other, each taking its own image. -/
theorem theCommitMovesTheImagesThatArrived : Obligations.TheCommitMovesTheImagesThatArrived := by
  refine ⟨fun ok s hidle => ?_, fun ok s hreset hboot hdone hslot happly => ⟨_, exec_commit ok s, ?_⟩,
    fun ok s hreset hboot hdone => ⟨_, exec_commit ok s, ?_⟩⟩
  · rw [exec_commit, doCommit_of_idle ok hidle]
  · obtain ⟨hfr, hmd, hdio⟩ := doCommit_parts ok (s := s) (by simp [hreset, hboot, hdone])
    rw [hfr, hmd, hdio, atCommit_of_slotDone hslot happly, commitImages_fr]
    have hpend := get_pend_commitImages (advanceTo s (commitT s))
    have htrip := fun k (hk : k < 9) => trip_commit (advanceTo s (commitT s)) hk
    generalize (commitImages (List.range 9) (advanceTo s (commitT s))).fr.pend = pend at hpend ⊢
    generalize ((List.range 9).foldl moveImg (advanceTo s (commitT s))).dio = dio at htrip ⊢
    exact ⟨rfl, rfl, rfl, rfl, rfl, rfl, rfl, rfl, hpend, htrip⟩
  · obtain ⟨hfr, -, -⟩ := doCommit_parts ok (s := s) (by simp [hreset, hboot, hdone])
    rw [hfr, commitImages_fr]
    exact ⟨rfl, rfl, rfl⟩

end Sys2Proof.Machine
end

section
/-! Proofs about the frame (02): the time snapshot, the tick, the output transfer slot, the apply and the memory tests in the idle tail. -/

namespace Sys2Proof.Machine

open Sys2Proof

/-! ### The time snapshot (02 R57) -/

/-- Bit 0 of the write takes the snapshot, bit 1 clears the peak; the rest of the frame registers stands. -/
theorem timeSnap_eq (s : State) (v : Word) : timeSnap s v = { s with fr := { s.fr with
    snapT10 := if v.getLsbD 0 = true then s.fr.t10 else s.fr.snapT10
    snapFrame := if v.getLsbD 0 = true then s.fr.frame else s.fr.snapFrame
    peak := if v.getLsbD 1 = true then 0 else s.fr.peak } } := by
  simp only [timeSnap, testBit_getLsbD]
  cases v.getLsbD 0 <;> cases v.getLsbD 1 <;> rfl

theorem exec_diagTimeSnap (dt : Nat) (v : Word) {s : State} (h : hostUp s = true) :
    exec (.diagTimeSnap dt v) s = .next (settle s (timeSnap (advance s dt) v)) :=
  congrArg (fun u => Host.Outcome.next (settle s u)) (if_pos h)

theorem exec_phasePeakClear (dt : Nat) (v : Word) {s : State} (h : hostUp s = true) :
    exec (.phasePeakClear dt v) s = .next (settle s (timeSnap (advance s dt) v)) :=
  congrArg (fun u => Host.Outcome.next (settle s u)) (if_pos h)

/-- Settles O24: both rows are the one write of DIAG_TIME_SNAP at its instant. -/
theorem timeSnapshotCopiesTheTimebase : Obligations.TimeSnapshotCopiesTheTimebase := by
  intro dt v s hup a c hc
  have hsnap : exec c s = .next (settle s (timeSnap a v)) := by
    simp only [List.mem_cons, List.not_mem_nil, or_false] at hc
    rcases hc with rfl | rfl
    · exact exec_diagTimeSnap dt v hup
    · exact exec_phasePeakClear dt v hup
  rw [hsnap, timeSnap_eq]
  rfl

/-! ### The tick (02 R32-R34, R46, R49, 03 R60, R61, R73) -/

theorem exec_tick (i : TickIn) (s : State) : exec (.tick i) s = .next (settle s (doTick s i)) := rfl

theorem doTick_of_reset {s : State} (i : TickIn) (h : s.md.mode = .reset) : doTick s i = s := if_pos h

/-- Outside RESET a tick ends the frame and begins the next, `b`; what it does in that depends on whether BOOT lasts. -/
theorem doTick_eq {s b : State} (i : TickIn) (h : s.md.mode ≠ .reset) (hb : b = startFrame (endFrame i s)) : doTick s i =
    if b.md.mode = .boot ∧ b.md.bootDue = false then tickReclaim (bootTick b) else tickWork i b.cm.forces (tickMode b) := by
  subst hb
  exact if_neg h

/-- Without a step that waits, or in a mode that may not step, the frame begins at its tick, one on (02 R32, R33). -/
theorem frameStart_of_no_step {s : State} (h : mayStep s.md.mode = false ∨ s.gr.stepTo = none) :
    frameStart s = (s.fr.next, s.fr.frame + 1) := by
  unfold frameStart
  cases hstep : s.gr.stepTo with
  | none => rfl
  | some x => simp [h.resolve_right (by simp [hstep])]

/-- A step that waits sets both to the master's (02 R49). -/
theorem frameStart_of_step {s : State} {x : Nat × Nat} (hmay : mayStep s.md.mode = true) (hstep : s.gr.stepTo = some x) :
    frameStart s = x := by
  simp [frameStart, hstep, hmay]

/-- The missing edges of SYNC_IN leave the overruns alone. -/
theorem countMissing_overruns (s : State) : (countMissing s).fr.late = s.fr.late ∧ (countMissing s).fr.ovrRun = s.fr.ovrRun := by
  unfold countMissing
  dsimp only
  (repeat' split) <;> exact ⟨rfl, rfl⟩

/-- A frame whose phases had all ended ends the run of overruns (02 R46). -/
theorem endOverruns_ovrRun (s : State) : (endOverruns s).fr.ovrRun = if s.fr.late = 0 then 0 else s.fr.ovrRun := by
  unfold endOverruns
  split <;> rfl

theorem startFrame_ovrRun (s : State) : (startFrame s).fr.ovrRun = if s.fr.late = 0 then 0 else s.fr.ovrRun := by
  obtain ⟨hlate, hrun⟩ := countMissing_overruns s
  have hend : (startFrame s).fr.ovrRun = (endOverruns (countMissing s)).fr.ovrRun := by
    unfold startFrame
    dsimp only
    (repeat' split) <;> rfl
  rw [hend, endOverruns_ovrRun, hlate, hrun]

/-- Settles O33: the clock from the frame that the tick begins, the mode from what its parts keep. -/
theorem theTickStartsTheNextFrame : Obligations.TheTickStartsTheNextFrame := by
  intro i s
  refine ⟨fun hm => ?_, fun hm => by rw [exec_tick, doTick_of_reset i hm]⟩
  intro e b
  have ht := doTick_ticks s i hm
  have he : Onward s e := endFrame_onward i s
  have hb : b.md.mode = s.md.mode := (startFrame_begins e).mode.trans he.mode
  have hrun : b.fr.ovrRun = if e.fr.late = 0 then 0 else e.fr.ovrRun := startFrame_ovrRun e
  have hwork := doTick_eq (b := b) i hm rfl
  clear_value b
  refine ⟨doTick s i, exec_tick i s, ht.pending, ht.straps, ht.t10, ht.next, fun hno => ?_, fun x hmay hstep => ?_, hb, hrun,
    fun hboot hdue => ?_, fun hout => ?_⟩
  · rw [ht.tick, ht.frame, frameStart_of_no_step (by rwa [he.mode]), he.next, he.frame]
    exact ⟨rfl, rfl⟩
  · rw [ht.tick, ht.frame, frameStart_of_step (by rwa [he.mode]) hstep]
    exact ⟨rfl, rfl⟩
  · have hu : doTick s i = tickReclaim (bootTick b) := hwork.trans (if_pos ⟨hb.trans hboot, hdue⟩)
    refine ⟨hu, ?_⟩
    rw [hu, anchor_mode ((tickReclaim_anchor _).trans (bootTick_anchor b)), hb, hboot]
  · have hu : doTick s i = tickWork i b.cm.forces (tickMode b) :=
      hwork.trans (if_neg fun h => hout.elim (fun hm => hm (hb.symm.trans h.1)) fun hdue => by simp [hdue] at h)
    refine ⟨hu, ?_⟩
    rw [hu, anchor_mode (tickWork_anchor ..)]

/-! ### What the sampling, the queueing and the sending of a frame leave -/

/-- The parts of a state that a frame drives its outputs with: the frame, the mode, the digital and the analog part. -/
structure OutputPart where
  fr : FrameSt
  md : ModeSt
  dio : DioSt
  an : AnSt

def State.outputPart (s : State) : OutputPart := { fr := s.fr, md := s.md, dio := s.dio, an := s.an }

theorem outputPart_eq_iff {a b : State} :
    a.outputPart = b.outputPart ↔ a.fr = b.fr ∧ a.md = b.md ∧ a.dio = b.dio ∧ a.an = b.an := by
  simp only [State.outputPart, OutputPart.mk.injEq]

/-- All but the frame stands. -/
theorem outputPart_eq_with_fr_iff {a b : State} {fr : FrameSt} :
    b.outputPart = { a.outputPart with fr := fr } ↔ b.fr = fr ∧ b.md = a.md ∧ b.dio = a.dio ∧ b.an = a.an := by
  simp only [State.outputPart, OutputPart.mk.injEq]

theorem outputPart_ite (p : Prop) [Decidable p] (a b : State) :
    (if p then a else b).outputPart = if p then a.outputPart else b.outputPart := apply_ite ..

/-- A fold whose every step leaves the output part leaves it. -/
theorem outputPart_foldl {α : Type} (g : State → α → State) (h : ∀ s x, (g s x).outputPart = s.outputPart) (l : List α) (s : State) :
    (l.foldl g s).outputPart = s.outputPart := by
  induction l generalizing s with
  | nil => rfl
  | cons x l ih => rw [List.foldl_cons, ih, h]

@[simp] theorem setCap_outputPart (s : State) (c : Nat) (x : Capture) : (setCap s c x).outputPart = s.outputPart := rfl

@[simp] theorem capSample_outputPart (s : State) (c : Nat) : (capSample s c).outputPart = s.outputPart := by
  simp only [capSample, outputPart_ite, setCap_outputPart, ite_self]

@[simp] theorem capSampleAll_outputPart (s : State) : (capSampleAll s).outputPart = s.outputPart := by
  simp only [capSampleAll, outputPart_ite, outputPart_foldl _ capSample_outputPart, ite_self]

@[simp] theorem setReqResult_outputPart (s : State) (k : Nat) (ok : Bool) (o : Int) :
    (setReqResult s k ok o).outputPart = s.outputPart := rfl

@[simp] theorem overrunReqs_outputPart (s : State) : (overrunReqs s).outputPart = s.outputPart :=
  outputPart_foldl (fun s (r : Req) => setReqResult s r.inst false (-1)) (fun _ _ => setReqResult_outputPart ..) s.pg.reqs s

@[simp] theorem updPort_outputPart (s : State) (p : Nat) (f : Port → Port) : (updPort s p f).outputPart = s.outputPart := rfl

@[simp] theorem setTxq_outputPart (s : State) (p : Nat) (q : List TxFrame) : (setTxq s p q).outputPart = s.outputPart := rfl

@[simp] theorem enqueue_outputPart (s : State) (p order src : Nat) (isMsg : Bool) (data : List Byte) :
    (enqueue s p order src isMsg data).outputPart = s.outputPart := by
  simp only [enqueue, outputPart_ite, updPort_outputPart, setTxq_outputPart, ite_self]

/-- A transmit object changes its queue and its history (15 R428). -/
@[simp] theorem applyObj_outputPart (n : Nat) (objs : Tab (List Byte)) (s : State) (kb : Nat × List Byte) :
    (applyObj n objs s kb).outputPart = s.outputPart := by
  unfold applyObj
  extract_lets b p h len drv act data m due s1 h1 g
  have hs1 : s1.outputPart = s.outputPart := enqueue_outputPart ..
  rw [outputPart_ite, outputPart_ite, ite_eq_left_iff]
  intro _
  rw [ite_eq_left_iff]
  exact fun _ => hs1

@[simp] theorem applyObjs_outputPart (n : Nat) (objs : Tab (List Byte)) (s : State) : (applyObjs n objs s).outputPart = s.outputPart := by
  simp only [applyObjs, outputPart_ite, outputPart_foldl _ (applyObj_outputPart n objs), ite_self]

/-- A safe message changes its number and the queues of its two ports (16 R468). -/
@[simp] theorem sendMsg_outputPart (n t : Nat) (s : State) (m : Nat) : (sendMsg n t s m).outputPart = s.outputPart := by
  unfold sendMsg
  extract_lets b pA w seq g s1 put
  have hput (x : State) (copyB : Bool) : (put x copyB).outputPart = x.outputPart := by
    simp only [put, outputPart_ite, enqueue_outputPart, ite_self]
  have hsend : (put (put s1 false) true).outputPart = s.outputPart := (hput _ _).trans (hput _ _)
  simp only [outputPart_ite, hsend, ite_self]

@[simp] theorem sendMsgs_outputPart (n t : Nat) (s : State) : (sendMsgs n t s).outputPart = s.outputPart := by
  simp only [sendMsgs, outputPart_ite, outputPart_foldl _ (sendMsg_outputPart n t), ite_self]

/-- The mode of the page's frame stands only while it is sent (15 R428). -/
@[simp] theorem applySend_outputPart (f : Frozen) (s : State) : (applySend f s).outputPart = s.outputPart := by
  unfold applySend
  extract_lets m g s1 s2
  have hsent : s2.outputPart = s1.outputPart := (sendMsgs_outputPart ..).trans (applyObjs_outputPart ..)
  clear_value s2
  obtain ⟨hfr, hmd, hdio, han⟩ := outputPart_eq_iff.1 hsent
  exact outputPart_eq_iff.2 ⟨hfr, congrArg (fun x : ModeSt => { x with mode := s.md.mode }) hmd, hdio, han⟩

/-- The tests that are abandoned change the health part alone. -/
@[simp] theorem abandonTests_false_outputPart (s : State) : (abandonTests false s).outputPart = s.outputPart := rfl

/-! ### The output transfer slot (02 R35, R45, R46, 03 R82, 17 R504) -/

theorem exec_outputTransferSlot (s : State) : exec .outputTransferSlot s = .next (settle s (doSlot s)) := rfl

theorem doSlot_of_idle {s : State} (h : s.md.mode = .reset ∨ s.md.mode = .boot ∨ s.fr.slotDone = true) : doSlot s = s := if_pos h

/-- A standby that waits for its holder ends its waiting first (17 R504). -/
theorem doSlot_of_due {s : State} (hreset : s.md.mode ≠ .reset) (hboot : s.md.mode ≠ .boot) (hdone : s.fr.slotDone = false) :
    doSlot s = slotBody (doDeadline s none) := if_neg (by simp [hreset, hboot, hdone])

theorem doDeadline_of_heard {s : State} (digest : Option Nat) (h : s.gr.waiting = false) : doDeadline s digest = s :=
  if_pos (by simp [h])

/-- The instant of the slot, with the captures sampled and the slot held. -/
def atSlot (s : State) : State :=
  let a := capSampleAll (advanceTo s (commitT s - 400))
  { a with fr := { a.fr with slotDone := true, frozen := none, outImg := none } }

theorem atSlot_outputPart (s : State) : (atSlot s).outputPart =
    { s.outputPart with fr := { (advanceTo s (commitT s - 400)).fr with slotDone := true, frozen := none, outImg := none } } := by
  obtain ⟨hfr, hmd, hdio, han⟩ := outputPart_eq_iff.1 (capSampleAll_outputPart (advanceTo s (commitT s - 400)))
  simp only [State.outputPart, atSlot, hfr, hmd, hdio, han, advanceTo_md, advanceTo_dio, advanceTo_an]

theorem slotBody_eq (s : State) : slotBody s = if (atSlot s).fr.late = 0 then freeze (atSlot s) else overrun (atSlot s) := rfl

theorem freeze_outputPart (s : State) : (freeze s).outputPart = { s.outputPart with fr := { s.fr with
    outImg := some (buildImg s)
    frozen := some { frame := s.fr.frame, mode := s.md.mode, page := s.fr.page, at_ := s.fr.tick + s.fr.fUs * s.fr.out / 10 } } } := rfl

theorem overrun_outputPart (s : State) : (overrun s).outputPart = { s.outputPart with fr := { s.fr with
    status := bset (bset s.fr.status 0) 1, ovrCount := satInc32 s.fr.ovrCount, ovrRun := satInc 31 s.fr.ovrRun } } := by
  obtain ⟨hfr, hmd, hdio, han⟩ := outputPart_eq_iff.1 (overrunReqs_outputPart s)
  rw [← hfr]
  simp only [State.outputPart, ← hmd, ← hdio, ← han]
  rfl

/-- However the frame went, its slot has been held. -/
theorem slotBody_slotDone (s : State) : (slotBody s).fr.slotDone = true := by
  have hat : (atSlot s).fr.slotDone = true := rfl
  rw [slotBody_eq]
  split
  · exact (congrArg (·.fr.slotDone) (freeze_outputPart (atSlot s))).trans hat
  · exact (congrArg (·.fr.slotDone) (overrun_outputPart (atSlot s))).trans hat

/-- The slot of a frame whose phases have all ended. -/
theorem slotBody_of_onTime {s : State} (h : s.fr.late = 0) : (slotBody s).outputPart = { s.outputPart with fr :=
    { (advanceTo s (commitT s - 400)).fr with
      slotDone := true, outImg := some (buildImg (atSlot s))
      frozen := some { frame := s.fr.frame, mode := s.md.mode, page := s.fr.page, at_ := s.fr.tick + s.fr.fUs * s.fr.out / 10 } } } := by
  obtain ⟨hfr, hmd, hdio, han⟩ := outputPart_eq_with_fr_iff.1 (atSlot_outputPart s)
  have hlate : (atSlot s).fr.late = 0 := by rw [hfr]; exact h
  rw [slotBody_eq, if_pos hlate, freeze_outputPart, atSlot_outputPart, hfr, hmd]
  rfl

/-- The slot of an overrun. -/
theorem slotBody_of_late {s : State} (h : s.fr.late ≠ 0) : (slotBody s).outputPart = { s.outputPart with fr :=
    { (advanceTo s (commitT s - 400)).fr with
      slotDone := true, frozen := none, outImg := none
      status := bset (bset s.fr.status 0) 1, ovrCount := satInc32 s.fr.ovrCount, ovrRun := satInc 31 s.fr.ovrRun } } := by
  obtain ⟨hfr, hmd, hdio, han⟩ := outputPart_eq_with_fr_iff.1 (atSlot_outputPart s)
  have hlate : (atSlot s).fr.late ≠ 0 := by rw [hfr]; exact h
  rw [slotBody_eq, if_neg hlate, overrun_outputPart, atSlot_outputPart, hfr]
  rfl

/-- The image of the slot is the frame's own, with the SAFE marker where the mode drives no outputs. -/
theorem buildImg_atSlot (s : State) : (buildImg (atSlot s)).frame = s.fr.frame ∧ (buildImg (atSlot s)).driven = s.md.mode.driven := by
  obtain ⟨hfr, hmd, -, -⟩ := outputPart_eq_with_fr_iff.1 (atSlot_outputPart s)
  exact ⟨congrArg (·.frame) hfr, congrArg (·.mode.driven) hmd⟩

theorem exec_overrunLimitReached (s : State) : exec .overrunLimitReached s = .next (settle s (doOverrunLimit s)) := rfl

theorem doOverrunLimit_of_reached {s : State} (h : s.fr.ovrLimit ≤ s.fr.ovrRun) (hrun : 0 < s.fr.ovrRun) :
    doOverrunLimit s = pendCause s 0x02 := if_pos ⟨h, hrun⟩

theorem doOverrunLimit_of_shorter {s : State} (h : s.fr.ovrRun < s.fr.ovrLimit ∨ s.fr.ovrRun = 0) : doOverrunLimit s = s :=
  if_neg (by omega)

/-- Settles O34: the slot by its lateness, the limit by the run of overruns. -/
theorem theSlotFreezesTheFrameOrCountsAnOverrun : Obligations.TheSlotFreezesTheFrameOrCountsAnOverrun := by
  intro s
  refine ⟨fun hidle => ?_, fun hreset hboot hdone hwait => ⟨slotBody s, ?_, slotBody_slotDone s, ?_⟩,
    fun hreset hboot hdone _ => ⟨_, exec_outputTransferSlot s, ?_⟩, fun hlimit hrun => ⟨?_, ?_⟩, fun hshort => ?_⟩
  · rw [exec_outputTransferSlot, doSlot_of_idle hidle]
  · rw [exec_outputTransferSlot, doSlot_of_due hreset hboot hdone, doDeadline_of_heard none hwait]
  · by_cases hlate : s.fr.late = 0
    · obtain ⟨hfr, hmd, hdio, han⟩ := outputPart_eq_with_fr_iff.1 (slotBody_of_onTime hlate)
      obtain ⟨hframe, hdriven⟩ := buildImg_atSlot s
      rw [hfr, hmd, hdio, han]
      exact ⟨rfl, rfl, rfl, rfl, rfl, fun _ => ⟨rfl, ⟨_, rfl, hframe, hdriven⟩, rfl, rfl⟩, fun h => absurd hlate h⟩
    · obtain ⟨hfr, hmd, hdio, han⟩ := outputPart_eq_with_fr_iff.1 (slotBody_of_late hlate)
      rw [hfr, hmd, hdio, han]
      exact ⟨rfl, rfl, rfl, rfl, rfl, fun h => absurd h hlate, fun _ => ⟨rfl, rfl, rfl, rfl, rfl⟩⟩
  · rw [doSlot_of_due hreset hboot hdone]
    exact slotBody_slotDone _
  · rw [exec_overrunLimitReached, doOverrunLimit_of_reached hlimit hrun]
  · exact (mem_pendCause ..).2 (.inl rfl)
  · rw [exec_overrunLimitReached, doOverrunLimit_of_shorter hshort]

/-! ### The apply instant (02 R36, R37, 08 R195, 12 R346) -/

theorem exec_apply (s : State) : exec .apply s = .next (settle s (doApply s)) := rfl

theorem doApply_of_due {s : State} {f : Frozen} (h : s.fr.toApply = some f) (hm : s.md.mode ≠ .reset) (hf : f.at_ < s.fr.next) :
    doApply s = applyFrame f s := by
  simp only [doApply, h]
  exact if_neg (by simp [hm, hf])

theorem doApply_of_idle {s : State}
    (h : s.fr.toApply = none ∨ s.md.mode = .reset ∨ ∃ f, s.fr.toApply = some f ∧ s.fr.next ≤ f.at_) : doApply s = s := by
  unfold doApply
  cases hf : s.fr.toApply with
  | none => rfl
  | some f => exact if_pos (by simpa [hf] using h)

/-! What the field controller and an AO bank drive. -/

theorem applyDo_frame (t : Nat) (s : State) : applyDo t s =
    { s with dio := { s.dio with ch := (applyDo t s).dio.ch, cmdReg := (applyDo t s).dio.cmdReg } } := by
  unfold applyDo
  split <;> rfl

theorem applyDo_of_none {t : Nat} {s : State} (h : pinImg s 0 = none) : applyDo t s = s := by
  simp only [applyDo, h]

@[simp] theorem setDoCmd_cmd (t : Nat) (v : F64) (d : DoCh) : (setDoCmd t v d).cmd = v := by
  unfold setDoCmd
  split
  · assumption
  · rfl

/-- The field controller commands each channel as its image does. -/
theorem applyDo_of_image (t : Nat) {s : State} {img : OutImg} (h : pinImg s 0 = some img) {c : Nat} (hc : c < 64) :
    (doCh (applyDo t s) c).cmd = Tab.get img.dos 0 c ∧ (applyDo t s).dio.cmdReg.getLsbD c = (Tab.get img.dos 0 c != 0) := by
  simp only [applyDo, h, doCh, Tab.get_updMany _ _ _ _ List.nodup_range, List.mem_range, getLsbD_ofBits, hc, decide_true,
    Bool.true_and, and_true]
  cases img.driven <;> exact setDoCmd_cmd ..

theorem applyAo_frame (t : Nat) (s : State) (g : Nat) : applyAo t s g = { s with an := (applyAo t s g).an } := by
  unfold applyAo
  split <;> rfl

theorem foldl_applyAo_frame (t : Nat) (gs : List Nat) (s : State) :
    gs.foldl (applyAo t) s = { s with an := (gs.foldl (applyAo t) s).an } := by
  induction gs generalizing s with
  | nil => rfl
  | cons g gs ih => rw [List.foldl_cons, ih (applyAo t s g), applyAo_frame t s g]

/-- The level of channel c of a bank that drives the image `img`, from the level `x`. -/
def drivenLevel (img : Option OutImg) (c : Nat) (x : F64) : F64 := (img.map fun i => Tab.get i.aos 0 c).getD x

/-- OB bank g drives its own four channels. -/
theorem aoCh_level_applyAo (t : Nat) (s : State) (g c : Nat) : (aoCh (applyAo t s g) c).level =
    if c / 4 = g then drivenLevel (pinImg s (g + 1)) c (aoCh s c).level else (aoCh s c).level := by
  unfold applyAo
  cases himg : pinImg s (g + 1) with
  | none => exact (ite_self _).symm
  | some img =>
    simp only [aoCh, Tab.get_updMany _ _ _ _ (bankChannels_nodup g), mem_bankChannels, drivenLevel, Option.map_some, Option.getD_some]
    by_cases hc : c / 4 = g
    · simp only [if_pos hc]
      split
      · next h => simp at h; exact h.1
      · rfl
    · simp only [if_neg hc]

/-- The level of a channel once the banks `gs` have each driven theirs. -/
theorem aoCh_level_foldl_applyAo (t : Nat) (gs : List Nat) (hgs : gs.Nodup) (s : State) (c : Nat) :
    (aoCh (gs.foldl (applyAo t) s) c).level =
      if c / 4 ∈ gs then drivenLevel (pinImg s (c / 4 + 1)) c (aoCh s c).level else (aoCh s c).level := by
  induction gs generalizing s with
  | nil => rfl
  | cons g gs ih =>
    obtain ⟨hg, hgs⟩ := List.nodup_cons.1 hgs
    have hpin : pinImg (applyAo t s g) (c / 4 + 1) = pinImg s (c / 4 + 1) := by rw [applyAo_frame]; rfl
    rw [List.foldl_cons, ih hgs, hpin, aoCh_level_applyAo]
    by_cases hc : c / 4 = g
    · simp [hc, hg]
    · simp [hc]

/-! What the instant releases leaves the commands and the levels. -/

theorem doCh_cmd_applyRelease (t : Nat) (s : State) (c : Nat) : (doCh (applyRelease t s) c).cmd = (doCh s c).cmd := by
  simp only [applyRelease, doCh, Tab.get_updMany _ _ _ _ List.nodup_range]
  (repeat' split) <;> rfl

theorem aoCh_level_applyRelease (t : Nat) (s : State) (c : Nat) : (aoCh (applyRelease t s) c).level = (aoCh s c).level := by
  simp only [applyRelease, aoCh]
  rw [Tab.get_mapAll _ _ _ _ (by rfl)]
  split <;> rfl

/-- The state at the apply instant of the page `f`. -/
def atApply (f : Frozen) (s : State) : State := advanceTo { s with fr := { s.fr with toApply := none } } f.at_

/-- The field controller and the AO banks `gs` drive the images they hold. -/
def driveImages (gs : List Nat) (s : State) : State := gs.foldl (applyAo s.fr.t10) (applyDo s.fr.t10 s)

theorem driveImages_frame (gs : List Nat) (s : State) : driveImages gs s = { s with
    dio := { s.dio with ch := (applyDo s.fr.t10 s).dio.ch, cmdReg := (applyDo s.fr.t10 s).dio.cmdReg }
    an := (driveImages gs s).an } := by
  unfold driveImages
  rw [foldl_applyAo_frame, applyDo_frame]

/-- The images of the banks `gs` are driven and used up, and what the instant releases is released. -/
def applied (gs : List Nat) (f : Frozen) (s : State) : State :=
  let d := driveImages gs (atApply f s)
  applyRelease (atApply f s).fr.t10 { d with fr := { d.fr with pend := [] } }

theorem applyFrame_eq (f : Frozen) (s : State) :
    applyFrame f s = abandonTests false (applySend f (applied (List.range 8) f s)) := by
  unfold applyFrame
  generalize List.range 8 = gs
  rfl

/-- What is sent and abandoned after it leaves the outputs as the apply has driven them. -/
theorem applyFrame_outputPart (f : Frozen) (s : State) : (applyFrame f s).outputPart = (applied (List.range 8) f s).outputPart := by
  rw [applyFrame_eq, abandonTests_false_outputPart, applySend_outputPart]

theorem aoCh_level_driveImages {gs : List Nat} (hgs : gs.Nodup) (s : State) {c : Nat} (hc : c / 4 ∈ gs) :
    (aoCh (driveImages gs s) c).level = drivenLevel (pinImg s (c / 4 + 1)) c (aoCh s c).level := by
  have hpin : pinImg (applyDo s.fr.t10 s) (c / 4 + 1) = pinImg s (c / 4 + 1) := by rw [applyDo_frame]; rfl
  have hao : aoCh (applyDo s.fr.t10 s) c = aoCh s c := by rw [applyDo_frame]; rfl
  rw [driveImages, aoCh_level_foldl_applyAo _ _ hgs, if_pos hc, hpin, hao]

/-! The outputs once the apply is over. -/

theorem applied_fr (gs : List Nat) (f : Frozen) (s : State) :
    (applied gs f s).fr = { (advanceTo s f.at_).fr with toApply := none, pend := [] } := by
  simp only [applied]
  rw [driveImages_frame]
  rfl

theorem applied_md (gs : List Nat) (f : Frozen) (s : State) : (applied gs f s).md = s.md := by
  simp only [applied]
  rw [driveImages_frame]
  rfl

theorem applied_cmdReg (gs : List Nat) (f : Frozen) (s : State) :
    (applied gs f s).dio.cmdReg = (applyDo (atApply f s).fr.t10 (atApply f s)).dio.cmdReg := by
  simp only [applied]
  rw [driveImages_frame]
  rfl

theorem doCh_cmd_applied (gs : List Nat) (f : Frozen) (s : State) (c : Nat) :
    (doCh (applied gs f s) c).cmd = (doCh (applyDo (atApply f s).fr.t10 (atApply f s)) c).cmd := by
  simp only [applied]
  rw [doCh_cmd_applyRelease, driveImages_frame]
  rfl

theorem aoCh_level_applied {gs : List Nat} (hgs : gs.Nodup) (f : Frozen) (s : State) {c : Nat} (hc : c / 4 ∈ gs) :
    (aoCh (applied gs f s) c).level = drivenLevel (pinImg s (c / 4 + 1)) c (aoCh s c).level := by
  simp only [applied]
  rw [aoCh_level_applyRelease]
  exact aoCh_level_driveImages hgs (atApply f s) hc

/-! Captures. -/

theorem exec_captureComplete (k : Fin 16) (s : State) : exec (.captureComplete k) s = .next (settle s (doCapComplete s k.val)) := rfl

theorem doCapComplete_of_full {s : State} {c : Nat} (h : capFull s c = true) : doCapComplete s c = { s with ce := { s.ce with
    caps := Tab.set s.ce.caps Capture.init c { capture s c with st := 3 }, capDone := bset s.ce.capDone c } } := if_pos h

theorem capture_doCapComplete {s : State} {c : Nat} (h : capFull s c = true) (i : Nat) :
    capture (doCapComplete s c) i = if i = c then { capture s c with st := 3 } else capture s i := by
  rw [doCapComplete_of_full h]
  simp only [capture, Tab.get_set]

theorem doCapComplete_of_short {s : State} {c : Nat} (h : capFull s c = false) : doCapComplete s c = s := if_neg (by simp [h])

/-- Settles O36: the field controller and each bank by the image that it holds, and a capture by its samples. -/
theorem theApplyDrivesThePendingImages : Obligations.TheApplyDrivesThePendingImages := by
  refine ⟨fun s f hf hm hnext => ⟨applyFrame f s, ?_, ?_⟩, fun s hidle => ?_, fun k s => ⟨fun hfull => ⟨_, exec_captureComplete k s, ?_⟩,
    fun hshort => ?_⟩⟩
  · rw [exec_apply, doApply_of_due hf hm hnext]
  · obtain ⟨hfr, hmd, hdio, han⟩ := outputPart_eq_iff.1 (applyFrame_outputPart f s)
    have hdo (c : Nat) : doCh (applyFrame f s) c = doCh (applied (List.range 8) f s) c := by simp only [doCh, hdio]
    have hao (c : Nat) : aoCh (applyFrame f s) c = aoCh (applied (List.range 8) f s) c := by simp only [aoCh, han]
    have hbank (g i : Nat) (hi : i < 4) : (4 * g + i) / 4 = g := by omega
    rw [hfr, hmd, hdio, applied_fr, applied_md, applied_cmdReg]
    refine ⟨rfl, rfl, rfl, rfl, fun img himg c hc => ?_, fun hnone c => ?_, fun g hg img himg i hi => ?_, fun g hg hnone i hi => ?_⟩
    · rw [hdo, doCh_cmd_applied]
      exact applyDo_of_image _ (s := atApply f s) himg hc
    · rw [hdo, doCh_cmd_applied, applyDo_of_none (s := atApply f s) hnone]
      rfl
    · rw [hao, aoCh_level_applied List.nodup_range f s (by rwa [hbank g i hi, List.mem_range]), hbank g i hi, himg]
      rfl
    · rw [hao, aoCh_level_applied List.nodup_range f s (by rwa [hbank g i hi, List.mem_range]), hbank g i hi, hnone]
      rfl
  · rw [exec_apply, doApply_of_idle hidle]
  · refine ⟨?_, capture_doCapComplete hfull⟩
    rw [doCapComplete_of_full hfull]
  · rw [exec_captureComplete, doCapComplete_of_short hshort]

/-! ### Memory tests (02 R47, 18 R522-R528, R531, R537) -/

/-! What the start of a pass, a verdict and a unit make of their own test. -/

/-- The unit that test t comes to. -/
def unitPos (s : State) (t : Nat) : Nat := if (test s t).inPass then (test s t).pos else 0

/-- A pass stands or is due (18 R524). -/
def passWaits (s : State) (t : Nat) : Prop := (test s t).inPass = true ∨ (test s t).due ≤ s.fr.t10

/-- Test t in its pass, which starts now where none stands (18 R524). -/
def passBegun (s : State) (t : Nat) : TestSt :=
  let x := test s t
  { x with
    inPass := true, pos := unitPos s t
    passDue := if x.inPass then x.passDue else x.due
    passStart := if x.inPass then x.passStart else s.fr.t10
    passFirst := if x.inPass then x.passFirst else s.fr.frame
    due := if x.inPass then x.due else s.fr.t10 + testPeriod s t }

/-- Test `x` with a verdict for an item (18 R531, R537, R539). -/
def judged (t item : Nat) (ok : Bool) (x : TestSt) : TestSt :=
  { x with
    failed := if ok then x.failed.filter (fun i => decide (i ≠ item)) else if x.failed.contains item then x.failed else x.failed ++ [item]
    tested := if 4 ≤ t ∧ t ≤ 6 then x.tested else if x.tested.contains item then x.tested else x.tested ++ [item]
    failCount := if ok then x.failCount else satInc32 x.failCount }

/-- Test `x` with the verdict of its unit, where that gives one. -/
def unitJudged (t pos : Nat) (ok : Bool) (x : TestSt) : TestSt :=
  match unitItem t pos with
  | none => x
  | some i => judged t i ok x

/-- Test `x` with its unit counted. -/
def unitCounted (x : TestSt) : TestSt := { x with pos := x.pos + 1, testedN := max x.testedN (x.pos + 1) }

/-- Test `x` at the end of its pass in frame `n` (18 R532, R537). -/
def passEnded (cycleAt n : Nat) (x : TestSt) : TestSt :=
  { x with
    inPass := false, passes := satInc32 x.passes, passFrame := n, cyclePass := x.cyclePass || decide (cycleAt ≤ x.passStart)
    skipped := x.skipped.filter (fun i => !x.tested.contains i) }

/-- Test t once its unit has run. -/
def unitDone (s : State) (t : Nat) (ok : Bool) : TestSt :=
  let x := unitCounted (unitJudged t (unitPos s t) ok (passBegun s t))
  if unitPos s t + 1 < testUnits t then x else passEnded s.hl.cycleAt s.fr.frame x

theorem test_updTest (s : State) (t : Nat) (f : TestSt → TestSt) (i : Nat) :
    test (updTest s t f) i = if i = t then f (test s t) else test s i := by
  simp only [test, updTest, Tab.get_upd]
  split
  · next hi => rw [hi]
  · rfl

theorem passBegun_of_inPass {s : State} {t : Nat} (h : (test s t).inPass = true) : passBegun s t = test s t := by
  unfold passBegun unitPos
  generalize test s t = x at h ⊢
  cases x
  simp_all

theorem test_startPass {s : State} {t : Nat} (h : passWaits s t) (i : Nat) :
    test (startPass s t) i = if i = t then passBegun s t else test s i := by
  unfold startPass
  by_cases hin : (test s t).inPass = true
  · rw [if_pos (.inl hin), passBegun_of_inPass hin]
    split
    · next hi => rw [hi]
    · rfl
  · rw [if_neg (not_or.2 ⟨hin, Nat.not_lt.2 (h.resolve_left hin)⟩), test_updTest]
    simp only [passBegun, unitPos, hin, Bool.false_eq_true, if_false]

theorem startPass_of_not_waiting {s : State} {t : Nat} (h : ¬passWaits s t) : startPass s t = s :=
  if_pos (.inr (Nat.not_le.1 fun hdue => h (.inr hdue)))

theorem startPass_frame (s : State) (t : Nat) : startPass s t = { s with hl := { s.hl with tests := (startPass s t).hl.tests } } := by
  unfold startPass
  dsimp only
  split <;> rfl

theorem test_verdict (s : State) (t item : Nat) (ok : Bool) (i : Nat) :
    test (verdict s t item ok) i = if i = t then judged t item ok (test s t) else test s i := by
  cases ok with
  | true => exact test_updTest ..
  | false =>
    have hcount (u : State) : test { u with hl := countFail s.fr.t10 s.fr.frame t item u.hl } i =
        if i = t then { test u t with failCount := satInc32 (test u t).failCount } else test u i :=
      test_updTest u t (fun x => { x with failCount := satInc32 x.failCount }) i
    refine (hcount _).trans ?_
    simp only [test_updTest, if_true]
    split <;> rfl

/-- A failure puts the item among the failed ones, a sound verdict takes it out. -/
theorem mem_failed_judged (t item : Nat) (ok : Bool) (x : TestSt) (j : Nat) :
    j ∈ (judged t item ok x).failed ↔ if j = item then ok = false else j ∈ x.failed := by
  cases ok with
  | true => by_cases hj : j = item <;> simp [judged, hj]
  | false =>
    by_cases hin : item ∈ x.failed <;> by_cases hj : j = item <;> simp [judged, hin, hj]

/-! One unit. -/

/-- A unit concerns an item unless it is one of test 7 before the last of a store. -/
theorem unitItem_isSome_iff (t pos : Nat) : (unitItem t pos).isSome = true ↔ (t = 7 → pos + 1 ∈ storeEnds) := by
  unfold unitItem
  split
  · next ht => simp [ht, List.findIdx?_isSome]
  · next ht => simp [ht]

theorem not_concerned_of_none {t pos : Nat} (h : unitItem t pos = none) : ¬(t = 7 → pos + 1 ∈ storeEnds) := by
  simp [← unitItem_isSome_iff, h]

theorem concerned_of_some {t pos i : Nat} (h : unitItem t pos = some i) : t = 7 → pos + 1 ∈ storeEnds :=
  (unitItem_isSome_iff t pos).1 (by rw [h]; rfl)

/-- The verdict of a unit changes no more than the failed and the tested items, and the failures counted. -/
theorem unitJudged_frame (t pos : Nat) (ok : Bool) (x : TestSt) : unitJudged t pos ok x = { x with
    failed := (unitJudged t pos ok x).failed, tested := (unitJudged t pos ok x).tested
    failCount := if ok = false ∧ (t = 7 → pos + 1 ∈ storeEnds) then satInc32 x.failCount else x.failCount } := by
  unfold unitJudged
  cases hitem : unitItem t pos with
  | none =>
    rw [if_neg fun h => not_concerned_of_none hitem h.2]
  | some item =>
    cases ok
    · rw [if_pos ⟨rfl, concerned_of_some hitem⟩]
      rfl
    · rfl

/-- The unit at `pos` is judged. -/
def judgeUnit (s : State) (t pos : Nat) (ok : Bool) : State :=
  match unitItem t pos with
  | none => s
  | some i => verdict s t i ok

theorem test_judgeUnit (s : State) (t pos : Nat) (ok : Bool) (i : Nat) :
    test (judgeUnit s t pos ok) i = if i = t then unitJudged t pos ok (test s t) else test s i := by
  unfold judgeUnit unitJudged
  cases unitItem t pos with
  | none =>
    dsimp only
    split
    · next hi => rw [hi]
    · rfl
  | some item => exact test_verdict ..

theorem judgeUnit_frame (s : State) (t pos : Nat) (ok : Bool) : judgeUnit s t pos ok = { s with hl := { s.hl with
    tests := (judgeUnit s t pos ok).hl.tests, queue := (judgeUnit s t pos ok).hl.queue, dropped := (judgeUnit s t pos ok).hl.dropped
    event := if ok = false ∧ (t = 7 → pos + 1 ∈ storeEnds) then bset s.hl.event 0 else s.hl.event } } := by
  unfold judgeUnit
  cases hitem : unitItem t pos with
  | none =>
    rw [if_neg fun h => not_concerned_of_none hitem h.2]
  | some item =>
    cases ok
    · rw [if_pos ⟨rfl, concerned_of_some hitem⟩]
      rfl
    · rfl

/-- The unit of test t in a pass that stands. -/
def passUnit (s : State) (t pos : Nat) (ok : Bool) : State :=
  let u := updTest (judgeUnit s t pos ok) t unitCounted
  if pos + 1 < testUnits t then u else endPass u t

/-- Where no unit may run nothing happens. -/
theorem runUnit_of_idle {s : State} {t : Nat} (ok : Bool) (h : ¬(testAllowed s t = true ∧ passWaits s t)) : runUnit s t ok = s := by
  unfold runUnit
  cases hallowed : testAllowed s t with
  | false => rfl
  | true =>
    have hwait : ¬passWaits s t := fun hw => h ⟨hallowed, hw⟩
    have hin : ¬(test s t).inPass = true := fun hin => hwait (.inl hin)
    simp [startPass_of_not_waiting hwait, hin]

/-- Else the pass starts where none stands, and its unit runs. -/
theorem runUnit_of_waiting {s : State} {t : Nat} (ok : Bool) (hallowed : testAllowed s t = true) (hwait : passWaits s t) :
    runUnit s t ok = passUnit (startPass s t) t (unitPos s t) ok := by
  have hbegun : test (startPass s t) t = passBegun s t := (test_startPass hwait t).trans (if_pos rfl)
  have hin : (test (startPass s t) t).inPass = true := congrArg (·.inPass) hbegun
  have hpos : (test (startPass s t) t).pos = unitPos s t := congrArg (·.pos) hbegun
  simp only [runUnit, hallowed, hin, hpos, Bool.not_true, Bool.false_eq_true, if_false]
  rfl

theorem endPass_eq (s : State) (t : Nat) : endPass s t = updTest s t (passEnded s.hl.cycleAt s.fr.frame) := rfl

theorem test_passUnit (s : State) (t pos : Nat) (ok : Bool) (i : Nat) : test (passUnit s t pos ok) i =
    if i = t then
      let x := unitCounted (unitJudged t pos ok (test s t))
      if pos + 1 < testUnits t then x else passEnded s.hl.cycleAt s.fr.frame x
    else test s i := by
  have hu (i : Nat) : test (updTest (judgeUnit s t pos ok) t unitCounted) i =
      if i = t then unitCounted (unitJudged t pos ok (test s t)) else test s i := by
    rw [test_updTest, test_judgeUnit, test_judgeUnit, if_pos rfl]
    split <;> rfl
  unfold passUnit
  dsimp only
  by_cases hmore : pos + 1 < testUnits t
  · simp only [if_pos hmore, hu]
  · rw [if_neg hmore, endPass_eq, test_updTest, hu, hu, if_pos rfl, updTest_fr, judgeUnit_frame]
    simp only [if_neg hmore]
    split <;> rfl

/-- A unit leaves all but its test, the queue of the fault log and TEST_FAILED. -/
theorem passUnit_frame (s : State) (t pos : Nat) (ok : Bool) : passUnit s t pos ok = { s with hl := { s.hl with
    tests := (passUnit s t pos ok).hl.tests, queue := (passUnit s t pos ok).hl.queue, dropped := (passUnit s t pos ok).hl.dropped
    event := if ok = false ∧ (t = 7 → pos + 1 ∈ storeEnds) then bset s.hl.event 0 else s.hl.event } } := by
  unfold passUnit
  rw [judgeUnit_frame]
  dsimp only
  split <;> rfl

/-- What a unit that runs makes of its test. -/
theorem test_runUnit {s : State} {t : Nat} (ok : Bool) (hallowed : testAllowed s t = true) (hwait : passWaits s t) (i : Nat) :
    test (runUnit s t ok) i = if i = t then unitDone s t ok else test s i := by
  have hbegun : test (startPass s t) t = passBegun s t := (test_startPass hwait t).trans (if_pos rfl)
  have hframe : (startPass s t).hl.cycleAt = s.hl.cycleAt ∧ (startPass s t).fr.frame = s.fr.frame := by
    rw [startPass_frame]
    exact ⟨rfl, rfl⟩
  rw [runUnit_of_waiting ok hallowed hwait, test_passUnit, hbegun, hframe.1, hframe.2, test_startPass hwait]
  split <;> rfl

/-- What a unit that runs leaves. -/
theorem runUnit_frame {s : State} {t : Nat} (ok : Bool) (hallowed : testAllowed s t = true) (hwait : passWaits s t) :
    runUnit s t ok = { s with hl := { s.hl with
      tests := (runUnit s t ok).hl.tests, queue := (runUnit s t ok).hl.queue, dropped := (runUnit s t ok).hl.dropped
      event := if ok = false ∧ (t = 7 → unitPos s t + 1 ∈ storeEnds) then bset s.hl.event 0 else s.hl.event } } := by
  rw [runUnit_of_waiting ok hallowed hwait, passUnit_frame, startPass_frame]

/-! The test after its unit. -/

/-- Position and pass, the counts of passes and failures, and the times. -/
theorem unitDone_frame (s : State) (t : Nat) (ok : Bool) :
    let x := test s t
    let ends := testUnits t ≤ unitPos s t + 1
    (unitDone s t ok).pos = unitPos s t + 1 ∧ ((unitDone s t ok).inPass = true ↔ ¬ends) ∧
      (unitDone s t ok).passes = (if ends then satInc32 x.passes else x.passes) ∧
      (unitDone s t ok).passFrame = (if ends then s.fr.frame else x.passFrame) ∧
      (unitDone s t ok).passStart = (if x.inPass then x.passStart else s.fr.t10) ∧
      (unitDone s t ok).due = (if x.inPass then x.due else s.fr.t10 + testPeriod s t) ∧
      (unitDone s t ok).failCount =
        (if ok = false ∧ (t = 7 → unitPos s t + 1 ∈ storeEnds) then satInc32 x.failCount else x.failCount) ∧
      (unitDone s t ok).failed = (unitJudged t (unitPos s t) ok (passBegun s t)).failed := by
  intro x ends
  rw [unitDone, unitJudged_frame]
  by_cases hends : ends
  · rw [if_neg (Nat.not_lt.2 hends)]
    simp only [if_pos hends]
    exact ⟨rfl, by simp [passEnded, hends], rfl, rfl, rfl, rfl, rfl, rfl⟩
  · rw [if_pos (Nat.not_le.1 hends)]
    simp only [if_neg hends]
    exact ⟨rfl, by simp [unitCounted, passBegun, hends], rfl, rfl, rfl, rfl, rfl, rfl⟩

/-- The failed items once the unit has its verdict. -/
theorem mem_failed_unitDone (s : State) (t : Nat) (ok : Bool) :
    (unitItem t (unitPos s t) = none → (unitDone s t ok).failed = (test s t).failed) ∧
      ∀ i, unitItem t (unitPos s t) = some i →
        (i ∈ (unitDone s t ok).failed ↔ ok = false) ∧ ∀ j, j ≠ i → (j ∈ (unitDone s t ok).failed ↔ j ∈ (test s t).failed) := by
  obtain ⟨-, -, -, -, -, -, -, hfailed⟩ := unitDone_frame s t ok
  rw [hfailed]
  refine ⟨fun hnone => ?_, fun i hi => ⟨?_, fun j hj => ?_⟩⟩
  · rw [unitJudged, hnone]
    rfl
  · rw [unitJudged, hi]
    exact (mem_failed_judged ..).trans (by rw [if_pos rfl])
  · rw [unitJudged, hi]
    exact (mem_failed_judged ..).trans (by rw [if_neg hj]; rfl)

/-- No pass is over with its first unit. -/
theorem one_lt_testUnits (t : Nat) : 1 < testUnits t := by
  unfold testUnits
  (repeat' split) <;> omega

/-- The last unit of a pass is not its first. -/
theorem inPass_of_unitEnds {s : State} {t : Nat} (h : testUnits t ≤ unitPos s t + 1) : (test s t).inPass = true := by
  have h1 := one_lt_testUnits t
  unfold unitPos at h
  split at h
  · assumption
  · omega

/-- A unit that runs moves its pass on. -/
theorem unitDone_moves (s : State) (t : Nat) (ok : Bool) :
    ¬((unitDone s t ok).inPass = (test s t).inPass ∧ (unitDone s t ok).pos = (test s t).pos) := by
  obtain ⟨hpos, hin, -⟩ := unitDone_frame s t ok
  rintro ⟨hin', hpos'⟩
  rw [hpos', unitPos] at hpos
  split at hpos
  · omega
  · next hout => exact hout (hin' ▸ hin.2 fun hends => hout (inPass_of_unitEnds hends))

theorem runUnit_ne {s : State} {t : Nat} (ok : Bool) (hallowed : testAllowed s t = true) (hwait : passWaits s t) :
    runUnit s t ok ≠ s := by
  intro h
  have htest := test_runUnit ok hallowed hwait t
  rw [h, if_pos rfl] at htest
  exact unitDone_moves s t ok ⟨by rw [← htest], by rw [← htest]⟩

/-! The rows. -/

theorem exec_drydownUnit (t : Nat) (ok : Bool) (s : State) :
    exec (.drydownUnit t ok) s = .next (settle s (doDrydownUnit s t ok)) := rfl

theorem exec_scSramMarchUnit (ok : Bool) (s : State) : exec (.scSramMarchUnit ok) s = .next (settle s (runUnit s 5 ok)) := rfl

theorem exec_dramScrubBurst (s : State) : exec .dramScrubBurst s = .next (settle s (doScrub s)) := rfl

/-- The idle tail has room for a logic-side unit (02 R47, 18 R522). -/
theorem tailFree_iff (s : State) : tailFree s = true ↔
    s.fr.commitDone = true ∧ (∀ q ∈ s.pt.queues, s.fr.frame ≤ q.frame) ∧ s.fr.t10 + 240 ≤ s.fr.next := by
  simp [tailFree, and_assoc]

/-- The other logic-side test does not come first (18 R524). -/
theorem unitServes_iff (s : State) (t : Nat) : unitServes s t = true ↔
    ¬(testAllowed s (if t = 4 then 7 else 4) = true ∧ passWaits s (if t = 4 then 7 else 4) ∧ before s (if t = 4 then 7 else 4) t = true) := by
  simp only [unitServes, testWaits, passWaits, Bool.not_eq_true', ← Bool.not_eq_true, Bool.and_eq_true, Bool.or_eq_true, decide_eq_true_eq, and_assoc]

/-- A unit of test t may run (02 R47, 18 R522-R525). -/
def unitRuns (s : State) (t : Nat) : Prop :=
  testAllowed s t = true ∧ passWaits s t ∧ (t = 4 ∨ t = 7 → tailFree s = true ∧ unitServes s t = true)

/-- The rows that are one unit of a memory test. -/
def memoryUnit (c : Instr) (t : Nat) (ok : Bool) : Prop :=
  (c = .drydownUnit t ok ∧ (t = 4 ∨ t = 7)) ∨ (c = .scSramMarchUnit ok ∧ t = 5) ∨ (c = .dramScrubBurst ∧ t = 6 ∧ ok = true)

theorem doScrub_of_still {s : State} (h : runUnit s 6 true = s) : doScrub s = s := by
  unfold doScrub
  rw [h]
  exact if_pos (.inr rfl)

/-- The burst that ends its pass is a complete scrub. -/
theorem doScrub_of_runs {s : State} (hallowed : testAllowed s 6 = true) (hwait : passWaits s 6) : doScrub s =
    { runUnit s 6 true with hl := { (runUnit s 6 true).hl with
      scrubs := (runUnit s 6 true).hl.scrubs + if testUnits 6 ≤ unitPos s 6 + 1 then 1 else 0 } } := by
  have htest : test (runUnit s 6 true) 6 = unitDone s 6 true := (test_runUnit true hallowed hwait 6).trans (if_pos rfl)
  obtain ⟨hpos, hin, -⟩ := unitDone_frame s 6 true
  by_cases hends : testUnits 6 ≤ unitPos s 6 + 1
  · have hover : ¬((test (runUnit s 6 true) 6).inPass = true ∨ (test (runUnit s 6 true) 6).pos = (test s 6).pos) := by
      rw [htest, hin, hpos]
      refine not_or.2 ⟨Decidable.not_not.2 hends, ?_⟩
      rw [unitPos, if_pos (inPass_of_unitEnds hends)]
      exact Nat.succ_ne_self _
    rw [if_pos hends]
    exact if_neg hover
  · have hstands : (test (runUnit s 6 true) 6).inPass = true := by rw [htest, hin]; exact hends
    rw [if_neg hends]
    exact if_pos (.inl hstands)

/-- Where the unit of a row may not run, the row does nothing. -/
theorem exec_memoryUnit_of_idle {c : Instr} {t : Nat} {ok : Bool} {s : State} (hc : memoryUnit c t ok) (h : ¬unitRuns s t) :
    exec c s = .next (settle s s) := by
  rcases hc with ⟨rfl, ht⟩ | ⟨rfl, rfl⟩ | ⟨rfl, rfl, rfl⟩
  · have hdo : doDrydownUnit s t ok = s := by
      unfold doDrydownUnit
      split
      · next htail =>
        exact if_pos (runUnit_of_idle ok fun ⟨hallowed, hwait⟩ => h ⟨hallowed, hwait, fun _ => htail.2⟩)
      · rfl
    rw [exec_drydownUnit, hdo]
  · rw [exec_scSramMarchUnit, runUnit_of_idle ok fun ⟨hallowed, hwait⟩ => h ⟨hallowed, hwait, by simp⟩]
  · rw [exec_dramScrubBurst, doScrub_of_still (runUnit_of_idle true fun ⟨hallowed, hwait⟩ => h ⟨hallowed, hwait, by simp⟩)]

/-- The unit that a row runs, with the counts of logic-side units and complete scrubs. -/
def countedUnit (s : State) (t : Nat) (ok : Bool) : State :=
  let r := runUnit s t ok
  { r with hl := { r.hl with
    units := r.hl.units + if t = 4 ∨ t = 7 then 1 else 0
    scrubs := r.hl.scrubs + if t = 6 ∧ testUnits t ≤ unitPos s t + 1 then 1 else 0 } }

theorem exec_memoryUnit_of_runs {c : Instr} {t : Nat} {ok : Bool} {s : State} (hc : memoryUnit c t ok) (h : unitRuns s t) :
    exec c s = .next (settle s (countedUnit s t ok)) := by
  obtain ⟨hallowed, hwait, htail⟩ := h
  rcases hc with ⟨rfl, ht⟩ | ⟨rfl, rfl⟩ | ⟨rfl, rfl, rfl⟩
  · have hscrub : ¬(t = 6 ∧ testUnits t ≤ unitPos s t + 1) := by omega
    rw [exec_drydownUnit, doDrydownUnit, if_pos ⟨ht, htail ht⟩]
    dsimp only [countedUnit]
    rw [if_neg (runUnit_ne ok hallowed hwait), if_pos ht, if_neg hscrub]
    rfl
  · rfl
  · rw [exec_dramScrubBurst, doScrub_of_runs hallowed hwait]
    simp only [countedUnit, true_and]
    rfl

/-- Settles O58: a row runs the unit of its test, and the unit tells what becomes of the test. -/
theorem memoryTestsWalkTheirUnits : Obligations.MemoryTestsWalkTheirUnits := by
  intro c t ok s hc x room other turn runs pos ends fails
  have hruns : runs ↔ unitRuns s t := by
    unfold unitRuns
    rw [tailFree_iff, unitServes_iff]
    exact Iff.rfl
  rw [hruns]
  refine ⟨exec_memoryUnit_of_idle hc, fun h => ⟨_, exec_memoryUnit_of_runs hc h, ?_, ?_⟩⟩
  · rw [countedUnit, runUnit_frame ok h.1 h.2.1]
    rfl
  · obtain ⟨hallowed, hwait, -⟩ := h
    have htest := test_runUnit ok hallowed hwait
    have hx : test (countedUnit s t ok) t = unitDone s t ok := (htest t).trans (if_pos rfl)
    rw [hx]
    obtain ⟨hpos, hin, hpasses, hframe, hstart, hdue, hcount, -⟩ := unitDone_frame s t ok
    exact ⟨fun i hi => (htest i).trans (if_neg hi), hpos, hin, hpasses, hframe, hstart, hdue, hcount, mem_failed_unitDone s t ok⟩

end Sys2Proof.Machine
end

section
/-! Proofs about the modes and the start-up (03): the order of the causes at a tick, the table of the modes, RESET, BOOT. -/

namespace Sys2Proof.Machine

open Sys2Proof

/-! ### A mode change (03 R60, R61, R84) -/

/-- `u` is in the mode `new`, with the mode of `s`, the frame and the cause of the change in its record. -/
structure Enters (s u : State) (new : Mode) (cause : Nat) : Prop where
  mode : u.md.mode = new
  prev : u.md.prev = s.md.mode
  frame : u.md.frame = s.fr.frame
  cause : causeMode new = true → u.md.cause = cause

theorem Enters.startAt {s a u : State} {new : Mode} {cause : Nat} (h : Enters a u new cause) (ha : a.anchor = s.anchor) :
    Enters s u new cause :=
  ⟨h.mode, h.prev.trans (anchor_mode ha), h.frame.trans (anchor_frame ha), h.cause⟩

theorem Enters.keep {s u v : State} {new : Mode} {cause : Nat} (h : Enters s u new cause) (hv : v.anchor = u.anchor) :
    Enters s v new cause :=
  ⟨(anchor_mode hv).trans h.mode, (congrArg Anchor.prev hv).trans h.prev, (congrArg Anchor.modeFrame hv).trans h.frame,
    fun hc => (congrArg Anchor.cause hv).trans (h.cause hc)⟩

/-- The mode before and the frame of the change. -/
theorem Enters.recorded {s u : State} {new : Mode} {cause : Nat} (h : Enters s u new cause) :
    u.md.prev = s.md.mode ∧ u.md.frame = s.fr.frame := ⟨h.prev, h.frame⟩

theorem recordMode_enters (s : State) (new : Mode) (cause : Nat) : Enters s (recordMode s new cause) new cause := by
  unfold recordMode
  extract_lets st m f c s1
  have h : Enters s s1 new cause := ⟨rfl, rfl, rfl, fun hc => if_pos hc⟩
  split
  · exact h.keep (pushLog_anchor ..)
  · exact h

theorem setMode_enters (s : State) (new : Mode) (cause : Nat) (keep : Option Op) : Enters s (setMode s new cause keep) new cause :=
  (recordMode_enters s new cause).keep (setMode_anchor ..)

theorem startCheck_enters (s : State) (o : Origin) (img : List Byte) (cold hold : Bool) (keep : Option Op) :
    Enters s (startCheck s o img cold hold keep) .checking 0 :=
  (setMode_enters s .checking 0 keep).keep rfl

/-- A fault takes the module out of any mode, a check that runs or not. -/
theorem abandonCheck_enters (s : State) (new : Mode) (cause : Nat) : Enters s (abandonCheck s new cause) new cause := by
  unfold abandonCheck
  split
  · extract_lets o cf s1 s2
    have h1 : s1.anchor = s.anchor := by
      unfold s1
      split
      · exact anchor_upd ..
      · split
        · exact (takeEnabled_anchor _).trans (noteCheck_anchor ..)
        · exact noteCheck_anchor ..
    clear_value s1
    have h2 : Enters s s2 new cause := by
      unfold s2
      split
      · exact (setMode_enters ..).startAt ((setStaging_anchor ..).trans h1)
      · exact (setMode_enters ..).startAt h1
    split
    · exact h2.keep (endCmd_anchor ..)
    · exact h2
  · exact setMode_enters ..

/-- An EDM fault sets the LOCKOUT latch of MRAM with the mode (03 R60). -/
theorem edmLockout_enters (s : State) :
    Enters s (abandonCheck { s with mram := { s.mram with lockout := true } } .lockout 0x20) .lockout 0x20 :=
  (abandonCheck_enters { s with mram := { s.mram with lockout := true } } .lockout 0x20).startAt (anchor_upd_mram ..)

theorem loseClaim_enters (s : State) : Enters s (loseClaim s) .standby 0 :=
  (setMode_enters s .standby 0 _).keep ((keepTracking_anchor _).trans (requestWon_anchor _))

/-! ### The order of the causes at a tick (03 R62, R82) -/

section
variable {s : State} (hreset : s.md.mode ≠ .reset) (hboot : s.md.mode ≠ .boot)
include hreset hboot

theorem selectMode_of_edm (hedm : s.md.pendEdm = true ∧ edmMode s.md.mode = true) :
    selectMode s = clearPend (abandonCheck { s with mram := { s.mram with lockout := true } } .lockout 0x20) := by
  simp only [selectMode, Bool.and_eq_true, if_neg hreset, if_neg hboot, if_pos hedm]

variable (hedm : ¬(s.md.pendEdm = true ∧ edmMode s.md.mode = true))
include hedm

theorem selectMode_of_fault {f : Nat} (hfault : (if faultMode s.md.mode then faultCause s else none) = some f) :
    selectMode s = clearPend (abandonCheck s .safeHold f) := by
  simp only [selectMode, Bool.and_eq_true, if_neg hreset, if_neg hboot, if_neg hedm, hfault]

variable (hfault : (if faultMode s.md.mode then faultCause s else none) = none)
include hfault

theorem selectMode_of_hold {c : Cmd} (hhold : dueMode (clearPend s) (fun o => decide (o = .safeHoldEnter)) = some c) :
    selectMode s = modeCommand (clearPend s) c := by
  simp only [selectMode, Bool.and_eq_true, if_neg hreset, if_neg hboot, if_neg hedm, hfault, hhold]

variable (hhold : dueMode (clearPend s) (fun o => decide (o = .safeHoldEnter)) = none)
include hhold

theorem selectMode_of_lost (hlost : s.md.mode.driven = true ∧ claimLost (clearPend s) = true) :
    selectMode s = loseClaim (clearPend s) := by
  simp only [selectMode, Bool.and_eq_true, if_neg hreset, if_neg hboot, if_neg hedm, hfault, hhold, if_pos hlost]

variable (hlost : ¬(s.md.mode.driven = true ∧ claimLost (clearPend s) = true))
include hlost

theorem selectMode_of_degraded (hm : s.md.mode = .active) (hdeg : degCause (clearPend s) = true) :
    selectMode s = setMode (clearPend s) .degraded 0 none := by
  simp only [selectMode, Bool.and_eq_true, if_neg hreset, if_neg hboot, if_neg hedm, hfault, hhold, if_neg hlost, if_pos (And.intro hm hdeg)]

theorem selectMode_of_degraded_end (hm : s.md.mode = .degraded) (hdeg : degCause (clearPend s) = false) :
    selectMode s = setMode (clearPend s) .active 0 none := by
  have hactive : ¬(s.md.mode = .active ∧ degCause (clearPend s) = true) := fun h => by simp [hdeg] at h
  have hends : s.md.mode = .degraded ∧ (!degCause (clearPend s)) = true := ⟨hm, by simp [hdeg]⟩
  simp only [selectMode, Bool.and_eq_true, if_neg hreset, if_neg hboot, if_neg hedm, hfault, hhold, if_neg hlost, if_neg hactive, if_pos hends]

end

/-- The command that a search for due mode commands finds: a due one that its search asks for and that the mode permits. -/
theorem dueMode_some {s : State} {only : Op → Bool} {c : Cmd} (h : dueMode s only = some c) :
    only c.op = true ∧ permits c.op s.md.mode s.md.recovery = true := by
  have hc := List.find?_some h
  simp only [Bool.and_eq_true] at hc
  obtain ⟨⟨-, honly⟩, hpermits⟩ := hc
  exact ⟨honly, hpermits⟩

theorem modeCommand_safeHoldEnter {s : State} {c : Cmd} (h : c.op = .safeHoldEnter) :
    modeCommand s c = complete (setMode s .safeHold 0x01 (some c.op)) c (okA []) := by
  simp only [modeCommand, h]

/-- Settles O7: each cause in its place of the order, and what its mode change records. -/
theorem causesOfAModeChangeHaveAnOrder : Obligations.CausesOfAModeChangeHaveAnOrder := by
  intro s hreset hboot m u edm fault hold lost recorded
  refine ⟨fun hedm => ?_, fun f hedm hfault => ?_, fun c hedm hfault hhold => ?_, fun hedm hfault hhold hlost => ?_,
    fun hedm hfault hhold hlost hm hdeg => ?_, fun hedm hfault hhold hlost hm hdeg => ?_⟩
  · have he : Enters s u .lockout 0x20 := by
      unfold u
      rw [selectMode_of_edm hreset hboot hedm]
      exact (edmLockout_enters s).keep (clearPend_anchor _)
    exact ⟨he.mode, he.cause rfl, he.recorded⟩
  · have he : Enters s u .safeHold f := by
      unfold u
      rw [selectMode_of_fault hreset hboot hedm hfault]
      exact (abandonCheck_enters ..).keep (clearPend_anchor _)
    exact ⟨he.mode, he.cause rfl, he.recorded⟩
  · have he : Enters s u .safeHold 0x01 := by
      have hop : c.op = .safeHoldEnter := by simpa using (dueMode_some hhold).1
      unfold u
      rw [selectMode_of_hold hreset hboot hedm hfault hhold, modeCommand_safeHoldEnter hop]
      exact ((setMode_enters ..).startAt (clearPend_anchor s)).keep (complete_anchor ..)
    exact ⟨he.mode, he.cause rfl, he.recorded⟩
  · have he : Enters s u .standby 0 := by
      unfold u
      rw [selectMode_of_lost hreset hboot hedm hfault hhold hlost]
      exact (loseClaim_enters _).startAt (clearPend_anchor s)
    exact ⟨he.mode, he.recorded⟩
  · have he : Enters s u .degraded 0 := by
      unfold u
      rw [selectMode_of_degraded hreset hboot hedm hfault hhold hlost hm hdeg]
      exact (setMode_enters ..).startAt (clearPend_anchor s)
    exact ⟨he.mode, he.recorded⟩
  · have he : Enters s u .active 0 := by
      unfold u
      rw [selectMode_of_degraded_end hreset hboot hedm hfault hhold hlost hm hdeg]
      exact (setMode_enters ..).startAt (clearPend_anchor s)
    exact ⟨he.mode, he.recorded⟩

/-! ### The table of the modes (03 R60, R61) -/

/-- The mode of `u` is that of `s`, or a transition of the table leads to it. -/
def ByTable (s u : State) : Prop := u.md.mode = s.md.mode ∨ (s.md.mode, u.md.mode) ∈ tickModes

theorem ByTable.startAt {s a u : State} (h : ByTable a u) (ha : a.md.mode = s.md.mode) : ByTable s u := by
  unfold ByTable at h
  rwa [ha] at h

theorem ByTable.keep {s u v : State} (h : ByTable s u) (hv : v.md.mode = u.md.mode) : ByTable s v := by
  unfold ByTable
  rwa [hv]

theorem ByTable.of_mode {s u : State} (h : u.md.mode = s.md.mode) : ByTable s u := .inl h

theorem ByTable.of_step {s u : State} {new : Mode} (hu : u.md.mode = new) (h : (s.md.mode, new) ∈ tickModes) : ByTable s u :=
  .inr (by rwa [hu])

theorem ByTable.complete {s u : State} {c : Cmd} {a : Answer} (h : ByTable s u) : ByTable s (complete u c a) :=
  h.keep (anchor_mode (complete_anchor ..))

theorem ByTable.endCmd {s u : State} {op : Op} {a : Answer} (h : ByTable s u) : ByTable s (endCmd u op a) :=
  h.keep (anchor_mode (endCmd_anchor ..))

theorem setMode_byTable {s a : State} {new : Mode} {cause : Nat} {keep : Option Op} (h : (s.md.mode, new) ∈ tickModes) :
    ByTable s (setMode a new cause keep) := .of_step (setMode_mode ..) h

theorem startCheck_byTable {s a : State} {o : Origin} {img : List Byte} {cold hold : Bool} {keep : Option Op}
    (h : (s.md.mode, .checking) ∈ tickModes) : ByTable s (startCheck a o img cold hold keep) :=
  .of_step (startCheck_enters ..).mode h

/-- The twelve modes. -/
def allModes : List Mode :=
  [.reset, .boot, .unconfigured, .configured, .checking, .active, .standby, .handover, .degraded, .safeHold, .service, .lockout]

theorem mem_allModes (m : Mode) : m ∈ allModes := by cases m <;> decide

/-- The modes after BOOT that permit a command. -/
def permitting (op : Op) : List Mode := allModes.filter fun m => op.modeList.1.contains m.num

theorem mem_permitting {op : Op} {m : Mode} {recovery : Bool} (h : permits op m recovery = true) (hboot : m ≠ .boot) :
    m ∈ permitting op := by
  refine List.mem_filter.2 ⟨mem_allModes m, ?_⟩
  simpa [permits, hboot] using h

theorem dropConfig_mode (s : State) : (dropConfig s).md.mode = s.md.mode := by
  unfold dropConfig
  extract_lets s0 m c g s1
  have h0 : s0.md.mode = s.md.mode := anchor_mode (injStopAll_anchor s)
  have hdrop : (frameDefaults (dropConfig.dropSafety s1)).md.mode = s0.md.mode := rfl
  exact (anchor_mode ((ownTime_anchor _).trans (setStatus_anchor ..))).trans (hdrop.trans h0)

theorem permitted_byTable {op : Op} {m new : Mode} (hm : m ∈ permitting op) (h : ∀ x ∈ permitting op, (x, new) ∈ tickModes) :
    (m, new) ∈ tickModes := h m hm

/-- A mode command leads from a mode that permits it along the table. -/
theorem modeCommand_byTable {s : State} {c : Cmd} (hm : s.md.mode ∈ permitting c.op) : ByTable s (modeCommand s c) := by
  have hstay : ByTable s s := .of_mode rfl
  cases hop : c.op <;> simp only [modeCommand, hop] <;> rw [hop] at hm
  case cfgOpen =>
    apply ByTable.complete
    split
    · next hconf => exact setMode_byTable (by rw [hconf]; decide)
    · exact hstay
  case cfgClose => exact (setMode_byTable (permitted_byTable hm (by decide))).complete
  case enable => exact (startCheck_byTable (permitted_byTable hm (by decide))).keep (anchor_mode (replaceCmd_anchor ..))
  case disable =>
    apply ByTable.complete
    split
    · next hout => exact setMode_byTable (by rcases hout with h | h <;> rw [h] <;> decide)
    · exact .of_mode (dropConfig_mode s)
  case restart => exact (startCheck_byTable (permitted_byTable hm (by decide))).keep (anchor_mode (replaceCmd_anchor ..))
  case safeHoldEnter => exact (setMode_byTable (permitted_byTable hm (by decide))).complete
  case safeHoldLeave =>
    apply ByTable.complete
    split
    · exact startCheck_byTable (permitted_byTable hm (by decide))
    · exact setMode_byTable (permitted_byTable hm (by decide))
  case serviceEnter =>
    split
    · exact hstay.complete
    · exact (setMode_byTable (permitted_byTable hm (by decide))).complete
  case serviceLeave =>
    apply ByTable.complete
    split
    · exact setMode_byTable (permitted_byTable hm (by decide))
    · exact setMode_byTable (permitted_byTable hm (by decide))
  case safetyReset =>
    split
    · apply ByTable.complete
      split
      · next hlock => exact setMode_byTable (by rw [hlock]; decide)
      · exact .of_mode (anchor_mode (safetyReset_anchor ..))
    · exact hstay.complete
  case handoverRequest => exact .of_mode (anchor_mode (handoverStart_anchor ..))
  all_goals exact hstay

/-- A passed check leads to ACTIVE, STANDBY or LOCKOUT (03 R60, R80). -/
theorem checkPassed_byTable {s : State} (r : CheckRes) (hm : s.md.mode = .checking) : ByTable s (checkPassed s r) := by
  have hafter (a : State) : (s.md.mode, modeAfter a) ∈ tickModes := by
    rw [hm, modeAfter]
    (repeat' split) <;> decide
  unfold checkPassed
  extract_lets o img s1 s2 s3
  have h3 : ByTable s s3 := setMode_byTable (hafter s2)
  clear_value s3
  split
  · exact h3.endCmd
  split
  · exact h3.endCmd
  · exact h3

/-- A refused check leads to CONFIGURED or SAFE_HOLD (03 R60). -/
theorem checkRefused_byTable {s : State} (r : CheckRes) (hm : s.md.mode = .checking) : ByTable s (checkRefused s r) := by
  have hconf : (s.md.mode, .configured) ∈ tickModes := by rw [hm]; decide
  have hhold : (s.md.mode, .safeHold) ∈ tickModes := by rw [hm]; decide
  unfold checkRefused
  extract_lets o img s1
  clear_value o s1
  cases o with
  | enable => exact (setMode_byTable hconf).endCmd
  | autostart => exact (setMode_byTable (a := setStaging s1 2 img) hconf).keep rfl
  | restart => exact (setMode_byTable hhold).endCmd
  | none | safeHoldLeave | progStage => exact setMode_byTable hhold

/-- The latch that a standby wins leads to HANDOVER, whatever program it takes over. -/
theorem enterHandover_mode (s : State) : (enterHandover s).md.mode = .handover := by
  unfold enterHandover
  extract_lets prog s1 g s2 old c2
  have h2 : s2.md.mode = .handover := setMode_mode ..
  clear_value s2
  split
  · exact h2
  · extract_lets s3 s4 c4
    have h4 : s4.md.mode = s3.md.mode := anchor_mode (exchangeProgram_anchor ..)
    exact (anchor_mode (setStatus_anchor ..)).trans (h4.trans h2)

/-- BOOT ends in one of its three modes (03 R60, R73). -/
theorem leaveBoot_byTable {s : State} (hm : s.md.mode = .boot) : ByTable s (leaveBoot s) := by
  unfold leaveBoot
  extract_lets img m c a h s1
  clear_value s1
  split
  · exact setMode_byTable (by rw [hm]; decide)
  split
  · exact setMode_byTable (by rw [hm]; decide)
  · exact startCheck_byTable (by rw [hm]; decide)

theorem edmMode_byTable {m : Mode} (h : edmMode m = true) : (m, .lockout) ∈ tickModes :=
  (by decide : ∀ m ∈ allModes, edmMode m = true → (m, .lockout) ∈ tickModes) m (mem_allModes m) h

theorem faultMode_byTable {m : Mode} (h : faultMode m = true) : (m, .safeHold) ∈ tickModes :=
  (by decide : ∀ m ∈ allModes, faultMode m = true → (m, .safeHold) ∈ tickModes) m (mem_allModes m) h

theorem driven_byTable {m : Mode} (h : m.driven = true) : (m, .standby) ∈ tickModes :=
  (by decide : ∀ m ∈ allModes, m.driven = true → (m, .standby) ∈ tickModes) m (mem_allModes m) h

/-- Every cause that a tick selects leads along the table. -/
theorem selectMode_byTable (s : State) : ByTable s (selectMode s) := by
  unfold selectMode
  extract_lets m mr s0
  have h0 : s0.md.mode = s.md.mode := anchor_mode (clearPend_anchor s)
  have hdue (hboot : ¬m = .boot) {only : Op → Bool} {c : Cmd} (hc : dueMode s0 only = some c) : ByTable s (modeCommand s0 c) :=
    (modeCommand_byTable (mem_permitting (dueMode_some hc).2 (by rwa [h0]))).startAt h0
  clear_value s0
  split
  · exact .of_mode rfl
  next hreset =>
  split
  · next hboot =>
    split
    · exact leaveBoot_byTable hboot
    · exact .of_mode rfl
  next hboot =>
  split
  · next hedm =>
    exact .of_step ((edmLockout_enters s).keep (clearPend_anchor _)).mode (edmMode_byTable (Bool.and_eq_true_iff.1 hedm).2)
  split
  · next f hf =>
    have hm : faultMode m = true := by
      rw [Option.ite_none_right_eq_some] at hf
      exact hf.1
    exact .of_step ((abandonCheck_enters s .safeHold f).keep (clearPend_anchor _)).mode (faultMode_byTable hm)
  split
  · next c hc => exact hdue hboot hc
  split
  · next hlost => exact .of_step (loseClaim_enters s0).mode (driven_byTable (Bool.and_eq_true_iff.1 hlost).1)
  split
  · next hdeg => exact setMode_byTable (by rw [show s.md.mode = .active from hdeg.1]; decide)
  split
  · next hend => exact setMode_byTable (by rw [show s.md.mode = .degraded from hend.1]; decide)
  split
  · next hcheck =>
    have hm : s0.md.mode = .checking := h0.trans hcheck
    split
    · split
      · exact (checkPassed_byTable _ hm).startAt h0
      · exact (checkRefused_byTable _ hm).startAt h0
    · exact .of_mode h0
  split
  · next hwon => exact .of_step (enterHandover_mode s0) (by rw [show s.md.mode = .standby from hwon.1]; decide)
  split
  · next hover => exact setMode_byTable (by rw [show s.md.mode = .handover from hover.1]; decide)
  split
  · next c hc => exact hdue hboot hc
  · exact .of_mode h0

theorem finishStore_mode (s : State) : (finishStore s).md.mode = s.md.mode := by
  unfold finishStore
  split <;> rfl

/-- Of the mode part of a tick the selection alone changes the mode. -/
theorem tickMode_byTable (s : State) : ByTable s (tickMode s) := by
  unfold tickMode
  extract_lets s1 s2
  have h1 : s1.md.mode = s.md.mode := (anchor_mode (tickGroup_anchor _)).trans (finishStore_mode s)
  have h2 : s2.md.mode = s1.md.mode := by
    unfold s2
    split
    · exact anchor_mode (clearOutForces_anchor s1)
    · rfl
  exact ((selectMode_byTable s2).startAt (h2.trans h1)).keep (anchor_mode ((finishAcks_anchor ..).trans ((tickReclaim_anchor _).trans
    ((refuseDue_anchor _).trans ((frameMarks_anchor _).trans (tickProgCheck_anchor _))))))

theorem doTick_byTable (i : TickIn) (s : State) : ByTable s (doTick s i) := by
  by_cases hreset : s.md.mode = .reset
  · rw [doTick_of_reset i hreset]
    exact .of_mode rfl
  have hb : (startFrame (endFrame i s)).md.mode = s.md.mode := (startFrame_begins _).mode.trans (endFrame_onward i s).mode
  rw [doTick_eq i hreset rfl]
  split
  · exact (ByTable.of_mode (anchor_mode ((tickReclaim_anchor _).trans (bootTick_anchor _)))).startAt hb
  · exact ((tickMode_byTable _).keep (anchor_mode (tickWork_anchor ..))).startAt hb

theorem enterReset_mode (internal : Bool) (s : State) : (enterReset internal s).md.mode = .reset := by
  unfold enterReset
  split
  · assumption
  · rfl

theorem doSyncEdge_md (s : State) (dt : Nat) (rising : Bool) (ppm : Int) (step : Bool) : (doSyncEdge s dt rising ppm step).md = s.md := by
  unfold doSyncEdge
  dsimp only
  (repeat' split) <;> rfl

theorem doCheckComplete_mode (s : State) (c : CheckIn) : (doCheckComplete s c).md.mode = s.md.mode := by
  unfold doCheckComplete
  split
  · rfl
  extract_lets prog r s0 cfg s1
  have h0 : s0.md.mode = s.md.mode := by
    unfold s0
    split
    · rfl
    · exact anchor_mode (stageNine_anchor ..)
  split
  · exact h0
  · exact h0

/-- What becomes of the mode by a command: RESET, BOOT out of RESET, a transition of the table at a tick, or nothing. -/
theorem exec_mode (c : Instr) (s : State) : ∃ u, exec c s = .next (settle s u) ∧
    (u.md.mode = s.md.mode ∨ (resets c = true ∧ u.md.mode = .reset) ∨
      ((∃ p, c = .leaveReset p) ∧ s.md.mode = .reset ∧ u.md.mode = .boot) ∨
      ((∃ x, c = .tick x) ∧ (s.md.mode, u.md.mode) ∈ tickModes)) := by
  by_cases hc : movesAnchor c = false
  · obtain ⟨u, hu, ho⟩ := exec_onward c s hc
    exact ⟨u, hu, .inl ho.mode⟩
  · cases c with
    | resetAssert => exact ⟨_, rfl, .inr (.inl ⟨rfl, enterReset_mode false s⟩)⟩
    | supplySupervisorReset => exact ⟨_, rfl, .inr (.inl ⟨rfl, enterReset_mode false s⟩)⟩
    | fcSupervisoryTimeout => exact ⟨_, rfl, .inr (.inl ⟨rfl, enterReset_mode true s⟩)⟩
    | fwActivateReset =>
      refine ⟨doFwReset s, rfl, ?_⟩
      unfold doFwReset
      split
      · exact .inr (.inl ⟨rfl, enterReset_mode true s⟩)
      · exact .inl rfl
    | leaveReset p =>
      refine ⟨doLeaveReset s p, rfl, ?_⟩
      by_cases hm : s.md.mode = .reset
      · obtain ⟨dio, an, gr, queue, dropped, bootRead, status, hu⟩ := doLeaveReset_eq p s hm
        rw [hu]
        exact .inr (.inr (.inl ⟨⟨p, rfl⟩, hm, rfl⟩))
      · rw [doLeaveReset, if_pos hm]
        exact .inl rfl
    | tick i => exact ⟨_, rfl, (doTick_byTable i s).imp id fun h => .inr (.inr ⟨⟨i, rfl⟩, h⟩)⟩
    | syncInEdge edge ppm step => exact ⟨_, rfl, .inl (congrArg ModeSt.mode (doSyncEdge_md ..))⟩
    | checkComplete c => exact ⟨_, rfl, .inl (doCheckComplete_mode s c)⟩
    | _ => exact absurd rfl hc

/-- Settles O6: of the four things that become of the mode by a command, the three that change it. -/
theorem theModeChangesByTheTableAlone : Obligations.TheModeChangesByTheTableAlone := by
  intro c s t ht hne
  obtain ⟨u, hu, hmode⟩ := exec_mode c s
  rw [hu] at ht
  cases ht
  exact hmode.resolve_left hne

/-! ### Entry into RESET (03 R60, R61, 04 R100, 06 R144, 09 R230) -/

/-- The state in RESET, the AO banks with their supply or without (09 R224). -/
def resetEntry (internal supplied : Bool) (s : State) : State :=
  let u := enterReset internal s
  { u with an := { u.an with supplied := supplied } }

theorem resetEntry_supplied (internal : Bool) {s : State} (h : s.md.mode ≠ .reset) :
    resetEntry internal s.an.supplied s = enterReset internal s := by
  unfold resetEntry enterReset
  rw [if_neg h]
  rfl

/-- The four causes of RESET, with what the status shows of them (03 R60, R75, 06 R154, 19 R543). -/
def resetCauses : List (Instr × Bool) :=
  [(.resetAssert, false), (.supplySupervisorReset, false), (.fcSupervisoryTimeout, true), (.fwActivateReset, true)]

theorem exec_resetCause {s : State} (h : s.md.mode ≠ .reset) {x : Instr × Bool} (hx : x ∈ resetCauses)
    (hfw : x.1 = .fwActivateReset → s.md.fwReset = true) :
    exec x.1 s = .next (settle s (resetEntry x.2 (s.an.supplied && decide (x.1 ≠ .supplySupervisorReset)) s)) := by
  have hkept (internal : Bool) : resetEntry internal (s.an.supplied && true) s = enterReset internal s := by
    rw [Bool.and_true, resetEntry_supplied internal h]
  simp only [resetCauses, List.mem_cons, List.not_mem_nil, or_false] at hx
  rcases hx with rfl | rfl | rfl | rfl
  · exact congrArg (fun u => Host.Outcome.next (settle s u)) (hkept false).symm
  · rw [show (s.an.supplied && decide (Instr.supplySupervisorReset ≠ .supplySupervisorReset)) = false by simp]
    rfl
  · exact congrArg (fun u => Host.Outcome.next (settle s u)) (hkept true).symm
  · exact congrArg (fun u => Host.Outcome.next (settle s u)) ((if_pos (hfw rfl)).trans (hkept true).symm)

theorem cutStore_frame (s : State) : cutStore s = { s.mram with enabled := (cutStore s).enabled } := by
  unfold cutStore
  split <;> rfl

theorem cutStore_of_idle {s : State} (h : s.cfg.storing = false) : cutStore s = s.mram := if_neg (by simp [h])

theorem get_endMismatch (a : AnSt) (k : Nat) : Tab.get (endMismatch a).ao AoCh.init k =
    { Tab.get a.ao AoCh.init k with mismatch := false, misClear := false, cutOpen := false } := by
  unfold endMismatch
  rw [Tab.get_mapAll _ _ _ _ rfl]

theorem enterReset_of_reset (internal : Bool) {s : State} (h : s.md.mode = .reset) : enterReset internal s = s := if_pos h

theorem exec_resetAssert (s : State) : exec .resetAssert s = .next (settle s (enterReset false s)) := rfl

theorem exec_fcSupervisoryTimeout (s : State) : exec .fcSupervisoryTimeout s = .next (settle s (enterReset true s)) := rfl

theorem exec_supplySupervisorReset (s : State) : exec .supplySupervisorReset s = .next (settle s (resetEntry false false s)) := rfl

theorem exec_fwActivateReset (s : State) : exec .fwActivateReset s = .next (settle s (doFwReset s)) := rfl

/-! ### The strap state (03 R64, 08 R193) -/

section
variable {α : Type}

theorem Tab.mem_ins {t : Tab α} {k : Nat} {v : α} {x : Nat × α} (h : x ∈ Tab.ins t k v) : x = (k, v) ∨ x ∈ t := by
  induction t with
  | nil => exact .inl (List.mem_singleton.1 h)
  | cons y r ih =>
    unfold Tab.ins at h
    split at h
    · exact (List.mem_cons.1 h).imp_right (List.mem_cons_of_mem _)
    split at h
    · exact List.mem_cons.1 h
    · rcases List.mem_cons.1 h with rfl | hr
      · exact .inr List.mem_cons_self
      · exact (ih hr).imp_right (List.mem_cons_of_mem _)

theorem Tab.mem_del {t : Tab α} {k : Nat} {x : Nat × α} (h : x ∈ Tab.del t k) : x ∈ t := by
  induction t with
  | nil => exact h
  | cons y r ih =>
    unfold Tab.del at h
    split at h
    · exact List.mem_cons_of_mem _ (ih h)
    · rcases List.mem_cons.1 h with rfl | hr
      · exact List.mem_cons_self
      · exact List.mem_cons_of_mem _ (ih hr)

variable [DecidableEq α]

theorem Tab.mem_set {t : Tab α} {d v : α} {k : Nat} {x : Nat × α} (h : x ∈ Tab.set t d k v) : x = (k, v) ∨ x ∈ t := by
  unfold Tab.set at h
  split at h
  · exact .inr (Tab.mem_del h)
  · exact Tab.mem_ins h

/-- What a table lists once every listed item has been changed is the change of a listed item. -/
theorem Tab.mem_mapAll {t : Tab α} {d : α} {f : Nat → α → α} {k : Nat} {x : α} (h : (k, x) ∈ Tab.mapAll t d f) : ∃ w, x = f k w := by
  induction t with
  | nil => cases h
  | cons y r ih =>
    rcases Tab.mem_set h with he | hr
    · obtain ⟨rfl, rfl⟩ := Prod.mk.inj he
      exact ⟨_, rfl⟩
    · exact ih hr

end

theorem exec_linkResetCode {s : State} (h : s.md.mode = .reset) :
    exec .linkResetCode s = .next (settle s (strapField { s with an := { s.an with supplied := true } })) :=
  congrArg (fun u => Host.Outcome.next (settle s u)) (if_pos h)

theorem strapField_ao {s : State} {k : Nat} {x : AoCh} (h : (k, x) ∈ (strapField s).an.ao) : x.level = 0 ∧ x.parallel = false := by
  dsimp only [strapField] at h
  obtain ⟨w, rfl⟩ := Tab.mem_mapAll h
  exact ⟨rfl, rfl⟩

theorem strapField_tp {s : State} {k : Nat} {g : TpGen} (h : (k, g) ∈ (strapField s).dio.tp) : g.on = false ∧ g.pulse = false := by
  dsimp only [strapField] at h
  obtain ⟨w, rfl⟩ := Tab.mem_mapAll h
  exact ⟨rfl, rfl⟩

theorem strapField_ch {s : State} {k : Nat} {d : DoCh} (h : (k, d) ∈ (strapField s).dio.ch) : d.cmd = 0 ∧ d.dark = false := by
  dsimp only [strapField] at h
  obtain ⟨w, rfl⟩ := Tab.mem_mapAll h
  exact ⟨setDoCmd_cmd .., rfl⟩

/-- Settles O30: the state that each of the four causes leads to, and the field side on the reset code. -/
theorem resetDiscardsWhatIsNotKept : Obligations.ResetDiscardsWhatIsNotKept := by
  intro s v
  refine ⟨fun hm x hx hfw => ?_, fun hm => ⟨fun c hc => ?_, ?_⟩, fun hfw => ?_, fun hm => ?_, rfl⟩
  · refine ⟨_, exec_resetCause hm hx hfw, ?_⟩
    unfold resetEntry enterReset
    rw [if_neg hm]
    exact ⟨rfl, rfl, rfl, rfl, rfl, rfl, rfl, rfl, rfl, rfl, rfl, rfl, rfl, rfl, cutStore_frame s, cutStore_of_idle, rfl, rfl, rfl,
      get_endMismatch s.an⟩
  · simp only [List.mem_cons, List.not_mem_nil, or_false] at hc
    rcases hc with rfl | rfl
    · rw [exec_resetAssert, enterReset_of_reset false hm]
    · rw [exec_fcSupervisoryTimeout, enterReset_of_reset true hm]
  · rw [exec_supplySupervisorReset, resetEntry, enterReset_of_reset false hm]
  · rw [exec_fwActivateReset, doFwReset, if_neg (by simp [hfw])]
  · exact ⟨_, exec_linkResetCode hm, rfl, fun _ _ => strapField_ao, fun _ _ => strapField_tp, fun _ _ => strapField_ch⟩

/-! ### What a mode change out of BOOT leaves (03 R61) -/

/-- The mode record and the configuration with its staging area and its check. -/
def State.modeCfg (s : State) : ModeSt × CfgSt := (s.md, s.cfg)

theorem modeCfg_ite (p : Prop) [Decidable p] (a b : State) : (if p then a else b).modeCfg = if p then a.modeCfg else b.modeCfg :=
  apply_ite ..

theorem modeCfg_foldl {α : Type} (g : State → α → State) (h : ∀ s x, (g s x).modeCfg = s.modeCfg) (l : List α) (s : State) :
    (l.foldl g s).modeCfg = s.modeCfg := by
  induction l generalizing s with
  | nil => rfl
  | cons x l ih => rw [List.foldl_cons, ih, h]

theorem handback_modeCfg (s : State) (t : Nat) (kind : Option Nat) (n : Nat) : (handback s t kind n).modeCfg = s.modeCfg := rfl

theorem complete_modeCfg (s : State) (c : Cmd) (a : Answer) : (complete s c a).modeCfg = s.modeCfg :=
  modeCfg_foldl (fun s n => handback s c.target none n) (fun _ _ => handback_modeCfg ..) c.segs
    { s with cm := { s.cm with cmds := s.cm.cmds.erase c } }

theorem abortCmds_modeCfg (keep : Option Op) (s : State) : (abortCmds keep s).modeCfg = s.modeCfg :=
  modeCfg_foldl _ (fun _ _ => complete_modeCfg ..) _ s

theorem endSub_modeCfg (s : State) (id : Nat) : (endSub s id).modeCfg = s.modeCfg := by
  unfold endSub
  split
  · rfl
  · exact modeCfg_foldl _ (fun _ _ => by rw [modeCfg_ite, handback_modeCfg, ite_self]) _ _

theorem endSubs_modeCfg (s : State) : (endSubs s).modeCfg = s.modeCfg := modeCfg_foldl _ endSub_modeCfg _ s

theorem finishAcks_modeCfg (all : Bool) (s : State) : (finishAcks all s).modeCfg = s.modeCfg := by
  refine modeCfg_foldl _ (fun s c => ?_) _ s
  split
  · exact complete_modeCfg ..
  · split
    · exact complete_modeCfg ..
    · rfl

theorem injStop_modeCfg (s : State) (i : Nat) : (injStop s i).modeCfg = s.modeCfg := by
  unfold injStop
  dsimp only
  split <;> rfl

theorem injStopAll_modeCfg (s : State) : (injStopAll s).modeCfg = s.modeCfg := modeCfg_foldl _ injStop_modeCfg _ s

theorem abandonTests_modeCfg (all : Bool) (s : State) : (abandonTests all s).modeCfg = s.modeCfg := by
  cases all <;> rfl

theorem recordMode_keeps {s : State} (h : s.md.mode ≠ .standby) (new : Mode) (cause : Nat) :
    (recordMode s new cause).cfg = { s.cfg with staged := none } ∧ (recordMode s new cause).md.bootDue = s.md.bootDue := by
  have hstaged : ¬(s.md.mode = .standby ∧ new = .handover) := fun hb => h hb.1
  unfold recordMode
  rw [if_neg hstaged]
  dsimp only
  split <;> exact ⟨rfl, rfl⟩

theorem confirmTrial_keeps (s : State) : (confirmTrial s).cfg = s.cfg ∧ (confirmTrial s).md.bootDue = s.md.bootDue := by
  unfold confirmTrial
  split <;> exact ⟨rfl, rfl⟩

/-- A change out of BOOT drops the staged program alone of the configuration. -/
theorem setMode_of_boot {s : State} (h : s.md.mode = .boot) (new : Mode) (cause : Nat) (keep : Option Op) :
    (setMode s new cause keep).cfg = { s.cfg with staged := none } ∧ (setMode s new cause keep).md.bootDue = s.md.bootDue := by
  obtain ⟨hcfg, hdue⟩ := recordMode_keeps (s := s) (by rw [h]; decide) new cause
  unfold setMode
  extract_lets old s1 s2 s3 s4 s5 s6 p s7 s8
  change s1.cfg = _ at hcfg
  change s1.md.bootDue = _ at hdue
  have h2 : s2.cfg = s1.cfg ∧ s2.md.bootDue = s1.md.bootDue := by
    unfold s2
    split
    · exact confirmTrial_keeps s1
    · exact ⟨rfl, rfl⟩
  have h3 : s3 = s2 := if_neg fun hb => absurd (h.symm.trans hb) (by decide)
  have h4 : s4.modeCfg = s3.modeCfg := abortCmds_modeCfg ..
  have h5 : s5.modeCfg = s4.modeCfg := by
    unfold s5
    split <;> rfl
  have h6 : s6.modeCfg = s5.modeCfg := by
    unfold s6
    split
    · exact (endSubs_modeCfg _).trans (finishAcks_modeCfg ..)
    · rfl
  have h7 : s7.modeCfg = s6.modeCfg := by
    unfold s7
    split <;> rfl
  have h8 : s8 = s7 := if_neg fun hb => absurd (h.symm.trans hb.1) (by decide)
  have hend : (abandonTests true (injStopAll s8)).modeCfg = s2.modeCfg := by
    rw [abandonTests_modeCfg, injStopAll_modeCfg, h8, h7, h6, h5, h4, h3]
  obtain ⟨hmd, hc⟩ := Prod.mk.inj hend
  exact ⟨hc.trans (h2.1.trans hcfg), (congrArg ModeSt.bootDue hmd).trans (h2.2.trans hdue)⟩

/-! ### The end of BOOT (03 R60, R73, R74, R79, R83) -/

/-- The status that the boot record shows: FW_FALLBACK for a fallback not yet shown. -/
def bootStatus (m : ModeSt) : BitVec 6 := if m.fallback = true ∧ m.bootRead = false then bset m.status 3 else m.status

theorem readBoot_eq (s : State) : readBoot s = { s with md := { s.md with bootRead := true, status := bootStatus s.md } } := by
  unfold readBoot bootStatus
  simp only [Bool.and_eq_true, Bool.not_eq_true']

theorem exec_bootComplete (s : State) : exec .bootComplete s = .next (settle s (doBootComplete s)) := rfl

theorem exec_bootStepFail (s : State) : exec .bootStepFail s = .next (settle s (doBootFail s)) := rfl

/-- The mode record with the last BOOT step done. -/
def bootDone (kind : Nat) (enabled : Bool) (m : ModeSt) : ModeSt :=
  { m with
    bootRead := true, fwLoaded := true, ready := true, bootDue := true, startKind := kind
    status := bootStatus { m with status := if kind = 3 ∧ enabled = true then bset m.status 4 else m.status } }

theorem doBootComplete_of_due {s : State} (hm : s.md.mode = .boot) (h : s.md.recovery = false ∧ s.md.bootDue = false) :
    doBootComplete s = { s with
      md := bootDone (powerKind s) s.mram.enabled s.md
      cfg := { s.cfg with ids := if s.mram.enabled then imgIds s.mram.image else (0, 0, 0) } } := by
  unfold doBootComplete
  rw [if_neg (by simp [hm, h]), readBoot_eq]
  rfl

theorem doBootComplete_of_not_due {s : State} (h : ¬(s.md.recovery = false ∧ s.md.bootDue = false)) : doBootComplete s = s := by
  have hover := Decidable.not_and_iff_or_not.1 h
  rw [Bool.not_eq_false, Bool.not_eq_false] at hover
  exact if_pos (.inr hover)

theorem doBootFail_of_due {s : State} (hm : s.md.mode = .boot) (h : s.md.recovery = false ∧ s.md.bootDue = false) :
    doBootFail s = { pushLog s 0x0300 0xFFFF 0 with
      md := { s.md with recovery := true, ready := true, bootRead := true, status := bootStatus s.md } } := by
  unfold doBootFail
  rw [if_pos ⟨hm, h⟩, readBoot_eq]
  rfl

theorem doBootFail_of_not_due {s : State} (h : ¬(s.md.recovery = false ∧ s.md.bootDue = false)) : doBootFail s = s :=
  if_neg fun hb => h hb.2

/-- A bit that is set under a condition. -/
theorem getLsbD_ite_bset {n : Nat} (p : Prop) [Decidable p] (w : BitVec n) (i : Nat) {k : Nat} (hk : k < n) :
    (if p then bset w i else w).getLsbD k = (w.getLsbD k || (decide (k = i) && decide p)) := by
  split
  · next hp => simp only [getLsbD_bset, hp, hk, decide_true, eq_comm (a := i)]
  · next hp => simp [hp]

/-- The bits of the status at the end of BOOT: FW_FALLBACK, and bit 4 for a COLD power-up that finds no journal. -/
theorem bootDone_status (kind : Nat) (enabled : Bool) (m : ModeSt) {k : Nat} (hk : k < 6) : (bootDone kind enabled m).status.getLsbD k =
    (m.status.getLsbD k || (decide (k = 3) && m.fallback && !m.bootRead) || (decide (k = 4) && decide (kind = 3) && enabled)) := by
  simp only [bootDone, bootStatus, getLsbD_ite_bset _ _ _ hk, Bool.decide_and, Bool.decide_eq_true, Bool.decide_eq_false, Bool.and_assoc,
    Bool.or_right_comm]

theorem journalServes_iff (m : MramSt) (j : Journal) :
    journalServes m j = true ↔ m.enabled = true ∧ j.valid = true ∧ j.imageCrc = imgCrc m.image := by
  simp [journalServes, and_assoc]

/-- COLD# low asks for a COLD start. -/
theorem powerKind_of_cold {s : State} (h : s.md.straps.coldN = false) : powerKind s = 2 := if_pos (by simp [h])

/-- Else a journal that serves makes the power-up WARM. -/
theorem powerKind_of_warm {s : State} (h : s.md.straps.coldN = true) : powerKind s =
    if ∃ j ∈ [s.mram.jA, s.mram.jB], s.mram.enabled = true ∧ j.valid = true ∧ j.imageCrc = imgCrc s.mram.image then 1 else 3 := by
  simp only [powerKind, h, Bool.not_true, Bool.false_eq_true, if_false, Bool.or_eq_true, journalServes_iff, List.mem_cons, List.not_mem_nil,
    or_false, exists_eq_or_imp, exists_eq_left]

/-- The mode that BOOT ends in. -/
def modeAfterBoot (s : State) : Mode :=
  if s.mram.enabled = false then .unconfigured else if s.md.straps.bootsel = true then .configured else .checking

/-- BOOT ends in the mode that the store asks for, with the stored image closed or in its check. -/
theorem leaveBoot_spec {s : State} (hm : s.md.mode = .boot) :
    let u := leaveBoot s
    Enters s u (modeAfterBoot s) 0 ∧ u.md.bootDue = false ∧ (s.mram.enabled = true → u.cfg.run = imgRecs s.mram.image) ∧
      (s.mram.enabled = true → s.md.straps.bootsel = true → u.cfg.stg = 2 ∧ u.cfg.bytes = s.mram.image) ∧
      (s.mram.enabled = true → s.md.straps.bootsel = false →
        u.cfg.running = true ∧ u.cfg.cur = .autostart ∧ u.cfg.img = s.mram.image) := by
  unfold modeAfterBoot
  intro u
  have hu : u = leaveBoot s := rfl
  clear_value u
  unfold leaveBoot at hu
  extract_lets img m c a h s1 at hu
  have h1 : s1.anchor = s.anchor := anchor_upd_md ..
  have hboot : s1.md.mode = .boot := hm
  have hen : s1.mram.enabled = s.mram.enabled := rfl
  have hsel : s1.md.straps.bootsel = s.md.straps.bootsel := rfl
  have hrun : s.mram.enabled = true → s1.cfg.run = imgRecs img := fun h => if_pos h
  have hdue : s1.md.bootDue = false := rfl
  clear_value s1
  rw [hen, hsel] at hu
  subst hu
  cases henabled : s.mram.enabled with
  | false =>
    obtain ⟨-, hd⟩ := setMode_of_boot hboot .unconfigured 0 none
    exact ⟨(setMode_enters ..).startAt h1, hd.trans hdue, nofun, nofun, nofun⟩
  | true =>
    have hrun := hrun henabled
    cases s.md.straps.bootsel with
    | true =>
      obtain ⟨hc, hd⟩ := setMode_of_boot (s := setStaging s1 2 img) hboot .configured 0 none
      exact ⟨((setMode_enters ..).startAt (setStaging_anchor ..)).startAt h1, hd.trans hdue, fun _ => (congrArg CfgSt.run hc).trans hrun,
        fun _ _ => ⟨congrArg CfgSt.stg hc, congrArg CfgSt.bytes hc⟩, nofun⟩
    | false =>
      obtain ⟨hc, hd⟩ := setMode_of_boot hboot .checking 0 none
      exact ⟨(startCheck_enters ..).startAt h1, hd.trans hdue, fun _ => (congrArg CfgSt.run hc).trans hrun, nofun,
        fun _ _ => ⟨rfl, rfl, rfl⟩⟩

theorem selectMode_of_bootDue {s : State} (hm : s.md.mode = .boot) (h : s.md.bootDue = true) : selectMode s = leaveBoot s := by
  simp [selectMode, hm, h]

/-- Settles O32: the two rows that end BOOT by whether it is due, the power-up by its journals, and the tick by the store. -/
theorem bootEndsInTheModeTheStoreAsksFor : Obligations.BootEndsInTheModeTheStoreAsksFor := by
  intro s hm due shown
  refine ⟨fun hdue => ?_, fun hdue => ?_, fun hdue => ?_, fun hdue => ?_⟩
  · rw [exec_bootComplete, doBootComplete_of_due hm hdue]
    refine ⟨_, rfl, rfl, powerKind_of_cold, fun hcold => ?_, fun k hk => bootDone_status _ _ _ hk⟩
    have hkind := powerKind_of_warm hcold
    refine ⟨fun hwarm => hkind.trans (if_pos hwarm), fun hnone => hkind.trans (if_neg fun ⟨j, hj, hserves⟩ => ?_)⟩
    obtain ⟨hen, hvalid, hcrc⟩ := hserves
    simpa [hen, hvalid, hcrc] using hnone j hj
  · rw [exec_bootStepFail, doBootFail_of_due hm hdue]
    rfl
  · rw [exec_bootComplete, doBootComplete_of_not_due hdue, exec_bootStepFail, doBootFail_of_not_due hdue]
    exact ⟨rfl, rfl⟩
  · rw [selectMode_of_bootDue hm hdue]
    obtain ⟨henters, hrest⟩ := leaveBoot_spec hm
    exact ⟨henters.prev.trans hm, henters.mode, hrest⟩

end Sys2Proof.Machine
end

section
/-! Proofs about the configuration and its check (04): a command past acceptance, the staged image, the end of a check, the store. -/

namespace Sys2Proof.Machine

open Sys2Proof

/-! ### A slot that is written again (06 R134, R135) -/

theorem Tab.ins_ins {α : Type} (t : Tab α) (k : Nat) (v w : α) : Tab.ins (Tab.ins t k v) k w = Tab.ins t k w := by
  induction t with
  | nil => simp [Tab.ins]
  | cons x r ih =>
    obtain ⟨j, u⟩ := x
    by_cases hsame : j = k
    · simp [Tab.ins, hsame]
    by_cases hbefore : k < j
    · simp [Tab.ins, hsame, hbefore]
    · simp [Tab.ins, hsame, hbefore, ih]

/-- Of two writes of listed values to one item the last one stands. -/
theorem Tab.set_set {α : Type} [DecidableEq α] {d v w : α} (t : Tab α) (k : Nat) (hv : v ≠ d) (hw : w ≠ d) :
    Tab.set (Tab.set t d k v) d k w = Tab.set t d k w := by
  simp only [Tab.set, if_neg hv, if_neg hw, Tab.ins_ins]

theorem Slot.ne_empty {x : Slot} (h : x.st ≠ 0) : x ≠ Slot.empty := fun hx => h (congrArg Slot.st hx)

theorem setSlot_setSlot (s : State) (n : Nat) {x y : Slot} (hx : x.st ≠ 0) (hy : y.st ≠ 0) :
    setSlot (setSlot s n x) n y = setSlot s n y := by
  simp only [setSlot, Tab.set_set _ n (Slot.ne_empty hx) (Slot.ne_empty hy)]

theorem takeSlot_takeSlot (s : State) (tag was now : Nat) : takeSlot (takeSlot s tag was) tag now = takeSlot s tag now :=
  setSlot_setSlot s _ Nat.one_ne_zero Nat.one_ne_zero

theorem answerSlot_takeSlot (s : State) (tag was tgt : Nat) (a : Answer) :
    answerSlot (takeSlot s tag was) tag tgt a = answerSlot s tag tgt a :=
  congrArg (tgtEvent · tgt 0) (setSlot_setSlot s _ Nat.one_ne_zero (Nat.succ_ne_zero 1))

/-! ### From the ring entry to the command (06 R135, R139, R146) -/

theorem opOf_code (op : Op) : opOf (op.code % 65536) = some op := by cases op <;> rfl

theorem takesEntries_iff (s : State) :
    takesEntries s = true ↔ ¬(s.md.mode = .reset ∨ (s.md.ready || s.md.recovery) = false) := by
  simp only [takesEntries, Bool.and_eq_true, bne_iff_ne, not_or, Bool.not_eq_false, ne_eq]

/-- A packet that passes the tests of R139 becomes a command with its slot PENDING. -/
theorem runOp_of_accepted {s : State} {op : Op} {e : Entry} (htakes : takesEntries s = true)
    (hslot : (slotAt s ((cutEntry e).tag % 256)).st = 0)
    (hpass : acceptSteps (takeSlot s (cutEntry e).tag 0) op (cutEntry e) = none) :
    runOp s op e = startCmd (takeSlot s (cutEntry e).tag 0) op (cutEntry e) := by
  simp only [runOp, runEntry, if_neg ((takesEntries_iff s).1 htakes), hslot, ne_eq, not_true_eq_false, if_false, opOf_code, hpass]

/-- A command that holds no segment and completes as soon as it has joined the others leaves them as they were. -/
theorem complete_addCmd {s : State} {c : Cmd} (a : Answer) (hsegs : c.segs = []) (hfresh : c ∉ s.cm.cmds) :
    complete (addCmd s c) c a = answerSlot s c.tag c.target a := by
  have herase : (s.cm.cmds ++ [c]).erase c = s.cm.cmds := by
    rw [List.erase_append_right _ hfresh, List.erase_cons_head, List.append_nil]
  simp only [complete, addCmd, hsegs, List.foldl_nil, herase]

/-! ### The staged image at acceptance (04 R92, R102, 06 R147, R151) -/

/-- The answer to a staged image that the first checks refuse. -/
def refusedImage (r : CheckRes) : Answer :=
  { status := 0x12, detail := r.reason, data := checkData { r with stage := 0 } 0 0 }

theorem closeFault_of_passed {s : State} (h : (syntaxCheck s.cfg.bytes).reason = 0) : closeFault s = none := if_pos h

theorem closeFault_of_failed {s : State} (h : (syntaxCheck s.cfg.bytes).reason ≠ 0) :
    closeFault s = some (refusedImage (syntaxCheck s.cfg.bytes)) := if_neg h

theorem setStaging_addCmd (s : State) (c : Cmd) (st : Nat) (b : List Byte) :
    setStaging (addCmd s c) st b = addCmd (setStaging s st b) c := rfl

section
variable {s : State} (e : Entry)

theorem startCmd_cfgClose_of_passed (h : (syntaxCheck s.cfg.bytes).reason = 0) :
    startCmd s .cfgClose e = addCmd s (acceptedCmd s .cfgClose e (startPhase .cfgClose)) := by
  have hnone : closeFault (addCmd s (acceptedCmd s .cfgClose e (startPhase .cfgClose))) = none := closeFault_of_passed h
  simp [startCmd, Op.kind, hnone]

theorem startCmd_progStage_of_passed (h : (syntaxCheck s.cfg.bytes).reason = 0) :
    startCmd s .progStage e = progStart (takeSlot (addCmd s (acceptedCmd s .progStage e (startPhase .progStage))) e.tag 1) := by
  have hnone : closeFault (addCmd s (acceptedCmd s .progStage e (startPhase .progStage))) = none := closeFault_of_passed h
  simp [startCmd, Op.kind, hnone]

/-- A refused image discards the staging area, and its command completes with the refusal. -/
theorem startCmd_of_failed {op : Op} (hop : op = .cfgClose ∨ op = .progStage) (h : (syntaxCheck s.cfg.bytes).reason ≠ 0) :
    startCmd s op e = complete (addCmd (setStaging s 0 []) (acceptedCmd s op e (startPhase op))) (acceptedCmd s op e (startPhase op))
      (refusedImage (syntaxCheck s.cfg.bytes)) := by
  have hsome : closeFault (addCmd s (acceptedCmd s op e (startPhase op))) = some (refusedImage (syntaxCheck s.cfg.bytes)) :=
    closeFault_of_failed h
  obtain rfl | rfl := hop <;> simp [startCmd, Op.kind, hsome, setStaging_addCmd]

/-- CFG_CLOSE and PROG_STAGE name no segment of their own (06 R147, R151). -/
theorem acceptedCmd_segs {op : Op} (ph : Phase) (hop : op = .cfgClose ∨ op = .progStage) (hseg : usesSeg e = false) :
    (acceptedCmd s op e ph).segs = [] := by
  obtain rfl | rfl := hop <;> simp [acceptedCmd, segsOf, hseg, Op.named]

end

/-- The command of a fresh tag, refused for its image: its slot is READY and the staging area IDLE. -/
theorem runOp_of_refusedImage {s : State} {op : Op} {e : Entry} (hop : op = .cfgClose ∨ op = .progStage)
    (htakes : takesEntries s = true) (hslot : (slotAt s ((cutEntry e).tag % 256)).st = 0)
    (hpass : acceptSteps (takeSlot s (cutEntry e).tag 0) op (cutEntry e) = none)
    (hfail : (syntaxCheck s.cfg.bytes).reason ≠ 0) (hseg : usesSeg (cutEntry e) = false)
    (hfresh : ∀ d ∈ s.cm.cmds, d.tag ≠ (cutEntry e).tag) :
    runOp s op e = setStaging (answerSlot s (cutEntry e).tag (cutEntry e).target (refusedImage (syntaxCheck s.cfg.bytes))) 0 [] := by
  rw [runOp_of_accepted htakes hslot hpass, startCmd_of_failed (s := takeSlot s (cutEntry e).tag 0) _ hop hfail,
    complete_addCmd (s := setStaging (takeSlot s (cutEntry e).tag 0) 0 []) _ (acceptedCmd_segs _ _ hop hseg) fun hmem => hfresh _ hmem rfl]
  exact answerSlot_takeSlot (setStaging s 0 []) ..

theorem exec_cfgClose (e : Entry) (s : State) : exec (.cfgClose e) s = .next (settle s (runOp s .cfgClose e)) := rfl

theorem exec_progStage (e : Entry) (s : State) : exec (.progStage e) s = .next (settle s (runOp s .progStage e)) := rfl

/-- Settles O16: each of the two commands by what the checks say about the staged bytes. -/
theorem stagedImagesAreCheckedForSyntax : Obligations.StagedImagesAreCheckedForSyntax := by
  intro e s htakes hslot c r slot cmd
  refine ⟨fun hpass hok => ?_, fun hpass hok => ?_, fun x hx hpass hfail hseg hfresh => ?_⟩
  · rw [exec_cfgClose, runOp_of_accepted htakes hslot hpass, startCmd_cfgClose_of_passed (s := takeSlot s c.tag 0) _ hok]
    rfl
  · have hslot1 (d : Cmd) : takeSlot (addCmd (takeSlot s c.tag 0) d) c.tag 1 = addCmd (takeSlot s c.tag 1) d :=
      takeSlot_takeSlot (addCmd s d) ..
    rw [exec_progStage, runOp_of_accepted htakes hslot hpass, startCmd_progStage_of_passed (s := takeSlot s c.tag 0) _ hok, hslot1]
    rfl
  · obtain ⟨hexec, hop⟩ : exec (x.1 e) s = .next (settle s (runOp s x.2 e)) ∧ (x.2 = .cfgClose ∨ x.2 = .progStage) := by
      simp only [List.mem_cons, List.not_mem_nil, or_false] at hx
      obtain rfl | rfl := hx
      · exact ⟨exec_cfgClose e s, .inl rfl⟩
      · exact ⟨exec_progStage e s, .inr rfl⟩
    rw [hexec, runOp_of_refusedImage hop htakes hslot hpass hfail hseg hfresh]
    rfl

/-! ### The end of a check (04 R94, R98, R100) -/

theorem exec_checkComplete (c : CheckIn) (s : State) : exec (.checkComplete c) s = .next (settle s (doCheckComplete s c)) := rfl

section
variable {s : State} {c : CheckIn} {r : CheckRes}

theorem stageNine_of_loaded (h : r.reason = 0 ∨ r.stage = 10) : stageNine s c r = loadSafety (imgRecs s.cfg.img) true s := if_pos h

theorem stageNine_of_differs (h : r.reason = 0x080B) (hstage : r.stage ≠ 10) : stageNine s c r =
    if c.scDiff then { s with sf := { s.sf with agreed := false } } else loadSafety (imgRecs s.cfg.img) false s := by
  simp [stageNine, h, hstage]

theorem stageNine_of_refused (h : r.reason ≠ 0) (hdiff : r.reason ≠ 0x080B) (hstage : r.stage ≠ 10) : stageNine s c r = s := by
  simp [stageNine, h, hdiff, hstage]

end

/-- Stage 9 loads into the safety functions alone. -/
theorem stageNine_eq (s : State) (c : CheckIn) (r : CheckRes) : stageNine s c r = { s with sf := (stageNine s c r).sf } := by
  unfold stageNine
  (repeat' split) <;> rfl

/-- The safety functions after the end of a check with result `r`. -/
def checkedSafety (s : State) (c : CheckIn) (r : CheckRes) : SafetySt :=
  if s.cfg.cur = .progStage then s.sf else (stageNine s c r).sf

theorem checkedSafety_of_progStage {s : State} {c : CheckIn} {r : CheckRes} (h : s.cfg.cur = .progStage) : checkedSafety s c r = s.sf :=
  if_pos h

theorem checkedSafety_of_other {s : State} {c : CheckIn} {r : CheckRes} (h : s.cfg.cur ≠ .progStage) :
    checkedSafety s c r = (stageNine s c r).sf := if_neg h

theorem doCheckComplete_of_idle {s : State} (c : CheckIn) (h : s.cfg.running = false ∨ s.cfg.done.isSome = true) :
    doCheckComplete s c = s := if_pos (by simpa using h)

/-- The result is noted; a passed ENABLE begins to write the store. -/
theorem doCheckComplete_of_running {s : State} (c : CheckIn) (hrun : s.cfg.running = true) (hdone : s.cfg.done = none) {r : CheckRes}
    (hr : r = runCheck (decide (s.cfg.cur = .progStage)) s c s.cfg.img) : doCheckComplete s c =
      let noted := { s with sf := checkedSafety s c r, cfg := { s.cfg with done := some r } }
      if r.reason = 0 ∧ s.cfg.cur = .enable then beginStore noted s.cfg.img else noted := by
  have hloaded : (if decide (s.cfg.cur = .progStage) then s else stageNine s c r) = { s with sf := checkedSafety s c r } := by
    by_cases hprog : s.cfg.cur = .progStage
    · rw [checkedSafety_of_progStage hprog, if_pos (decide_eq_true hprog)]
    · rw [checkedSafety_of_other hprog, if_neg (by simpa using hprog), ← stageNine_eq]
  simp only [doCheckComplete, hrun, hdone, ← hr, hloaded]
  rfl

/-! ### The store across a tick of CHECKING (04 R100) -/

/-- The configuration store of a state: its ENABLED marker and its image. -/
def State.stored (s : State) : Bool × List Byte := (s.mram.enabled, s.mram.image)

theorem stored_eq_iff {s : State} {enabled : Bool} {image : List Byte} :
    s.stored = (enabled, image) ↔ s.mram.enabled = enabled ∧ s.mram.image = image := by
  simp only [State.stored, Prod.mk.injEq]

theorem anchor_stored {a b : State} (h : b.anchor = a.anchor) : b.stored = a.stored :=
  Prod.ext (congrArg Anchor.enabled h) (congrArg Anchor.image h)

theorem recordMode_stored (s : State) (new : Mode) (cause : Nat) : (recordMode s new cause).stored = s.stored := by
  unfold recordMode
  dsimp only
  split <;> rfl

theorem setMode_stored (s : State) (new : Mode) (cause : Nat) (keep : Option Op) : (setMode s new cause keep).stored = s.stored :=
  (anchor_stored (setMode_anchor ..)).trans (recordMode_stored ..)

theorem startConfig_stored (s0 : State) : (startConfig s0).stored = s0.stored := by
  unfold startConfig
  extract_lets old was cold kind restore ff cf mf s s1 s2 s3 s4 s5 df s6
  have h1 : s1.stored = s0.stored := (anchor_stored (applyHecRecords_anchor (frameSettings s))).trans rfl
  have h2 : s2.anchor = s1.anchor := (storeModes_anchor _).trans (startDio_anchor ..)
  have h3 : s3.anchor = s2.anchor := anchor_foldl _ (fun s c => startPf_anchor _ _ s c) _ _
  have h4 : s4.anchor = s3.anchor := by
    refine (startProgram_anchor ..).trans ((startEngine_anchor ..).trans ?_)
    split
    · exact dropJournals_anchor s3
    · rfl
  have h5 : s5.anchor = s4.anchor := (startSafety_anchor _).trans ((startBus_anchor _).trans (startPoints_anchor ..))
  have h6 : s6.anchor = s5.anchor := by
    unfold s6
    split
    · exact anchor_upd ..
    · rfl
  exact (anchor_stored ((startGroup_anchor ..).trans (h6.trans (h5.trans (h4.trans (h3.trans h2)))))).trans h1

theorem checkPassed_stored (s : State) (r : CheckRes) : (checkPassed s r).stored = s.stored := by
  unfold checkPassed
  extract_lets o img s1 s2 s3
  have h1 : s1.stored = s.stored := (startConfig_stored _).trans (anchor_stored (noteCheck_anchor s r))
  have h2 : s2.stored = s1.stored := by
    unfold s2
    split <;> rfl
  have h3 : s3.stored = s.stored := (setMode_stored ..).trans (h2.trans h1)
  split
  · exact (anchor_stored (endCmd_anchor ..)).trans h3
  split
  · exact (anchor_stored (endCmd_anchor ..)).trans h3
  · exact h3

theorem checkRefused_stored (s : State) (r : CheckRes) : (checkRefused s r).stored = s.stored := by
  unfold checkRefused
  extract_lets o img s1
  have hset (a : State) (ha : a.stored = s1.stored) (new : Mode) (cause : Nat) (keep : Option Op) :
      (setMode a new cause keep).stored = s.stored :=
    (setMode_stored ..).trans (ha.trans (anchor_stored (noteCheck_anchor s r)))
  clear_value o
  cases o with
  | enable | restart => exact (anchor_stored (endCmd_anchor ..)).trans (hset s1 rfl ..)
  | autostart => exact hset (setStaging s1 2 img) rfl ..
  | none | safeHoldLeave | progStage => exact hset s1 rfl ..

theorem abandonCheck_stored (s : State) (new : Mode) (cause : Nat) : (abandonCheck s new cause).stored = s.stored := by
  unfold abandonCheck
  split
  · extract_lets o cf s1 s2
    have h1 : s1.stored = s.stored := by
      unfold s1
      (repeat' split)
      · rfl
      · exact anchor_stored ((takeEnabled_anchor _).trans (noteCheck_anchor ..))
      · exact anchor_stored (noteCheck_anchor ..)
    have h2 : s2.stored = s.stored := by
      refine (setMode_stored ..).trans (Eq.trans ?_ h1)
      split <;> rfl
    split
    · exact (anchor_stored (endCmd_anchor ..)).trans h2
    · exact h2
  · exact setMode_stored ..

section
variable {s : State} (hm : s.md.mode = .checking) (hedm : ¬(s.md.pendEdm = true ∧ edmMode s.md.mode = true))
  (hfault : (if faultMode s.md.mode then faultCause s else none) = none)
  (hhold : dueMode (clearPend s) (fun o => decide (o = .safeHoldEnter)) = none)
include hm hedm hfault hhold

/-- Where no fault and no SAFE_HOLD_ENTER comes first, a check that has ended takes effect (03 R62). -/
theorem selectMode_of_checked {r : CheckRes} (hdone : s.cfg.done = some r) :
    selectMode s = if r.reason = 0 then checkPassed (clearPend s) r else checkRefused (clearPend s) r := by
  rw [hm] at hedm hfault
  simp [selectMode, hm, hedm, hfault, hhold, Mode.driven, hdone]

theorem selectMode_of_unchecked (hdone : s.cfg.done = none) : selectMode s = clearPend s := by
  rw [hm] at hedm hfault
  simp [selectMode, hm, hedm, hfault, hhold, Mode.driven, hdone]

end

/-- Whatever a tick selects in CHECKING leaves the store. -/
theorem selectMode_stored_of_checking {s : State} (hm : s.md.mode = .checking) : (selectMode s).stored = s.stored := by
  have hreset : s.md.mode ≠ .reset := by rw [hm]; decide
  have hboot : s.md.mode ≠ .boot := by rw [hm]; decide
  have hclear (a : State) : (clearPend a).stored = a.stored := rfl
  by_cases hedm : s.md.pendEdm = true ∧ edmMode s.md.mode = true
  · rw [selectMode_of_edm hreset hboot hedm, hclear]
    exact abandonCheck_stored { s with mram := { s.mram with lockout := true } } ..
  cases hfault : if faultMode s.md.mode then faultCause s else none with
  | some f =>
    rw [selectMode_of_fault hreset hboot hedm hfault, hclear]
    exact abandonCheck_stored ..
  | none =>
    cases hhold : dueMode (clearPend s) (fun o => decide (o = .safeHoldEnter)) with
    | some d =>
      have hop : d.op = .safeHoldEnter := of_decide_eq_true (dueMode_some hhold).1
      rw [selectMode_of_hold hreset hboot hedm hfault hhold, modeCommand_safeHoldEnter hop]
      exact (anchor_stored (complete_anchor ..)).trans (setMode_stored ..)
    | none =>
      cases hdone : s.cfg.done with
      | some r =>
        rw [selectMode_of_checked hm hedm hfault hhold hdone]
        split
        · exact checkPassed_stored ..
        · exact checkRefused_stored ..
      | none => rw [selectMode_of_unchecked hm hedm hfault hhold hdone, hclear]

theorem finishStore_stored {s : State} (h : s.cfg.storing = true) : (finishStore s).stored = (true, s.mram.image) :=
  congrArg State.stored (if_pos h)

/-- A tick of CHECKING in which the store is being written ends the writing, and nothing after it touches the store. -/
theorem tickMode_stored {s : State} (hm : s.md.mode = .checking) (hstoring : s.cfg.storing = true) :
    (tickMode s).stored = (true, s.mram.image) := by
  unfold tickMode
  extract_lets s1 s2
  have h1 : s1.anchor = (finishStore s).anchor := tickGroup_anchor _
  have h2 : s2.anchor = (finishStore s).anchor := by
    unfold s2
    split
    · exact (clearOutForces_anchor s1).trans h1
    · exact h1
  have hm2 : s2.md.mode = .checking := (anchor_mode h2).trans ((finishStore_mode s).trans hm)
  have hrest (a : State) : (finishAcks false (tickReclaim (refuseDue (frameMarks (tickProgCheck a))))).anchor = a.anchor :=
    (finishAcks_anchor ..).trans ((tickReclaim_anchor _).trans ((refuseDue_anchor _).trans ((frameMarks_anchor _).trans (tickProgCheck_anchor _))))
  calc _ = (selectMode s2).stored := anchor_stored (hrest _)
    _ = s2.stored := selectMode_stored_of_checking hm2
    _ = (finishStore s).stored := anchor_stored h2
    _ = (true, s.mram.image) := finishStore_stored hstoring

/-- Settles O29: the end of a check by what stage 9 loads and by whether an ENABLE has passed; the tick by the store it leaves. -/
theorem onlyAPassedEnableWritesTheStore : Obligations.OnlyAPassedEnableWritesTheStore := by
  intro c s
  refine ⟨?_, fun hidle => ?_, fun hm hstoring => ?_⟩
  · intro hrun hdone r loaded
    have hdo := doCheckComplete_of_running c hrun hdone (r := r) rfl
    refine ⟨checkedSafety s c r, fun h => ?_, fun hprog h => ?_, fun hprog h hstage => ?_, fun hok hen => ?_, fun h => ?_⟩
    · by_cases hprog : s.cfg.cur = .progStage
      · exact checkedSafety_of_progStage hprog
      · obtain ⟨hbad, hdiff, hstage⟩ := h.resolve_left hprog
        rw [checkedSafety_of_other hprog, stageNine_of_refused hbad hdiff hstage]
    · rw [checkedSafety_of_other hprog, stageNine_of_loaded h]
      rfl
    · rw [checkedSafety_of_other hprog, stageNine_of_differs h hstage, apply_ite State.sf]
      rfl
    · rw [exec_checkComplete, hdo]
      exact congrArg (fun u => Host.Outcome.next (settle s u)) (if_pos ⟨hok, hen⟩)
    · rw [exec_checkComplete, hdo]
      exact congrArg (fun u => Host.Outcome.next (settle s u)) (if_neg fun ⟨hok, hen⟩ => h.elim (· hok) (· hen))
  · rw [exec_checkComplete, doCheckComplete_of_idle c hidle]
  · exact stored_eq_iff.1 (tickMode_stored hm hstoring)

end Sys2Proof.Machine
end

section
/-! Proofs about the host port (05): access, doorbells and the ring, the window and its directory, the registers from both
ports, the endpoint and its MSI-X vectors. -/

namespace Sys2Proof.Machine

open Sys2Proof

/-! ### A step (05 R109) -/

theorem step_of_front {s : State} {c : Instr} {r : List Instr} (h : s.pending = c :: r) : step s = exec c { s with pending := r } := by
  simp only [step, h]

theorem step_of_idle {s : State} (h : s.pending = []) : step s = .next s := by
  simp only [step, h]

/-- Settles O1: the two cases of the queue. -/
theorem aStepCarriesOutTheFrontCommand : Obligations.AStepCarriesOutTheFrontCommand :=
  ⟨fun _ _ _ => step_of_front rfl, fun _ => step_of_idle⟩

/-! ### What the port lets through (05 R109) -/

theorem hostUp_eq_false {s : State} (h : s.md.mode = .reset ∨ s.md.straps.hostsel = false ∧ s.hp.d3 = true) : hostUp s = false := by
  rcases h with hreset | ⟨hsel, hd3⟩
  · simp [hostUp, hreset]
  · simp [hostUp, hsel, hd3]

/-- An access that the port takes has its effect. -/
theorem done_hostAccess_of_up {s : State} {f : State → State} (h : hostUp s = true) :
    done s (hostAccess s f) = .next (settle s (f s)) := by
  rw [hostAccess, if_pos h, done_next]

/-- An unsupported request has none. -/
theorem done_hostAccess_of_down {s : State} {f : State → State} (h : hostUp s = false) :
    done s (hostAccess s f) = .next (settle s s) := by
  rw [hostAccess, if_neg (by simp [h]), done_next]

/-- Settles O17: every row of the list is a host access, and the port takes none. -/
theorem unsupportedRequestsChangeNothing : Obligations.UnsupportedRequestsChangeNothing := by
  intro s t w8 w2 seg dt a n v bs ws cut hdown c hc
  have haccess : ∃ f, exec c s = done s (hostAccess s f) := by
    repeat
      obtain rfl | hc := List.mem_cons.1 hc
      · exact ⟨_, rfl⟩
    exact absurd hc List.not_mem_nil
  obtain ⟨f, hf⟩ := haccess
  rw [hf, done_hostAccess_of_down (hostUp_eq_false hdown)]

/-! ### The segment directory (05 R124, R128) -/

theorem doDirWrite_of_kept {s : State} {n : Nat} {v : Word} (hn : 2 ≤ n) (hhost : (dirOf s n).dev = false) (howner : v.getLsbD 31 = false) :
    doDirWrite s n v = setDir s n { dirOf s n with kind := bits v.toNat 24 7 } := by
  simp only [doDirWrite, testBit_getLsbD, Nat.not_lt.2 hn, hhost, howner, Bool.false_eq_true, or_false, if_false]

theorem doDirWrite_of_handed {s : State} {n : Nat} {v : Word} (hn : 2 ≤ n) (hhost : (dirOf s n).dev = false) (howner : v.getLsbD 31 = true) :
    doDirWrite s n v = setDir s n { dev := true, kind := bits v.toNat 24 7, gen := ((dirOf s n).gen + 1) % 65536 } := by
  simp only [doDirWrite, testBit_getLsbD, Nat.not_lt.2 hn, hhost, howner, Bool.false_eq_true, or_false, if_false, if_true]

theorem doDirWrite_of_refused {s : State} {n : Nat} (v : Word) (h : n < 2 ∨ (dirOf s n).dev = true) :
    doDirWrite s n v = violation s n 0 true := if_pos h

theorem doReclaim_of_set {s : State} {v : Word} (h : v.getLsbD 0 = true) :
    doReclaim s v = { s with hp := { s.hp with reclaim := some (bits v.toNat 1 3) } } := if_pos h

theorem doReclaim_of_clear {s : State} {v : Word} (h : v.getLsbD 0 = false) : doReclaim s v = s := if_neg (ne_true_of_eq_false h)

/-- Settles O20: the cases of the owner, of the word written, and of bit 0 of WIN_RECLAIM. -/
theorem directoryWritesFollowTheOwner : Obligations.DirectoryWritesFollowTheOwner := by
  intro seg v s hup
  have hdir : exec (.winDirectoryWrite seg v) s = .next (settle s (doDirWrite s seg v)) := done_hostAccess_of_up hup
  have hreclaim : exec (.winReclaim v) s = .next (settle s (doReclaim s v)) := done_hostAccess_of_up hup
  refine ⟨fun hn hhost howner => ?_, fun hn hhost howner => ?_, fun h => ?_, fun h => ?_, fun h => ?_⟩
  · rw [hdir, doDirWrite_of_kept hn hhost howner, setDir]
  · rw [hdir, doDirWrite_of_handed hn hhost howner, setDir]
  · rw [hdir, doDirWrite_of_refused v h, violation, Nat.zero_add]
    rfl
  · rw [hreclaim, doReclaim_of_set h]
  · rw [hreclaim, doReclaim_of_clear h]

/-! ### Doorbells (05 R119) -/

section
variable {s : State} {t : Nat} {v : Word}

theorem doDoorbell_of_reserved (h : 1024 ≤ v.toNat) : doDoorbell s t v = cmdError s 0 (v.toNat % 1024) 3 t :=
  if_pos (by omega)

theorem doDoorbell_of_range (hv : v.toNat < 1024)
    (h : ¬(1 ≤ (v.toNat % 1024 + 1024 - s.hp.tail.val) % 1024 ∧
      (v.toNat % 1024 + 1024 - s.hp.tail.val) % 1024 ≤ 1023 - (s.hp.tail.val + 1024 - s.hp.head.val) % 1024)) :
    doDoorbell s t v = cmdError s 0 (v.toNat % 1024) 2 t :=
  (if_neg (by omega)).trans (if_neg h)

theorem doDoorbell_of_accepted (hv : v.toNat < 1024)
    (h : 1 ≤ (v.toNat % 1024 + 1024 - s.hp.tail.val) % 1024 ∧
      (v.toNat % 1024 + 1024 - s.hp.tail.val) % 1024 ≤ 1023 - (s.hp.tail.val + 1024 - s.hp.head.val) % 1024) :
    doDoorbell s t v = { s with hp := { s.hp with
      tail := Fin.ofNat 1024 v.toNat, bells := s.hp.bells ++ [(t, v.toNat % 1024)]
      reqTgt := Tab.updMany s.hp.reqTgt 0
        ((List.range ((v.toNat % 1024 + 1024 - s.hp.tail.val) % 1024)).map (fun i => (s.hp.tail.val + i) % 1024)) (fun _ _ => t) } } :=
  (if_neg (by omega)).trans (if_pos h)

end

/-- The entries that a doorbell adds from `tail` on lie within the advance of it. -/
theorem mem_ringEntries {tail adv i : Nat} (htail : tail < 1024) (hadv : adv ≤ 1024) (hi : i < 1024) :
    i ∈ (List.range adv).map (fun j => (tail + j) % 1024) ↔ (i + 1024 - tail) % 1024 < adv := by
  simp only [List.mem_map, List.mem_range]
  constructor
  · rintro ⟨j, hj, rfl⟩
    omega
  · intro h
    exact ⟨(i + 1024 - tail) % 1024, h, by omega⟩

theorem ringEntries_nodup {tail adv : Nat} (hadv : adv ≤ 1024) : ((List.range adv).map (fun j => (tail + j) % 1024)).Nodup := by
  refine List.pairwise_map.2 (List.Pairwise.imp_of_mem (fun {i j} hi hj hij heq => ?_) List.nodup_range)
  rw [List.mem_range] at hi hj
  omega

/-! ### The ring moves on (05 R119) -/

/-- A series of target events touches HIF_TGT_STATUS alone. -/
theorem foldl_tgtEvent_frame (l : List (Nat × Nat)) (k : Nat) (s : State) : l.foldl (fun s x => tgtEvent s x.1 k) s = { s with
    hp := { s.hp with tgt := (l.foldl (fun s x => tgtEvent s x.1 k) s).hp.tgt } } := by
  induction l generalizing s with
  | nil => rfl
  | cons x l ih =>
    rw [List.foldl_cons, ih]
    rfl

theorem getLsbD_tgtStatus_tgtEvent (s : State) (t i : Nat) {k : Nat} (hk : k < 3) : (tgtStatus (tgtEvent s t k) i).getLsbD k =
    ((tgtStatus s i).getLsbD k || decide (i = t)) := by
  simp only [tgtStatus, tgtEvent, Tab.get_upd]
  by_cases h : i = t <;> simp [h, hk]

/-- An event bit that stands stays, and the events of the series set it for their targets. -/
theorem getLsbD_tgtStatus_foldl_tgtEvent (l : List (Nat × Nat)) (s : State) (i : Nat) {k : Nat} (hk : k < 3) :
    (tgtStatus (l.foldl (fun s x => tgtEvent s x.1 k) s) i).getLsbD k = ((tgtStatus s i).getLsbD k || l.any (fun x => decide (i = x.1))) := by
  induction l generalizing s with
  | nil => simp
  | cons x l ih => rw [List.foldl_cons, ih, getLsbD_tgtStatus_tgtEvent s x.1 i hk, List.any_cons, Bool.or_assoc]

/-- HEAD moves on, and the doorbells whose tail it reaches leave the list with their event. -/
theorem ringAdvance_frame (s : State) : ringAdvance s = { s with hp := { s.hp with
    head := s.hp.head + 1, bells := s.hp.bells.filter (fun x => decide (x.2 ≠ (s.hp.head + 1).val)), tgt := (ringAdvance s).hp.tgt } } :=
  foldl_tgtEvent_frame _ _ _

theorem ringAdvance_acknowledges {s : State} {x : Nat × Nat} (hx : x ∈ s.hp.bells) (hhit : x.2 = (s.hp.head + 1).val) :
    (tgtStatus (ringAdvance s) x.1).getLsbD 1 = true := by
  have hany : (s.hp.bells.filter (fun y => decide (y.2 = (s.hp.head + 1).val))).any (fun y => decide (x.1 = y.1)) = true :=
    List.any_eq_true.2 ⟨x, List.mem_filter.2 ⟨hx, decide_eq_true hhit⟩, decide_eq_true rfl⟩
  rw [ringAdvance, getLsbD_tgtStatus_foldl_tgtEvent _ _ _ (by decide), hany, Bool.or_true]

theorem doRingRead_of_entry {s : State} (htakes : takesEntries s = true) (h : s.hp.head ≠ s.hp.tail) :
    doRingRead s = runEntry (ringAdvance s) (ringEntry s).1 (ringEntry s).2 := by
  have htakes := (takesEntries_iff s).1 htakes
  exact if_neg (by rw [← or_assoc, not_or]; exact ⟨htakes, h⟩)

/-- The row of a host command decides an entry as the ring does. -/
theorem exec_hostCommand {x : (Entry → Instr) × Op} (hx : x ∈ hostCommands) (e : Entry) (s : State) :
    exec (x.1 e) s = .next (settle s (runEntry s x.2.code e)) := by
  unfold hostCommands at hx
  repeat
    obtain rfl | hx := List.mem_cons.1 hx
    · rfl
  exact absurd hx List.not_mem_nil

theorem exec_badOpcode (opc : Nat) (e : Entry) (s : State) : exec (.badOpcode opc e) s = .next (settle s (runEntry s opc e)) := rfl

theorem exec_ringEntryRead (s : State) : exec .ringEntryRead s = .next (settle s (doRingRead s)) := rfl

/-- Settles O18: a doorbell by its value and its advance; a ring read is the move of HEAD and then the decision of the entry. -/
theorem doorbellsAndTheRing : Obligations.DoorbellsAndTheRing := by
  constructor
  · intro t v s hup n adv fails
    have hexec : exec (.hifDoorbell t v) s = .next (settle s (doDoorbell s t v)) := done_hostAccess_of_up hup
    have hfails (cause : Nat) : cmdError s 0 n cause t = fails cause := by rw [cmdError, Nat.zero_add]
    refine ⟨fun hv hlo hhi => ?_, fun hv hrange => ?_, fun hv => ?_⟩
    · have hadv : adv ≤ 1024 := Nat.le_of_lt (Nat.mod_lt _ (by decide))
      refine ⟨_, hexec, ?_, fun i hi => ?_⟩
      · rw [doDoorbell_of_accepted hv ⟨hlo, hhi⟩]
      · rw [doDoorbell_of_accepted hv ⟨hlo, hhi⟩]
        exact (Tab.get_updMany 0 s.hp.reqTgt _ (fun _ _ => t.val) (ringEntries_nodup hadv) i).trans
          (ite_congr (propext (mem_ringEntries s.hp.tail.isLt hadv hi)) (fun _ => rfl) (fun _ => rfl))
    · rw [hexec, doDoorbell_of_range hv (by omega), hfails]
    · rw [hexec, doDoorbell_of_reserved hv, hfails]
  · intro s htakes hentry b e h
    refine ⟨ringAdvance s, runEntry (ringAdvance s) (u16 b 0) e, ?_, ringAdvance_frame s, fun x hx hhit => ringAdvance_acknowledges hx hhit,
      fun x hx hcode => ?_, fun _ => exec_badOpcode _ _ _⟩
    · rw [exec_ringEntryRead, doRingRead_of_entry htakes hentry]
      rfl
    · rw [exec_hostCommand hx, hcode]

/-! ### Writes into the window (05 R123) -/

/-- The bytes that a request enables, each with its address. -/
def hostBytes (a : Nat) (data : List (Option Byte)) : List (Nat × Byte) :=
  data.zipIdx.filterMap (fun x => x.1.map (fun b => (a + x.2, b)))

theorem hostBytes_cons (a : Nat) (d : Option Byte) (r : List (Option Byte)) :
    hostBytes a (d :: r) = (d.map (a, ·)).toList ++ hostBytes (a + 1) r := by
  have hshift (x : Option Byte × Nat) : x.1.map (fun b => (a + (x.2 + 1), b)) = x.1.map (fun b => (a + 1 + x.2, b)) := by
    rw [Nat.add_comm x.2, Nat.add_assoc]
  have htail : (r.zipIdx 1).filterMap (fun x => x.1.map (fun b => (a + x.2, b))) = hostBytes (a + 1) r := by
    rw [hostBytes, List.zipIdx_succ, List.filterMap_map]
    exact congrArg (List.filterMap · r.zipIdx) (funext hshift)
  rw [hostBytes, List.zipIdx_cons, List.filterMap_cons, Nat.zero_add, htail]
  cases d <;> rfl

theorem length_hostBytes (a : Nat) (data : List (Option Byte)) : (hostBytes a data).length = (data.filter Option.isSome).length := by
  induction data generalizing a with
  | nil => rfl
  | cons d r ih => cases d <;> simp [hostBytes_cons, ih]

/-- The search finds the enabled byte `k` where the condition holds of it and of no enabled byte before it. -/
theorem find?_hostBytes_some {p : Nat → Bool} {data : List (Option Byte)} {a k : Nat} (hk : (data.getD k none).isSome = true)
    (hp : p (a + k) = true) (hbefore : ∀ j < k, (data.getD j none).isSome = true → p (a + j) = false) :
    ((hostBytes a data).find? (fun x => p x.1)).map Prod.fst = some (a + k) := by
  induction data generalizing a k with
  | nil => simp at hk
  | cons d r ih =>
    cases k with
    | zero =>
      obtain ⟨b, rfl⟩ := Option.isSome_iff_exists.1 hk
      rw [hostBytes_cons]
      exact congrArg (Option.map Prod.fst) (List.find?_cons_of_pos (l := hostBytes (a + 1) r) (a := (a, b)) hp)
    | succ k =>
      have hrest := ih (a := a + 1) (k := k) hk (by rwa [Nat.add_right_comm]) (fun j hj hsome => by
        rw [Nat.add_right_comm]
        exact hbefore (j + 1) (Nat.succ_lt_succ hj) hsome)
      rw [hostBytes_cons, ← Nat.add_assoc, ← Nat.add_right_comm]
      cases d with
      | none => exact hrest
      | some b =>
        have hhead : p a = false := hbefore 0 (Nat.succ_pos k) rfl
        simpa [hhead] using hrest

/-- It finds none where the condition holds of no enabled byte. -/
theorem find?_hostBytes_none {p : Nat → Bool} {data : List (Option Byte)} {a : Nat}
    (h : ∀ k, (data.getD k none).isSome = true → p (a + k) = false) : (hostBytes a data).find? (fun x => p x.1) = none := by
  induction data generalizing a with
  | nil => rfl
  | cons d r ih =>
    have hrest := ih (a := a + 1) (fun k hsome => by
      rw [Nat.add_right_comm]
      exact h (k + 1) hsome)
    rw [hostBytes_cons]
    cases d with
    | none => exact hrest
    | some b =>
      have hhead : p a = false := h 0 rfl
      simpa [hhead] using hrest

/-- One byte of a request is written where it is enabled and the condition does not hold of its address. -/
theorem get_foldl_hostByte (p : Nat → Bool) (d : Option Byte) (a k : Nat) (w : Tab Byte) :
    Tab.get ((d.map (a, ·)).toList.foldl (fun w x => if p x.1 then w else Tab.set w 0 x.1 x.2) w) 0 k =
      if k = a ∧ p a = false then d.getD (Tab.get w 0 k) else Tab.get w 0 k := by
  cases d with
  | none => exact (ite_self _).symm
  | some b =>
    change Tab.get (if p a = true then w else Tab.set w 0 a b) 0 k = _
    cases hp : p a with
    | true => rw [if_pos rfl, if_neg (fun h => absurd h.2 (by decide))]
    | false => rw [if_neg (by decide), Tab.get_set]; exact ite_congr (propext ⟨fun h => ⟨h, rfl⟩, And.left⟩) (fun _ => rfl) (fun _ => rfl)

/-- A request writes its bytes at addresses that the condition does not hold of, and no other. -/
theorem get_foldl_hostBytes (p : Nat → Bool) (data : List (Option Byte)) (a k : Nat) (w : Tab Byte) :
    Tab.get ((hostBytes a data).foldl (fun w x => if p x.1 then w else Tab.set w 0 x.1 x.2) w) 0 k =
      if a ≤ k ∧ p k = false then (data.getD (k - a) none).getD (Tab.get w 0 k) else Tab.get w 0 k := by
  induction data generalizing a w with
  | nil => exact (ite_self _).symm
  | cons d r ih =>
    rw [hostBytes_cons, List.foldl_append, ih, get_foldl_hostByte]
    rcases Nat.lt_trichotomy k a with hlt | rfl | hgt
    · rw [if_neg (by omega), if_neg (by omega), if_neg (by omega)]
    · rw [if_neg (by omega), Nat.sub_self]
      exact ite_congr (propext (and_congr_left' ⟨fun _ => Nat.le_refl k, fun _ => rfl⟩)) (fun _ => rfl) (fun _ => rfl)
    · have hhead : ¬(k = a ∧ p a = false) := by omega
      have hrest : k - a = k - (a + 1) + 1 := by omega
      rw [if_neg hhead, hrest, List.getD_cons_succ]
      exact ite_congr (propext (and_congr_left' ⟨fun _ => Nat.le_of_lt hgt, fun _ => hgt⟩)) (fun _ => rfl) (fun _ => rfl)

/-- The window after a request: every byte counts as traffic, those of host-owned segments are written. -/
def hostWritten (s : State) (a : Nat) (data : List (Option Byte)) : State :=
  { s with hp := { s.hp with
      share := s.hp.share + (hostBytes a data).length
      win := (hostBytes a data).foldl (fun w x => if devOwned s x.1 then w else Tab.set w 0 x.1 x.2) s.hp.win } }

/-- What a write into the ready window does, by its lowest dropped byte. -/
theorem doBar2_of_ready {s : State} (hready : s.md.ready = true) (a : Nat) (data : List (Option Byte)) :
    doBar2 s a data = (((hostBytes a data).find? (fun x => devOwned s x.1)).map Prod.fst).elim (hostWritten s a data)
      (fun k => violation (hostWritten s a data) (k / 65536) (k % 65536) false) := by
  simp only [doBar2, hready, Bool.not_true, Bool.false_eq_true, if_false]
  split
  · next hnone => rw [hostBytes, hnone]; rfl
  · next hsome => rw [hostBytes, hsome]; rfl

theorem win_doBar2 {s : State} (hready : s.md.ready = true) (a : Nat) (data : List (Option Byte)) :
    (doBar2 s a data).hp.win = (hostWritten s a data).hp.win := by
  rw [doBar2_of_ready hready]
  cases ((hostBytes a data).find? (fun x => devOwned s x.1)).map Prod.fst <;> rfl

theorem doBar2_frame {s : State} (hready : s.md.ready = true) (a : Nat) (data : List (Option Byte)) :
    doBar2 s a data = { s with hp := { s.hp with
      win := (doBar2 s a data).hp.win, share := s.hp.share + (data.filter Option.isSome).length, viol := (doBar2 s a data).hp.viol
      violLast := (doBar2 s a data).hp.violLast, event := (doBar2 s a data).hp.event } } := by
  rw [doBar2_of_ready hready, ← length_hostBytes a data]
  cases ((hostBytes a data).find? (fun x => devOwned s x.1)).map Prod.fst <;> rfl

/-- Settles O21: the bytes of the request by owner, and its lowest dropped byte. -/
theorem windowWritesReachHostOwnedSegments : Obligations.WindowWritesReachHostOwnedSegments := by
  intro a data s hup hready
  refine ⟨doBar2 s a data, done_hostAccess_of_up hup, doBar2_frame hready a data, doBar2_wf s a data, fun k => ?_,
    fun k hsome hdev hbefore => ?_, fun hhost => ?_⟩
  · rw [win_doBar2 hready]
    exact get_foldl_hostBytes (devOwned s) data a k s.hp.win
  · rw [doBar2_of_ready hready, find?_hostBytes_some hsome hdev hbefore]
    exact ⟨rfl, rfl, rfl⟩
  · rw [doBar2_of_ready hready, find?_hostBytes_none hhost]
    exact ⟨rfl, rfl, rfl⟩

/-! ### The registers of BAR0 (05 R108, R116, R117) -/

theorem advance_zero (s : State) : advance s 0 = s := by
  have ht10 : min (s.fr.t10 + 0) (max s.fr.t10 (s.fr.next - 1)) = s.fr.t10 := by omega
  rw [advance, ht10]

section
variable (s : State) (v : Word) {off : Nat}

theorem barWrite_doorbell {t : Nat} (ht : t < 8) (h : off = 0x0040 + 4 * t) : barWrite s off v = doDoorbell s t v := by
  have hindex : (off - 0x40) / 4 = t := by omega
  simp (disch := omega) only [barWrite, hifWrite, if_pos, if_neg, hindex]

theorem barWrite_directory {n : Nat} (hn : n < 1024) (h : off = 0x1000 + 4 * n) : barWrite s off v = doDirWrite s n v := by
  have hindex : (off - 0x1000) / 4 = n := by omega
  simp (disch := omega) only [barWrite, if_pos, if_neg, hindex]

theorem barWrite_hec (hlo : 0x2000 ≤ off) (hhi : off < 0x3800) : barWrite s off v = hecWrite s off v := by
  simp (disch := omega) only [barWrite, if_pos, if_neg]

theorem barWrite_seten {w : Nat} (hw : w < 8) (h : off = 0x2040 + 4 * w) : barWrite s off v = doSeten s w v := by
  have hindex : (off - 0x2040) / 4 = w := by omega
  rw [barWrite_hec s v (by omega) (by omega)]
  simp (disch := omega) only [hecWrite, if_pos, if_neg, hindex]

theorem barWrite_clren {w : Nat} (hw : w < 8) (h : off = 0x2060 + 4 * w) : barWrite s off v = doClren s w v := by
  have hindex : (off - 0x2060) / 4 = w := by omega
  rw [barWrite_hec s v (by omega) (by omega)]
  simp (disch := omega) only [hecWrite, if_pos, if_neg, hindex]

/-- Register `o` of the page of target t (07 R170). -/
theorem barWrite_page {t : Nat} (o : Nat) (ht : t < 8) (ho : o < 256) (h : off = 0x3000 + o + 256 * t) :
    barWrite s off v = hecPageWrite s t o v := by
  have hpage : (off - 0x3000) / 256 = t := by omega
  have hreg : off % 256 = o := by omega
  rw [barWrite_hec s v (by omega) (by omega)]
  simp (disch := omega) only [hecWrite, if_pos, hpage, hreg]

theorem barWrite_msix {k : Nat} (hsel : s.md.straps.hostsel = false) (hk : k < 32) (h : off = 0x8000 + 4 * k) :
    barWrite s off v = doMsixTable s k v := by
  have hindex : (off - 0x8000) / 4 = k := by omega
  simp (disch := omega) only [barWrite, if_pos, if_neg, hindex, hsel, Bool.false_eq_true, if_false]

theorem barWrite_latchedRelease {w : Nat} (hw : w < 2) (h : off = 0x4138 + 4 * w) : barWrite s off v = doLatchedRelease s w v := by
  have hindex : (off - 0x4138) / 4 = w := by omega
  simp (disch := omega) only [barWrite, dioWrite, if_pos, if_neg, hindex]

theorem barWrite_aiRestore {w : Nat} (hw : w < 2) (h : off = 0x4330 + 4 * w) : barWrite s off v = doAiRestore s w v := by
  have hindex : (off - 0x4330) / 4 = w := by omega
  simp (disch := omega) only [barWrite, anWrite, if_pos, if_neg, hindex]

theorem barWrite_aoRestore {w : Nat} (hw : w < 2) (h : off = 0x4338 + 4 * w) : barWrite s off v = doAoRestore s w v := by
  have hindex : (off - 0x4338) / 4 = w := by omega
  simp (disch := omega) only [barWrite, anWrite, if_pos, if_neg, hindex]

end

/-- Where the write of a register has the effect of a row, the whole-word write of it has the outcome of the row. -/
theorem exec_registerWrite_word_of_row {s : State} {f : State → State} (hup : hostUp s = true) (v : Word) (dt : Nat) {off : Nat}
    (ho : off % 4 = 0) (hf : barWrite (advance s dt) off v = f s) :
    exec (.registerWrite dt off (wordBytes v)) s = done s (hostAccess s f) := by
  rw [exec_registerWrite_word dt off v s hup ho, hf, done_hostAccess_of_up hup]

/-- Settles O23: the register that each row names, found by its offset. -/
theorem registerRowsAreWritesOfTheirRegister : Obligations.RegisterRowsAreWritesOfTheirRegister := by
  intro s v dt t w n hup reg
  have ht := t.isLt
  have hw := w.isLt
  have row (off : Nat) (f : State → State) (ho : off % 4 = 0) (hf : barWrite s off v = f s) : reg 0 off = done s (hostAccess s f) :=
    exec_registerWrite_word_of_row hup v 0 ho (by rw [advance_zero, hf])
  have timed (off : Nat) (f : State → State) (ho : off % 4 = 0) (hf : barWrite (advance s dt) off v = f s) :
      reg dt off = done s (hostAccess s f) := exec_registerWrite_word_of_row hup v dt ho hf
  refine ⟨row 0x0018 _ rfl rfl, row _ _ (by omega) (barWrite_doorbell s v ht rfl), row 0x0808 _ rfl rfl,
    row _ _ (by omega) (barWrite_directory s v n.isLt rfl), row 0x2004 _ rfl rfl, row _ _ (by omega) (barWrite_seten s v ht rfl),
    row _ _ (by omega) (barWrite_clren s v ht rfl), row _ _ (by omega) (barWrite_page s v 0x00 ht (by decide) rfl),
    timed _ _ (by omega) (barWrite_page _ v 0x08 ht (by decide) rfl), row _ _ (by omega) (barWrite_page s v 0x14 ht (by decide) rfl),
    row _ _ (by omega) (barWrite_page s v 0x28 ht (by decide) rfl), row _ _ (by omega) (barWrite_page s v 0x2C ht (by decide) rfl),
    row _ _ (by omega) (barWrite_page s v 0x34 ht (by decide) rfl), row _ _ (by omega) (barWrite_page s v 0x38 ht (by decide) rfl),
    timed 0x4000 _ rfl rfl, timed 0x4000 _ rfl rfl,
    row _ _ (by omega) (barWrite_latchedRelease s v hw rfl), row 0x4154 _ rfl rfl, row 0x4314 _ rfl rfl, row 0x4318 _ rfl rfl,
    row _ _ (by omega) (barWrite_aiRestore s v hw rfl), row _ _ (by omega) (barWrite_aoRestore s v hw rfl), row 0x4514 _ rfl rfl,
    row 0x4734 _ rfl rfl, row 0x48C0 _ rfl rfl, row 0x4930 _ rfl rfl, row 0x5134 _ rfl rfl, fun hsel hv => ?_⟩
  subst hv
  exact row _ _ (by omega) (barWrite_msix s 0 (k := 4 * t + 3) hsel (by omega) (by omega))

/-! ### The Quad-SPI port (05 R112, R113) -/

/-- A word cut short counts once. -/
theorem cutWord_eq (s : State) (cut : Bool) : cutWord s cut = { s with hp := { s.hp with
    accessErr := if cut = true then satInc32 s.hp.accessErr else s.hp.accessErr } } := by
  cases cut <;> rfl

section
variable {s : State} (hsel : s.md.straps.hostsel = true) {a : Nat}
include hsel

theorem doQspiRead_of_aligned (n : Nat) (cut : Bool) (h : a % 4 = 0) : doQspiRead s a n cut = cutWord { s with hp := { s.hp with
    qspi := ((List.range n).map (fun i => a + 4 * i)).map (qspiWord s)
    share := s.hp.share + 4 * (((List.range n).map (fun i => a + 4 * i)).filter qspiBar2).length } } cut := by
  simp [doQspiRead, hsel, h]

theorem doQspiRead_of_unaligned (n : Nat) (cut : Bool) (h : a % 4 ≠ 0) : doQspiRead s a n cut = accessErr s := by
  simp [doQspiRead, hsel, h]

theorem doQspiWrite_of_aligned (data : List Word) (cut : Bool) (h : a % 4 = 0) :
    doQspiWrite s a data cut = cutWord ((data.zipIdx).foldl (fun u x => qspiPut u (a + 4 * x.2) x.1) s) cut := by
  simp [doQspiWrite, hsel, h]

theorem doQspiWrite_of_unaligned (data : List Word) (cut : Bool) (h : a % 4 ≠ 0) : doQspiWrite s a data cut = accessErr s := by
  simp [doQspiWrite, hsel, h]

theorem doQspiReadId_of_quad : doQspiReadId s = { s with hp := { s.hp with qspi := [0x01002880#32] } } := if_pos hsel

theorem doQspiBad_of_quad : doQspiBad s = accessErr s := if_pos hsel

/-- One whole word written at an address of BAR0 is the write of its register. -/
theorem doQspiWrite_register (v : Word) (ha : a % 4 = 0) (hbar : a < 0x10000) : doQspiWrite s a [v] false = barWrite s a v := by
  rw [doQspiWrite_of_aligned hsel [v] false ha]
  exact if_pos hbar

end

/-- A word of a read by where its address lies. -/
theorem qspiWord_eq (s : State) (x : Nat) : qspiWord s x = if x < 0x10000 then barRead s x
    else if 0x04000000 ≤ x ∧ x < 0x08000000 then BitVec.ofNat 32 (leAt (winBytes s (x - 0x04000000) 4) 0 4) else 0 := by
  simp only [qspiWord, qspiBar2, decide_eq_true_eq]

/-- Settles O25: each transaction by the alignment of its address; a word within BAR0 is the register's own write. -/
theorem quadSpiReachesTheSameRegisters : Obligations.QuadSpiReachesTheSameRegisters := by
  intro dt a n data cut s hup hsel err
  have hread : exec (.qspiRead a n cut) s = .next (settle s (doQspiRead s a n cut)) := done_hostAccess_of_up hup
  have hwrite (ws : List Word) (c : Bool) : exec (.qspiWrite dt a ws c) s = .next (settle s (doQspiWrite (advance s dt) a ws c)) :=
    done_hostAccess_of_up hup
  have hid : exec .qspiReadId s = .next (settle s (doQspiReadId s)) := done_hostAccess_of_up hup
  have hbad : exec .qspiBadTransaction s = .next (settle s (doQspiBad s)) := done_hostAccess_of_up hup
  have hsel' : (advance s dt).md.straps.hostsel = true := hsel
  refine ⟨fun ha => ?_, fun ha => ?_, fun ha => ?_, fun ha hbar v => ?_, fun ha => ?_, ?_, ?_⟩
  · rw [hread, doQspiRead_of_aligned hsel n cut ha, cutWord_eq]
    simp only [List.map_map, List.filter_map, List.length_map, Function.comp_def, qspiWord_eq, qspiBar2, err]
  · rw [hread, doQspiRead_of_unaligned hsel n cut ha, accessErr]
  · refine ⟨_, ?_, rfl⟩
    rw [hwrite, doQspiWrite_of_aligned hsel' data cut ha, cutWord_eq]
  · exact (hwrite [v] false).trans (by rw [doQspiWrite_register hsel' v ha hbar]; exact (exec_registerWrite_word dt a v s hup ha).symm)
  · rw [hwrite, doQspiWrite_of_unaligned hsel' data cut ha, accessErr, advance_hp]
  · rw [hid, doQspiReadId_of_quad hsel]
  · rw [hbad, doQspiBad_of_quad hsel, accessErr]

/-! ### The endpoint and its link (05 R107, R109, R112, R118) -/

theorem linkDown_of_up {s : State} (hsel : s.md.straps.hostsel = false) (h : s.hp.linkUp = true) : linkDown s = { s with hp := { s.hp with
    linkUp := false, gen2 := false, linkDown := satInc32 s.hp.linkDown } } := by
  simp [linkDown, hsel, h]

theorem linkDown_of_down {s : State} (h : s.hp.linkUp = false) : linkDown s = s := by
  simp [linkDown, h]

/-- In Quad-SPI mode the lanes stay idle. -/
theorem endpoint_of_quad {s : State} (hsel : s.md.straps.hostsel = true) (b : Bool) :
    pciReset s = s ∧ linkDown s = s ∧ doLinkUp s b = s ∧ doPowerState s b = s := by
  simp [pciReset, linkDown, doLinkUp, doPowerState, hsel]

theorem pciReset_of_pcie {s : State} (hsel : s.md.straps.hostsel = false) : pciReset s = { linkDown s with hp := { (linkDown s).hp with
    d3 := false, msixEn := false, msixFm := false, msix := [], pba := 0, mps := 128, aspmL1 := false, aerUnc := 0, aerCor := 0
    pmeEn := false, pmeStatus := false } } :=
  if_neg (by simp [hsel])

theorem doLinkUp_of_pcie {s : State} (hsel : s.md.straps.hostsel = false) (hm : s.md.mode ≠ .reset) (b : Bool) :
    doLinkUp s b = { s with hp := { s.hp with linkUp := true, gen2 := b } } :=
  if_neg (by simp [hsel, hm])

theorem doPowerState_of_pcie {s : State} (hsel : s.md.straps.hostsel = false) (hm : s.md.mode ≠ .reset) (b : Bool) :
    doPowerState s b = { s with hp := { s.hp with d3 := b } } :=
  if_neg (by simp [hsel, hm])

/-- Settles O26: with PCI Express by the state of the link, in Quad-SPI mode without effect. -/
theorem endpointResetsAndLinkChanges : Obligations.EndpointResetsAndLinkChanges := by
  intro s b
  have hperst : exec .perst s = .next (settle s (pciReset s)) := rfl
  have hflr : exec .functionLevelReset s = .next (settle s (pciReset s)) := rfl
  have hdown : exec .pcieLinkDown s = .next (settle s (linkDown s)) := rfl
  have hup : exec (.pcieLinkUp b) s = .next (settle s (doLinkUp s b)) := rfl
  have hpower : exec (.powerStateChange b) s = .next (settle s (doPowerState s b)) := rfl
  constructor
  · intro hsel down
    have hlink : linkDown s = { s with hp := down } := by
      by_cases h : s.hp.linkUp = true
      · rw [linkDown_of_up hsel h, show down = _ from if_pos h]
      · rw [linkDown_of_down (eq_false_of_ne_true h), show down = _ from if_neg h]
    refine ⟨?_, hdown.trans (by rw [hlink]), fun hm => ⟨?_, ?_⟩⟩
    · simp only [List.forall_mem_cons, hperst, hflr, pciReset_of_pcie hsel, hlink, List.not_mem_nil, false_imp_iff, implies_true, and_self]
    · rw [hup, doLinkUp_of_pcie hsel hm]
    · rw [hpower, doPowerState_of_pcie hsel hm]
  · intro hsel
    obtain ⟨hr, hd, hu, hp⟩ := endpoint_of_quad hsel b
    simp only [List.forall_mem_cons, hperst, hflr, hdown, hup, hpower, hr, hd, hu, hp, List.not_mem_nil, false_imp_iff, implies_true, and_self]

/-! ### MSI-X vectors that lose their mask (05 R111) -/

/-- The vector is unmasked with its pending bit set. -/
def vecDue (s : State) (t : Nat) : Bool :=
  s.hp.msixEn && !s.md.straps.hostsel && !vecMasked s t && s.hp.pba.getLsbD t

theorem unmaskVec_of_due {s : State} {t : Nat} (h : vecDue s t = true) : unmaskVec s t = { s with hp := { s.hp with
    pba := bclr s.hp.pba t
    sent := if (hecTgt s t).req = true then Tab.upd s.hp.sent 0 t (· + 1) else s.hp.sent } } := by
  by_cases hreq : (hecTgt s t).req = true
  · rw [if_pos hreq]
    exact (if_pos h).trans (if_pos hreq)
  · rw [if_neg hreq]
    exact (if_pos h).trans (if_neg hreq)

theorem unmaskVec_of_idle {s : State} {t : Nat} (h : vecDue s t = false) : unmaskVec s t = s := if_neg (ne_true_of_eq_false h)

theorem unmaskVec_frame (s : State) (t : Nat) : unmaskVec s t = { s with
    hp := { s.hp with pba := (unmaskVec s t).hp.pba, sent := (unmaskVec s t).hp.sent } } := by
  cases h : vecDue s t with
  | false => rw [unmaskVec_of_idle h]
  | true => rw [unmaskVec_of_due h]

theorem foldl_unmaskVec_frame (l : List Nat) (s : State) : l.foldl unmaskVec s = { s with
    hp := { s.hp with pba := (l.foldl unmaskVec s).hp.pba, sent := (l.foldl unmaskVec s).hp.sent } } := by
  induction l generalizing s with
  | nil => rfl
  | cons t l ih =>
    rw [List.foldl_cons, ih, unmaskVec_frame]

/-- A vector's pending bit and the messages it has sent. -/
def vecState (s : State) (k : Nat) : Bool × Nat := (s.hp.pba.getLsbD k, Tab.get s.hp.sent 0 k)

/-- A vector after its mask has gone: a due one is pending no more, and has sent when its request is active. -/
def vecUnmasked (s : State) (k : Nat) : Bool × Nat :=
  (s.hp.pba.getLsbD k && !vecDue s k,
    if (vecDue s k && (hecTgt s k).req) = true then Tab.get s.hp.sent 0 k + 1 else Tab.get s.hp.sent 0 k)

theorem vecState_unmaskVec_same (s : State) (k : Nat) : vecState (unmaskVec s k) k = vecUnmasked s k := by
  cases h : vecDue s k with
  | false => simp [unmaskVec_of_idle, vecUnmasked, vecState, h]
  | true =>
    rw [unmaskVec_of_due h]
    cases hreq : (hecTgt s k).req <;> simp [vecUnmasked, vecState, h, hreq, Tab.get_upd]

theorem vecState_unmaskVec_other {s : State} {t k : Nat} (hk : k ≠ t) : vecState (unmaskVec s t) k = vecState s k := by
  cases h : vecDue s t with
  | false => rw [unmaskVec_of_idle h]
  | true =>
    rw [unmaskVec_of_due h, vecState, vecState, getLsbD_bclr, decide_eq_false hk.symm, Bool.not_false, Bool.and_true]
    split
    · rw [Tab.get_upd, if_neg hk]
    · rfl

/-- What one vector does leaves the others as they were. -/
theorem vecUnmasked_unmaskVec_other {s : State} {t k : Nat} (hk : k ≠ t) : vecUnmasked (unmaskVec s t) k = vecUnmasked s k := by
  obtain ⟨hpba, hsent⟩ := Prod.mk.inj (vecState_unmaskVec_other (s := s) hk)
  simp only [vecUnmasked, vecDue, hpba, hsent]
  rw [unmaskVec_frame]
  rfl

theorem vecState_foldl_unmaskVec {l : List Nat} (hl : l.Nodup) (s : State) (k : Nat) :
    vecState (l.foldl unmaskVec s) k = if k ∈ l then vecUnmasked s k else vecState s k := by
  induction l generalizing s with
  | nil => rfl
  | cons t l ih =>
    obtain ⟨ht, hl⟩ := List.nodup_cons.1 hl
    rw [List.foldl_cons, ih hl]
    by_cases hk : k = t
    · subst hk
      rw [if_neg ht, if_pos List.mem_cons_self, vecState_unmaskVec_same]
    · rw [vecUnmasked_unmaskVec_other hk, vecState_unmaskVec_other hk]
      simp only [List.mem_cons, hk, false_or]

/-! ### MSI-X Enable, Function Mask and the vector control words (05 R111) -/

/-- The state with the mask bit of vector t cleared. -/
def unmaskedWord (s : State) (t : Nat) : State := { s with hp := { s.hp with msix := Tab.set s.hp.msix 1 (4 * t + 3) 0 } }

/-- MSIX_UNMASK clears the mask bit of its vector, which then sends if it is due. -/
theorem doMsixUnmask_eq (s : State) (t : Nat) : doMsixUnmask s t = unmaskVec (unmaskedWord s t) t := by
  have hctl : (4 * t + 3) % 4 = 3 := by omega
  have hvec : (4 * t + 3) / 4 = t := by omega
  have hclear : (0 : Word) &&& 1#32 = 0 := BitVec.zero_and
  simp only [doMsixUnmask, doMsixTable, unmaskedWord, hctl, hvec, if_true, hclear]

theorem vecDue_unmaskedWord {s : State} (hsel : s.md.straps.hostsel = false) (t : Nat) :
    vecDue (unmaskedWord s t) t = (s.hp.msixEn && !s.hp.msixFm && s.hp.pba.getLsbD t) := by
  have hctl : (4 * t + 3) % 4 = 3 := by omega
  simp [vecDue, unmaskedWord, vecMasked, msixWord, hctl, Tab.get_set_same, hsel]

/-- The state with MSI-X Enable and Function Mask as written. -/
def msixSet (s : State) (en fm : Bool) : State :=
  { s with hp := { s.hp with msixEn := en, msixFm := fm, pba := if en = true then s.hp.pba else 0 } }

theorem doMsixEnable_of_pcie {s : State} (hsel : s.md.straps.hostsel = false) (en fm : Bool) : doMsixEnable s en fm =
    if (s.hp.msixEn && s.hp.msixFm && !fm) = true then (List.range 8).foldl unmaskVec (msixSet s en fm) else msixSet s en fm :=
  if_neg (ne_true_of_eq_false hsel)

theorem foldl_unmaskVec_of_idle {s : State} (h : ∀ t, vecDue s t = false) (l : List Nat) : l.foldl unmaskVec s = s := by
  induction l with
  | nil => rfl
  | cons t l ih => rw [List.foldl_cons, unmaskVec_of_idle (h t), ih]

/-- While MSI-X Enable is 0 no vector sends. -/
theorem doMsixEnable_of_disabled {s : State} (hsel : s.md.straps.hostsel = false) (fm : Bool) :
    doMsixEnable s false fm = msixSet s false fm := by
  rw [doMsixEnable_of_pcie hsel, foldl_unmaskVec_of_idle (fun _ => rfl), ite_self]

theorem doMsixEnable_of_kept {s : State} (hsel : s.md.straps.hostsel = false) (en : Bool) {fm : Bool}
    (h : s.hp.msixEn = false ∨ s.hp.msixFm = false ∨ fm = true) : doMsixEnable s en fm = msixSet s en fm := by
  rw [doMsixEnable_of_pcie hsel, if_neg]
  rcases h with h | h | h <;> simp [h]

theorem doMsixEnable_of_released {s : State} (hsel : s.md.straps.hostsel = false) (hen : s.hp.msixEn = true) (hfm : s.hp.msixFm = true) :
    doMsixEnable s true false = (List.range 8).foldl unmaskVec (msixSet s true false) := by
  rw [doMsixEnable_of_pcie hsel, if_pos (by simp [hen, hfm])]

theorem doMsixEnable_frame {s : State} (hsel : s.md.straps.hostsel = false) (en fm : Bool) : doMsixEnable s en fm = { s with hp := { s.hp with
    msixEn := en, msixFm := fm, pba := (doMsixEnable s en fm).hp.pba, sent := (doMsixEnable s en fm).hp.sent } } := by
  rw [doMsixEnable_of_pcie hsel]
  split
  · rw [foldl_unmaskVec_frame, msixSet]
  · rfl

theorem vecDue_msixSet {s : State} (hsel : s.md.straps.hostsel = false) (k : Nat) :
    vecDue (msixSet s true false) k = (s.hp.pba.getLsbD k && !(msixWord s (4 * k + 3)).getLsbD 0) := by
  simp only [vecDue, msixSet, vecMasked, msixWord, hsel, testBit_getLsbD, if_true, Bool.not_false, Bool.true_and, Bool.false_or]
  exact Bool.and_comm ..

/-- Settles O12: a vector that loses its mask sends when it is due; the loss of the Function Mask treats each of the eight so. -/
theorem msixUnmaskSendsWhatIsPending : Obligations.MsixUnmaskSendsWhatIsPending := by
  intro t s en fm hsel
  have hunmask (hup : hostUp s = true) : exec (.msixUnmask t) s = .next (settle s (unmaskVec (unmaskedWord s t) t)) :=
    (done_hostAccess_of_up hup).trans (by rw [doMsixUnmask_eq])
  have hdue := vecDue_unmaskedWord hsel t
  refine ⟨fun hup hen hfm hpba => ?_, fun hup hidle => ?_, doMsixEnable s en fm, rfl, doMsixEnable_frame hsel en fm, fun hen => ?_,
    fun hen hkept => ?_, fun hwas hmask hen hfm k hk => ?_⟩
  · rw [hunmask hup, unmaskVec_of_due (by rw [hdue, hen, hfm, hpba]; rfl)]
    rfl
  · have hnone : vecDue (unmaskedWord s t) t = false := by
      rw [hdue]
      rcases hidle with h | h | h <;> simp only [h, Bool.not_true, Bool.false_and, Bool.and_false]
    rw [hunmask hup, unmaskVec_of_idle hnone, unmaskedWord]
  · rw [hen, doMsixEnable_of_disabled hsel]
    exact ⟨rfl, rfl⟩
  · rw [hen, doMsixEnable_of_kept hsel true hkept]
    exact ⟨rfl, rfl⟩
  · subst hen hfm
    have hvec := vecState_foldl_unmaskVec (l := List.range 8) List.nodup_range (msixSet s true false) k
    rw [← doMsixEnable_of_released hsel hwas hmask, if_pos (List.mem_range.2 hk), vecUnmasked, vecDue_msixSet hsel] at hvec
    exact Prod.mk.inj hvec

end Sys2Proof.Machine
end

section
/-! Proofs about the host commands (06): the tests of a packet, what acceptance starts, copies and firmware chunks, the release of a slot. -/

namespace Sys2Proof.Machine

open Sys2Proof

/-! ### The release of a result slot (06 R136) -/

section
variable {s : State} {v : Word}

theorem doRelease_of_ready (h : (slotAt s (v.toNat % 65536 % 256)).st = 2 ∧ (slotAt s (v.toNat % 65536 % 256)).tag = v.toNat % 65536) :
    doRelease s v = setSlot s (v.toNat % 65536 % 256) Slot.empty := if_pos h

theorem doRelease_of_other (h : ¬((slotAt s (v.toNat % 65536 % 256)).st = 2 ∧ (slotAt s (v.toNat % 65536 % 256)).tag = v.toNat % 65536)) :
    doRelease s v = s := if_neg h

end

/-- Settles O19: the two cases of what the slot of the TAG holds. -/
theorem releaseEmptiesTheReadySlot : Obligations.ReleaseEmptiesTheReadySlot := by
  intro v s hup tag
  have hexec : exec (.hifRelease v) s = .next (settle s (doRelease s v)) := done_hostAccess_of_up hup
  refine ⟨fun hready => ?_, fun hother => ?_, by decide⟩
  · rw [hexec, doRelease_of_ready hready, setSlot]
  · rw [hexec, doRelease_of_other hother]

/-! ### The tests of a packet (06 R137, R139) -/

/-- Each test in turn gives the answer where it fails, and leaves it to the next where it passes (06 R139). -/
theorem acceptSteps_eq_findSome? (s : State) (op : Op) (e : Entry) : acceptSteps s op e =
    [lengthStep s op e, rangeStep s op e, modeStep s op (params s e), refStep s op (params s e) (usesSeg e),
     segStep s (segsOf s op e), busyStep s op (params s e), refuseStep s op (params s e) (usesSeg e)].findSome? id := by
  rw [acceptSteps]
  (repeat' split) <;> simp [*]

theorem opOf_of_undefined {n : Nat} (h : ∀ o ∈ allOps, o.code ≠ n) : opOf n = none :=
  List.find?_eq_none.2 fun o ho => by simpa using h o ho

section
variable {s : State} {e : Entry}

/-- An entry whose slot is in use is recorded and not carried out. -/
theorem runEntry_of_tagInUse (opc : Nat) (htakes : takesEntries s = true) (hslot : (slotAt s ((cutEntry e).tag % 256)).st ≠ 0) :
    runEntry s opc e = cmdError s (cutEntry e).tag (cutEntry e).ring 1 (cutEntry e).target := by
  simp only [runEntry, if_neg ((takesEntries_iff s).1 htakes), if_pos hslot]

theorem runEntry_of_undefined {opc : Nat} (htakes : takesEntries s = true) (hslot : (slotAt s ((cutEntry e).tag % 256)).st = 0)
    (hopc : opOf (opc % 65536) = none) : runEntry s opc e = answerSlot s (cutEntry e).tag (cutEntry e).target (errA 0x10 0) := by
  simp only [runEntry, if_neg ((takesEntries_iff s).1 htakes), hslot, ne_eq, not_true_eq_false, if_false, hopc, answerSlot_takeSlot]

/-- A packet that fails a test has its answer in the slot. -/
theorem runOp_of_refused {op : Op} {a : Answer} (htakes : takesEntries s = true) (hslot : (slotAt s ((cutEntry e).tag % 256)).st = 0)
    (hfail : acceptSteps (takeSlot s (cutEntry e).tag 0) op (cutEntry e) = some a) :
    runOp s op e = answerSlot s (cutEntry e).tag (cutEntry e).target a := by
  simp only [runOp, runEntry, if_neg ((takesEntries_iff s).1 htakes), hslot, ne_eq, not_true_eq_false, if_false, opOf_code, hfail,
    answerSlot_takeSlot]

end

theorem exec_hostCommand_runOp {x : (Entry → Instr) × Op} (hx : x ∈ hostCommands) (e : Entry) (s : State) :
    exec (x.1 e) s = .next (settle s (runOp s x.2 e)) := exec_hostCommand hx e s

/-- Settles O13: an entry by its slot, by the first test that it fails, and by its opcode. -/
theorem packetsAreTestedInTheOrderOfTheTable : Obligations.PacketsAreTestedInTheOrderOfTheTable := by
  intro e s htakes c
  refine ⟨fun x hx => ⟨fun hslot => ?_, fun hslot a hfail => ?_⟩, fun opc hopc hslot => ?_, acceptSteps_eq_findSome?⟩
  · rw [exec_hostCommand hx, runEntry_of_tagInUse _ htakes hslot, cmdError]
  · rw [exec_hostCommand_runOp hx, runOp_of_refused htakes hslot hfail]
  · rw [exec_badOpcode, runEntry_of_undefined htakes hslot (opOf_of_undefined hopc), errA]

/-! ### What acceptance starts (06 R135, R140) -/

section
variable (s : State) {op : Op} (e : Entry)

/-- A command that takes effect at a tick joins the commands in progress; CFG_OPEN and CFG_CLOSE do more. -/
theorem startCmd_of_tick (hkind : op.kind = .t) (hopen : op ≠ .cfgOpen) (hclose : op ≠ .cfgClose) :
    startCmd s op e = addCmd s (acceptedCmd s op e (startPhase op)) := by
  simp only [startCmd, hkind, if_neg hopen, if_neg hclose]

theorem startCmd_of_copy (hkind : op.kind = .c) : startCmd s op e = addCmd s (acceptedCmd s op e (startPhase op)) := by
  simp only [startCmd, hkind]

/-- A long command joins them with ACCEPTED in STATUS; PROG_STAGE does more. -/
theorem startCmd_of_long (hkind : op.kind = .l) (hstage : op ≠ .progStage) :
    startCmd s op e = takeSlot (addCmd s (acceptedCmd s op e (startPhase op))) e.tag 1 := by
  simp only [startCmd, hkind, if_neg hstage]

theorem startCmd_cfgOpen : startCmd s .cfgOpen e = setStaging (addCmd s (acceptedCmd s .cfgOpen e (startPhase .cfgOpen))) 1 [] := rfl

end

theorem takeSlot_addCmd (s : State) (c : Cmd) (tag status : Nat) : takeSlot (addCmd s c) tag status = addCmd (takeSlot s tag status) c := rfl

/-- Settles O15: what acceptance starts, by the kind of the command. -/
theorem acceptedCommandsJoinTheQueue : Obligations.AcceptedCommandsJoinTheQueue := by
  intro e s htakes hslot c joined
  have hrun {op : Op} (hpass : acceptSteps (takeSlot s c.tag 0) op c = none) : runOp s op e = startCmd (takeSlot s c.tag 0) op c :=
    runOp_of_accepted htakes hslot hpass
  refine ⟨fun x hx hkind hopen hclose hpass => ?_, fun x hx hkind hpass => ?_, fun x hx hkind hstage hpass => ?_, fun hpass => ?_⟩
  · rw [exec_hostCommand_runOp hx, hrun hpass, startCmd_of_tick _ _ hkind hopen hclose]
    rfl
  · rw [exec_hostCommand_runOp hx, hrun hpass, startCmd_of_copy _ _ hkind]
    rfl
  · rw [exec_hostCommand_runOp hx, hrun hpass, startCmd_of_long _ _ hkind hstage, takeSlot_addCmd, takeSlot_takeSlot]
    rfl
  · have hexec : exec (.cfgOpen e) s = .next (settle s (runOp s .cfgOpen e)) := rfl
    rw [hexec, hrun hpass, startCmd_cfgOpen]
    rfl

/-! ### The tests of a command that completes in its row (06 R139, R140) -/

theorem kind_eq_i_iff (op : Op) : op.kind = .i ↔
    op = .fwActivate ∨ op = .nop ∨ op = .identify ∨ op = .getMode ∨ op = .groupStatus ∨ op = .safetyStatus := by
  cases op <;> decide

/-- No byte of a layout fails whose fields are in range and whose other bytes are 0. -/
theorem badField_eq_none {fs : List Fld} {p : List Byte} (hok : ∀ f ∈ fs, f.ok = true)
    (hzero : ∀ k < p.length, p.getD k 0 = 0 ∨ ∃ f ∈ fs, f.pos ≤ 8 + k ∧ 8 + k < f.pos + f.size) : badField fs p = none := by
  have hfields : fs.filter (fun f => !f.ok) = [] := List.filter_eq_nil_iff.2 fun f hf => by simp [hok f hf]
  have hrest : (List.range p.length).filter (fun k => p.getD k 0 != 0 &&
      !(fs.any (fun f => decide (f.pos ≤ 8 + k ∧ 8 + k < f.pos + f.size)))) = [] :=
    List.filter_eq_nil_iff.2 fun k hk => by
      rcases hzero k (List.mem_range.1 hk) with hbyte | ⟨f, hf, hin⟩
      · simp only [hbyte, bne_self_eq_false, Bool.false_and, Bool.false_eq_true, not_false_eq_true]
      · have hany : fs.any (fun f => decide (f.pos ≤ 8 + k ∧ 8 + k < f.pos + f.size)) = true :=
          List.any_eq_true.2 ⟨f, hf, decide_eq_true hin⟩
        simp only [hany, Bool.not_true, Bool.and_false, Bool.false_eq_true, not_false_eq_true]
  rw [badField, hfields, hrest]
  rfl

section
variable {s : State} {op : Op} {e : Entry}

/-- The parameter length of every command but VALUE_CHANGE is fixed (06 R150). -/
theorem plen_of_fixed (n : Nat) (hop : op ≠ .valueChange) : op.plen n = op.plen 0 := by
  cases op
  case valueChange => exact absurd rfl hop
  all_goals rfl

theorem lengthStep_of_fixed (hop : op ≠ .valueChange) (hseg : usesSeg e = false) (hlen : e.length = op.plen 0) : lengthStep s op e = none := by
  have hwant := plen_of_fixed (countField s e) hop
  simp only [lengthStep, hwant, Op.plenMax, hop, hseg, hlen, if_false, Bool.false_eq_true, Nat.lt_irrefl, ne_eq, not_true_eq_false]

theorem rangeStep_of_inRange (hseg : usesSeg e = false) (hflags : e.flags = 0) (hrsv : e.rsv = 0)
    (hpar : badField (op.flds e.par none) e.par = none) : rangeStep s op e = none := by
  simp [rangeStep, params, hseg, hflags, hrsv, hpar]

theorem modeStep_of_permitted {p : List Byte} (hop : op ≠ .forceSet) (h : permits op s.md.mode s.md.recovery = true) : modeStep s op p = none := by
  simp [modeStep, hop, h]

variable (hkind : op.kind = .i)
include hkind

/-- A command that completes in its row names no segment. -/
theorem segsOf_of_instant (hseg : usesSeg e = false) : segsOf s op e = [] := by
  rcases (kind_eq_i_iff op).1 hkind with rfl | rfl | rfl | rfl | rfl | rfl <;> simp [segsOf, hseg, Op.named]

/-- Of these commands only FW_ACTIVATE refers to what is there: a complete set (06 R154). -/
theorem refStep_of_instant {p : List Byte} {b : Bool} (hset : op = .fwActivate → s.cm.fwDone = true) : refStep s op p b = none := by
  rcases (kind_eq_i_iff op).1 hkind with rfl | rfl | rfl | rfl | rfl | rfl
  · exact if_pos (hset rfl)
  all_goals rfl

/-- Of these commands only FW_ACTIVATE is a mode command (06 R141). -/
theorem busyStep_of_instant {p : List Byte} (hidle : op = .fwActivate → ∀ c ∈ s.cm.cmds, c.op.isMode = false) : busyStep s op p = none := by
  rcases (kind_eq_i_iff op).1 hkind with rfl | rfl | rfl | rfl | rfl | rfl
  · have hnone : s.cm.cmds.any (fun c => c.op.isMode) = false := List.any_eq_false.2 fun c hc => ne_true_of_eq_false (hidle rfl c hc)
    simp [busyStep, hnone]
  all_goals rfl

theorem refuseStep_of_instant {p : List Byte} {b : Bool} : refuseStep s op p b = none := by
  rcases (kind_eq_i_iff op).1 hkind with rfl | rfl | rfl | rfl | rfl | rfl <;> rfl

/-- The tests of R139 that a command which completes in its row can fail. -/
theorem acceptSteps_of_instant (hflags : e.flags = 0) (hrsv : e.rsv = 0) (hlen : e.length = op.plen 0)
    (hpar : badField (op.flds e.par none) e.par = none) (hpermits : permits op s.md.mode s.md.recovery = true)
    (hset : op = .fwActivate → s.cm.fwDone = true) (hidle : op = .fwActivate → ∀ c ∈ s.cm.cmds, c.op.isMode = false) :
    acceptSteps s op e = none := by
  have hseg : usesSeg e = false := by rw [usesSeg, hflags]; rfl
  have hvalue : op ≠ .valueChange := fun h => by simp [h, Op.kind] at hkind
  have hforce : op ≠ .forceSet := fun h => by simp [h, Op.kind] at hkind
  rw [acceptSteps_eq_findSome?, lengthStep_of_fixed hvalue hseg hlen, rangeStep_of_inRange hseg hflags hrsv hpar,
    modeStep_of_permitted hforce hpermits, refStep_of_instant hkind hset, segsOf_of_instant hkind hseg, busyStep_of_instant hkind hidle,
    refuseStep_of_instant hkind]
  rfl

theorem startCmd_of_instant : startCmd s op e =
    complete (instantEffect (addCmd s (acceptedCmd s op e (startPhase op))) op (params s e)).1 (acceptedCmd s op e (startPhase op))
      (instantEffect (addCmd s (acceptedCmd s op e (startPhase op))) op (params s e)).2 := by
  simp only [startCmd, hkind, acceptedCmd]

end

/-! ### What such a command does (06 R147, R151, R152, R154) -/

/-- The result data of the commands that change nothing. -/
def statusData (s : State) : Op → List Byte
  | .identify => identifyData s
  | .getMode => getModeData s
  | .groupStatus => groupStatusData s
  | .safetyStatus => safetyStatusData s
  | _ => []

theorem instantEffect_of_status {s : State} {op : Op} (p : List Byte) (hop : op ≠ .fwActivate) :
    instantEffect s op p = (s, okA (statusData s op)) := by
  cases op
  case fwActivate => exact absurd rfl hop
  all_goals rfl

/-- The commands in progress and the slots stand in no status that is read. -/
theorem statusData_addCmd_takeSlot (s : State) (c : Cmd) (tag status : Nat) (op : Op) :
    statusData (addCmd (takeSlot s tag status) c) op = statusData s op := by
  cases op <;> rfl

theorem fwActivate_addCmd (s : State) (c : Cmd) (p : List Byte) :
    instantEffect (addCmd s c) .fwActivate p = (addCmd (fwActivate s p).1 c, okA (leBytes 1 (b2n (stageBank s)))) := rfl

/-- What FW_ACTIVATE changes stands beside its slot. -/
theorem answerSlot_fwActivate_takeSlot (s : State) (p : List Byte) (tag tgt : Nat) (a : Answer) :
    answerSlot (fwActivate (takeSlot s tag 0) p).1 tag tgt a = (fwActivate (answerSlot s tag tgt a) p).1 := by
  rw [← answerSlot_takeSlot s tag 0]
  rfl

theorem getD_zeros (n k : Nat) : (zeros n).getD k 0 = 0 := by
  rw [zeros, List.getD_eq_getElem?_getD, List.getElem?_replicate]
  split <;> rfl

/-- The parameters of FW_ACTIVATE are in range (06 R152). -/
theorem badField_fwActivate {action : Byte} (h : action.toNat ≤ 1) :
    badField (Op.fwActivate.flds (action :: zeros 55) none) (action :: zeros 55) = none := by
  refine badField_eq_none (fun f hf => ?_) (fun k hk => ?_)
  · rw [List.mem_singleton.1 hf]
    exact decide_eq_true h
  · cases k with
    | zero => exact .inr ⟨_, List.mem_singleton.2 rfl, Nat.le_refl 8, Nat.lt_succ_self 8⟩
    | succ k => exact .inl (getD_zeros 55 k)

section
variable {s : State} {op : Op} {e : Entry} (htakes : takesEntries s = true) (hcut : cutEntry e = e)
  (hslot : (slotAt s (e.tag % 256)).st = 0) (hfresh : ∀ c ∈ s.cm.cmds, c.tag ≠ e.tag) (hflags : e.flags = 0)
include htakes hcut hslot hfresh hflags

/-- A command that completes in its row leaves its effect, with its answer in the slot. -/
theorem runOp_of_instant {u : State} {a : Answer} (hkind : op.kind = .i) (hpass : acceptSteps (takeSlot s e.tag 0) op e = none)
    (hcmds : u.cm.cmds = s.cm.cmds)
    (heffect : ∀ c, instantEffect (addCmd (takeSlot s e.tag 0) c) op e.par = (addCmd u c, a)) :
    runOp s op e = answerSlot u e.tag e.target a := by
  have hseg : usesSeg e = false := by rw [usesSeg, hflags]; rfl
  have hpar (t : State) : params t e = e.par := by rw [params, hseg]; rfl
  have hrun := runOp_of_accepted (op := op) (e := e) htakes (by rwa [hcut]) (by rwa [hcut])
  rw [hcut] at hrun
  rw [hrun, startCmd_of_instant hkind, hpar, heffect]
  refine complete_addCmd a ?_ fun hmem => ?_
  · rw [acceptedCmd, segsOf_of_instant hkind hseg]
    rfl
  · rw [hcmds] at hmem
    exact hfresh _ hmem rfl

variable (hrsv : e.rsv = 0)
include hrsv

theorem runOp_of_status (hkind : op.kind = .i) (hop : op ≠ .fwActivate) (hlen : e.length = 0) (hpar : e.par = zeros 56)
    (hpermits : permits op s.md.mode s.md.recovery = true) :
    runOp s op e = answerSlot s e.tag e.target (okA (statusData s op)) := by
  have hlayout : op.plen 0 = 0 ∧ op.flds e.par none = [] := by
    rcases (kind_eq_i_iff op).1 hkind with rfl | rfl | rfl | rfl | rfl | rfl
    · exact absurd rfl hop
    all_goals exact ⟨rfl, rfl⟩
  obtain ⟨hplen, hflds⟩ := hlayout
  have hpass : acceptSteps (takeSlot s e.tag 0) op e = none :=
    acceptSteps_of_instant hkind hflags hrsv (hlen.trans hplen.symm) (by rw [hflds, hpar]; rfl) hpermits (fun h => absurd h hop)
      (fun h => absurd h hop)
  rw [runOp_of_instant htakes hcut hslot hfresh hflags (u := takeSlot s e.tag 0) hkind hpass rfl fun c => by
    rw [instantEffect_of_status _ hop, statusData_addCmd_takeSlot], answerSlot_takeSlot]

theorem runOp_fwActivate {action : Byte} (haction : action.toNat ≤ 1) (hlen : e.length = 8) (hpar : e.par = action :: zeros 55)
    (hset : s.cm.fwDone = true) (hpermits : permits .fwActivate s.md.mode s.md.recovery = true)
    (hidle : ∀ c ∈ s.cm.cmds, c.op.isMode = false) :
    runOp s .fwActivate e = (fwActivate (answerSlot s e.tag e.target (okA (leBytes 1 (b2n (stageBank s))))) e.par).1 := by
  have hpass : acceptSteps (takeSlot s e.tag 0) .fwActivate e = none :=
    acceptSteps_of_instant rfl hflags hrsv hlen (by rw [hpar]; exact badField_fwActivate haction) hpermits (fun _ => hset) (fun _ => hidle)
  rw [runOp_of_instant htakes hcut hslot hfresh hflags (u := (fwActivate (takeSlot s e.tag 0) e.par).1) rfl hpass rfl
      fun c => fwActivate_addCmd _ c e.par,
    answerSlot_fwActivate_takeSlot]
  rfl

end

/-- Settles O14: the commands that change nothing by their data, and FW_ACTIVATE by its action. -/
theorem instantCommandsAnswerAtOnce : Obligations.InstantCommandsAnswerAtOnce := by
  intro e s htakes hcut hslot hfresh hflags hrsv
  refine ⟨fun hlen hpar x hx hpermits => ?_, fun action haction hlen hpar hset hpermits hidle => ?_⟩
  · have hstatus {op : Op} (hkind : op.kind = .i) (hop : op ≠ .fwActivate) (hpermits : permits op s.md.mode s.md.recovery = true) :=
      congrArg (done s) (runOp_of_status htakes hcut hslot hfresh hflags hrsv hkind hop hlen hpar hpermits)
    simp only [List.mem_cons, List.not_mem_nil, or_false] at hx
    rcases hx with rfl | rfl | rfl | rfl | rfl <;> exact hstatus rfl (by decide) hpermits
  · have hexec : exec (.fwActivate e) s = .next (settle s (runOp s .fwActivate e)) := rfl
    rw [hexec, runOp_fwActivate htakes hcut hslot hfresh hflags hrsv haction hlen hpar hset hpermits hidle, hpar]
    rfl

/-! ### Copies run one at a time (06 R139, R140) -/

theorem find?_phase_eq_none {p : Phase} {l : List Cmd} : l.find? (fun d => decide (d.ph = p)) = none ↔ ∀ d ∈ l, d.ph ≠ p := by
  simp only [List.find?_eq_none, decide_eq_true_eq, ne_eq]

/-- The first command of a phase in acceptance order. -/
theorem find?_phase_of_first {p : Phase} {c : Cmd} {l : List Cmd} (r : List Cmd) (hc : c.ph = p) (hl : ∀ d ∈ l, d.ph ≠ p) :
    (l ++ c :: r).find? (fun d => decide (d.ph = p)) = some c := by
  have hnone : l.find? (fun d => decide (d.ph = p)) = none := find?_phase_eq_none.2 hl
  rw [List.find?_append, hnone, Option.none_or]
  exact List.find?_cons_of_pos (decide_eq_true hc)

section
variable {s : State} {c : Cmd}

/-- A copy whose start tests fail completes with their answer. -/
theorem doCopyStart_of_fault {a : Answer} (hcopying : copying s = none) (hwaiting : waiting s = some c) (hfault : startFault s c = some a) :
    doCopyStart s = complete s c a := by
  simp only [doCopyStart, hcopying, hwaiting, hfault]

theorem doCopyStart_of_passed (hcopying : copying s = none) (hwaiting : waiting s = some c) (hfault : startFault s c = none)
    (hop : c.op ≠ .fwStage) : doCopyStart s = replaceCmd s c { c with ph := .copying } := by
  simp only [doCopyStart, hcopying, hwaiting, hfault, fwErase, hop, false_and, if_false]

theorem doCopyStart_of_copying (h : copying s = some c) : doCopyStart s = s := by
  simp only [doCopyStart, h]

theorem doCopyStart_of_none_waiting (h : waiting s = none) : doCopyStart s = s := by
  rw [doCopyStart, h]
  cases copying s <;> rfl

/-- The bytes of a copy that ran in the host share and in the idle tail count there (05 R129). -/
def carried (s : State) (share tail : Nat) : State :=
  { s with hp := { s.hp with share := s.hp.share + share, tailB := s.hp.tailB + tail } }

theorem doCopyComplete_of_copied (share tail : Nat) (h : copying s = some c) (hop : c.op ≠ .fwStage) : doCopyComplete s share tail =
    complete (copyEffect (carried s share tail) c).1 c (copyEffect (carried s share tail) c).2 := by
  simp only [doCopyComplete, h, if_neg hop, carried]

/-- The chunk of FW_STAGE is programmed next. -/
theorem doCopyComplete_of_fwStage (share tail : Nat) (h : copying s = some c) (hop : c.op = .fwStage) : doCopyComplete s share tail =
    replaceCmd (carried s share tail) c { c with ph := .long } := by
  simp only [doCopyComplete, h, if_pos hop, carried]

theorem doCopyComplete_of_idle (share tail : Nat) (h : copying s = none) : doCopyComplete s share tail = s := by
  simp only [doCopyComplete, h]

theorem closing_eq_false (h : ∀ d ∈ s.cm.cmds, d.op ≠ .cfgClose) : closing s = false :=
  List.any_eq_false.2 fun d hd => by simpa using h d hd

/-- A copy into an open staging area appends the bytes of its segment (04 R91). -/
theorem copyLoad_of_open (p : List Byte) (hstg : s.cfg.stg = 1) (hclosing : closing s = false) : copyLoad s p =
    ({ s with cfg := { s.cfg with bytes := s.cfg.bytes ++ segBytes s p 8 } }, okA (leBytes 4 (s.cfg.bytes ++ segBytes s p 8).length)) :=
  if_neg (by simp [hstg, hclosing])

/-- The copies of the reading commands leave the staging area. -/
theorem copyEffect_cfg (hop : c.op ≠ .cfgLoad) : (copyEffect s c).1.cfg = s.cfg := by
  unfold copyEffect
  split
  case h_1 hload => exact absurd hload hop
  case h_3 =>
    rw [copyPoints]
    dsimp only
    split <;> rfl
  all_goals rfl

end

theorem exec_copyStart (s : State) : exec .copyStart s = .next (settle s (doCopyStart s)) := rfl

theorem exec_copyComplete (share tail : Nat) (s : State) :
    exec (.copyComplete share tail) s = .next (settle s (doCopyComplete s share tail)) := rfl

/-- Settles O27: a start by what waits and what its tests find, an end by the command that was copying. -/
theorem copiesRunOneAtATime : Obligations.CopiesRunOneAtATime := by
  intro share tail l r c s hcmds
  refine ⟨fun hc hl hnone => ?_, fun hidle => ?_, fun hc hl => ?_, fun hnone => ?_⟩
  · have hwaiting : waiting s = some c := by rw [waiting, hcmds, find?_phase_of_first r hc hl]
    have hcopying : copying s = none := find?_phase_eq_none.2 hnone
    refine ⟨fun a hfault => ?_, fun hpass hop => ?_⟩
    · rw [exec_copyStart, doCopyStart_of_fault hcopying hwaiting hfault]
    · rw [exec_copyStart, doCopyStart_of_passed hcopying hwaiting hpass hop, replaceCmd]
  · rw [exec_copyStart]
    rcases hidle with ⟨d, hd, hph⟩ | hnone
    · have hsome : (copying s).isSome = true := List.find?_isSome.2 ⟨d, hd, decide_eq_true hph⟩
      obtain ⟨k, hk⟩ := Option.isSome_iff_exists.1 hsome
      rw [doCopyStart_of_copying hk]
    · rw [doCopyStart_of_none_waiting (find?_phase_eq_none.2 hnone)]
  · intro b
    have hcopying : copying s = some c := by rw [copying, hcmds, find?_phase_of_first r hc hl]
    refine ⟨fun hop => ?_, fun hop => ?_, fun hop hstg hclose => ?_, fun hop => copyEffect_cfg (s := b) hop⟩
    · rw [exec_copyComplete, doCopyComplete_of_copied _ _ hcopying hop]
      rfl
    · rw [exec_copyComplete, doCopyComplete_of_fwStage _ _ hcopying hop]
      rfl
    · have hload : copyEffect b c = copyLoad b c.par := by simp only [copyEffect, hop]
      rw [hload, copyLoad_of_open (s := b) c.par hstg (closing_eq_false (s := b) hclose)]
      exact ⟨rfl, rfl⟩
  · rw [exec_copyComplete, doCopyComplete_of_idle _ _ (find?_phase_eq_none.2 hnone)]

/-! ### The chunks of a firmware set (06 R138, R153) -/

/-- The result data of FW_STAGE: the bytes of the set, the staged bank, whether the set is complete. -/
def fwData (s : State) (n : Nat) (whole : Bool) : List Byte :=
  leBytes 4 n ++ leBytes 1 (b2n (stageBank s)) ++ leBytes 1 (b2n whole)

/-- The bytes of the set with those of a chunk. -/
def fwAll (s : State) (c : Cmd) : List Byte := s.cm.fwBytes ++ segBytes s c.par 8

section
variable {s : State} {c : Cmd} (hfind : s.cm.cmds.find? (fun d => decide (d.op = .fwStage ∧ d.ph = .long)) = some c)
include hfind

/-- A chunk that does not read back adds nothing and is an internal fault. -/
theorem doFwProgrammed_of_unread : doFwProgrammed s false =
    complete { pushLog s (Config.freeValue s.free % 65536) 0xFFFF 0 with free := s.free + 2 } c
      { status := 0x40, detail := nextEntry s, data := fwData s s.cm.fwBytes.length false } := by
  simp only [doFwProgrammed, hfind, Bool.not_false, if_true, fwData]

theorem doFwProgrammed_of_part (hpart : (fwAll s c).length < s.cm.fwTotal) : doFwProgrammed s true =
    complete { s with cm := { s.cm with fwBytes := fwAll s c } } c (okA (fwData s (fwAll s c).length false)) := by
  rw [fwAll] at hpart
  simp only [doFwProgrammed, hfind, Bool.not_true, Bool.false_eq_true, if_false, if_pos hpart, fwData, fwAll]

theorem doFwProgrammed_of_whole (hwhole : s.cm.fwTotal ≤ (fwAll s c).length) (hcrc : crc32 (fwAll s c) = p32 c.par 28) :
    doFwProgrammed s true = complete (setBankSet { s with
      cm := { s.cm with fwBytes := fwAll s c, fwDone := true, fwCrc := p32 c.par 28 } } (stageBank s) true (p32 c.par 28)) c
      (okA (fwData s (fwAll s c).length true)) := by
  rw [fwAll] at hwhole hcrc
  simp only [doFwProgrammed, hfind, Bool.not_true, Bool.false_eq_true, if_false, if_neg (Nat.not_lt.2 hwhole), if_pos hcrc, fwData, fwAll]

/-- A whole set with another CRC is discarded. -/
theorem doFwProgrammed_of_damaged (hwhole : s.cm.fwTotal ≤ (fwAll s c).length) (hcrc : crc32 (fwAll s c) ≠ p32 c.par 28) :
    doFwProgrammed s true = complete { s with cm := { s.cm with fwBytes := [], fwTotal := 0, fwDone := false } } c
      { status := 0x12, detail := 0x0104, data := fwData s 0 false } := by
  rw [fwAll] at hwhole hcrc
  simp only [doFwProgrammed, hfind, Bool.not_true, Bool.false_eq_true, if_false, if_neg (Nat.not_lt.2 hwhole), if_neg hcrc, fwData]

end

/-- The marks of the two banks after a write of one of them. -/
theorem setBankSet_eq (s : State) (b ok : Bool) (crc : Nat) : setBankSet s b ok crc = { s with mram := { s.mram with
    okA := if b = true then s.mram.okA else ok, setA := if b = true then s.mram.setA else crc
    okB := if b = true then ok else s.mram.okB, setB := if b = true then crc else s.mram.setB } } := by
  cases b <;> rfl

theorem nextEntry_of_room {s : State} (h : s.hl.queue.length < 64) : nextEntry s = (s.mram.logSeq + s.hl.queue.length) % 4096 := if_pos h

theorem exec_fwChunkProgrammed (ok : Bool) (s : State) : exec (.fwChunkProgrammed ok) s = .next (settle s (doFwProgrammed s ok)) := rfl

/-- Settles O28: a chunk by its read back, by what is missing of the set, and by the CRC over the whole of it. -/
theorem firmwareChunksMakeUpTheSet : Obligations.FirmwareChunksMakeUpTheSet := by
  intro c s hfind all bank data
  refine ⟨fun hroom => ?_, fun _ => ⟨nextEntry s, ?_⟩, fun hpart => ?_, fun hwhole hcrc => ?_, fun hwhole hcrc => ?_⟩
  · rw [exec_fwChunkProgrammed, doFwProgrammed_of_unread hfind, nextEntry_of_room hroom]
    rfl
  · rw [exec_fwChunkProgrammed, doFwProgrammed_of_unread hfind]
    rfl
  · rw [exec_fwChunkProgrammed, doFwProgrammed_of_part hfind hpart]
    rfl
  · rw [exec_fwChunkProgrammed, doFwProgrammed_of_whole hfind hwhole hcrc, setBankSet_eq]
    rfl
  · rw [exec_fwChunkProgrammed, doFwProgrammed_of_damaged hfind hwhole hcrc]
    rfl

end Sys2Proof.Machine
end

section
/-! Proofs about the host events (07): the writes to the event controller, its arbitrations and moderation windows, the waking
of the host. -/

namespace Sys2Proof.Machine

open Sys2Proof

/-! ### The targets of the controller (07 R155) -/

theorem onPage_of_exists {s : State} {t : Nat} (h : tgtExists s t = true) (f : Target → Target) : onPage s t f = updTgt s t f := if_pos h

theorem onPage_of_absent {s : State} {t : Nat} (h : tgtExists s t = false) (f : Target → Target) : onPage s t f = s :=
  if_neg (ne_true_of_eq_false h)

theorem hecTgt_updTgt_same (s : State) (t : Nat) (f : Target → Target) : hecTgt (updTgt s t f) t = f (hecTgt s t) :=
  (Tab.get_upd Target.init s.hec.tgt t t f).trans (if_pos rfl)

theorem hecTgt_updTgt_other {s : State} {t i : Nat} (hi : i ≠ t) (f : Target → Target) : hecTgt (updTgt s t f) i = hecTgt s i :=
  (Tab.get_upd Target.init s.hec.tgt t i f).trans (if_neg hi)

/-- Where `g` turns a target into what `h` says of it and leaves the others and what `h` says of them, carrying `g` out for
some targets turns each of these so, and no other. -/
theorem hecTgt_foldl {g : State → Nat → State} {h : State → Nat → Target} (hsame : ∀ s t, hecTgt (g s t) t = h s t)
    (hother : ∀ s t i, i ≠ t → hecTgt (g s t) i = hecTgt s i) (hkeep : ∀ s t i, i ≠ t → h (g s t) i = h s i)
    {l : List Nat} (hl : l.Nodup) (s : State) (i : Nat) : hecTgt (l.foldl g s) i = if i ∈ l then h s i else hecTgt s i := by
  induction l generalizing s with
  | nil => rfl
  | cons t l ih =>
    obtain ⟨ht, hl⟩ := List.nodup_cons.1 hl
    rw [List.foldl_cons, ih hl]
    by_cases hi : i = t
    · subst hi
      rw [if_neg ht, if_pos List.mem_cons_self, hsame]
    · rw [hkeep s t i hi, hother s t i hi]
      simp only [List.mem_cons, hi, false_or]

/-! ### The best of the deliverable sources (07 R160) -/

/-- `w` is, of the sources below m with priorities `p`, one of the highest priority and the first of these; its priority is not 0. -/
structure IsBest (p : Nat → Nat) (m : Nat) (w : Nat × Nat) : Prop where
  lt : w.1 < m
  prio : p w.1 = w.2
  pos : 0 < w.2
  best : ∀ n < m, p n < w.2 ∨ (p n = w.2 ∧ w.1 ≤ n)

/-- A list of sources below m that is empty where none has a priority, and else led by the best of them. -/
inductive LedByBest (p : Nat → Nat) (m : Nat) : List (Nat × Nat) → Prop
  | none (h : ∀ n < m, p n = 0) : LedByBest p m []
  | best {w : Nat × Nat} (r : List (Nat × Nat)) (h : IsBest p m w) : LedByBest p m (w :: r)

theorem IsBest.keep {p : Nat → Nat} {m : Nat} {w : Nat × Nat} (h : IsBest p m w) (hm : p m ≤ w.2) : IsBest p (m + 1) w where
  lt := Nat.lt_succ_of_lt h.lt
  prio := h.prio
  pos := h.pos
  best n hn := by
    rcases Nat.lt_succ_iff_lt_or_eq.1 hn with hlt | rfl
    · exact h.best n hlt
    · exact (Nat.lt_or_eq_of_le hm).imp_right fun heq => ⟨heq, Nat.le_of_lt h.lt⟩

theorem IsBest.deliverable {p : Nat → Nat} {m : Nat} {w : Nat × Nat} (h : IsBest p m w) : p w.1 ≠ 0 := by
  rw [h.prio]
  exact Nat.ne_of_gt h.pos

theorem isBest_of_last {p : Nat → Nat} {m : Nat} (h : ∀ n < m, p n < p m) (hm : 0 < p m) : IsBest p (m + 1) (m, p m) where
  lt := Nat.lt_succ_self m
  prio := rfl
  pos := hm
  best n hn := by
    rcases Nat.lt_succ_iff_lt_or_eq.1 hn with hlt | rfl
    · exact .inl (h n hlt)
    · exact .inr ⟨rfl, Nat.le_refl n⟩

theorem LedByBest.skip {p : Nat → Nat} {m : Nat} {l : List (Nat × Nat)} (h : LedByBest p m l) (hm : p m = 0) : LedByBest p (m + 1) l := by
  cases h with
  | none hnone =>
    refine .none fun n hn => ?_
    rcases Nat.lt_succ_iff_lt_or_eq.1 hn with hlt | rfl
    · exact hnone n hlt
    · exact hm
  | best r hw => exact .best r (hw.keep (by omega))

theorem LedByBest.insert {p : Nat → Nat} {m : Nat} {l : List (Nat × Nat)} (h : LedByBest p m l) (hm : 0 < p m) :
    LedByBest p (m + 1) (rankIns (m, p m) l) := by
  cases h with
  | none hnone => exact .best [] (isBest_of_last (fun n hn => by rw [hnone n hn]; exact hm) hm)
  | @best w r hw =>
    by_cases hlt : w.2 < p m
    · rw [rankIns, if_pos hlt]
      refine .best _ (isBest_of_last (fun n hn => ?_) hm)
      have := hw.best n hn
      omega
    · rw [rankIns, if_neg hlt]
      exact .best _ (hw.keep (Nat.le_of_not_lt hlt))

/-- The sources below m that have a priority, each inserted in its turn. -/
def rankBelow (p : Nat → Nat) (m : Nat) : List (Nat × Nat) :=
  (List.range m).foldl (fun l n => if p n = 0 then l else rankIns (n, p n) l) []

theorem ranking_eq (s : State) (t : Nat) : ranking s t = rankBelow (deliverPrio s t) 256 := rfl

theorem rankBelow_succ (p : Nat → Nat) (m : Nat) :
    rankBelow p (m + 1) = if p m = 0 then rankBelow p m else rankIns (m, p m) (rankBelow p m) := by
  rw [rankBelow, List.range_succ, List.foldl_append]
  rfl

theorem ledByBest_rankBelow (p : Nat → Nat) (m : Nat) : LedByBest p m (rankBelow p m) := by
  induction m with
  | zero => exact .none fun n hn => absurd hn (Nat.not_lt_zero n)
  | succ m ih =>
    rw [rankBelow_succ]
    split
    · next hzero => exact ih.skip hzero
    · next hpos => exact ih.insert (Nat.pos_of_ne_zero hpos)

/-- The first of the ranking of a target is the best of its deliverable sources. -/
theorem ledByBest_ranking (s : State) (t : Nat) : LedByBest (deliverPrio s t) 256 (ranking s t) := ledByBest_rankBelow _ 256

/-! ### Arbitration (07 R160) -/

/-- A change of the request line reaches the pending bits and the messages sent only. -/
theorem requestEdge_frame (s : State) (t : Nat) (was now : Bool) : requestEdge s t was now = { s with
    hp := { s.hp with pba := (requestEdge s t was now).hp.pba, sent := (requestEdge s t was now).hp.sent } } := by
  unfold requestEdge
  split
  · rfl
  · split
    · split
      · rfl
      · split <;> rfl
    · split <;> rfl

/-- Target t after its arbitration. -/
def arbitrated (s : State) (t : Nat) : Target :=
  let w := (ranking s t).headD (0, 0)
  { hecTgt s t with rank := ranking s t, best := w.1, bestPrio := w.2, req := !(ranking s t).isEmpty }

theorem arbitrated_frame (s : State) (t : Nat) : arbitrated s t = { hecTgt s t with
    rank := (arbitrated s t).rank, best := (arbitrated s t).best, bestPrio := (arbitrated s t).bestPrio, req := (arbitrated s t).req } := by
  rw [arbitrated]

/-- With nothing deliverable the target requests nothing; else its winner is the best of what is. -/
theorem arbitrated_cases (s : State) (t : Nat) :
    ((∀ n < 256, deliverPrio s t n = 0) ∧ (arbitrated s t).req = false ∧ (arbitrated s t).best = 0 ∧ (arbitrated s t).bestPrio = 0) ∨
    ((arbitrated s t).req = true ∧ IsBest (deliverPrio s t) 256 ((arbitrated s t).best, (arbitrated s t).bestPrio)) := by
  have hled := ledByBest_ranking s t
  simp only [arbitrated]
  generalize ranking s t = l at hled ⊢
  cases hled with
  | none hnone => exact .inl ⟨hnone, rfl, rfl, rfl⟩
  | best r hbest => exact .inr ⟨rfl, hbest⟩

theorem arbitrate_of_exists {s : State} {t : Nat} (h : tgtExists s t = true) :
    arbitrate s t = requestEdge (updTgt s t fun _ => arbitrated s t) t (hecTgt s t).req (!(ranking s t).isEmpty) :=
  if_neg (by simp [h])

theorem arbitrate_of_absent {s : State} {t : Nat} (h : tgtExists s t = false) : arbitrate s t = s := if_pos (by simp [h])

theorem arbitrate_frame (s : State) (t : Nat) : arbitrate s t = { s with
    hec := { s.hec with tgt := (arbitrate s t).hec.tgt }
    hp := { s.hp with pba := (arbitrate s t).hp.pba, sent := (arbitrate s t).hp.sent } } := by
  cases h : tgtExists s t with
  | false => rw [arbitrate_of_absent h]
  | true =>
    rw [arbitrate_of_exists h, requestEdge_frame]
    rfl

theorem foldl_arbitrate_frame (l : List Nat) (s : State) : l.foldl arbitrate s = { s with
    hec := { s.hec with tgt := (l.foldl arbitrate s).hec.tgt }
    hp := { s.hp with pba := (l.foldl arbitrate s).hp.pba, sent := (l.foldl arbitrate s).hp.sent } } := by
  induction l generalizing s with
  | nil => rfl
  | cons t l ih =>
    rw [List.foldl_cons, ih, arbitrate_frame]

theorem hecTgt_requestEdge (s : State) (t i : Nat) (was now : Bool) : hecTgt (requestEdge s t was now) i = hecTgt s i := by
  rw [requestEdge_frame]
  rfl

theorem hecTgt_arbitrate_same (s : State) (t : Nat) :
    hecTgt (arbitrate s t) t = if tgtExists s t = true then arbitrated s t else hecTgt s t := by
  cases h : tgtExists s t with
  | false => rw [arbitrate_of_absent h, if_neg Bool.false_ne_true]
  | true => rw [arbitrate_of_exists h, hecTgt_requestEdge, hecTgt_updTgt_same, if_pos rfl]

theorem hecTgt_arbitrate_other {s : State} {t i : Nat} (hi : i ≠ t) : hecTgt (arbitrate s t) i = hecTgt s i := by
  cases h : tgtExists s t with
  | false => rw [arbitrate_of_absent h]
  | true => rw [arbitrate_of_exists h, hecTgt_requestEdge, hecTgt_updTgt_other hi]

/-- What is deliverable at a target does not depend on the other targets, nor on the MSI-X vectors. -/
theorem deliverPrio_congr {s : State} {tgt : Tab Target} {t : Nat} (h : Tab.get tgt Target.init t = hecTgt s t) (pba : BitVec 8)
    (sent : Tab Nat) : deliverPrio { s with hec := { s.hec with tgt := tgt }, hp := { s.hp with pba := pba, sent := sent } } t =
      deliverPrio s t := by
  funext n
  simp only [deliverPrio, pendingPrio, hecTgt, h]
  rfl

theorem arbitrated_arbitrate_other {s : State} {t i : Nat} (hi : i ≠ t) : arbitrated (arbitrate s t) i = arbitrated s i := by
  have htgt : hecTgt (arbitrate s t) i = hecTgt s i := hecTgt_arbitrate_other hi
  have hprio : deliverPrio (arbitrate s t) i = deliverPrio s i := by
    rw [arbitrate_frame]
    exact deliverPrio_congr htgt _ _
  simp only [arbitrated, ranking_eq, hprio, htgt]

/-- Each target of the list is arbitrated on the state that the arbitration of all of them starts from. -/
theorem hecTgt_foldl_arbitrate {l : List Nat} (hl : l.Nodup) (s : State) (i : Nat) : hecTgt (l.foldl arbitrate s) i =
    if i ∈ l then (if tgtExists s i = true then arbitrated s i else hecTgt s i) else hecTgt s i :=
  hecTgt_foldl (h := fun s t => if tgtExists s t = true then arbitrated s t else hecTgt s t) hecTgt_arbitrate_same
    (fun _ _ _ => hecTgt_arbitrate_other)
    (fun s t i hi => by
      have hexists : tgtExists (arbitrate s t) i = tgtExists s i := by rw [arbitrate_frame]; rfl
      simp only [hexists, arbitrated_arbitrate_other hi, hecTgt_arbitrate_other hi]) hl s i

/-- The state that an arbitration at T10 count c sees. -/
def atArbitration (s : State) (c : Nat) : State :=
  { s with hec := { s.hec with lastArb := c }, fr := (advanceTo s c).fr }

theorem doArbitration_of_none {s : State} (h : s.md.mode = .reset ∨ s.fr.next < arbCount s ∨ s.hec.lastArb = arbCount s) :
    doArbitration s = s := if_pos h

theorem doArbitration_of_due {s : State} (hmode : s.md.mode ≠ .reset) (hnext : arbCount s ≤ s.fr.next)
    (hlast : s.hec.lastArb ≠ arbCount s) : doArbitration s = (List.range 8).foldl arbitrate (atArbitration s (arbCount s)) :=
  if_neg fun h => h.elim hmode fun h => h.elim (Nat.not_lt.2 hnext) hlast

/-- Moving device time on to an arbitration changes nothing that a target or a source holds. -/
theorem arbitrated_atArbitration (s : State) (c t : Nat) : arbitrated (atArbitration s c) t = arbitrated s t := rfl

theorem hecTgt_doArbitration {s : State} (hmode : s.md.mode ≠ .reset) (hnext : arbCount s ≤ s.fr.next)
    (hlast : s.hec.lastArb ≠ arbCount s) {t : Nat} (ht : t < 8) (hexists : tgtExists s t = true) :
    hecTgt (doArbitration s) t = arbitrated s t := by
  have hseen : tgtExists (atArbitration s (arbCount s)) t = true := hexists
  rw [doArbitration_of_due hmode hnext hlast, hecTgt_foldl_arbitrate List.nodup_range, if_pos (List.mem_range.2 ht), if_pos hseen,
    arbitrated_atArbitration]

/-! ### The end of a moderation window (07 R164) -/

theorem doWindowEnd_of_closed {s : State} {t : Nat} (h : (hecTgt s t).window = none) : doWindowEnd s t = s := by
  rw [doWindowEnd, h]

theorem doWindowEnd_of_open {s : State} {t e : Nat} (h : (hecTgt s t).window = some e) : doWindowEnd s t =
    if s.fr.t10 < e ∧ s.fr.next ≤ e then s else updTgt (advanceTo s e) t fun T => { T with window := none } := by
  rw [doWindowEnd, h]

/-- Settles O10: the ranking of each target is led by the best of its deliverable sources, and no target's arbitration reaches another;
a window by whether it is open and ends before the tick. -/
theorem arbitrationPicksTheHighestPriority : Obligations.ArbitrationPicksTheHighestPriority := by
  refine ⟨fun s => ⟨fun hnone => ?_, fun hmode hnext hlast => ⟨doArbitration s, rfl, ?_, fun t ht hexists => ?_⟩⟩, fun t s => ?_⟩
  · have hexec : exec .hecArbitration s = .next (settle s (doArbitration s)) := rfl
    rw [hexec, doArbitration_of_none hnone]
  · rw [doArbitration_of_due hmode hnext hlast, foldl_arbitrate_frame]
    rfl
  · rw [hecTgt_doArbitration hmode hnext hlast ht hexists]
    refine ⟨arbitrated_frame s t, ?_⟩
    rcases arbitrated_cases s t with ⟨hnone, hreq, hsrc, hprio⟩ | ⟨hreq, hbest⟩
    · simpa [hreq, hsrc, hprio] using hnone
    · simpa [hreq] using ⟨⟨_, hbest.lt, hbest.deliverable⟩, hbest.lt, hbest.prio, hbest.best⟩
  · have hexec : exec (.moderationWindowEnd t) s = .next (settle s (doWindowEnd s t)) := rfl
    rw [hexec]
    refine ⟨fun e hopen hahead htick => ?_, fun e hopen hbefore => ?_, fun hclosed => ?_⟩
    · rw [doWindowEnd_of_open hopen, if_pos ⟨hahead, htick⟩]
    · rw [doWindowEnd_of_open hopen, if_neg (by omega)]
    · rw [doWindowEnd_of_closed hclosed]

/-! ### The host's writes to the controller (07 R157, R163, R165, R169, R170) -/

/-- Setting the bits of a mask, and clearing them, by what the mask holds. -/
theorem or_eq_ofBits {n : Nat} {m : BitVec n} {f : Nat → Bool} (h : ∀ i < n, m.getLsbD i = f i) (w : BitVec n) :
    w ||| m = ofBits n fun i => w.getLsbD i || f i :=
  ofBits_eq _ _ fun i hi => by rw [BitVec.getLsbD_or, h i hi]

theorem and_not_eq_ofBits {n : Nat} {m : BitVec n} {f : Nat → Bool} (h : ∀ i < n, m.getLsbD i = f i) (w : BitVec n) :
    w &&& ~~~ m = ofBits n fun i => w.getLsbD i && !f i :=
  ofBits_eq _ _ fun i hi => by rw [BitVec.getLsbD_and, BitVec.getLsbD_not, h i hi, decide_eq_true hi, Bool.true_and]

theorem getLsbD_lowByte (v : Word) {i : Nat} (hi : i < 8) : (BitVec.ofNat 8 (v.toNat % 256)).getLsbD i = v.getLsbD i := by
  rw [BitVec.getLsbD_ofNat, Nat.testBit_mod_two_pow v.toNat 8 i, decide_eq_true hi, Bool.true_and, Bool.true_and, testBit_getLsbD]

theorem getLsbD_softBits (v : Word) (i : Nat) (hi : i < 8) : (softBits v).getLsbD i = (decide (4 ≤ i) && v.getLsbD i) := by
  have hmask : ∀ i < 8, (0xF0#8).getLsbD i = decide (4 ≤ i) := by decide
  rw [softBits, BitVec.getLsbD_and, getLsbD_lowByte v hi, hmask i hi, Bool.and_comm]

theorem getLsbD_privBits (v : Word) (i : Nat) (hi : i < 8) : (privBits v).getLsbD i = (decide (1 ≤ i) && v.getLsbD i) := by
  have hmask : ∀ i < 8, (0xFE#8).getLsbD i = decide (1 ≤ i) := by decide
  rw [privBits, BitVec.getLsbD_and, getLsbD_lowByte v hi, hmask i hi, Bool.and_comm]

theorem getLsbD_sharedWord (w : Nat) (v : Word) (n : Nat) (hn : n < 256) :
    (sharedWord w v).getLsbD n = (decide (16 ≤ n) && decide (n / 32 = w) && v.getLsbD (n % 32)) := by
  have hprivate : (0xFFFF#256).getLsbD n = decide (n < 16) := by
    rw [BitVec.getLsbD_ofNat, Nat.testBit_two_pow_sub_one 16 n, decide_eq_true hn, Bool.true_and]
  rw [sharedWord, BitVec.getLsbD_and, BitVec.getLsbD_not, getLsbD_spread, hprivate, decide_eq_true hn, Bool.true_and, Bool.true_and,
    Bool.and_comm, ← decide_not, decide_eq_decide.2 Nat.not_lt, Bool.and_assoc]

/-- HEC_STACK_RESET at target t. -/
def resetStack (v : Word) (s : State) (t : Nat) : State :=
  if v.getLsbD t = true then onPage s t (fun T => { T with stack := [], window := none }) else s

theorem doStackReset_eq (s : State) (v : Word) : doStackReset s v = (List.range 8).foldl (resetStack v) s := rfl

theorem resetStack_of_due {v : Word} {s : State} {t : Nat} (h : v.getLsbD t = true ∧ tgtExists s t = true) :
    resetStack v s t = updTgt s t fun T => { T with stack := [], window := none } :=
  (if_pos h.1).trans (onPage_of_exists h.2 _)

theorem resetStack_of_not_due {v : Word} {s : State} {t : Nat} (h : ¬(v.getLsbD t = true ∧ tgtExists s t = true)) : resetStack v s t = s := by
  unfold resetStack
  split
  · next hbit => exact onPage_of_absent (eq_false_of_ne_true fun hexists => h ⟨hbit, hexists⟩) _
  · rfl

theorem resetStack_frame (v : Word) (s : State) (t : Nat) : resetStack v s t = { s with hec := { s.hec with tgt := (resetStack v s t).hec.tgt } } := by
  by_cases h : v.getLsbD t = true ∧ tgtExists s t = true
  · rw [resetStack_of_due h]
    rfl
  · rw [resetStack_of_not_due h]

theorem foldl_resetStack_frame (v : Word) (l : List Nat) (s : State) :
    l.foldl (resetStack v) s = { s with hec := { s.hec with tgt := (l.foldl (resetStack v) s).hec.tgt } } := by
  induction l generalizing s with
  | nil => rfl
  | cons t l ih =>
    rw [List.foldl_cons, ih, resetStack_frame]

/-- Target t after HEC_STACK_RESET. -/
def stackResetTgt (v : Word) (s : State) (t : Nat) : Target :=
  if v.getLsbD t = true ∧ tgtExists s t = true then { hecTgt s t with stack := [], window := none } else hecTgt s t

theorem hecTgt_resetStack_same (v : Word) (s : State) (t : Nat) : hecTgt (resetStack v s t) t = stackResetTgt v s t := by
  unfold stackResetTgt
  split
  · next h => rw [resetStack_of_due h, hecTgt_updTgt_same]
  · next h => rw [resetStack_of_not_due h]

theorem hecTgt_resetStack_other (v : Word) (s : State) (t i : Nat) (hi : i ≠ t) : hecTgt (resetStack v s t) i = hecTgt s i := by
  by_cases h : v.getLsbD t = true ∧ tgtExists s t = true
  · rw [resetStack_of_due h, hecTgt_updTgt_other hi]
  · rw [resetStack_of_not_due h]

theorem stackResetTgt_resetStack_other (v : Word) (s : State) (t i : Nat) (hi : i ≠ t) :
    stackResetTgt v (resetStack v s t) i = stackResetTgt v s i := by
  have hexists : tgtExists (resetStack v s t) i = tgtExists s i := by rw [resetStack_frame]; rfl
  rw [stackResetTgt, stackResetTgt, hexists, hecTgt_resetStack_other v s t i hi]

theorem hecTgt_doStackReset (s : State) (v : Word) (t : Nat) : hecTgt (doStackReset s v) t =
    if t < 8 ∧ v.getLsbD t = true ∧ tgtExists s t = true then { hecTgt s t with stack := [], window := none } else hecTgt s t := by
  rw [doStackReset_eq, hecTgt_foldl (hecTgt_resetStack_same v) (hecTgt_resetStack_other v) (stackResetTgt_resetStack_other v) List.nodup_range]
  by_cases ht : t < 8
  · simp only [List.mem_range, stackResetTgt, ht, true_and, if_true]
  · simp only [List.mem_range, ht, false_and, if_false]

/-- Settles O8: the bits that each write takes of its word, the page of a target by whether the target exists, and the stacks target by
target. -/
theorem hecWritesActOnEnablesAndTargets : Obligations.HecWritesActOnEnablesAndTargets := by
  refine ⟨fun w v s hup => ⟨?_, ?_⟩, fun t v s hup => ?_, fun v s hup => ⟨doStackReset s v, done_hostAccess_of_up hup, ?_,
    hecTgt_doStackReset s v⟩⟩
  · rw [← or_eq_ofBits (getLsbD_sharedWord w v)]
    exact done_hostAccess_of_up hup
  · rw [← and_not_eq_ofBits (getLsbD_sharedWord w v)]
    exact done_hostAccess_of_up hup
  · have hset : exec (.hecSetpend t v) s = .next (settle s (doSetpend s t v)) := done_hostAccess_of_up hup
    have hclear : exec (.hecClrpend t v) s = .next (settle s (doClrpend s t v)) := done_hostAccess_of_up hup
    have hpset : exec (.hecPseten t v) s = .next (settle s (doPseten s t v)) := done_hostAccess_of_up hup
    have hpclear : exec (.hecPclren t v) s = .next (settle s (doPclren s t v)) := done_hostAccess_of_up hup
    have hsleep : exec (.hecSleepWrite t v) s = .next (settle s (doSleep s t v)) := done_hostAccess_of_up hup
    constructor
    · intro hexists
      simp only [hset, hclear, hpset, hpclear, hsleep, doSetpend, doClrpend, doPseten, doPclren, doSleep, onPage_of_exists hexists,
        or_eq_ofBits (getLsbD_softBits v), and_not_eq_ofBits (getLsbD_softBits v), or_eq_ofBits (getLsbD_privBits v),
        and_not_eq_ofBits (getLsbD_privBits v), testBit_getLsbD, and_self]
    · intro habsent
      simp only [List.forall_mem_cons, hset, hclear, hpset, hpclear, hsleep, doSetpend, doClrpend, doPseten, doPclren, doSleep,
        onPage_of_absent habsent, List.not_mem_nil, false_imp_iff, implies_true, and_self]
  · rw [doStackReset_eq, foldl_resetStack_frame]

/-! ### The waking of the host (07 R166) -/

theorem pmeRaise_of_silent {s : State} (h : s.md.straps.hostsel = true ∨ s.hp.pmeStatus = true) : pmeRaise s = s :=
  if_pos (by simpa using h)

theorem add_b2n (n : Nat) (b : Bool) : n + b2n b = if b = true then n + 1 else n := by
  cases b <;> rfl

theorem pmeRaise_of_pcie {s : State} (hsel : s.md.straps.hostsel = false) (hstatus : s.hp.pmeStatus = false) : pmeRaise s = { s with
    hp := { s.hp with pmeStatus := true, pmeSent := if s.hp.pmeEn = true then s.hp.pmeSent + 1 else s.hp.pmeSent } } := by
  rw [← add_b2n]
  exact if_neg (by simp [hsel, hstatus])

/-- WAKE# driven, with WAKE_SEEN. -/
def woken (s : State) : State := { s with hec := { s.hec with wake := true, wakeSeen := true } }

theorem doSillageWake_of_due {s : State} (hmode : s.md.mode ≠ .reset) (hwake : s.hec.wake = false) (hany : anyWake s = true) :
    doSillageWake s = pmeRaise (woken s) :=
  if_neg (by simp [hmode, hwake, hany])

theorem doSillageWake_of_none {s : State} (h : s.hec.wake = true ∨ anyWake s = false) : doSillageWake s = s :=
  if_pos (by rcases h with h | h <;> simp [h])

theorem doWakeRelease_of_standing {s : State} (h : anyWake s = true) : doWakeRelease s = s := if_pos h

theorem doWakeRelease_of_none {s : State} (h : anyWake s = false) : doWakeRelease s = { s with hec := { s.hec with wake := false } } :=
  if_neg (ne_true_of_eq_false h)

theorem doPmeEn_of_pcie {s : State} (hsel : s.md.straps.hostsel = false) (b : Bool) : doPmeEn s b = { s with hp := { s.hp with
    pmeEn := b
    pmeSent := if b = true ∧ s.hp.pmeEn = false ∧ s.hp.pmeStatus = true then s.hp.pmeSent + 1 else s.hp.pmeSent } } := by
  rw [doPmeEn, hsel, add_b2n]
  simp only [Bool.false_eq_true, if_false, Bool.and_eq_true, Bool.not_eq_true', and_assoc]

theorem doPmeRepeat_of_pcie {s : State} (hsel : s.md.straps.hostsel = false) : doPmeRepeat s = { s with hp := { s.hp with
    pmeSent := if s.hp.pmeStatus = true ∧ s.hp.pmeEn = true then s.hp.pmeSent + 1 else s.hp.pmeSent } } := by
  by_cases h : s.hp.pmeStatus = true ∧ s.hp.pmeEn = true
  · rw [if_pos h]
    exact if_pos (by simp [h, hsel])
  · rw [if_neg h]
    exact if_neg (by simpa [hsel] using h)

/-- Settles O11: WAKE# and PME_Status by whether a condition stands, and the messages by PME_En and PME_Status. -/
theorem sillageWakesTheHost : Obligations.SillageWakesTheHost := by
  intro s b
  have hwake : exec .sillageWake s = .next (settle s (doSillageWake s)) := rfl
  have hrelease : exec .wakeRelease s = .next (settle s (doWakeRelease s)) := rfl
  have henable : exec (.pmeEnWrite b) s = .next (settle s (doPmeEn s b)) := rfl
  have hrepeat : exec .pmPmeRepeat s = .next (settle s (doPmeRepeat s)) := rfl
  rw [hwake, hrelease, henable, hrepeat]
  refine ⟨fun hmode hidle hany => ⟨fun hsilent => ?_, fun hsel hstatus => ?_⟩, fun hnone => ?_, fun hnone => ?_, fun hany => ?_,
    fun hsel => ?_, fun hsel => ?_, rfl⟩
  · rw [doSillageWake_of_due hmode hidle hany, pmeRaise_of_silent (s := woken s) hsilent]
    rfl
  · rw [doSillageWake_of_due hmode hidle hany, pmeRaise_of_pcie (s := woken s) hsel hstatus]
    rfl
  · rw [doSillageWake_of_none hnone]
  · rw [doWakeRelease_of_none hnone]
  · rw [doWakeRelease_of_standing hany]
  · rw [doPmeEn_of_pcie hsel]
  · rw [doPmeRepeat_of_pcie hsel]

end Sys2Proof.Machine
end

section
/-! Proofs about the digital I/O (08): the inputs and their test pulses, the outputs under load, the supply of an output group,
the field watchdog and the end of a dark test. -/

namespace Sys2Proof.Machine

open Sys2Proof

/-- A choice within a choice that has the same other outcome. -/
theorem ite_ite_eq_ite_and {α : Sort _} (p q : Prop) [Decidable p] [Decidable q] (a b : α) :
    (if p then (if q then a else b) else b) = if p ∧ q then a else b := by
  by_cases hp : p
  · simp only [hp, if_true, true_and]
  · simp only [hp, if_false, false_and]

/-! ### The tables of the digital I/O: a read after a write -/

theorem doCh_updDo (s : State) (c : Nat) (f : DoCh → DoCh) (i : Nat) :
    doCh (updDo s c f) i = if i = c then f (doCh s i) else doCh s i := Tab.get_upd ..

theorem doGrp_updGrp (s : State) (g : Nat) (f : DoGroup → DoGroup) (i : Nat) :
    doGrp (updGrp s g f) i = if i = g then f (doGrp s i) else doGrp s i := Tab.get_upd ..

theorem tpGen_updTp (s : State) (k : Nat) (f : TpGen → TpGen) (i : Nat) :
    tpGen (updTp s k f) i = if i = k then f (tpGen s k) else tpGen s i := by
  simp only [tpGen, updTp, Tab.get_upd]
  split
  · next hi => rw [hi]
  · rfl

/-- One change of several channels, one after the other. -/
theorem foldl_updDo (f : DoCh → DoCh) (key : Nat → Nat) (l : List Nat) (s : State) : l.foldl (fun s i => updDo s (key i) f) s =
    { s with dio := { s.dio with ch := Tab.updMany s.dio.ch DoCh.init (l.map key) fun _ => f } } := by
  induction l generalizing s with
  | nil => rfl
  | cons i l ih =>
    rw [List.foldl_cons, ih]
    rfl

/-- One change of several groups, one after the other. -/
theorem foldl_updGrp (f : DoGroup → DoGroup) (l : List Nat) (s : State) : l.foldl (fun s g => updGrp s g f) s =
    { s with dio := { s.dio with grp := Tab.updMany s.dio.grp DoGroup.init l fun _ => f } } := by
  induction l generalizing s with
  | nil => rfl
  | cons g l ih =>
    rw [List.foldl_cons, ih]
    rfl

/-- Each of the first n items is changed from what it held before. -/
theorem Tab.get_updMany_range {α : Type} [DecidableEq α] (d : α) (t : Tab α) (f : Nat → α → α) {n k : Nat} (hk : k < n) :
    Tab.get (Tab.updMany t d (List.range n) f) d k = f k (Tab.get t d k) :=
  (Tab.get_updMany d t _ f List.nodup_range k).trans (if_pos (List.mem_range.2 hk))

theorem mem_bitsSet (v n i : Nat) : i ∈ bitsSet v n ↔ i < n ∧ v.testBit i = true := by
  rw [bitsSet, List.mem_filter, List.mem_range]

theorem bitsSet_nodup (v n : Nat) : (bitsSet v n).Nodup := List.nodup_range.filter _

/-! ### The samples of the inputs (08 R174-R176, R178) -/

theorem doSample_of_idle {s : State} (di : BitVec 96) (si : BitVec 32) (h : s.md.mode = .reset ∨ s.fr.next < nextSample s) :
    doSample s di si = s := if_pos (by simpa using h)

theorem doSample_of_due {s : State} (di : BitVec 96) (si : BitVec 32) (hm : s.md.mode ≠ .reset) (hnext : nextSample s ≤ s.fr.next) :
    doSample s di si = sampleInputs (advanceTo s (nextSample s)) (nextSample s) di si := if_neg (by simp [hm, hnext])

section
variable (s : State) (t : Nat) (di : BitVec 96) (si : BitVec 32)

theorem sampleInputs_frame : sampleInputs s t di si = { s with dio := { s.dio with
    di := (sampleInputs s t di si).dio.di, si := (sampleInputs s t di si).dio.si
    diT := (sampleInputs s t di si).dio.diT, siT := (sampleInputs s t di si).dio.siT, smp := t + 100 } } := by
  rw [sampleInputs]

variable (e : Nat) {c : Nat}

/-- An input that is held stays as it is; the filter of any other takes a step. -/
theorem diFilt_sampleInputs (hc : c < 96) : diFilt (sampleInputs (advanceTo s e) t di si) c =
    if held s 0x0201 c t = true then diFilt s c else filtStep (filtN s 0x0201 c) t (diRaw s di c) (diFilt s c) := by
  simp only [diFilt, sampleInputs, Tab.get_updMany_range _ _ _ hc]
  rfl

theorem siFilt_sampleInputs (hc : c < 32) : siFilt (sampleInputs (advanceTo s e) t di si) c =
    if held s 0x0202 c t = true then siFilt s c else filtStep (filtN s 0x0202 c) t (si.getLsbD c) (siFilt s c) := by
  simp only [siFilt, sampleInputs, Tab.get_updMany_range _ _ _ hc]
  rfl

/-- An input in a pulse counts its raw zeros. -/
theorem diTest_sampleInputs (hc : c < 96) : diTest (sampleInputs (advanceTo s e) t di si) c =
    if inPulse s 0x0201 c t = true then runStep (diRaw s di c) (diTest s c) else diTest s c := by
  simp only [diTest, sampleInputs, Tab.get_updMany_range _ _ _ hc]
  rfl

theorem siTest_sampleInputs (hc : c < 32) : siTest (sampleInputs (advanceTo s e) t di si) c =
    if inPulse s 0x0202 c t = true then runStep (si.getLsbD c) (siTest s c) else siTest s c := by
  simp only [siTest, sampleInputs, Tab.get_updMany_range _ _ _ hc]
  rfl

end

/-! ### The test pulses (08 R177-R180) -/

theorem mem_fedBy (s : State) (ty n k c : Nat) : c ∈ fedBy s ty n k ↔ c < n ∧ tpSource s ty c = some k := by
  rw [fedBy, List.mem_filter, List.mem_range, decide_eq_true_eq]

theorem fedBy_nodup (s : State) (ty n k : Nat) : (fedBy s ty n k).Nodup := List.nodup_range.filter _

/-- The tests of the DI `ds` and of the SI `ss` change by `f`. -/
def updTests (ds ss : List Nat) (f : TpTest → TpTest) (s : State) : State :=
  { s with dio := { s.dio with
    diT := Tab.updMany s.dio.diT TpTest.init ds fun _ => f
    siT := Tab.updMany s.dio.siT TpTest.init ss fun _ => f } }

/-- The test of each input that generator k feeds changes by `f`. -/
def updFed (s : State) (k : Nat) (f : TpTest → TpTest) (u : State) : State :=
  updTests (fedBy s 0x0201 96 k) (fedBy s 0x0202 32 k) f u

theorem updTests_frame (ds ss : List Nat) (f : TpTest → TpTest) (s : State) : updTests ds ss f s = { s with dio := { s.dio with
    diT := (updTests ds ss f s).dio.diT, siT := (updTests ds ss f s).dio.siT } } := rfl

theorem updFed_frame (s : State) (k : Nat) (f : TpTest → TpTest) (u : State) : updFed s k f u = { u with dio := { u.dio with
    diT := (updFed s k f u).dio.diT, siT := (updFed s k f u).dio.siT } } := updTests_frame ..

theorem diTest_updFed (s : State) (k : Nat) (f : TpTest → TpTest) (u : State) {c : Nat} (hc : c < 96) :
    diTest (updFed s k f u) c = if tpSource s 0x0201 c = some k then f (diTest u c) else diTest u c := by
  simp only [diTest, updFed, updTests, Tab.get_updMany _ _ _ _ (fedBy_nodup ..), mem_fedBy, hc, true_and]

theorem siTest_updFed (s : State) (k : Nat) (f : TpTest → TpTest) (u : State) {c : Nat} (hc : c < 32) :
    siTest (updFed s k f u) c = if tpSource s 0x0202 c = some k then f (siTest u c) else siTest u c := by
  simp only [siTest, updFed, updTests, Tab.get_updMany _ _ _ _ (fedBy_nodup ..), mem_fedBy, hc, true_and]

/-- The slot of generator k has come, a period after the pulse before (08 R177). -/
theorem pulseDue_iff (s : State) (k t : Nat) : pulseDue s k t = true ↔ (tpGen s k).on = true ∧ (tpGen s k).pulse = false ∧
    (cfgRec s 0x0203 k).isSome = true ∧ (t % 250000 = 0 ∧ t / 250000 % 8 = k ∧ (tpGen s k).from_ ≤ t) ∧
    ∀ p, (tpGen s k).prev = some p → p + tpPeriod s k ≤ t := by
  cases hprev : (tpGen s k).prev with
  | none => simp [pulseDue, hprev, and_assoc]
  | some p => simp [pulseDue, hprev, and_assoc]

/-- The longest run of an input begins anew with a pulse. -/
def runCleared (x : TpTest) : TpTest := { x with run := 0, best := 0 }

/-- Generator k is in a pulse that starts at T10 count `t`. -/
def pulseStarted (t : Nat) (g : TpGen) : TpGen := { g with pulse := true, prev := some t, skip := false }

theorem doPulseStart_of_due {s : State} {k dt : Nat} (h : pulseDue s k (advance s dt).fr.t10 = true) : doPulseStart s k dt =
    updFed s k runCleared (updTp (advance s dt) k (pulseStarted (advance s dt).fr.t10)) := if_pos h

theorem doPulseStart_of_not_due {s : State} {k dt : Nat} (h : ¬pulseDue s k (advance s dt).fr.t10 = true) :
    doPulseStart s k dt = advance s dt := if_neg h

/-- An input fails by its generator. -/
def testFailed (x : TpTest) : TpTest := { x with failing := true, passes := 0 }

/-- The verdict of a pulse, by the run of the input, then by its failure, then by the pulse passed since. -/
theorem pulseVerdict_eq (skip : Bool) (x : TpTest) : pulseVerdict skip x =
    if x.best < 50 then testFailed x
    else if x.failing = false ∨ skip = true then x
    else if x.passes = 0 then { x with passes := 1 } else { x with failing := false, passes := 0 } := by
  unfold pulseVerdict testFailed
  by_cases hrun : x.best < 50
  · rw [if_neg (Nat.not_le.2 hrun), if_pos hrun]
  · rw [if_pos (Nat.not_lt.1 hrun), if_neg hrun]
    have hcounts : (x.failing && !skip) = true ↔ ¬(x.failing = false ∨ skip = true) := by
      cases x.failing <;> cases skip <;> decide
    by_cases hstays : x.failing = false ∨ skip = true
    · rw [if_neg fun h => hcounts.1 h hstays, if_pos hstays]
    · rw [if_pos (hcounts.2 hstays), if_neg hstays]
      by_cases hfirst : x.passes = 0
      · rw [if_neg (by omega), if_pos hfirst, hfirst]
      · rw [if_pos (by omega), if_neg hfirst]

/-- The pulses of a faulty generator that passed in a row since its fault; one that began before the fault counts for none. -/
def passesInRow (ok : Bool) (g : TpGen) : Nat :=
  if ok = true then g.faultPasses + b2n (!g.skip) else 0

/-- The generator ends its pulse at T10 count `e`. -/
def pulseEnded (ok : Bool) (e : Nat) (g : TpGen) : TpGen :=
  { g with
    pulse := false, holdEnd := e + 10000, faultPasses := passesInRow ok g, fault := g.fault && decide (passesInRow ok g < 2)
    flag := g.flag || !ok }

/-- Generator k ends its pulse at T10 count `e`, with the verdict of each input it feeds. -/
def pulseOver (s : State) (k : Nat) (ok : Bool) (e : Nat) : State :=
  let u := updFed s k (pulseVerdict (tpGen s k).skip) (updTp (advanceTo s e) k (pulseEnded ok e))
  { u with dio := { u.dio with event := if ok = true then s.dio.event else bset s.dio.event 28 } }

theorem passesInRow_eq (ok : Bool) (g : TpGen) :
    passesInRow ok g = if ok = true then (if g.skip = true then g.faultPasses else g.faultPasses + 1) else 0 := by
  unfold passesInRow
  cases g.skip <;> rfl

theorem pulsePasses_advanceTo (s : State) (t k : Nat) : pulsePasses (advanceTo s t) k = pulsePasses s k := rfl

theorem doPulseEnd_of_idle {s : State} {k : Nat}
    (h : (tpGen s k).pulse = false ∨ s.fr.next ≤ (tpGen s k).prev.getD 0 + tpWidth s k) : doPulseEnd s k = s := if_pos (by simpa using h)

theorem doPulseEnd_of_due {s : State} {k : Nat} (hpulse : (tpGen s k).pulse = true)
    (hnext : (tpGen s k).prev.getD 0 + tpWidth s k < s.fr.next) :
    doPulseEnd s k = pulseOver s k (pulsePasses s k) ((tpGen s k).prev.getD 0 + tpWidth s k) := by
  refine (if_neg (by simp [hpulse, hnext])).trans ?_
  generalize (tpGen s k).prev.getD 0 + tpWidth s k = e
  rw [pulsePasses_advanceTo]
  cases pulsePasses s k <;> rfl

/-- Generator k has a fault: a pulse that it is in counts for nothing. -/
def genFailed (g : TpGen) : TpGen := { g with fault := true, faultPasses := 0, flag := true, skip := g.pulse }

theorem doTpFault_of_off {s : State} {k : Nat} (h : (tpGen s k).on = false) : doTpFault s k = s := if_pos (by simp [h])

theorem doTpFault_of_on {s : State} {k : Nat} (h : (tpGen s k).on = true) :
    doTpFault s k = dioEvent (updFed s k testFailed (updTp s k genFailed)) 28 := if_neg (by simp [h])

theorem exec_diSiSample (di : BitVec 96) (si : BitVec 32) (s : State) :
    exec (.diSiSample di si) s = .next (settle s (doSample s di si)) := rfl

theorem exec_testPulseStart (k : Fin 8) (dt : Nat) (s : State) :
    exec (.testPulseStart k dt) s = .next (settle s (doPulseStart s k.val dt)) := rfl

theorem exec_testPulseEnd (k : Fin 8) (s : State) : exec (.testPulseEnd k) s = .next (settle s (doPulseEnd s k.val)) := rfl

theorem exec_tpGeneratorFault (k : Fin 8) (s : State) : exec (.tpGeneratorFault k) s = .next (settle s (doTpFault s k.val)) := rfl

/-- Settles O40: each input by its filter and its generator, each generator by its slot and its pulse. -/
theorem inputsAreFilteredAndTested : Obligations.InputsAreFilteredAndTested := by
  refine ⟨fun di si s hm hnext => ⟨_, exec_diSiSample di si s, ?_⟩, fun di si s hidle => ?_, fun k dt s => ?_, fun k s => ?_⟩
  · rw [doSample_of_due di si hm hnext]
    refine ⟨?_, fun c hc => ?_, fun c hc => ?_, fun c hc => diTest_sampleInputs s _ di si _ hc,
      fun c hc => siTest_sampleInputs s _ di si _ hc⟩
    · rw [sampleInputs_frame]
      rfl
    · rw [diFilt_sampleInputs s _ di si _ hc]
      by_cases hheld : held s 0x0201 c (nextSample s) = true
      · simp only [if_pos hheld]
      · simp only [if_neg hheld]
        exact ⟨rfl, rfl, rfl⟩
    · rw [siFilt_sampleInputs s _ di si _ hc]
      by_cases hheld : held s 0x0202 c (nextSample s) = true
      · simp only [if_pos hheld]
      · simp only [if_neg hheld]
        exact ⟨rfl, rfl⟩
  · rw [exec_diSiSample, doSample_of_idle di si hidle]
  · intro a t g
    have hiff : pulseDue s k.val t = true ↔ _ := pulseDue_iff s k.val t
    rw [exec_testPulseStart]
    refine ⟨fun hon hpulse hrec hslot hmine hfrom hperiod => ⟨_, rfl, ?_⟩, fun hnone => ?_⟩
    · rw [doPulseStart_of_due (hiff.2 ⟨hon, hpulse, hrec, ⟨hslot, hmine, hfrom⟩, hperiod⟩)]
      refine ⟨?_, fun j => tpGen_updTp a k.val (pulseStarted t) j, fun c hc => diTest_updFed s k.val runCleared _ hc,
        fun c hc => siTest_updFed s k.val runCleared _ hc⟩
      rw [updFed_frame]
      rfl
    · rw [doPulseStart_of_not_due]
      intro hdue
      obtain ⟨hon, hpulse, -, ⟨hslot, hmine, -⟩, -⟩ := hiff.1 hdue
      rcases hnone with h | h | h | h
      · exact ne_true_of_eq_false h hon
      · exact ne_true_of_eq_false hpulse h
      · exact h hslot
      · exact h hmine
  · intro g e judge fail
    have hjudge : pulseVerdict g.skip = judge := funext (pulseVerdict_eq g.skip)
    refine ⟨fun hpulse hnext => ⟨_, exec_testPulseEnd k s, ?_⟩, fun hidle => ?_, fun hon => ⟨_, exec_tpGeneratorFault k s, ?_⟩,
      fun hoff => ?_⟩
    · rw [doPulseEnd_of_due hpulse hnext, ← hjudge]
      refine ⟨?_, ?_, fun j hj => ?_, fun c hc => diTest_updFed s k.val (pulseVerdict g.skip) _ hc,
        fun c hc => siTest_updFed s k.val (pulseVerdict g.skip) _ hc⟩
      · rw [pulseOver, updFed_frame]
        rfl
      · rw [← passesInRow_eq]
        exact (tpGen_updTp (advanceTo s e) k.val (pulseEnded (pulsePasses s k.val) e) k.val).trans (if_pos rfl)
      · exact (tpGen_updTp (advanceTo s e) k.val (pulseEnded (pulsePasses s k.val) e) j).trans (if_neg hj)
    · rw [exec_testPulseEnd, doPulseEnd_of_idle hidle]
    · rw [doTpFault_of_on hon]
      refine ⟨?_, fun j => tpGen_updTp s k.val genFailed j, fun c hc => diTest_updFed s k.val testFailed _ hc,
        fun c hc => siTest_updFed s k.val testFailed _ hc⟩
      rw [updFed_frame]
      rfl
    · rw [exec_tpGeneratorFault, doTpFault_of_off hoff]

/-! ### The outputs under load (08 R181-R186, R189) -/

/-- Channel c is switched off by an overload, until a retry. -/
def heldOff (s : State) (c : Nat) : State :=
  let u := updDo s c fun d => { d with held := true }
  { u with dio := { u.dio with ovl := bset s.dio.ovl c } }

/-- Channel c is switched off by an overload after its last retry, and latched off. -/
def latchedOff (s : State) (c : Nat) : State :=
  let u := updDo s c fun d => { d with latchOff := true, held := false, release := 0 }
  { u with dio := { u.dio with ovl := bset s.dio.ovl c, latched := bset s.dio.latched c } }

theorem doCh_latchedOff (s : State) (c i : Nat) : doCh (latchedOff s c) i =
    if i = c then { doCh s c with latchOff := true, held := false, release := 0 } else doCh s i := by
  refine (doCh_updDo s c (fun d => { d with latchOff := true, held := false, release := 0 }) i).trans ?_
  split
  · next hi => rw [hi]
  · rfl

theorem doOverloadAt_of_off {s : State} {c dt : Nat} (h : doIsOn (advance s dt) c = false) : doOverloadAt s c dt = advance s dt :=
  if_pos (by rw [h]; rfl)

/-- An overload switches a channel off until a retry, after the last one for good (08 R183). -/
theorem doOverloadAt_of_on {s : State} {c dt : Nat} (h : doIsOn (advance s dt) c = true) : doOverloadAt s c dt =
    if u8 (cfgBody s 0x0204 c) 2 ≤ (doCh s c).retries then latchedOff (advance s dt) c else heldOff (advance s dt) c := by
  refine (if_neg (c := (!doIsOn (advance s dt) c) = true) (by simp [h])).trans ?_
  by_cases hlast : u8 (cfgBody s 0x0204 c) 2 ≤ (doCh s c).retries
  · have hlast' : decide (u8 (cfgBody (advance s dt) 0x0204 c) 2 ≤ (doCh (advance s dt) c).retries) = true := decide_eq_true hlast
    rw [if_pos hlast, hlast']
    rfl
  · have hlast' : decide (u8 (cfgBody (advance s dt) 0x0204 c) 2 ≤ (doCh (advance s dt) c).retries) = false := decide_eq_false hlast
    rw [if_neg hlast, hlast']
    rfl

/-- Channel c waits for its retry and is still commanded ON, in a group with supply. -/
def mayRetry (s : State) (c : Nat) : Prop :=
  (doCh s c).held = true ∧ (doCh s c).cmd ≠ 0 ∧ (doGrp s (c / 8)).missing = false ∧ (doGrp s (c / 8)).ackWait = false

theorem mayRetry_iff (s : State) (c : Nat) : mayRetry s c ↔
    ((doCh s c).held && (doCh s c).cmd != 0 && !(doGrp s (c / 8)).missing && !(doGrp s (c / 8)).ackWait) = true := by
  simp only [mayRetry, Bool.and_eq_true, bne_iff_ne, Bool.not_eq_true', and_assoc]

theorem doRetryAt_of_mayRetry {s : State} {c : Nat} (h : mayRetry s c) (dt : Nat) : doRetryAt s c dt =
    updDo (advance s dt) c fun d => { d with held := false, retries := d.retries + 1, since := (advance s dt).fr.t10 } :=
  if_pos ((mayRetry_iff s c).1 h)

theorem doRetryAt_of_idle {s : State} {c : Nat} (h : ¬mayRetry s c) (dt : Nat) : doRetryAt s c dt = advance s dt :=
  if_neg fun hretry => h ((mayRetry_iff s c).2 hretry)

theorem doRetryReset_of_early {s : State} {c : Nat} (h : s.fr.next ≤ (doCh s c).since + 1000000000) : doRetryReset s c = s := if_pos h

/-- The count of retries of channel c ends at T10 count `e`, where the channel is on. -/
def retriesOver (s : State) (c e : Nat) : State :=
  if gateShut s 0 = false ∧ doDrive s c ≠ 0 then updDo (advanceTo s e) c fun d => { d with retries := 0 } else advanceTo s e

/-- Whether a channel is on does not depend on device time. -/
theorem retriesOver_eq (s : State) (c e : Nat) :
    (if !gateShut (advanceTo s e) 0 && doDrive (advanceTo s e) c != 0 then updDo (advanceTo s e) c fun d => { d with retries := 0 }
      else advanceTo s e) = retriesOver s c e := by
  refine ite_congr (propext ?_) (fun _ => rfl) fun _ => rfl
  rw [Bool.and_eq_true, bne_iff_ne, Bool.not_eq_true']
  rfl

theorem doRetryReset_of_due {s : State} {c : Nat} (h : (doCh s c).since + 1000000000 < s.fr.next) :
    doRetryReset s c = retriesOver s c ((doCh s c).since + 1000000000) :=
  (if_neg (Nat.not_le.2 h)).trans (retriesOver_eq s c _)

theorem doPwmStart_eq (s : State) (c dt : Nat) : doPwmStart s c dt =
    if doFlag s c 0 = true ∧ ((advance s dt).fr.t10 - s.dio.pwmAt) % (pwmUs s c * 100) = 0
    then updDo (advance s dt) c fun d => { d with period := d.cmd } else advance s dt := by
  refine ite_congr (propext ?_) (fun _ => rfl) fun _ => rfl
  rw [Bool.and_eq_true, decide_eq_true_eq]
  rfl

/-- An external feed shows on channel c. -/
def fedFrom (s : State) (c : Nat) : State :=
  let u := updDo s c fun d => { d with ext := true }
  { u with dio := { u.dio with ext := bset s.dio.ext c } }

theorem doCh_fedFrom (s : State) (c i : Nat) :
    doCh (fedFrom s c) i = if i = c then { doCh s c with ext := true } else doCh s i := by
  refine (doCh_updDo s c (fun d => { d with ext := true }) i).trans ?_
  split
  · next hi => rw [hi]
  · rfl

theorem doExtFeed_of_evaluated {s : State} {c dt : Nat} (h : extEvaluated (advance s dt) c = true) :
    doExtFeed s c dt = fedFrom (advance s dt) c := if_pos h

theorem doExtFeed_of_not_evaluated {s : State} {c dt : Nat} (h : extEvaluated (advance s dt) c = false) :
    doExtFeed s c dt = advance s dt := if_neg (ne_true_of_eq_false h)

theorem exec_doOverload (ch : Fin 64) (dt : Nat) (s : State) :
    exec (.doOverload ch dt) s = .next (settle s (doOverloadAt s ch.val dt)) := rfl

theorem exec_doRetry (ch : Fin 64) (dt : Nat) (s : State) : exec (.doRetry ch dt) s = .next (settle s (doRetryAt s ch.val dt)) := rfl

theorem exec_doRetryCountReset (ch : Fin 64) (s : State) :
    exec (.doRetryCountReset ch) s = .next (settle s (doRetryReset s ch.val)) := rfl

theorem exec_pwmPeriodStart (ch : Fin 64) (dt : Nat) (s : State) :
    exec (.pwmPeriodStart ch dt) s = .next (settle s (doPwmStart s ch.val dt)) := rfl

theorem exec_extFeed (ch : Fin 64) (dt : Nat) (s : State) : exec (.extFeed ch dt) s = .next (settle s (doExtFeed s ch.val dt)) := rfl

/-- Settles O41: each row by the condition that it tests. -/
theorem outputsSwitchOffUnderOverload : Obligations.OutputsSwitchOffUnderOverload := by
  refine ⟨fun k s => ⟨rfl, rfl⟩, fun ch dt s => ?_⟩
  intro a c d g
  refine ⟨fun hon hmore => ?_, fun hon hlast => ⟨latchedOff a c, ?_, rfl, fun i => ?_⟩, fun hoff => ?_, fun hheld hcmd hsupply hack => ?_,
    fun hidle => ?_, fun hearly => ?_, fun hdue => ?_, ?_, fun hfed => ⟨fedFrom a c, ?_, rfl, fun i => ?_⟩, fun hnot => ?_,
    fun peer => rfl⟩
  · rw [exec_doOverload, doOverloadAt_of_on hon, if_neg (Nat.not_le.2 hmore)]
    rfl
  · rw [exec_doOverload, doOverloadAt_of_on hon, if_pos hlast]
  · exact doCh_latchedOff a c i
  · rw [exec_doOverload, doOverloadAt_of_off hoff]
  · rw [exec_doRetry, doRetryAt_of_mayRetry ⟨hheld, hcmd, hsupply, hack⟩]
  · have hnot : ¬mayRetry s ch.val := by
      rintro ⟨hheld, hcmd, hsupply, hack⟩
      rcases hidle with h | h | h | h
      · exact ne_true_of_eq_false h hheld
      · exact hcmd h
      · exact ne_true_of_eq_false hsupply h
      · exact ne_true_of_eq_false hack h
    rw [exec_doRetry, doRetryAt_of_idle hnot]
  · rw [exec_doRetryCountReset, doRetryReset_of_early hearly]
  · rw [exec_doRetryCountReset, doRetryReset_of_due hdue]
    rfl
  · rw [exec_pwmPeriodStart, doPwmStart_eq]
  · rw [exec_extFeed, doExtFeed_of_evaluated hfed]
  · exact doCh_fedFrom a c i
  · rw [exec_extFeed, doExtFeed_of_not_evaluated hnot]

/-! ### The supply of an output group and the releases (08 R183, R190-R192, R206) -/

/-- The eight channels of group g. -/
def groupChannels (g : Nat) : List Nat := (List.range 8).map fun i => 8 * g + i

theorem mem_groupChannels (g c : Nat) : c ∈ groupChannels g ↔ c / 8 = g := by
  simp only [groupChannels, List.mem_map, List.mem_range]
  exact ⟨fun ⟨i, hi, hc⟩ => by omega, fun hc => ⟨c % 8, by omega, by omega⟩⟩

theorem groupChannels_nodup (g : Nat) : (groupChannels g).Nodup :=
  List.Pairwise.map _ (fun i j (h : i ≠ j) => show 8 * g + i ≠ 8 * g + j by omega) List.nodup_range

/-- The events of a group that goes MISSING: LOW only where it was not LOW before. -/
def missingEvents (s : State) (g : Nat) : BitVec 30 :=
  if (doGrp s g).low = true then bset s.dio.event (8 + g) else bset (bset s.dio.event (8 + g)) g

/-- Group g goes MISSING, and LOW with it, and the retries of the channels `cs` are stopped. -/
def groupCut (cs : List Nat) (s : State) (g : Nat) : State :=
  { s with dio := { s.dio with
    grp := Tab.upd s.dio.grp DoGroup.init g fun x => { x with missing := true, low := true }
    ch := Tab.updMany s.dio.ch DoCh.init cs fun _ d => { d with held := false }
    event := missingEvents s g } }

theorem doGroupMissing_eq (s : State) (g : Nat) : doGroupMissing s g = groupCut (groupChannels g) s g := by
  unfold doGroupMissing groupCut missingEvents groupChannels
  generalize (List.range 8).map (fun i => 8 * g + i) = cs
  dsimp only
  split <;> rfl

theorem groupCut_frame (cs : List Nat) (s : State) (g : Nat) : groupCut cs s g = { s with dio := { s.dio with
    grp := (groupCut cs s g).dio.grp, ch := (groupCut cs s g).dio.ch, event := (groupCut cs s g).dio.event } } := rfl

theorem doGrp_groupCut (cs : List Nat) (s : State) (g i : Nat) :
    doGrp (groupCut cs s g) i = if i = g then { doGrp s i with missing := true, low := true } else doGrp s i :=
  doGrp_updGrp s g (fun x => { x with missing := true, low := true }) i

theorem doCh_groupCut {cs : List Nat} (hcs : cs.Nodup) (s : State) (g c : Nat) :
    doCh (groupCut cs s g) c = if c ∈ cs then { doCh s c with held := false } else doCh s c :=
  Tab.get_updMany DoCh.init s.dio.ch cs (fun _ d => { d with held := false }) hcs c

theorem event_groupCut (cs : List Nat) (s : State) (g : Nat) : (groupCut cs s g).dio.event = missingEvents s g := rfl

theorem getLsbD_missingEvents (s : State) {g : Nat} (hg : g < 8) (i : Nat) : (missingEvents s g).getLsbD i =
    (s.dio.event.getLsbD i || decide (i = 8 + g) || decide (i = g) && !(doGrp s g).low) := by
  unfold missingEvents
  cases (doGrp s g).low <;> grind [getLsbD_bset]

/-- Group g must be acknowledged after its supply was MISSING (08 R191, R203). -/
def needsAck (s : State) (g : Nat) : Bool := (cfgRec s 0x0205 g).isSome && decide (u8 (cfgBody s 0x0205 g) 0 = 1)

/-- Group g is supplied again at T10 count `t`: it waits for the next apply, and where it must, for its acknowledgement. -/
def groupBack (ack : Bool) (t : Nat) (x : DoGroup) : DoGroup :=
  { x with missing := false, off := true, from_ := t, ackWait := x.ackWait || ack }

theorem doGroupMissingEnd_of_missing {s : State} {g : Nat} (h : (doGrp s g).missing = true) (dt : Nat) :
    let u := updGrp (advance s dt) g (groupBack (needsAck s g) (advance s dt).fr.t10)
    doGroupMissingEnd s g dt =
      { u with dio := { u.dio with event := if needsAck s g = true then bset s.dio.event (16 + g) else s.dio.event } } := by
  refine (if_neg (c := (!(doGrp s g).missing) = true) (by simp [h])).trans ?_
  show (if needsAck s g = true then _ else _) = _
  split <;> rfl

theorem doGroupMissingEnd_of_supplied {s : State} {g : Nat} (h : (doGrp s g).missing = false) (dt : Nat) :
    doGroupMissingEnd s g dt = advance s dt :=
  if_pos (c := (!(doGrp s g).missing) = true) (by simp [h])

/-- An acknowledgement waits for the next tick. -/
theorem doGroupAck_eq (s : State) (v : Word) : doGroupAck s v = { s with dio := { s.dio with
    grp := Tab.updMany s.dio.grp DoGroup.init (bitsSet v.toNat 8) fun _ x => { x with ackReq := true } } } :=
  foldl_updGrp ..

theorem doGrp_doGroupAck (s : State) (v : Word) (i : Nat) : doGrp (doGroupAck s v) i =
    if i < 8 ∧ v.getLsbD i = true then { doGrp s i with ackReq := true } else doGrp s i := by
  rw [doGroupAck_eq]
  have hread := Tab.get_updMany DoGroup.init s.dio.grp (bitsSet v.toNat 8) (fun _ x => { x with ackReq := true }) (bitsSet_nodup ..) i
  simpa only [doGrp, mem_bitsSet, testBit_getLsbD] using hread

/-- A latched channel that is to be released waits for an apply. -/
def releaseAsked (d : DoCh) : DoCh := if d.latchOff && d.release = 0 then { d with release := 1 } else d

/-- The channels of word w whose bits are written 1. -/
def writtenChannels (w : Nat) (v : Word) : List Nat := (bitsSet v.toNat 32).map fun i => 32 * w + i

theorem mem_writtenChannels (w : Nat) (v : Word) (c : Nat) : c ∈ writtenChannels w v ↔ c / 32 = w ∧ v.getLsbD (c % 32) = true := by
  simp only [writtenChannels, List.mem_map, mem_bitsSet, testBit_getLsbD]
  constructor
  · rintro ⟨i, ⟨hi, hbit⟩, rfl⟩
    have hmod : (32 * w + i) % 32 = i := by omega
    exact ⟨by omega, by rwa [hmod]⟩
  · rintro ⟨hw, hbit⟩
    exact ⟨c % 32, ⟨by omega, hbit⟩, by omega⟩

theorem writtenChannels_nodup (w : Nat) (v : Word) : (writtenChannels w v).Nodup :=
  List.Pairwise.map _ (fun i j (h : i ≠ j) => show 32 * w + i ≠ 32 * w + j by omega) (bitsSet_nodup ..)

theorem doLatchedRelease_eq (s : State) (w : Nat) (v : Word) : doLatchedRelease s w v = { s with dio := { s.dio with
    ch := Tab.updMany s.dio.ch DoCh.init (writtenChannels w v) fun _ => releaseAsked
    latched := s.dio.latched &&& ~~~ spread 64 w v } } :=
  congrArg (fun u : State => { u with dio := { u.dio with latched := u.dio.latched &&& ~~~ spread 64 w v } })
    (foldl_updDo releaseAsked (fun i => 32 * w + i) (bitsSet v.toNat 32) s)

theorem doCh_doLatchedRelease (s : State) (w : Nat) (v : Word) (c : Nat) : doCh (doLatchedRelease s w v) c =
    if c / 32 = w ∧ v.getLsbD (c % 32) = true ∧ (doCh s c).latchOff = true ∧ (doCh s c).release = 0
    then { doCh s c with release := 1 } else doCh s c := by
  have hread : doCh (doLatchedRelease s w v) c = if c ∈ writtenChannels w v then releaseAsked (doCh s c) else doCh s c := by
    rw [doLatchedRelease_eq]
    exact Tab.get_updMany DoCh.init s.dio.ch (writtenChannels w v) (fun _ => releaseAsked) (writtenChannels_nodup ..) c
  simp only [hread, releaseAsked, mem_writtenChannels, Bool.and_eq_true, decide_eq_true_eq, ite_ite_eq_ite_and, and_assoc]

theorem latched_doLatchedRelease (s : State) (w : Nat) (v : Word) (c : Nat) : (doLatchedRelease s w v).dio.latched.getLsbD c =
    (s.dio.latched.getLsbD c && !(decide (c / 32 = w) && v.getLsbD (c % 32))) := by
  rw [doLatchedRelease_eq]
  simp only [BitVec.getLsbD_and, BitVec.getLsbD_not, getLsbD_spread]
  by_cases hc : c < 64
  · simp [hc]
  · rw [BitVec.getLsbD_of_ge _ c (by omega), Bool.false_and, Bool.false_and]

theorem exec_groupSupplyMissing (g : Fin 8) (s : State) :
    exec (.groupSupplyMissing g) s = .next (settle s (doGroupMissing s g.val)) := rfl

theorem exec_groupSupplyMissingEnd (g : Fin 8) (dt : Nat) (s : State) :
    exec (.groupSupplyMissingEnd g dt) s = .next (settle s (doGroupMissingEnd s g.val dt)) := rfl

/-- Settles O42: the group by its supply, and the two writes bit by bit. -/
theorem groupSupplyAndReleases : Obligations.GroupSupplyAndReleases := by
  refine ⟨fun g dt s => ⟨rfl, rfl, ⟨_, exec_groupSupplyMissing g s, ?_⟩, fun hmissing => ⟨_, exec_groupSupplyMissingEnd g dt s, ?_⟩,
    fun hsupplied => ?_⟩, fun v s hup => ⟨_, done_hostAccess_of_up hup, ?_, doGrp_doGroupAck s v⟩,
    fun w v s hup => ⟨_, done_hostAccess_of_up hup, ?_, latched_doLatchedRelease s w.val v, doCh_doLatchedRelease s w.val v⟩⟩
  · have hbit := getLsbD_missingEvents s g.isLt
    have hch := doCh_groupCut (groupChannels_nodup g.val) s g.val
    simp only [mem_groupChannels] at hch
    rw [doGroupMissing_eq, event_groupCut]
    refine ⟨groupCut_frame .., doGrp_groupCut _ s g.val, hch, ?_, ?_, fun i hlow hmissing => ?_⟩
    · simp [hbit]
    · simp [hbit]
    · simp [hbit, hlow, hmissing]
  · rw [doGroupMissingEnd_of_missing hmissing]
    exact ⟨rfl, doGrp_updGrp (advance s dt) g.val (groupBack (needsAck s g.val) (advance s dt).fr.t10)⟩
  · rw [exec_groupSupplyMissingEnd, doGroupMissingEnd_of_supplied hsupplied]
  · rw [doGroupAck_eq]
  · rw [doLatchedRelease_eq]

/-! ### The field watchdog (08 R194, 09 R227, R233) -/

/-- The instant at which the watchdog of receiver k expires. -/
def tripAt (s : State) (k : Nat) : Nat := Tab.get s.dio.lastImg 0 k + fwdTimeout s

/-- The safe state of DO c, taken at T10 count `t`, for PWM too (08 R194). -/
def safeDo (s : State) (t c : Nat) (d : DoCh) : DoCh :=
  if doCfg s c && doSafe s c = 2 then { d with period := d.cmd }
  else
    let v := if doCfg s c && doSafe s c = 1 then F64.one else 0
    { setDoCmd t v d with period := v }

/-- The safe level of AO c, taken at T10 count `t` (09 R227, R233). -/
def safeAo (s : State) (t c : Nat) (x : AoCh) : AoCh := if aoCfg s c then setAoLevel t (aoLowAlarm s c x (aoSafeLevel s c)) x else x

/-- Receiver k has tripped. -/
def tripped (s : State) (k : Nat) : State := { s with dio := { s.dio with
  trip := bset s.dio.trip k, tripNews := bset s.dio.tripNews k, trips := satInc32 s.dio.trips, event := bset s.dio.event 24 } }

/-- The field controller trips at T10 count `e`, with the channels `cs`. -/
def fieldTripped (cs : List Nat) (s : State) (e : Nat) : State :=
  let a := advanceTo s e
  { tripped a 0 with dio := { (tripped a 0).dio with ch := Tab.updMany s.dio.ch DoCh.init cs (safeDo s a.fr.t10) } }

/-- OB bank g trips at T10 count `e`, with the channels `cs`. -/
def bankTripped (cs : List Nat) (g : Nat) (s : State) (e : Nat) : State :=
  let a := advanceTo s e
  { tripped a (g + 1) with an := { s.an with ao := Tab.updMany s.an.ao AoCh.init cs (safeAo s a.fr.t10) } }

theorem fieldTripped_frame (cs : List Nat) (s : State) (e : Nat) : fieldTripped cs s e =
    { tripped (advanceTo s e) 0 with dio := { (tripped (advanceTo s e) 0).dio with ch := (fieldTripped cs s e).dio.ch } } := rfl

theorem bankTripped_frame (cs : List Nat) (g : Nat) (s : State) (e : Nat) : bankTripped cs g s e =
    { tripped (advanceTo s e) (g + 1) with an := { s.an with ao := (bankTripped cs g s e).an.ao } } := rfl

theorem doCh_fieldTripped {cs : List Nat} (hcs : cs.Nodup) (s : State) (e c : Nat) : doCh (fieldTripped cs s e) c =
    if c ∈ cs then safeDo s (advanceTo s e).fr.t10 c (doCh s c) else doCh s c :=
  Tab.get_updMany DoCh.init s.dio.ch cs (safeDo s (advanceTo s e).fr.t10) hcs c

theorem aoCh_bankTripped {cs : List Nat} (hcs : cs.Nodup) (g : Nat) (s : State) (e c : Nat) : aoCh (bankTripped cs g s e) c =
    if c ∈ cs then safeAo s (advanceTo s e).fr.t10 c (aoCh s c) else aoCh s c :=
  Tab.get_updMany AoCh.init s.an.ao cs (safeAo s (advanceTo s e).fr.t10) hcs c

theorem safeDo_cmd (s : State) (t c : Nat) (d : DoCh) : (safeDo s t c d).cmd =
    if doCfg s c = true ∧ doSafe s c = 2 then d.cmd else if doCfg s c = true ∧ doSafe s c = 1 then F64.one else 0 := by
  simp only [safeDo, Bool.and_eq_true, decide_eq_true_eq]
  split
  · rfl
  · exact setDoCmd_cmd ..

/-- A PWM channel takes its safe state within its period. -/
theorem safeDo_period (s : State) (t c : Nat) (d : DoCh) : (safeDo s t c d).period = (safeDo s t c d).cmd := by
  unfold safeDo
  split
  · rfl
  · exact (setDoCmd_cmd ..).symm

theorem safeAo_level (s : State) (t c : Nat) (x : AoCh) :
    (safeAo s t c x).level = if aoCfg s c = true then aoLowAlarm s c x (aoSafeLevel s c) else x.level := by
  unfold safeAo
  split <;> rfl

theorem doTrip_of_idle {s : State} {k : Nat} (h : s.md.mode = .reset ∨ s.dio.arm.toNat.testBit k = false ∨
    s.dio.trip.toNat.testBit k = true ∨ s.fr.next ≤ tripAt s k) : doTrip s k = s :=
  if_pos (by simpa [or_assoc, tripAt] using h)

section
variable {s : State} {k : Nat} (hm : s.md.mode ≠ .reset) (harm : s.dio.arm.toNat.testBit k = true)
  (htrip : s.dio.trip.toNat.testBit k = false) (hnext : tripAt s k < s.fr.next)
include hm harm htrip hnext

/-- Nothing keeps receiver k from its trip. -/
theorem trip_not_barred : ¬(s.md.mode = .reset || !s.dio.arm.toNat.testBit k || s.dio.trip.toNat.testBit k ||
    decide (s.fr.next ≤ tripAt s k)) = true := by
  rw [harm, htrip, decide_eq_false hm, decide_eq_false (Nat.not_le.2 hnext)]
  exact Bool.false_ne_true

theorem doTrip_field_of_due (hk : k = 0) : doTrip s k = fieldTripped (List.range 64) s (tripAt s k) := by
  have hdue := trip_not_barred hm harm htrip hnext
  subst hk
  unfold doTrip
  generalize List.range 64 = cs
  exact (if_neg hdue).trans rfl

theorem doTrip_bank_of_due {g : Nat} (hk : k = g + 1) :
    doTrip s k = bankTripped ((List.range 4).map fun i => 4 * g + i) g s (tripAt s k) := by
  have hdue := trip_not_barred hm harm htrip hnext
  subst hk
  unfold doTrip
  rw [Nat.add_sub_cancel]
  generalize (List.range 4).map (fun i => 4 * g + i) = cs
  exact (if_neg hdue).trans rfl

end

theorem exec_fieldWatchdogTrip_field (s : State) : exec (.fieldWatchdogTrip none) s = .next (settle s (doTrip s 0)) := rfl

theorem exec_fieldWatchdogTrip_bank (g : Fin 8) (s : State) :
    exec (.fieldWatchdogTrip (some g)) s = .next (settle s (doTrip s (g.val + 1))) := rfl

/-- Settles O39: the field controller and a bank each by their own channels. -/
theorem theFieldWatchdogTripsAReceiver : Obligations.TheFieldWatchdogTripsAReceiver := by
  intro bank s
  cases bank with
  | none =>
    rw [exec_fieldWatchdogTrip_field]
    refine ⟨fun hidle => by rw [doTrip_of_idle (k := 0) hidle], fun hm harm htrip hnext => ⟨_, rfl, ?_⟩⟩
    rw [doTrip_field_of_due hm harm htrip hnext rfl]
    refine ⟨fieldTripped_frame .., fun _ => ⟨rfl, fun c hc => ?_⟩, nofun⟩
    rw [doCh_fieldTripped List.nodup_range, if_pos (List.mem_range.2 hc)]
    exact ⟨safeDo_cmd .., safeDo_period ..⟩
  | some g =>
    rw [exec_fieldWatchdogTrip_bank]
    refine ⟨fun hidle => by rw [doTrip_of_idle (k := g.val + 1) hidle], fun hm harm htrip hnext => ⟨_, rfl, ?_⟩⟩
    rw [doTrip_bank_of_due hm harm htrip hnext rfl]
    refine ⟨bankTripped_frame .., nofun, ?_⟩
    rintro _ ⟨⟩
    refine ⟨rfl, fun c => ?_⟩
    rw [aoCh_bankTripped (bankChannels_nodup g.val), apply_ite AoCh.level, safeAo_level]
    simp only [mem_bankChannels, ite_ite_eq_ite_and]

/-! ### A dark test's end (08 R189, 18 R524, R531) -/

/-- The test of the item is no longer among the running ones. -/
def testStopped (s : State) (t item : Nat) : State :=
  { s with hl := { s.hl with running := s.hl.running.filter (fun r => !(decide (r.test = t) && decide (r.item = item))) } }

theorem verdict_frame (s : State) (t item : Nat) (ok : Bool) : verdict s t item ok = { s with hl := { (verdict s t item ok).hl with
    running := s.hl.running } } := by
  cases ok <;> rfl

/-- A field-side test ends with its verdict, and the last item of a pass ends the pass. -/
theorem finishTest_cases (s : State) (t item : Nat) (ok : Bool) :
    finishTest s t item ok = verdict (testStopped s t item) t item ok ∨
      finishTest s t item ok = endPass (verdict (testStopped s t item) t item ok) t := by
  unfold finishTest
  dsimp only
  split
  · exact .inr rfl
  · exact .inl rfl

theorem finishTest_frame (s : State) (t item : Nat) (ok : Bool) : finishTest s t item ok = { s with hl :=
    { (finishTest s t item ok).hl with running := (testStopped s t item).hl.running } } := by
  rcases finishTest_cases s t item ok with h | h
  · rw [h, verdict_frame]
    rfl
  · rw [h, verdict_frame]
    rfl

theorem test_finishTest_other {t i : Nat} (hi : i ≠ t) (s : State) (item : Nat) (ok : Bool) :
    test (finishTest s t item ok) i = test s i := by
  have hverdict : test (verdict (testStopped s t item) t item ok) i = test s i := (test_verdict ..).trans (if_neg hi)
  rcases finishTest_cases s t item ok with h | h
  · rw [h, hverdict]
  · rw [h, endPass_eq, test_updTest, if_neg hi, hverdict]

/-- The failed and the tested items are those of the verdict: the end of a pass keeps both. -/
theorem test_finishTest_items (s : State) (t item : Nat) (ok : Bool) :
    (test (finishTest s t item ok) t).failed = (judged t item ok (test s t)).failed ∧
      (test (finishTest s t item ok) t).tested = (judged t item ok (test s t)).tested := by
  have hverdict : test (verdict (testStopped s t item) t item ok) t = judged t item ok (test s t) := (test_verdict ..).trans (if_pos rfl)
  rcases finishTest_cases s t item ok with h | h
  · rw [h, hverdict]
    exact ⟨rfl, rfl⟩
  · rw [h, endPass_eq, test_updTest, if_pos rfl, hverdict]
    exact ⟨rfl, rfl⟩

/-- A verdict of a test that is no memory walk puts its item among the tested ones. -/
theorem mem_tested_judged {t : Nat} (ht : ¬(4 ≤ t ∧ t ≤ 6)) (item : Nat) (ok : Bool) (x : TestSt) (i : Nat) :
    i ∈ (judged t item ok x).tested ↔ i = item ∨ i ∈ x.tested := by
  simp only [judged, if_neg ht]
  by_cases hin : item ∈ x.tested
  · rw [if_pos (by simpa using hin)]
    exact ⟨.inr, fun h => h.elim (fun e => e ▸ hin) id⟩
  · rw [if_neg (by simpa using hin), List.mem_append, List.mem_singleton, or_comm]

theorem mem_running_testStopped (s : State) (t item : Nat) (r : RunTest) :
    r ∈ (testStopped s t item).hl.running ↔ r ∈ s.hl.running ∧ ¬(r.test = t ∧ r.item = item) := by
  simp only [testStopped, List.mem_filter, Bool.not_eq_true', ← Bool.not_eq_true, Bool.and_eq_true, decide_eq_true_eq]

/-- Channel c is back at its command, and DIAG_DO_DARK_FAIL knows whether it fell to low. -/
def darkOver (s : State) (c : Nat) (low : Bool) : State :=
  { updDo s c (fun d => { d with dark := false }) with dio :=
    { (updDo s c fun d => { d with dark := false }).dio with dark := if low = true then s.dio.dark else bset s.dio.dark c } }

theorem doDarkEnd_of_none {s : State} {c : Nat} (h : (doCh s c).dark = false) (low : Bool) : doDarkEnd s c low = s :=
  if_pos (by simp [h])

theorem doDarkEnd_of_running {s : State} {c : Nat} (h : (doCh s c).dark = true) (low : Bool) :
    doDarkEnd s c low = finishTest (darkOver s c low) 0 c low := by
  refine (if_neg (by simp [h])).trans ?_
  cases low <;> rfl

theorem exec_darkTestEnd (ch : Fin 64) (low : Bool) (s : State) :
    exec (.darkTestEnd ch low) s = .next (settle s (doDarkEnd s ch.val low)) := rfl

/-- Settles O43: the channel is back at its command, and its test is finished with the readback's verdict. -/
theorem aDarkTestEndsWithAVerdict : Obligations.ADarkTestEndsWithAVerdict := by
  intro ch low s
  rw [exec_darkTestEnd]
  refine ⟨fun hnone => by rw [doDarkEnd_of_none hnone], fun hrun => ⟨_, rfl, ?_⟩⟩
  rw [doDarkEnd_of_running hrun]
  obtain ⟨hfailed, htested⟩ := test_finishTest_items (darkOver s ch.val low) 0 ch.val low
  refine ⟨?_, fun i => ?_, fun i => ?_, fun i => ?_, fun r => ?_, fun t ht => ?_⟩
  · rw [finishTest_frame]
    rfl
  · rw [finishTest_frame]
    exact doCh_updDo s ch.val (fun d => { d with dark := false }) i
  · rw [hfailed, mem_failed_judged]
    by_cases hi : i = ch.val
    · simp [hi]
    · simp only [hi, if_false, ne_eq, not_false_eq_true, true_and, false_and, or_false]
      rfl
  · rw [htested]
    exact mem_tested_judged (by omega) ..
  · rw [finishTest_frame]
    exact mem_running_testStopped (darkOver s ch.val low) 0 ch.val r
  · exact test_finishTest_other ht (darkOver s ch.val low) ch.val low

end Sys2Proof.Machine
end

section
/-! Proofs about the analogue loops (09): the tables of the banks, the converters and the channels, the conversions and the
steps of the rotation. -/

namespace Sys2Proof.Machine

open Sys2Proof

/-! ### The tables of the analogue loops: a read after a write -/

theorem aoCh_updAo (s : State) (c : Nat) (f : AoCh → AoCh) (i : Nat) :
    aoCh (updAo s c f) i = if i = c then f (aoCh s i) else aoCh s i := Tab.get_upd ..

theorem bankOf_updBank (s : State) (ao : Bool) (b : Nat) (f : RotBank → RotBank) (i : Nat) :
    bankOf (updBank s ao b f) ao i = if i = b then f (bankOf s ao i) else bankOf s ao i := by
  cases ao <;> exact Tab.get_upd ..

@[simp] theorem bankOf_updBank_same (s : State) (ao : Bool) (b : Nat) (f : RotBank → RotBank) :
    bankOf (updBank s ao b f) ao b = f (bankOf s ao b) := (bankOf_updBank s ao b f b).trans (if_pos rfl)

theorem calOf_updCal (s : State) (ao : Bool) (b c : Nat) (f : Cal → Cal) (i j : Nat) :
    calOf (updCal s ao b c f) ao i j = if calIdx ao i j = calIdx ao b c then f (calOf s ao i j) else calOf s ao i j := by
  cases ao <;> exact Tab.get_upd ..

@[simp] theorem calOf_updCal_same (s : State) (ao : Bool) (b c : Nat) (f : Cal → Cal) :
    calOf (updCal s ao b c f) ao b c = f (calOf s ao b c) := (calOf_updCal s ao b c f b c).trans (if_pos rfl)

@[simp] theorem calOf_updBank (s : State) (ao : Bool) (b : Nat) (f : RotBank → RotBank) (i j : Nat) :
    calOf (updBank s ao b f) ao i j = calOf s ao i j := by cases ao <;> rfl

@[simp] theorem bankOf_updCal (s : State) (ao : Bool) (b c : Nat) (f : Cal → Cal) (i : Nat) :
    bankOf (updCal s ao b c f) ao i = bankOf s ao i := by cases ao <;> rfl

@[simp] theorem calOf_anEvent (s : State) (k : Nat) (ao : Bool) (i j : Nat) : calOf (anEvent s k) ao i j = calOf s ao i j := rfl

@[simp] theorem bankOf_anEvent (s : State) (k : Nat) (ao : Bool) (i : Nat) : bankOf (anEvent s k) ao i = bankOf s ao i := rfl

/-- A change of a bank is what it makes of that bank. -/
theorem updBank_congr {s : State} {ao : Bool} {b : Nat} {f g : RotBank → RotBank} (h : f (bankOf s ao b) = g (bankOf s ao b)) :
    updBank s ao b f = updBank s ao b g := by
  cases ao
  · exact congrArg (fun B => { s with an := { s.an with ab := Tab.set s.an.ab RotBank.ai b B } }) h
  · exact congrArg (fun B => { s with an := { s.an with ob := Tab.set s.an.ob RotBank.ao b B } }) h

/-! ### Conversions (09 R208-R213, R217) -/

/-- The value that a result gives the channel of position p. -/
def resultValue (s : State) (b c p : Nat) (code : Int) : F64 := convValue (calOf s false b c) (aiVolt s (8 * b + p)) code

/-- The middle of the window whose end lies 2,000 T10 back. -/
def resultStamp (s : State) (b p : Nat) : Nat := s.fr.t10 - 2000 - aiWindow s (8 * b + p) / 2

/-- A window of position p ended 2,000 T10 ago. -/
def resultDue (s : State) (b p : Nat) : Prop := (s.fr.t10 - 2000) % aiWindow s (8 * b + p) = 0

/-- The channel of position p takes a result. -/
def takeResult (s : State) (b p : Nat) (v : F64) (t : Nat) : State :=
  updAi s (8 * b + p) fun x => { x with value := v, stamp := t, recent := x.recent ++ [(v, t)] }

/-- An overlap has the result of the working converter, and counts the pair when the spare's is there. -/
def oldResult (s : State) (b : Nat) (volt : Bool) (v : F64) (t : Nat) (B : RotBank) : RotBank :=
  if B.newT = t then overlapPair s b volt { B with oldV := v, oldT := t } else { B with oldV := v, oldT := t }

/-- An overlap has the result of the spare, and counts the pair when the working converter's is there. -/
def newResult (s : State) (b : Nat) (volt : Bool) (v : F64) (t : Nat) (B : RotBank) : RotBank :=
  if B.oldT = t then overlapPair s b volt { B with newV := v, newT := t } else { B with newV := v, newT := t }

/-- One more result of a spare that reconnects: after the third it takes over. -/
def reconnectResult (B : RotBank) : RotBank :=
  { B with discard := B.discard + 1, ph := if 2 ≤ B.discard then .retireOld else .reconnect }

/-- A result `v` with the stamp `t` of the converter that works on position p. -/
def workingResult (s : State) (b p : Nat) (v : F64) (t : Nat) : State :=
  if (aiBank s b).ph = .compare && p = (aiBank s b).pos then
    updBank (takeResult s b p v t) false b (oldResult s b (aiVolt s (8 * b + p)) v t)
  else takeResult s b p v t

/-- A result `v` with the stamp `t` of the spare, at position p. -/
def spareResult (s : State) (b p : Nat) (v : F64) (t : Nat) : State :=
  if (aiBank s b).ph = .compare then updBank s false b (newResult s b (aiVolt s (8 * b + p)) v t)
  else if (aiBank s b).ph = .reconnect then
    updBank s false b fun B => { B with discard := B.discard + 1, ph := if 3 ≤ B.discard + 1 then .retireOld else .reconnect }
  else s

/-- The position that a result of converter c is of: its own, of the spare that of the bank's step. -/
def resultPos (B : RotBank) (c : Nat) : Nat := (posOf B c).getD B.pos

theorem resultPos_of_some {B : RotBank} {c p : Nat} (h : posOf B c = some p) : resultPos B c = p := by rw [resultPos, h, Option.getD_some]

theorem resultPos_of_none {B : RotBank} {c : Nat} (h : posOf B c = none) : resultPos B c = B.pos := by rw [resultPos, h, Option.getD_none]

/-- A result of converter c, at position p: one that is due counts by what the converter does in the bank. -/
def resultAt (s : State) (b c p : Nat) (code : Int) : State :=
  if (s.fr.t10 - 2000) % aiWindow s (8 * b + p) ≠ 0 then s
  else if (posOf (aiBank s b) c).isSome then workingResult s b p (resultValue s b c p code) (resultStamp s b p)
  else if (aiBank s b).spare = some c then spareResult s b p (resultValue s b c p code) (resultStamp s b p)
  else s

theorem doConversion_eq (s : State) (b c dt : Nat) (code : Int) :
    doConversion s b c dt code = resultAt (advance s dt) b c (resultPos (aiBank s b) c) code := rfl

section
variable {s : State} {b c p : Nat} {code : Int}

theorem resultAt_of_not_due (hdue : ¬resultDue s b p) : resultAt s b c p code = s := if_pos hdue

theorem resultAt_of_working (hdue : resultDue s b p) (hp : posOf (aiBank s b) c = some p) :
    resultAt s b c p code = workingResult s b p (resultValue s b c p code) (resultStamp s b p) :=
  (if_neg (not_not.2 hdue)).trans (if_pos (by rw [hp, Option.isSome_some]))

theorem resultAt_of_spare (hdue : resultDue s b p) (hp : posOf (aiBank s b) c = none) (hspare : (aiBank s b).spare = some c) :
    resultAt s b c p code = spareResult s b p (resultValue s b c p code) (resultStamp s b p) :=
  (if_neg (not_not.2 hdue)).trans ((if_neg (by simp [hp])).trans (if_pos hspare))

/-- A converter that neither works on a position nor is the spare gives nothing. -/
theorem resultAt_of_no_use (hp : posOf (aiBank s b) c = none) (hspare : (aiBank s b).spare ≠ some c) : resultAt s b c p code = s :=
  ite_eq_left_iff.2 fun _ => (if_neg (by simp [hp])).trans (if_neg hspare)

variable {v : F64} {t : Nat} {volt : Bool} {B : RotBank}

theorem workingResult_of_no_overlap (h : (aiBank s b).ph = .compare → p ≠ (aiBank s b).pos) :
    workingResult s b p v t = takeResult s b p v t := if_neg (by simpa using h)

/-- A result that the spare has none to compare with waits for it. -/
theorem workingResult_of_overlap (hph : (aiBank s b).ph = .compare) (hpos : p = (aiBank s b).pos) (hnew : (aiBank s b).newT ≠ t) :
    workingResult s b p v t = updBank (takeResult s b p v t) false b fun B => { B with oldV := v, oldT := t } :=
  (if_pos (by simp [hph, hpos])).trans (updBank_congr (if_neg hnew))

theorem spareResult_of_compare (hph : (aiBank s b).ph = .compare) (hold : (aiBank s b).oldT ≠ t) :
    spareResult s b p v t = updBank s false b fun B => { B with newV := v, newT := t } :=
  (if_pos hph).trans (updBank_congr (if_neg hold))

theorem overlapPair_of_discard (hph : B.ph = .compare) (hdiscard : B.discard < 3) :
    overlapPair s b volt B = { B with discard := B.discard + 1 } := (if_pos hph).trans (if_pos hdiscard)

/-- The first three pairs of an overlap are discarded. -/
theorem spareResult_of_discard (hph : (aiBank s b).ph = .compare) (hold : (aiBank s b).oldT = t) (hdiscard : (aiBank s b).discard < 3) :
    spareResult s b p v t = updBank s false b fun B => { B with newV := v, newT := t, discard := B.discard + 1 } :=
  (if_pos hph).trans (updBank_congr ((if_pos hold).trans (overlapPair_of_discard hph hdiscard)))

theorem spareResult_of_reconnect (hph : (aiBank s b).ph = .reconnect) : spareResult s b p v t = updBank s false b reconnectResult :=
  (if_neg (by rw [hph]; decide)).trans ((if_pos hph).trans (updBank_congr (by simp only [reconnectResult, Nat.succ_le_succ_iff])))

end

/-! ### The steps of the rotation (09 R213, R226, R232) -/

/-- A step of an AI bank starts with a spare, none running, no REFERENCE_FAULT, its time come and its transfers not lost. -/
theorem stepReady_ai_iff (s : State) (b : Nat) : stepReady s false b = true ↔
    rotates s = true ∧ s.an.noLink.getLsbD b = false ∧ (aiBank s b).spare.isSome = true ∧ (aiBank s b).ph = .idle ∧
      (aiBank s b).refFault = false ∧
      9 * s.an.bootEnd + (aiBank s b).step * (rotPeriod s b * 100000000) ≤ 9 * s.fr.tick := by
  simp [stepReady, stepDue, bankOf, and_assoc]

theorem rotates_iff (s : State) : rotates s = true ↔ s.md.mode ≠ .reset ∧ s.md.mode ≠ .boot := by
  simp only [rotates, Bool.and_eq_true, bne_iff_ne]

/-- A bank without transfers has no step, and the converter in measurement is its spare again (09 R232). -/
def stepAbandoned (B : RotBank) : RotBank :=
  { B with ph := .idle, spare := if B.measuring.isSome && B.restore.isNone then B.measuring else B.spare, measuring := none }

theorem stepAbandoned_eq (B : RotBank) : stepAbandoned B = { B with
    ph := .idle, spare := if B.measuring.isSome = true ∧ B.restore = none then B.measuring else B.spare, measuring := none } := by
  simp only [stepAbandoned, Bool.and_eq_true, Option.isNone_iff_eq_none]

theorem aiBank_doBankTimeout (s : State) (b i : Nat) :
    aiBank (doBankTimeout s b) i = if i = b then stepAbandoned (aiBank s i) else aiBank s i :=
  bankOf_updBank s false b stepAbandoned i

theorem exec_aiConversionResult_of_pos (b : Fin 6) (c : Fin 9) (dt : Nat) (code : Int) (s : State) {p : Nat} {u : State}
    (hp : resultPos (aiBank s b.val) c.val = p) (hu : resultAt (advance s dt) b.val c.val p code = u) :
    exec (.aiConversionResult b c dt code) s = .next (settle s u) := by
  subst hp hu
  rfl

theorem exec_rotationStepStart (b : Fin 6) (s : State) : exec (.rotationStepStart b) s = .next (settle s (doStepStart s b.val)) := rfl

theorem exec_spareSarStep (g : Fin 8) (diff : F64) (s : State) :
    exec (.spareSarStep g diff) s = .next (settle s (doSarStep s g.val diff)) := rfl

/-- Settles O44: a result by what its converter does in the bank, a step by whether it is ready, and the link by its frames. -/
theorem conversionsAndTheRotation : Obligations.ConversionsAndTheRotation := by
  refine ⟨fun b c dt p code s => ?_, fun ch still s => ⟨rfl, rfl⟩, fun b s => ⟨?_, ?_, ?_, rfl⟩, fun g diff s => ⟨?_, ?_⟩⟩
  · intro a B ch k volt v t due
    have hexec {q : Nat} {u : State} (hq : resultPos B c.val = q) := exec_aiConversionResult_of_pos b c dt code s (u := u) hq
    refine ⟨fun hp hdue => hexec ?_ (resultAt_of_not_due hdue), fun hdue hp hno => ?_, fun hdue hp hph hpos hnew => ?_,
      fun hp hspare => hexec rfl (resultAt_of_no_use hp hspare), fun hdue hp hspare hpos hph hold => ?_,
      fun hdue hp hspare hpos hph hold hdiscard => ?_, fun hdue hp hspare hpos hph => ?_⟩
    · rcases hp with hp | ⟨hp, hpos⟩
      · exact resultPos_of_some hp
      · rw [resultPos_of_none hp, hpos]
    · exact hexec (resultPos_of_some hp) ((resultAt_of_working hdue hp).trans (workingResult_of_no_overlap hno))
    · exact hexec (resultPos_of_some hp) ((resultAt_of_working hdue hp).trans (workingResult_of_overlap hph hpos hnew))
    · exact hexec ((resultPos_of_none hp).trans hpos.symm) ((resultAt_of_spare hdue hp hspare).trans (spareResult_of_compare hph hold))
    · exact hexec ((resultPos_of_none hp).trans hpos.symm)
        ((resultAt_of_spare hdue hp hspare).trans (spareResult_of_discard hph hold hdiscard))
    · exact hexec ((resultPos_of_none hp).trans hpos.symm) ((resultAt_of_spare hdue hp hspare).trans (spareResult_of_reconnect hph))
  · intro hreset hboot hlink hspare hph hfault htime
    have hready := (stepReady_ai_iff s b.val).2 ⟨(rotates_iff s).2 ⟨hreset, hboot⟩, hlink, hspare, hph, hfault, htime⟩
    rw [exec_rotationStepStart, doStepStart, if_pos hready]
  · intro hbarred
    have hnot : ¬stepReady s false b.val = true := by
      intro hready
      obtain ⟨-, hlink, hspare, hph, hfault, htime⟩ := (stepReady_ai_iff s b.val).1 hready
      rcases hbarred with h | h | h | h | h
      · exact ne_true_of_eq_false hlink h
      · simp [h] at hspare
      · exact h hph
      · exact ne_true_of_eq_false hfault h
      · omega
    rw [exec_rotationStepStart, doStepStart, if_neg hnot]
  · refine ⟨doBankTimeout s b.val, rfl, rfl, fun i => ?_⟩
    rw [aiBank_doBankTimeout, stepAbandoned_eq]
  · intro hready
    rw [exec_spareSarStep, doSarStep, if_pos hready]
  · intro hready
    rw [exec_spareSarStep, doSarStep, if_neg (ne_true_of_eq_false hready)]

end Sys2Proof.Machine
end

section
/-! Proofs about the calibrations (09): the reference measurement of a converter, the recheck of a spare that disagrees, and the
writes that restore retired converters. -/

namespace Sys2Proof.Machine

open Sys2Proof

/-! ### What a calibration leaves unchanged -/

/-- Nothing but banks and stored calibrations differs between two states. -/
def SameButBanks (s u : State) : Prop :=
  u = { s with an := { s.an with aiCal := u.an.aiCal, aoCal := u.an.aoCal, ab := u.an.ab, ob := u.an.ob } }

theorem SameButBanks.refl (s : State) : SameButBanks s s := rfl

theorem SameButBanks.trans {s u t : State} (hu : SameButBanks s u) (ht : SameButBanks u t) : SameButBanks s t :=
  Eq.trans ht (congrArg (fun x : State =>
    { x with an := { x.an with aiCal := t.an.aiCal, aoCal := t.an.aoCal, ab := t.an.ab, ob := t.an.ob } }) hu)

theorem SameButBanks.foldl {f : State → Nat → State} (hf : ∀ s i, SameButBanks s (f s i)) (l : List Nat) (s : State) :
    SameButBanks s (l.foldl f s) := by
  induction l generalizing s with
  | nil => exact .refl s
  | cons i l ih => exact (hf s i).trans (ih (f s i))

theorem SameButBanks.fr_eq {s u : State} (h : SameButBanks s u) : u.fr = s.fr := (congrArg State.fr h).trans rfl

/-- The schedule of a bank's steps rests on device time and the configuration alone. -/
theorem SameButBanks.stepAfter_eq {s u : State} (h : SameButBanks s u) (ao : Bool) (b : Nat) : stepAfter u ao b = stepAfter s ao b :=
  (congrArg (stepAfter · ao b) h).trans rfl

theorem sameButBanks_updBank (s : State) (ao : Bool) (b : Nat) (f : RotBank → RotBank) : SameButBanks s (updBank s ao b f) := by
  cases ao <;> rfl

theorem sameButBanks_updCal (s : State) (ao : Bool) (b c : Nat) (f : Cal → Cal) : SameButBanks s (updCal s ao b c f) := by
  cases ao <;> rfl

theorem sameButBanks_noteIFail (s : State) (ao : Bool) (b c : Nat) (ok iok : Bool) : SameButBanks s (noteIFail s ao b c ok iok) :=
  sameButBanks_updCal ..

/-- A retirement sets the suspect event of its bank too. -/
theorem retire_of_sameButBanks {s u : State} (h : SameButBanks s u) (ao : Bool) (b c : Nat) :
    retire u ao b c = { s with an := { s.an with
      aiCal := (retire u ao b c).an.aiCal, aoCal := (retire u ao b c).an.aoCal, ab := (retire u ao b c).an.ab
      ob := (retire u ao b c).an.ob, event := bset s.an.event (if ao = true then 6 + b else b) } } :=
  congrArg (anEvent · (if ao then 6 + b else b)) (h.trans (sameButBanks_updCal u ao b c fun k => { k with retired := true }))

/-! ### Retired and noted converters -/

@[simp] theorem calOf_retire_same (s : State) (ao : Bool) (b c : Nat) :
    calOf (retire s ao b c) ao b c = { calOf s ao b c with retired := true } := by
  rw [retire, calOf_anEvent, calOf_updCal_same]

@[simp] theorem bankOf_retire (s : State) (ao : Bool) (b c i : Nat) : bankOf (retire s ao b c) ao i = bankOf s ao i := by
  rw [retire, bankOf_anEvent, bankOf_updCal]

@[simp] theorem calOf_noteIFail_same (s : State) (ao : Bool) (b c : Nat) (ok iok : Bool) :
    calOf (noteIFail s ao b c ok iok) ao b c = { calOf s ao b c with
      passed := ok, iFailed := !iok
      iFails := if iok = true then (calOf s ao b c).iFails else satInc 65535 (calOf s ao b c).iFails } :=
  calOf_updCal_same ..

@[simp] theorem bankOf_noteIFail (s : State) (ao : Bool) (b c : Nat) (ok iok : Bool) (i : Nat) :
    bankOf (noteIFail s ao b c ok iok) ao i = bankOf s ao i := bankOf_updCal ..

/-! ### The end of a reference measurement (09 R215, R216, R226) -/

/-- The readings of a converter that passed its checks, kept as its calibration in frame `frame`. -/
def calKept (frame : Nat) (z h u i : Int) (k : Cal) : Cal :=
  { k with offset := z, z := z, h := h, u := u, i := i, calFrame := frame, calCount := satInc32 k.calCount, retired := false }

/-- The bank of converter c that passed its checks: the converter is the spare; the step it ended counts, a restore does not and
has the schedule resume with step `after`. -/
def bankPassed (ao : Bool) (c after : Nat) (iok fault : Bool) (B : RotBank) : RotBank :=
  { B with
    spare := some c, measuring := none, ph := .idle, lastIFail := !iok, refFault := B.refFault || fault, refPass := 0
    pos := if B.restore.isSome then B.pos else (B.pos + 1) % positions ao, restore := none
    step := if B.restore.isSome then max B.step after else B.step
    count := if B.restore.isSome then B.count else satInc32 B.count }

/-- The bank of a converter that failed its checks. -/
def bankFailed (ao : Bool) (B : RotBank) : RotBank :=
  { B with
    spare := none, measuring := none, ph := .idle, restore := none
    pos := if B.restore.isSome then B.pos else (B.pos + 1) % positions ao }

/-- A bank in REFERENCE_FAULT whose spare was checked: the second pass in a row ends the fault, and the schedule resumes with
step `after`. -/
def bankChecked (after : Nat) (pass : Bool) (B : RotBank) : RotBank :=
  if pass = true then
    if 1 ≤ B.refPass then { B with refFault := false, refPass := 0, lastIFail := false, step := max B.step after }
    else { B with refPass := B.refPass + 1 }
  else { B with refPass := 0 }

/-- DIAG_AI_STEPS counts one more step, unless it is `barred`. -/
def stepCounted (barred : Bool) (s : State) : State :=
  if barred = true then s else { s with an := { s.an with steps := satInc32 s.an.steps } }

/-- Two converters in a row failed the reference: the event of it. -/
def faultShown (fault : Bool) (ao : Bool) (b : Nat) (s : State) : State :=
  if fault = true then anEvent s (if ao = true then 20 + b else 14 + b) else s

/-- Converter c has passed its checks. -/
def converterPassed (s : State) (ao : Bool) (b c : Nat) (z h u i : Int) (iok : Bool) : State :=
  updBank (updCal (noteIFail s ao b c true iok) ao b c (calKept s.fr.frame z h u i)) ao b
    (bankPassed ao c (stepAfter s ao b) iok (!iok && (bankOf s ao b).lastIFail))

/-- Converter c has failed its checks. -/
def converterFailed (s : State) (ao : Bool) (b c : Nat) (iok : Bool) : State :=
  retire (updBank (noteIFail s ao b c false iok) ao b (bankFailed ao)) ao b c

/-- The spare of a bank, if it has one, was checked. -/
def spareNoted (s : State) (ao : Bool) (b : Nat) (ok iok : Bool) : State :=
  match (bankOf s ao b).spare with
  | some c => noteIFail s ao b c ok iok
  | none => s

section
variable {s : State} {ao : Bool} {b c : Nat} {z h u i : Int}

theorem doReference_of_pass (hm : (bankOf s ao b).measuring = some c) (hok : calPasses ao z h u = true) :
    doReference s ao b z h u i = faultShown (!refPasses ao b z u i && (bankOf s ao b).lastIFail) ao b
      (stepCounted (ao || (bankOf s ao b).restore.isSome) (converterPassed s ao b c z h u i (refPasses ao b z u i))) := by
  have hnoted := sameButBanks_noteIFail s ao b c true (refPasses ao b z u i)
  rw [converterPassed, ← hnoted.stepAfter_eq, ← hnoted.fr_eq]
  simp only [doReference, hm, hok, if_true]
  rfl

/-- A step whose converter passes the reference too counts, and raises nothing. -/
theorem doReference_of_step (hm : (bankOf s ao b).measuring = some c) (hok : calPasses ao z h u = true)
    (hiok : refPasses ao b z u i = true) (hstep : (bankOf s ao b).restore = none) :
    doReference s ao b z h u i = stepCounted ao (converterPassed s ao b c z h u i true) := by
  rw [doReference_of_pass hm hok, hiok, hstep, Option.isSome_none, Bool.or_false]
  rfl

/-- The second converter in a row that fails the reference raises the event. -/
theorem doReference_of_second_fail (hm : (bankOf s ao b).measuring = some c) (hok : calPasses ao z h u = true)
    (hiok : refPasses ao b z u i = false) (hlast : (bankOf s ao b).lastIFail = true) : doReference s ao b z h u i =
      anEvent (stepCounted (ao || (bankOf s ao b).restore.isSome) (converterPassed s ao b c z h u i false))
        (if ao = true then 20 + b else 14 + b) := by
  rw [doReference_of_pass hm hok, hiok, hlast]
  rfl

theorem doReference_of_fail (hm : (bankOf s ao b).measuring = some c) (hok : calPasses ao z h u = false) :
    doReference s ao b z h u i = converterFailed s ao b c (refPasses ao b z u i) := by
  simp only [doReference, hm, hok]
  rfl

theorem sameButBanks_spareNoted (ok iok : Bool) : SameButBanks s (spareNoted s ao b ok iok) := by
  unfold spareNoted
  split
  · exact sameButBanks_noteIFail ..
  · exact .refl s

theorem bankOf_spareNoted (ok iok : Bool) : bankOf (spareNoted s ao b ok iok) ao b = bankOf s ao b := by
  unfold spareNoted
  split
  · exact bankOf_noteIFail ..
  · rfl

theorem spareNoted_of_spare (hc : (bankOf s ao b).spare = some c) (ok iok : Bool) :
    spareNoted s ao b ok iok = noteIFail s ao b c ok iok := by rw [spareNoted, hc]

/-- The fault ends where the passes in a row are two, by what the bank held of them. -/
theorem updBank_bankChecked (s : State) (ao : Bool) (b after : Nat) (pass : Bool) :
    updBank s ao b (bankChecked after pass) =
      let n := if pass = true then (bankOf s ao b).refPass + 1 else 0
      if 2 ≤ n then updBank s ao b fun B => { B with refFault := false, refPass := 0, lastIFail := false, step := max B.step after }
      else updBank s ao b fun B => { B with refPass := n } := by
  cases pass with
  | false => rfl
  | true =>
    by_cases hfirst : 1 ≤ (bankOf s ao b).refPass
    · refine Eq.trans ?_ (if_pos (Nat.succ_le_succ hfirst)).symm
      exact updBank_congr (if_pos hfirst)
    · refine Eq.trans ?_ (if_neg fun h => hfirst (Nat.le_of_succ_le_succ h)).symm
      exact updBank_congr (if_neg hfirst)

/-- In REFERENCE_FAULT the measurement is of the spare. -/
theorem doReference_of_fault (hm : (bankOf s ao b).measuring = none) (hfault : (bankOf s ao b).refFault = true) :
    doReference s ao b z h u i = updBank (spareNoted s ao b (calPasses ao z h u) (refPasses ao b z u i)) ao b
      (bankChecked (stepAfter s ao b) (calPasses ao z h u && refPasses ao b z u i)) := by
  rw [updBank_bankChecked, bankOf_spareNoted, ← (sameButBanks_spareNoted (calPasses ao z h u) (refPasses ao b z u i)).stepAfter_eq]
  simp only [doReference, hm, hfault, if_true]
  rfl

/-- Without a converter in measurement and without a fault nothing was measured. -/
theorem doReference_of_idle (hm : (bankOf s ao b).measuring = none) (hfault : (bankOf s ao b).refFault = false) :
    doReference s ao b z h u i = s := by
  simp only [doReference, hm, hfault]
  rfl

end

theorem calOf_converterPassed (s : State) (ao : Bool) (b c : Nat) (z h u i : Int) (iok : Bool) :
    calOf (converterPassed s ao b c z h u i iok) ao b c =
      calKept s.fr.frame z h u i (calOf (noteIFail s ao b c true iok) ao b c) := by
  rw [converterPassed, calOf_updBank, calOf_updCal_same]

theorem bankOf_converterPassed (s : State) (ao : Bool) (b c : Nat) (z h u i : Int) (iok : Bool) :
    bankOf (converterPassed s ao b c z h u i iok) ao b =
      bankPassed ao c (stepAfter s ao b) iok (!iok && (bankOf s ao b).lastIFail) (bankOf s ao b) := by
  rw [converterPassed, bankOf_updBank_same, bankOf_updCal, bankOf_noteIFail]

theorem sameButBanks_converterPassed (s : State) (ao : Bool) (b c : Nat) (z h u i : Int) (iok : Bool) :
    SameButBanks s (converterPassed s ao b c z h u i iok) :=
  ((sameButBanks_noteIFail s ao b c true iok).trans (sameButBanks_updCal ..)).trans (sameButBanks_updBank ..)

@[simp] theorem calOf_stepCounted (barred : Bool) (s : State) (ao : Bool) (i j : Nat) :
    calOf (stepCounted barred s) ao i j = calOf s ao i j := by cases barred <;> rfl

@[simp] theorem bankOf_stepCounted (barred : Bool) (s : State) (ao : Bool) (i : Nat) :
    bankOf (stepCounted barred s) ao i = bankOf s ao i := by cases barred <;> rfl

theorem stepCounted_of_sameButBanks {s u : State} (h : SameButBanks s u) (barred : Bool) :
    stepCounted barred u = { s with an := { s.an with
      aiCal := (stepCounted barred u).an.aiCal, aoCal := (stepCounted barred u).an.aoCal, ab := (stepCounted barred u).an.ab
      ob := (stepCounted barred u).an.ob, steps := if barred = true then s.an.steps else satInc32 s.an.steps } } := by
  cases barred
  · exact congrArg (stepCounted false) h
  · exact h

theorem steps_stepCounted {s u : State} (h : SameButBanks s u) (barred : Bool) :
    (stepCounted barred u).an.steps = if barred = true then s.an.steps else satInc32 s.an.steps :=
  (congrArg (·.an.steps) (stepCounted_of_sameButBanks h barred)).trans rfl

theorem event_stepCounted {s u : State} (h : SameButBanks s u) (barred : Bool) : (stepCounted barred u).an.event = s.an.event :=
  (congrArg (·.an.event) (stepCounted_of_sameButBanks h barred)).trans rfl

theorem bankPassed_of_step {B : RotBank} (h : B.restore = none) (ao : Bool) (c after : Nat) :
    bankPassed ao c after true false B = { B with
      spare := some c, measuring := none, ph := .idle, lastIFail := false, refPass := 0, pos := (B.pos + 1) % positions ao
      count := satInc32 B.count } := by
  simp [bankPassed, h]

/-! ### The recheck of a spare that disagrees (09 R217, R226) -/

theorem doRecheck_of_decide {s : State} {ao : Bool} {b c : Nat} (hspare : (bankOf s ao b).spare = some c)
    (hph : (bankOf s ao b).ph = .decide) (z u : Int) : doRecheck s ao b z u =
      if spareDrifted s ao b (calOf s ao b c) z u = true then
        retire (updBank s ao b fun B => { B with spare := none, ph := .idle, pos := (B.pos + 1) % positions ao }) ao b c
      else updBank s ao b fun B => { B with ph := if ao = true then .retireOld else .reconnect, discard := 0 } := by
  simp only [doRecheck, hspare, hph, if_true]

theorem doRecheck_of_no_decision {s : State} {ao : Bool} {b : Nat} (h : (bankOf s ao b).spare = none ∨ (bankOf s ao b).ph ≠ .decide)
    (z u : Int) : doRecheck s ao b z u = s := by
  cases hspare : (bankOf s ao b).spare with
  | none => simp only [doRecheck, hspare]
  | some c =>
    have hph : (bankOf s ao b).ph ≠ .decide := h.resolve_left (by simp [hspare])
    simp only [doRecheck, hspare, if_neg hph]

/-! ### The restore of retired converters (09 R218, R226) -/

/-- The number of converters of a bank. -/
def perBank (ao : Bool) : Nat := if ao then 5 else 9

/-- Item i of the calibration store is that of its bank and converter. -/
theorem calIdx_div_mod (ao : Bool) (i : Nat) : calIdx ao (i / perBank ao) (i % perBank ao) = i := by
  cases ao <;> exact Nat.div_add_mod ..

theorem calOf_of_idx {s : State} {ao : Bool} {i b c : Nat} (h : calIdx ao b c = i) :
    calOf s ao (i / perBank ao) (i % perBank ao) = calOf s ao b c := by rw [calOf, calOf, calIdx_div_mod, h]

theorem restoreConv_eq (ao : Bool) (s : State) (i : Nat) : restoreConv ao s i =
    if (calOf s ao (i / perBank ao) (i % perBank ao)).retired = true then
      updBank (updCal s ao (i / perBank ao) (i % perBank ao) fun k => { k with retired := false }) ao (i / perBank ao)
        fun B => { B with restore := some (i % perBank ao) }
    else s := rfl

/-- A restore takes its converter from the retired ones, and no other. -/
theorem retired_restoreConv (s : State) (ao : Bool) (i b c : Nat) :
    (calOf (restoreConv ao s i) ao b c).retired = ((calOf s ao b c).retired && !decide (calIdx ao b c = i)) := by
  rw [restoreConv_eq]
  by_cases hi : calIdx ao b c = i
  · rw [calOf_of_idx hi]
    by_cases hretired : (calOf s ao b c).retired = true
    · rw [if_pos hretired, calOf_updBank, calOf_updCal, calIdx_div_mod, if_pos hi]
      simp [hi]
    · rw [if_neg hretired]
      simp [hretired]
  · rw [decide_eq_false hi, Bool.not_false, Bool.and_true]
    split
    · rw [calOf_updBank, calOf_updCal, calIdx_div_mod, if_neg hi]
    · rfl

theorem retired_foldl_restoreConv (ao : Bool) (b c : Nat) (l : List Nat) (s : State) :
    (calOf (l.foldl (restoreConv ao) s) ao b c).retired = ((calOf s ao b c).retired && !decide (calIdx ao b c ∈ l)) := by
  induction l generalizing s with
  | nil => simp
  | cons i l ih =>
    rw [List.foldl_cons, ih, retired_restoreConv]
    simp [Bool.and_assoc]

theorem sameButBanks_restoreConv (ao : Bool) (s : State) (i : Nat) : SameButBanks s (restoreConv ao s i) := by
  rw [restoreConv_eq]
  split
  · exact (sameButBanks_updCal ..).trans (sameButBanks_updBank ..)
  · exact .refl s

/-- The number of converters of a side. -/
def converters (ao : Bool) : Nat := if ao = true then 40 else 54

/-- A write of `v` to word w of the retired registers restores the converters whose bits are 1. -/
def restoreWord (ao : Bool) (s : State) (w : Nat) (v : Word) : State :=
  ((writtenChannels w v).filter fun i => decide (i < converters ao)).foldl (restoreConv ao) s

theorem doAiRestore_eq (s : State) (w : Nat) (v : Word) : doAiRestore s w v = restoreWord false s w v := by
  rw [restoreWord, writtenChannels, List.filter_map, List.foldl_map]
  rfl

theorem doAoRestore_eq (s : State) (w : Nat) (v : Word) : doAoRestore s w v = restoreWord true s w v := by
  rw [restoreWord, writtenChannels, List.filter_map, List.foldl_map]
  rfl

theorem exec_restore {s : State} (hup : hostUp s = true) (ao : Bool) (w : Fin 2) (v : Word) :
    exec (if ao = true then .aoSarRestore w v else .aiConverterRestore w v) s = .next (settle s (restoreWord ao s w.val v)) := by
  cases ao with
  | false => exact (done_hostAccess_of_up hup).trans (by rw [doAiRestore_eq])
  | true => exact (done_hostAccess_of_up hup).trans (by rw [doAoRestore_eq])

theorem sameButBanks_restoreWord (ao : Bool) (s : State) (w : Nat) (v : Word) : SameButBanks s (restoreWord ao s w v) :=
  .foldl (sameButBanks_restoreConv ao) ..

theorem retired_restoreWord (ao : Bool) (s : State) (w : Nat) (v : Word) (b c : Nat) :
    (calOf (restoreWord ao s w v) ao b c).retired = ((calOf s ao b c).retired &&
      !(decide (calIdx ao b c < converters ao) && decide (calIdx ao b c / 32 = w) && v.getLsbD (calIdx ao b c % 32))) := by
  rw [restoreWord, retired_foldl_restoreConv]
  simp only [List.mem_filter, mem_writtenChannels, decide_eq_true_eq, Bool.decide_and, Bool.decide_eq_true]
  rw [Bool.and_assoc (decide (_ < _)), Bool.and_comm (decide (_ < _))]

/-! ### The two rows of a calibration -/

section
variable {ao : Bool} {b : Fin 8} (hb : ao = true ∨ b.val < 6)
include hb

/-- The bank is one that the side has. -/
theorem bank_not_barred : ¬(!ao && decide (6 ≤ b.val)) = true := by
  simpa using fun hai : ao = false => hb.resolve_left (by simp [hai])

theorem exec_referenceMeasurementDone (z h u i : Int) (s : State) :
    exec (.referenceMeasurementDone ao b z h u i) s = .next (settle s (doReference s ao b.val z h u i)) :=
  congrArg (done s) (if_neg (bank_not_barred hb))

theorem exec_disagreementRecheckDone (z u : Int) (s : State) :
    exec (.disagreementRecheckDone ao b z u) s = .next (settle s (doRecheck s ao b.val z u)) :=
  congrArg (done s) (if_neg (bank_not_barred hb))

end

/-- Settles O45: a measurement by the converter it is of and by its checks, a recheck by the drift, the restores bit by bit. -/
theorem calibrationsKeepOrRetireConverters : Obligations.CalibrationsKeepOrRetireConverters := by
  refine ⟨fun ao b z h u i s => ⟨fun hai hb => ?_, fun hb => ?_⟩, fun ao w v s hup => ⟨_, exec_restore hup ao w v,
    sameButBanks_restoreWord ao s w.val v, fun b c _ => retired_restoreWord ao s w.val v b c⟩⟩
  · exact congrArg (done s) (if_pos (by simp [hai, hb]))
  intro B
  rw [exec_disagreementRecheckDone hb]
  have hexec := exec_referenceMeasurementDone hb z h u i s
  refine ⟨fun c hm hok hiok hnew => ⟨_, hexec, ?_⟩, fun c hm hok => ⟨_, hexec, ?_⟩, fun c hm hok hiok hlast => ⟨_, hexec, ?_⟩,
    fun hm hfault => ⟨_, hexec, ?_⟩, fun hm hfault => ?_, fun c hspare hph => ?_, fun hno => ?_⟩
  · have hsame := sameButBanks_converterPassed s ao b.val c z h u i true
    rw [doReference_of_step hm hok hiok hnew]
    refine ⟨?_, steps_stepCounted hsame ao, ?_, ?_⟩
    · rw [steps_stepCounted hsame ao]
      exact stepCounted_of_sameButBanks hsame ao
    · rw [calOf_stepCounted, calOf_converterPassed, calOf_noteIFail_same]
      rfl
    · rw [bankOf_stepCounted, bankOf_converterPassed]
      exact bankPassed_of_step hnew ao c _
  · rw [doReference_of_fail hm hok]
    refine ⟨retire_of_sameButBanks ((sameButBanks_noteIFail ..).trans (sameButBanks_updBank ..)) ao b.val c, ?_, ?_⟩
    · rw [converterFailed, calOf_retire_same, calOf_updBank, calOf_noteIFail_same]
    · rw [converterFailed, bankOf_retire, bankOf_updBank_same]
      exact ⟨rfl, rfl⟩
  · rw [doReference_of_second_fail hm hok hiok hlast]
    refine ⟨congrArg (bset · (if ao = true then 20 + b.val else 14 + b.val))
      (event_stepCounted (sameButBanks_converterPassed ..) _), ?_⟩
    have hlast' : (bankOf s ao b.val).lastIFail = true := hlast
    rw [bankOf_anEvent, bankOf_stepCounted, bankOf_converterPassed, hlast']
    exact Bool.or_true _
  · rw [doReference_of_fault hm hfault]
    refine ⟨(sameButBanks_spareNoted ..).trans (sameButBanks_updBank ..), ?_, fun c hspare => ?_⟩
    · rw [bankOf_updBank_same, bankOf_spareNoted]
      simp only [bankChecked, Bool.and_eq_true]
      rfl
    · rw [calOf_updBank, spareNoted_of_spare hspare, calOf_noteIFail_same]
  · rw [hexec, doReference_of_idle hm hfault]
  · rw [doRecheck_of_decide hspare hph]
    exact ⟨fun hdrift => by rw [if_pos hdrift], fun hkept => by rw [if_neg (ne_true_of_eq_false hkept)]⟩
  · rw [doRecheck_of_no_decision hno]

end Sys2Proof.Machine
end

section
/-! Proofs about the outputs of the analogue loops (09): compliance, mismatch and the supply of a bank. -/

namespace Sys2Proof.Machine

open Sys2Proof

/-! ### Writes of ones that wait for the next tick (09 R229, R230) -/

/-- A host write asks AO c for `f`, where the condition `p` holds of the channel. -/
def askAo (p : State → Nat → AoCh → Bool) (f : AoCh → AoCh) (s : State) (c : Nat) : State :=
  if p s c (aoCh s c) then updAo s c f else s

theorem askAo_frame (p : State → Nat → AoCh → Bool) (f : AoCh → AoCh) (s : State) (c : Nat) :
    askAo p f s c = { s with an := { s.an with ao := (askAo p f s c).an.ao } } := by
  unfold askAo
  split <;> rfl

theorem foldl_askAo_frame (p : State → Nat → AoCh → Bool) (f : AoCh → AoCh) (cs : List Nat) (s : State) :
    cs.foldl (askAo p f) s = { s with an := { s.an with ao := (cs.foldl (askAo p f) s).an.ao } } := by
  induction cs generalizing s with
  | nil => rfl
  | cons c cs ih =>
    rw [List.foldl_cons, ih, askAo_frame]

theorem aoCh_askAo (p : State → Nat → AoCh → Bool) (f : AoCh → AoCh) (s : State) (c i : Nat) :
    aoCh (askAo p f s c) i = if i = c ∧ p s i (aoCh s i) = true then f (aoCh s i) else aoCh s i := by
  unfold askAo
  by_cases hi : i = c
  · subst hi
    by_cases hask : p s i (aoCh s i) = true
    · rw [if_pos hask, if_pos ⟨rfl, hask⟩, aoCh_updAo, if_pos rfl]
    · rw [if_neg hask, if_neg fun h => hask h.2]
  · rw [if_neg (c := i = c ∧ _) fun h => hi h.1]
    split
    · rw [aoCh_updAo, if_neg hi]
    · rfl

section
variable {p : State → Nat → AoCh → Bool} (hp : ∀ s c f, p (updAo s c f) = p s) (f : AoCh → AoCh)
include hp

/-- The condition does not depend on what other channels were asked. -/
theorem askAo_keeps_condition (s : State) (c : Nat) : p (askAo p f s c) = p s := by
  unfold askAo
  split
  · exact hp s c f
  · rfl

/-- Each channel of a list is asked by what it held before. -/
theorem aoCh_foldl_askAo {cs : List Nat} (hcs : cs.Nodup) (s : State) (i : Nat) :
    aoCh (cs.foldl (askAo p f) s) i = if i ∈ cs ∧ p s i (aoCh s i) = true then f (aoCh s i) else aoCh s i := by
  induction cs generalizing s with
  | nil => simp
  | cons c cs ih =>
    obtain ⟨hc, hcs⟩ := List.nodup_cons.1 hcs
    rw [List.foldl_cons, ih hcs, askAo_keeps_condition hp f, aoCh_askAo p f]
    by_cases hi : i = c
    · subst hi
      simp [hc]
    · simp [hi]

end

/-- COMPLIANCE of a channel that a write of ones ends. -/
def complAsked (s : State) (c : Nat) (x : AoCh) : Bool := x.compliance && complAlarm s c

theorem doComplClear_eq (s : State) (v : Word) : doComplClear s v =
    let u := (bitsSet v.toNat 32).foldl (askAo complAsked fun x => { x with compClear := true }) s
    { u with an := { u.an with compl := u.an.compl &&& ~~~v } } := rfl

theorem doMisClear_eq (s : State) (v : Word) : doMisClear s v =
    let u := (bitsSet v.toNat 32).foldl (askAo (fun _ _ x => x.mismatch) fun x => { x with misClear := true }) s
    { u with an := { u.an with mism := u.an.mism &&& ~~~v } } := rfl

theorem doComplClear_frame (s : State) (v : Word) : doComplClear s v =
    { s with an := { s.an with ao := (doComplClear s v).an.ao, compl := s.an.compl &&& ~~~v } } := by
  rw [doComplClear_eq, foldl_askAo_frame]

theorem doMisClear_frame (s : State) (v : Word) : doMisClear s v =
    { s with an := { s.an with ao := (doMisClear s v).an.ao, mism := s.an.mism &&& ~~~v } } := by
  rw [doMisClear_eq, foldl_askAo_frame]

theorem aoCh_doComplClear (s : State) (v : Word) (i : Nat) : aoCh (doComplClear s v) i =
    if i < 32 ∧ v.getLsbD i = true ∧ (aoCh s i).compliance = true ∧ u8 (cfgBody s 0x0304 i) 3 = 1
    then { aoCh s i with compClear := true } else aoCh s i := by
  have hread : aoCh (doComplClear s v) i = _ := aoCh_foldl_askAo (p := complAsked) (fun _ _ _ => rfl)
    (fun x => { x with compClear := true }) (bitsSet_nodup v.toNat 32) s i
  simpa only [mem_bitsSet, testBit_getLsbD, complAsked, complAlarm, Bool.and_eq_true, decide_eq_true_eq, and_assoc] using hread

theorem aoCh_doMisClear (s : State) (v : Word) (i : Nat) : aoCh (doMisClear s v) i =
    if i < 32 ∧ v.getLsbD i = true ∧ (aoCh s i).mismatch = true then { aoCh s i with misClear := true } else aoCh s i := by
  have hread : aoCh (doMisClear s v) i = _ := aoCh_foldl_askAo (p := fun _ _ x => x.mismatch) (fun _ _ _ => rfl)
    (fun x => { x with misClear := true }) (bitsSet_nodup v.toNat 32) s i
  simpa only [mem_bitsSet, testBit_getLsbD, and_assoc] using hread

/-! ### Compliance (09 R229) -/

/-- Channel c is in COMPLIANCE, and its bit is set. -/
def inCompliance (s : State) (c : Nat) : State :=
  let u := updAo s c fun x => { x with compliance := true, nearRun := 0 }
  { u with an := { u.an with compl := bset s.an.compl c } }

theorem aoCh_inCompliance (s : State) (c i : Nat) :
    aoCh (inCompliance s c) i = if i = c then { aoCh s i with compliance := true, nearRun := 0 } else aoCh s i :=
  aoCh_updAo s c (fun x => { x with compliance := true, nearRun := 0 }) i

theorem doComplEnter_eq (s : State) (c : Nat) : doComplEnter s c =
    if 3 ≤ (aoCh s c).lowSatRun ∧ (aoCh s c).compliance = false then inCompliance s c else s :=
  ite_congr (by simp) (fun _ => rfl) fun _ => rfl

theorem doComplEnd_eq (s : State) (c : Nat) : doComplEnd s c =
    if (aoCh s c).compliance = true ∧ complAlarm s c = false ∧ 3 ≤ (aoCh s c).nearRun
    then updAo s c fun x => { x with compliance := false } else s :=
  ite_congr (by simp [and_assoc]) (fun _ => rfl) fun _ => rfl

/-! ### Mismatch (09 R230) -/

/-- Three counting ticks in a row differ, of a channel that is not in MISMATCH and has no spare SAR in parallel. -/
theorem doMismatch_eq (s : State) (c : Nat) : doMismatch s c =
    if (3 ≤ (aoCh s c).diffRun ∨ 3 ≤ (aoCh s c).highRun) ∧ (aoCh s c).mismatch = false ∧ (aoCh s c).parallel = false then
      if (aoBank s (c / 4)).spare = none then enterMismatch s c
      else updBank (updAo s c fun x => { x with parallel := true }) true (c / 4) fun B => { B with ph := .idle }
    else s :=
  ite_congr (by simp [and_assoc]) (fun _ => ite_congr (by simp) (fun _ => rfl) fun _ => rfl) fun _ => rfl

section
variable {s : State} {c : Nat} {spare : F64}

theorem doParallelDone_of_no_parallel (h : (aoCh s c).parallel = false) : doParallelDone s c spare = s := if_pos (by simp [h])

theorem doParallelDone_of_parallel (h : (aoCh s c).parallel = true) : doParallelDone s c spare =
    if F64.le (F64.abs (F64.sub spare (aoCh s c).rbLive)) (frac64 5 100) = true then enterMismatch s c
    else updBank (updAo s c fun x => { x with parallel := false, diffRun := 0, highRun := 0 }) true (c / 4)
      fun B => { B with ph := .retireOld, pos := c % 4 } := if_neg (by simp [h])

end

theorem exec_complianceEnter (ch : Fin 32) (s : State) : exec (.complianceEnter ch) s = .next (settle s (doComplEnter s ch.val)) := rfl

theorem exec_complianceEnd (ch : Fin 32) (s : State) : exec (.complianceEnd ch) s = .next (settle s (doComplEnd s ch.val)) := rfl

theorem exec_mismatchDetect (ch : Fin 32) (s : State) : exec (.mismatchDetect ch) s = .next (settle s (doMismatch s ch.val)) := rfl

theorem exec_spareParallelDone (ch : Fin 32) (spare : F64) (s : State) :
    exec (.spareParallelDone ch spare) s = .next (settle s (doParallelDone s ch.val spare)) := rfl

/-- Settles O46: a channel by its runs and by what its bank has to judge with, and the two writes bit by bit. -/
theorem outputsEnterComplianceAndMismatch : Obligations.OutputsEnterComplianceAndMismatch := by
  refine ⟨fun ch spare s => ?_, fun v s hup => ⟨⟨_, done_hostAccess_of_up hup, doComplClear_frame s v, aoCh_doComplClear s v⟩,
    _, done_hostAccess_of_up hup, doMisClear_frame s v, aoCh_doMisClear s v⟩, fun g s => ⟨rfl, rfl⟩⟩
  intro c x alarm mismatched
  rw [exec_complianceEnter, exec_complianceEnd, exec_mismatchDetect, exec_spareParallelDone, doComplEnter_eq, doComplEnd_eq,
    doMismatch_eq]
  refine ⟨fun hlow hout => ⟨inCompliance s c, ?_, rfl, aoCh_inCompliance s c⟩, fun hno => ?_, fun hin halarm hnear => ?_,
    fun hno => ?_, fun hrun hmis hpar => ⟨fun hspare => ?_, fun hspare => ?_⟩, fun hdiff hhigh => ?_,
    fun hpar => ⟨fun hnear => ?_, fun hfar => ?_⟩, fun hpar => ?_⟩
  · rw [if_pos ⟨hlow, hout⟩]
  · rw [if_neg]
    rintro ⟨hlow, hout⟩
    rcases hno with h | h
    · exact Nat.not_le.2 h hlow
    · exact ne_true_of_eq_false hout h
  · rw [if_pos ⟨hin, halarm, hnear⟩]
  · rw [if_neg]
    rintro ⟨hin, halarm, hnear⟩
    rcases hno with h | h | h
    · exact ne_true_of_eq_false h hin
    · exact ne_true_of_eq_false halarm h
    · exact Nat.not_le.2 h hnear
  · rw [if_pos ⟨hrun, hmis, hpar⟩, if_pos hspare]
    rfl
  · rw [if_pos ⟨hrun, hmis, hpar⟩, if_neg (Option.isSome_iff_ne_none.1 hspare)]
  · rw [if_neg fun h => h.1.elim (Nat.not_le.2 hdiff) (Nat.not_le.2 hhigh)]
  · rw [doParallelDone_of_parallel hpar, if_pos hnear]
    rfl
  · rw [doParallelDone_of_parallel hpar, if_neg (ne_true_of_eq_false hfar)]
  · rw [doParallelDone_of_no_parallel hpar]

end Sys2Proof.Machine
end

section
/-! Proofs about position feedback (10): the table of the channels, what an operation on one channel leaves, the FIFO and the
compare unit. -/

namespace Sys2Proof.Machine

open Sys2Proof

/-! ### The table of the channels: a read after a write -/

theorem pfCh_updPf (s : State) (c : Nat) (f : PfCh → PfCh) (i : Nat) :
    pfCh (updPf s c f) i = if i = c then f (pfCh s i) else pfCh s i := Tab.get_upd ..

@[simp] theorem pfCh_updPf_same (s : State) (c : Nat) (f : PfCh → PfCh) : pfCh (updPf s c f) c = f (pfCh s c) :=
  (pfCh_updPf s c f c).trans (if_pos rfl)

theorem pfCh_updPf_other {c i : Nat} (hi : i ≠ c) (s : State) (f : PfCh → PfCh) : pfCh (updPf s c f) i = pfCh s i :=
  (pfCh_updPf s c f i).trans (if_neg hi)

@[simp] theorem pfCh_pfEvent (s : State) (k c i : Nat) : pfCh (pfEvent s k c) i = pfCh s i := rfl

@[simp] theorem pfCh_pfReference (s : State) (c : Nat) : pfCh (pfReference s c) c = { pfCh s c with referenced := true } := by
  unfold pfReference
  split <;> simp

/-- An event sets its bit of those that wait for the tick. -/
theorem getLsbD_pfEvent (s : State) {k c : Nat} (h : 8 * k + c < 72) : (pfEvent s k c).pf.evNew.getLsbD (8 * k + c) = true := by
  simp [pfEvent, h]

/-! ### What an operation on one channel leaves -/

/-- From s to u nothing changes but channel c and the events that wait for the tick. -/
def PfOnly (c : Nat) (s u : State) : Prop :=
  u = { s with pf := { s.pf with ch := u.pf.ch, evNew := u.pf.evNew } } ∧ ∀ i, i ≠ c → pfCh u i = pfCh s i

namespace PfOnly

variable {c : Nat} {s t u : State}

theorem refl (c : Nat) (s : State) : PfOnly c s s := ⟨rfl, fun _ _ => rfl⟩

theorem trans (hst : PfOnly c s t) (htu : PfOnly c t u) : PfOnly c s u := by
  obtain ⟨ht, hti⟩ := hst
  obtain ⟨hu, hui⟩ := htu
  refine ⟨?_, fun i hi => (hui i hi).trans (hti i hi)⟩
  rw [hu, ht]

theorem updPf (s : State) (c : Nat) (f : PfCh → PfCh) : PfOnly c s (updPf s c f) := ⟨rfl, fun _ hi => pfCh_updPf_other hi s f⟩

theorem pfEvent (s : State) (k c i : Nat) : PfOnly i s (pfEvent s k c) := ⟨rfl, fun _ _ => rfl⟩

theorem ite {p : Prop} [Decidable p] (ht : PfOnly c s t) (hu : PfOnly c s u) : PfOnly c s (if p then t else u) := by
  split
  · exact ht
  · exact hu

theorem pfReference (s : State) (c : Nat) : PfOnly c s (pfReference s c) := ite (updPf ..) ((updPf ..).trans (pfEvent ..))

theorem pfFifo (s : State) (c kind sw : Nat) (rising : Bool) : PfOnly c s (pfFifo s c kind sw rising) :=
  ite (refl ..) (ite ((updPf ..).trans (updPf ..)) ((updPf ..).trans ((updPf ..).trans (pfEvent ..))))

theorem pfCompare (s : State) (c : Nat) (up : Bool) : PfOnly c s (pfCompare s c up) :=
  ite ((updPf ..).trans (pfFifo ..)) (refl ..)

theorem pfStep (s : State) (c : Nat) (up : Bool) : PfOnly c s (pfStep s c up) :=
  ite (updPf ..) ((updPf ..).trans ((updPf ..).trans (pfCompare ..)))

end PfOnly

/-! ### The FIFO of a channel (10 R254-R256) -/

/-- Two channels differ at most in the FIFO, the number of its next entry and the count of the entries lost. -/
def PfCh.EqButFifo (x y : PfCh) : Prop := ∃ fifo seq lost, x = { y with fifo := fifo, seq := seq, errFifo := lost }

/-- The entry of an event of kind `kind` in the FIFO of channel c. -/
def fifoEntry (s : State) (c kind sw : Nat) (rising : Bool) : FifoEntry :=
  { stamp := if pfSerial s c && kind != 5 then (pfCh s c).stamp else s.fr.t10, pos := (pfCh s c).c, kind := kind, dir := (pfCh s c).dir
    sw := sw, rising := rising, seq := (pfCh s c).seq }

section
variable {s : State} {c kind sw : Nat} {rising : Bool}

theorem pfFifo_of_unselected (h : (u8 (pfBody s c) 12).testBit (kind - 1) = false) : pfFifo s c kind sw rising = s :=
  if_pos (by simp [h])

theorem pfFifo_of_room (h : (u8 (pfBody s c) 12).testBit (kind - 1) = true) (hroom : (pfCh s c).fifo.length < 16) :
    pfFifo s c kind sw rising = updPf (updPf s c fun x => { x with seq := (x.seq + 1) % 256 }) c
      fun x => { x with fifo := x.fifo ++ [fifoEntry s c kind sw rising] } :=
  (if_neg (by simp [h])).trans (if_pos hroom)

theorem pfFifo_of_full (h : (u8 (pfBody s c) 12).testBit (kind - 1) = true) (hfull : 16 ≤ (pfCh s c).fifo.length) :
    pfFifo s c kind sw rising = pfEvent (updPf (updPf s c fun x => { x with seq := (x.seq + 1) % 256 }) c
      fun x => { x with errFifo := satInc 255 x.errFifo }) 5 c :=
  (if_neg (by simp [h])).trans (if_neg (Nat.not_lt.2 hfull))

end

/-- An entry, written or lost, changes nothing else of its channel. -/
theorem pfFifo_eqButFifo (s : State) (c kind sw : Nat) (rising : Bool) :
    (pfCh (pfFifo s c kind sw rising) c).EqButFifo (pfCh s c) := by
  cases hsel : (u8 (pfBody s c) 12).testBit (kind - 1) with
  | false =>
    rw [pfFifo_of_unselected hsel]
    exact ⟨_, _, _, rfl⟩
  | true =>
    rcases Nat.lt_or_ge (pfCh s c).fifo.length 16 with hroom | hfull
    · rw [pfFifo_of_room hsel hroom, pfCh_updPf_same, pfCh_updPf_same]
      exact ⟨_, _, _, rfl⟩
    · rw [pfFifo_of_full hsel hfull, pfCh_pfEvent, pfCh_updPf_same, pfCh_updPf_same]
      exact ⟨_, _, _, rfl⟩

/-! ### The compare unit (10 R268, R269) -/

/-- What a hit makes of a channel. -/
def PfCh.hit (s : State) (c : Nat) (up : Bool) (x : PfCh) : PfCh :=
  { x with
    compare := if up then x.compare + BitVec.ofNat 48 x.spacing else x.compare - BitVec.ofNat 48 x.spacing, left := x.left - 1
    cmpArmed := decide (x.left ≠ 1), cmpOn := cmpDriven s || (x.cmpOn && decide (s.fr.t10 < x.cmpEnd))
    cmpEnd := if cmpDriven s then s.fr.t10 + 10 * u16 (pfRec s 0x0403 c) 12 else x.cmpEnd }

section
variable {s : State} {c : Nat} (up : Bool) {x : PfCh}

/-- A driven pulse starts its width afresh. -/
theorem PfCh.hit_of_driven (h : cmpDriven s = true) :
    (x.hit s c up).cmpOn = true ∧ (x.hit s c up).cmpEnd = s.fr.t10 + 10 * u16 (pfRec s 0x0403 c) 12 :=
  ⟨Bool.or_eq_true_iff.2 (.inl h), if_pos h⟩

theorem PfCh.hit_of_not_driven (h : cmpDriven s = false) :
    (x.hit s c up).cmpOn = (x.cmpOn && decide (s.fr.t10 < x.cmpEnd)) ∧ (x.hit s c up).cmpEnd = x.cmpEnd := by
  simp [PfCh.hit, h]

variable {up}

theorem pfCompare_of_no_hit (h : ¬((pfCh s c).cmpArmed = true ∧ (pfCh s c).c = (pfCh s c).compare)) : pfCompare s c up = s :=
  if_neg (by simpa using h)

theorem pfCompare_of_hit (h : (pfCh s c).cmpArmed = true ∧ (pfCh s c).c = (pfCh s c).compare) :
    pfCompare s c up = pfFifo (updPf s c (PfCh.hit s c up)) c 4 0 false := if_pos (by simpa using h)

theorem pfCompare_of_hit_eqButFifo (h : (pfCh s c).cmpArmed = true ∧ (pfCh s c).c = (pfCh s c).compare) :
    (pfCh (pfCompare s c up) c).EqButFifo ((pfCh s c).hit s c up) := by
  rw [pfCompare_of_hit h, ← pfCh_updPf_same s c (PfCh.hit s c up)]
  exact pfFifo_eqButFifo ..

end

end Sys2Proof.Machine
end

section
/-! Proofs about the incremental channels of position feedback (10): the decoder samples of A, B and Z, the latch input and the
switches, the end of a compare pulse and the snapshot of the frame latch. -/

namespace Sys2Proof.Machine

open Sys2Proof

/-! ### A happening in a decoder sample (10 R253) -/

section
variable {s : State} {c dt : Nat} {h : PfHap}

theorem pfSample_of_reset (hm : s.md.mode = .reset) : pfSample s c dt h = s := if_pos hm

theorem pfSample_of_inFrame (hm : s.md.mode ≠ .reset) (ht : s.fr.t10 + dt < s.fr.next) : pfSample s c dt h = pfHap (advance s dt) c h :=
  (if_neg hm).trans (if_pos ht)

/-- One in the decoder sample of the next tick waits for it. -/
theorem pfSample_of_next_tick (hm : s.md.mode ≠ .reset) (ht : s.fr.next ≤ s.fr.t10 + dt) :
    pfSample s c dt h = { advance s dt with pf := { s.pf with held := s.pf.held ++ [(c, h)] } } :=
  (if_neg hm).trans (if_neg (Nat.not_lt.2 ht))

end

/-! ### The steps of A and B (10 R244-R246, R253, R268) -/

theorem quadStep_eq_none_iff (a b a' b' : Bool) : quadStep a b a' b' = none ↔ a' = a ∧ b' = b := by
  cases a <;> cases b <;> cases a' <;> cases b' <;> simp [quadStep, quadPlace]

theorem quadStep_eq_illegal_iff (a b a' b' : Bool) : quadStep a b a' b' = some none ↔ a' ≠ a ∧ b' ≠ b := by
  cases a <;> cases b <;> cases a' <;> cases b' <;> simp [quadStep, quadPlace]

theorem quadStep_of_change_a {a a' : Bool} (h : a' ≠ a) (b : Bool) :
    quadStep a b a' b = some (some (if a' ≠ b then Config.aLeadsUp else !Config.aLeadsUp)) := by
  obtain rfl := Bool.eq_not.2 h
  cases a <;> cases b <;> rfl

theorem quadStep_of_change_b (a : Bool) {b b' : Bool} (h : b' ≠ b) :
    quadStep a b a b' = some (some (if b' = a then Config.aLeadsUp else !Config.aLeadsUp)) := by
  obtain rfl := Bool.eq_not.2 h
  cases a <;> cases b <;> rfl

section
variable (s : State) (c : Nat) (a b : Bool) (na nb : Nat)

/-- What the accepted levels of A and B make of the ones before. -/
def quadChange : Option (Option Bool) :=
  quadStep (pfCh s c).la (pfCh s c).lb (pfLine s c (pfCh s c).la a na) (pfLine s c (pfCh s c).lb b nb)

/-- The state with the accepted levels of A and B. -/
def quadTaken : State :=
  let la := pfLine s c (pfCh s c).la a na
  let lb := pfLine s c (pfCh s c).lb b nb
  updPf s c fun x => { x with la := la, lb := lb }

variable {s c a b na nb}

theorem pfQuad_of_no_step (h : pfCounts s c = false ∨ quadChange s c a b na nb = none) :
    pfQuad s c a b na nb = quadTaken s c a b na nb := by
  unfold quadChange at h
  cases hcounts : pfCounts s c with
  | false => simp [pfQuad, hcounts, quadTaken]
  | true => simp [pfQuad, hcounts, h.resolve_left (by simp [hcounts]), quadTaken]

theorem pfQuad_of_illegal (hcounts : pfCounts s c = true) (h : quadChange s c a b na nb = some none) : pfQuad s c a b na nb =
    pfEvent (pfUnreference (updPf (quadTaken s c a b na nb) c fun x => { x with errIllegal := satInc 255 x.errIllegal }) c) 3 c := by
  unfold quadChange at h
  simp [pfQuad, hcounts, h, quadTaken]

theorem pfQuad_of_step (hcounts : pfCounts s c = true) {up : Bool} (h : quadChange s c a b na nb = some (some up)) :
    pfQuad s c a b na nb = pfStep (quadTaken s c a b na nb) c (up != pfFlag s c 2) := by
  unfold quadChange at h
  simp [pfQuad, hcounts, h, quadTaken]

end

/-- The raw count after a step. -/
def rawAfter (up : Bool) (x : PfCh) : BitVec 48 := if up = true then x.r + 1 else x.r - 1

/-- The reported count after a step. -/
def countAfter (hyst up : Bool) (x : PfCh) : BitVec 48 := pfFollow hyst (rawAfter up x) x.c

/-- A channel whose raw count has moved to `r`. -/
def PfCh.moveRaw (up : Bool) (r : BitVec 48) (x : PfCh) : PfCh :=
  { x with r := r, idxSteps := x.idxSteps + (if up then 1 else -1), idxUp := x.idxUp || up, idxDown := x.idxDown || !up }

/-- A channel whose reported count has moved to `n` at `t`. -/
def PfCh.moveCount (n : BitVec 48) (t : Nat) (x : PfCh) : PfCh := { x with c := n, dir := decide (posDiff n x.c < 0), stamp := t }

/-- What a step makes of a channel. -/
def PfCh.step (s : State) (c : Nat) (up : Bool) (x : PfCh) : PfCh :=
  let n := countAfter (pfFlag s c 1) up x
  let y := x.moveRaw up (rawAfter up x)
  if n = x.c then y
  else if x.cmpArmed = true ∧ n = x.compare then (y.moveCount n s.fr.t10).hit s c (decide (0 < posDiff n x.c))
  else y.moveCount n s.fr.t10

section
variable {s : State} {c : Nat} {up : Bool} {x : PfCh}

theorem PfCh.step_of_still (h : countAfter (pfFlag s c 1) up x = x.c) : x.step s c up = x.moveRaw up (rawAfter up x) := if_pos h

variable (hmove : countAfter (pfFlag s c 1) up x ≠ x.c)
include hmove

theorem PfCh.step_of_hit (hhit : x.cmpArmed = true ∧ countAfter (pfFlag s c 1) up x = x.compare) : x.step s c up =
    ((x.moveRaw up (rawAfter up x)).moveCount (countAfter (pfFlag s c 1) up x) s.fr.t10).hit s c
      (decide (0 < posDiff (countAfter (pfFlag s c 1) up x) x.c)) := (if_neg hmove).trans (if_pos hhit)

theorem PfCh.step_of_miss (hmiss : ¬(x.cmpArmed = true ∧ countAfter (pfFlag s c 1) up x = x.compare)) : x.step s c up =
    (x.moveRaw up (rawAfter up x)).moveCount (countAfter (pfFlag s c 1) up x) s.fr.t10 := (if_neg hmove).trans (if_neg hmiss)

end

theorem pfStep_eqButFifo (s : State) (c : Nat) (up : Bool) :
    (pfCh (pfStep s c up) c).EqButFifo ((pfCh s c).step s c up) := by
  let x := pfCh s c
  let n := countAfter (pfFlag s c 1) up x
  let r := updPf s c (PfCh.moveRaw up (rawAfter up x))
  let m := updPf r c (PfCh.moveCount n s.fr.t10)
  have hm : pfCh m c = (x.moveRaw up (rawAfter up x)).moveCount n s.fr.t10 := by
    rw [pfCh_updPf_same, pfCh_updPf_same]
  have hstep : pfStep s c up = if n = x.c then r else pfCompare m c (decide (0 < posDiff n x.c)) := rfl
  rw [hstep]
  by_cases hstill : n = x.c
  · rw [if_pos hstill, PfCh.step_of_still hstill, pfCh_updPf_same]
    exact ⟨_, _, _, rfl⟩
  rw [if_neg hstill]
  by_cases hhit : x.cmpArmed = true ∧ n = x.compare
  · have hmeets : (pfCh m c).cmpArmed = true ∧ (pfCh m c).c = (pfCh m c).compare := by rwa [hm]
    rw [PfCh.step_of_hit hstill hhit, ← hm]
    exact pfCompare_of_hit_eqButFifo hmeets
  · have hmiss : ¬((pfCh m c).cmpArmed = true ∧ (pfCh m c).c = (pfCh m c).compare) := by rwa [hm]
    rw [PfCh.step_of_miss hstill hhit, ← hm, pfCompare_of_no_hit hmiss]
    exact ⟨_, _, _, rfl⟩

/-- A step moves the raw count, the reported count after it and the count of the index check. -/
theorem PfCh.step_counts (s : State) (c : Nat) (up : Bool) (x : PfCh) :
    (x.step s c up).la = x.la ∧ (x.step s c up).lb = x.lb ∧ (x.step s c up).r = rawAfter up x ∧
    (x.step s c up).c = countAfter (pfFlag s c 1) up x ∧ (x.step s c up).referenced = x.referenced ∧
    (x.step s c up).idxSteps = x.idxSteps + (if up then 1 else -1) := by
  by_cases hstill : countAfter (pfFlag s c 1) up x = x.c
  · rw [PfCh.step_of_still hstill]
    exact ⟨rfl, rfl, rfl, hstill.symm, rfl, rfl⟩
  · by_cases hhit : x.cmpArmed = true ∧ countAfter (pfFlag s c 1) up x = x.compare
    · rw [PfCh.step_of_hit hstill hhit]
      exact ⟨rfl, rfl, rfl, rfl, rfl, rfl⟩
    · rw [PfCh.step_of_miss hstill hhit]
      exact ⟨rfl, rfl, rfl, rfl, rfl, rfl⟩

/-- The stamp and the direction of a change of the reported count. -/
theorem PfCh.step_of_move {s : State} {c : Nat} {up : Bool} {x : PfCh} (hmove : countAfter (pfFlag s c 1) up x ≠ x.c) :
    (x.step s c up).stamp = s.fr.t10 ∧
    (x.step s c up).dir = decide (posDiff (countAfter (pfFlag s c 1) up x) x.c < 0) := by
  by_cases hhit : x.cmpArmed = true ∧ countAfter (pfFlag s c 1) up x = x.compare
  · rw [PfCh.step_of_hit hmove hhit]
    exact ⟨rfl, rfl⟩
  · rw [PfCh.step_of_miss hmove hhit]
    exact ⟨rfl, rfl⟩

/-- Without a hit the compare unit stays as it is. -/
theorem PfCh.step_of_no_hit {s : State} {c : Nat} {up : Bool} {x : PfCh}
    (h : x.cmpArmed = false ∨ countAfter (pfFlag s c 1) up x ≠ x.compare) :
    (x.step s c up).left = x.left ∧ (x.step s c up).cmpOn = x.cmpOn := by
  by_cases hstill : countAfter (pfFlag s c 1) up x = x.c
  · rw [PfCh.step_of_still hstill]
    exact ⟨rfl, rfl⟩
  · rw [PfCh.step_of_miss hstill fun hhit => h.elim (ne_true_of_eq_false · hhit.1) (· hhit.2)]
    exact ⟨rfl, rfl⟩

theorem pfFollow_eq (hyst : Bool) (r c : BitVec 48) : pfFollow hyst r c =
    if hyst = false then r else if 1 < posDiff r c then r - 1 else if posDiff r c < -1 then r + 1 else c :=
  ite_congr (by simp) (fun _ => rfl) fun _ => rfl

/-! ### The edges of Z (10 R244, R261, R263, R264) -/

section
variable (s : State) (c : Nat) (z : Bool) (nz : Nat)

/-- The state with the accepted level of Z. -/
def indexTaken : State :=
  let lz := pfLine s c (pfCh s c).lz z nz
  updPf s c fun x => { x with lz := lz }

/-- The count of a qualified edge is checked and starts again. -/
def indexChecked : State :=
  let entered := pfFifo s c 1 0 true
  let judged := if idxCheckFails s c then pfEvent (pfUnreference entered c) 0 c else entered
  updPf judged c fun x => { x with idxSteps := 0, idxUp := false, idxDown := false, idxSeen := true }

/-- INDEX_VALUE. -/
def indexValue : BitVec 48 := BitVec.ofNat 48 (u64 (pfBody s c) 16)

/-- A qualified edge sets the counts: INDEX_MODE 1, or 2 where armed. -/
abbrev indexSets : Prop := u8 (pfBody s c) 3 = 1 ∨ (u8 (pfBody s c) 3 = 2 ∧ (pfCh s c).armed = true)

/-- A channel whose counts are set to `v` at `t`. -/
def PfCh.indexed (v : BitVec 48) (t : Nat) (x : PfCh) : PfCh :=
  { x with r := v, c := v, armed := false, moved := x.moved || x.r != v || x.c != v, stamp := if x.c = v then x.stamp else t }

variable {s c z nz}

theorem pfIndex_of_edge (hcounts : pfCounts s c = true) (hlz : pfLine s c (pfCh s c).lz z nz = true) (hold : (pfCh s c).lz = false)
    (hqual : idxQualified s c = true) : pfIndex s c z nz = pfIndexEdge (indexTaken s c z nz) c :=
  if_pos (by rw [hcounts, hlz, hold, hqual]; rfl)

theorem pfIndex_of_no_edge (h : pfCounts s c = false ∨ pfLine s c (pfCh s c).lz z nz = false ∨ (pfCh s c).lz = true ∨
    idxQualified s c = false) : pfIndex s c z nz = indexTaken s c z nz :=
  if_neg (by rcases h with h | h | h | h <;> simp [h])

theorem pfIndexEdge_of_set (h : indexSets s c) :
    pfIndexEdge s c = pfReference (updPf (indexChecked s c) c (PfCh.indexed (indexValue s c) s.fr.t10)) c :=
  if_pos (by simpa [indexSets] using h)

theorem pfIndexEdge_of_no_set (h : ¬indexSets s c) : pfIndexEdge s c = indexChecked s c :=
  if_neg (by simpa [indexSets] using h)

end

theorem PfOnly.indexChecked (s : State) (c : Nat) : PfOnly c s (indexChecked s c) :=
  (pfFifo ..).trans ((ite ((updPf ..).trans (pfEvent ..)) (refl ..)).trans (updPf ..))

theorem PfOnly.pfIndexEdge (s : State) (c : Nat) : PfOnly c s (pfIndexEdge s c) :=
  ite ((indexChecked s c).trans ((updPf ..).trans (pfReference ..))) (indexChecked s c)

/-- What the check makes of a channel. -/
def PfCh.checked (fails : Bool) (x : PfCh) : PfCh :=
  { x with referenced := x.referenced && !fails, idxSteps := 0, idxUp := false, idxDown := false, idxSeen := true }

theorem indexChecked_eqButFifo (s : State) (c : Nat) :
    (pfCh (indexChecked s c) c).EqButFifo ((pfCh s c).checked (idxCheckFails s c)) := by
  obtain ⟨fifo, seq, lost, hentered⟩ := pfFifo_eqButFifo s c 1 0 true
  refine ⟨fifo, seq, lost, ?_⟩
  rw [indexChecked, pfCh_updPf_same]
  cases hfails : idxCheckFails s c
  · rw [if_neg Bool.false_ne_true, hentered]
    simp [PfCh.checked]
  · rw [if_pos rfl, pfCh_pfEvent, pfUnreference, pfCh_updPf_same, hentered]
    simp [PfCh.checked]

theorem pfIndexEdge_eqButFifo (s : State) (c : Nat) : (pfCh (pfIndexEdge s c) c).EqButFifo
    (if indexSets s c then { ((pfCh s c).checked (idxCheckFails s c)).indexed (indexValue s c) s.fr.t10 with referenced := true }
    else (pfCh s c).checked (idxCheckFails s c)) := by
  obtain ⟨fifo, seq, lost, hchecked⟩ := indexChecked_eqButFifo s c
  refine ⟨fifo, seq, lost, ?_⟩
  by_cases hset : indexSets s c
  · rw [pfIndexEdge_of_set hset, if_pos hset, pfCh_pfReference, pfCh_updPf_same, hchecked]
    rfl
  · rw [pfIndexEdge_of_no_set hset, if_neg hset, hchecked]

/-- The level of Z plays no part in what a qualified edge does. -/
theorem indexSets_indexTaken (s : State) (c : Nat) (z : Bool) (nz : Nat) : indexSets (indexTaken s c z nz) c ↔ indexSets s c := by
  rw [indexSets, indexTaken, pfCh_updPf_same]
  rfl

theorem idxCheckFails_indexTaken (s : State) (c : Nat) (z : Bool) (nz : Nat) :
    idxCheckFails (indexTaken s c z nz) c = idxCheckFails s c := by
  unfold idxCheckFails indexTaken
  rw [pfCh_updPf_same]
  rfl

/-! ### The latch input and the switches (10 R254-R257, R265-R267) -/

section
variable {s : State} {c : Nat} {rising : Bool}

theorem pfLatchIn_of_latched (hdec : (pfCh s c).decoded = true)
    (hedge : u8 (pfBody s c) 13 = 2 ∨ u8 (pfBody s c) 13 = if rising = true then 0 else 1) :
    pfLatchIn s c rising = pfFifo s c 2 0 rising := if_pos (by simpa [hdec] using hedge)

theorem pfLatchIn_of_not_latched (h : (pfCh s c).decoded = false ∨
    (u8 (pfBody s c) 13 ≠ 2 ∧ u8 (pfBody s c) 13 ≠ if rising = true then 0 else 1)) : pfLatchIn s c rising = s :=
  if_neg (by rcases h with h | h <;> simp [h])

theorem pfLatchIn_of_unselected (h : (u8 (pfBody s c) 12).testBit 1 = false) : pfLatchIn s c rising = s := by
  rw [pfLatchIn, pfFifo_of_unselected h, ite_self]

/-- The entry of the latch input takes the stamp of the latest word of a serial channel, else the time of the edge. -/
theorem fifoEntry_of_latch : fifoEntry s c 2 0 rising =
    { stamp := if pfSerial s c = true then (pfCh s c).stamp else s.fr.t10, pos := (pfCh s c).c, kind := 2, dir := (pfCh s c).dir
      sw := 0, rising := rising, seq := (pfCh s c).seq } := by
  simp [fifoEntry]

end

/-- The count and the state of a filter, each on its own. -/
theorem filtRun_eq (n k : Nat) (raw : Bool) (count : Nat) (st : Bool) : filtRun n k raw count st =
    let m := if raw = true then min (count + k) n else min count n - k
    (if k = 0 then count else m, if k = 0 then st else if m = n then true else if m = 0 then false else st) := by
  by_cases hk : k = 0 <;> simp only [filtRun, hk, if_true, if_false]

section
variable (s : State) (c sw : Nat) (level : Bool)

/-- What the samples of SWn up to now make of the count and of the state of its filter. -/
def switchFilt : Nat × Bool :=
  filtRun (u16 (pfBody s c) 14) (s.fr.t10 / 100 - Tab.get (pfCh s c).swAt 0 sw / 100) level (Tab.get (pfCh s c).swCount 0 sw)
    ((pfCh s c).sw.getLsbD sw)

/-- The state with the count of the filter of SWn. -/
def switchCounted : State :=
  let n := (switchFilt s c sw level).1
  let t := s.fr.t10
  updPf s c fun x => { x with swCount := Tab.set x.swCount 0 sw n, swAt := Tab.set x.swAt 0 sw t }

/-- The state with the accepted edge of SWn and its FIFO entry. -/
def switchEntered : State := pfFifo (updPf s c fun x => { x with sw := bput x.sw sw level }) c 5 sw level

variable {s c sw level}

theorem pfSwitch_of_idle (h : (pfCh s c).decoded = false ∨ pfFlag s c 0 = false ∨ s.fr.t10 % 100 ≠ 0) : pfSwitch s c sw level = s :=
  if_pos (by rcases h with h | h | h <;> simp [h])

section
variable (hdec : (pfCh s c).decoded = true) (hsw : pfFlag s c 0 = true) (ht : s.fr.t10 % 100 = 0)
include hdec hsw ht

theorem pfSwitch_of_same (hsame : (switchFilt s c sw level).2 = (pfCh s c).sw.getLsbD sw) :
    pfSwitch s c sw level = switchCounted s c sw level :=
  (if_neg (by simp [hdec, hsw, ht])).trans (if_pos hsame)

theorem pfSwitch_of_edge (hedge : (switchFilt s c sw level).2 ≠ (pfCh s c).sw.getLsbD sw) :
    pfSwitch s c sw level = pfSwitchEdge (switchCounted s c sw level) c sw (switchFilt s c sw level).2 :=
  (if_neg (by simp [hdec, hsw, ht])).trans (if_neg hedge)

end

theorem pfSwitchEdge_of_match {e : Int} (h : switchMatch s c sw level = some e) : pfSwitchEdge s c sw level =
    updPf (switchEntered s c sw level) c fun x => { x with lastCorr := e, corr := if corrects s c then some e else x.corr } := by
  simp only [pfSwitchEdge, h, switchEntered]

theorem pfSwitchEdge_of_no_match (h : switchMatch s c sw level = none) :
    pfSwitchEdge s c sw level = pfEvent (switchEntered s c sw level) 6 c := by
  simp only [pfSwitchEdge, h, switchEntered]

end

theorem PfOnly.switchEntered (s : State) (c sw : Nat) (level : Bool) : PfOnly c s (switchEntered s c sw level) :=
  (updPf ..).trans (pfFifo ..)

theorem PfOnly.pfSwitchEdge (s : State) (c sw : Nat) (level : Bool) : PfOnly c s (pfSwitchEdge s c sw level) := by
  cases h : switchMatch s c sw level with
  | none =>
    rw [pfSwitchEdge_of_no_match h]
    exact (switchEntered ..).trans (pfEvent ..)
  | some e =>
    rw [pfSwitchEdge_of_match h]
    exact (switchEntered ..).trans (updPf ..)

section
variable {s : State} {c sw : Nat} {level : Bool}

theorem pfSwitchEdge_eqButFifo_of_match {e : Int} (h : switchMatch s c sw level = some e) :
    (pfCh (pfSwitchEdge s c sw level) c).EqButFifo
      { pfCh s c with
        sw := bput (pfCh s c).sw sw level, lastCorr := e, corr := if corrects s c then some e else (pfCh s c).corr } := by
  obtain ⟨fifo, seq, lost, hentered⟩ := pfFifo_eqButFifo (updPf s c fun x => { x with sw := bput x.sw sw level }) c 5 sw level
  refine ⟨fifo, seq, lost, ?_⟩
  rw [pfSwitchEdge_of_match h, pfCh_updPf_same, switchEntered, hentered, pfCh_updPf_same]

theorem pfSwitchEdge_eqButFifo_of_no_match (h : switchMatch s c sw level = none) :
    (pfCh (pfSwitchEdge s c sw level) c).EqButFifo { pfCh s c with sw := bput (pfCh s c).sw sw level } := by
  obtain ⟨fifo, seq, lost, hentered⟩ := pfFifo_eqButFifo (updPf s c fun x => { x with sw := bput x.sw sw level }) c 5 sw level
  refine ⟨fifo, seq, lost, ?_⟩
  rw [pfSwitchEdge_of_no_match h, pfCh_pfEvent, switchEntered, hentered, pfCh_updPf_same]

end

/-- The filters of the switches play no part in the search for a matching entry. -/
theorem switchMatch_switchCounted (s : State) (c sw : Nat) (level : Bool) (sw' : Nat) (rising : Bool) :
    switchMatch (switchCounted s c sw level) c sw' rising = switchMatch s c sw' rising := by
  unfold switchMatch switchCounted
  rw [pfCh_updPf_same]
  rfl

/-! ### The compare pulse and the snapshot (10 R269, R280) -/

section
variable {s : State} {c : Nat}

theorem doCmpEnd_of_due (hon : (pfCh s c).cmpOn = true) (hend : (pfCh s c).cmpEnd < s.fr.next) :
    doCmpEnd s c = updPf (advanceTo s (pfCh s c).cmpEnd) c fun x => { x with cmpOn := false } := if_pos (by simp [hon, hend])

theorem doCmpEnd_of_not_due (h : (pfCh s c).cmpOn = false ∨ s.fr.next ≤ (pfCh s c).cmpEnd) : doCmpEnd s c = s :=
  if_neg (by rcases h with h | h <;> simp [h])

end

/-- What the snapshot of a channel holds: position, stamp and speed of its frame latch. -/
def snapOf (x : PfCh) : Nat × Nat × Nat :=
  (x.lPos.toNat, x.lStamp,
    unsigned 32 (F64.toIntSat (if F64.isFinite x.v then F64.ofInt (F64.truncInt x.v) else x.v) (-2147483647) 2147483647))

theorem snap_doPfSnap (s : State) (v : Word) (c : Nat) : Tab.get (doPfSnap s v).pf.snap (0, 0, 0) c =
    if c < 8 ∧ v.getLsbD c = true then snapOf (pfCh s c) else Tab.get s.pf.snap (0, 0, 0) c := by
  have hread : Tab.get (doPfSnap s v).pf.snap (0, 0, 0) c = _ :=
    Tab.get_updMany (0, 0, 0) s.pf.snap (bitsSet v.toNat 8) (fun c _ => snapOf (pfCh s c)) (bitsSet_nodup v.toNat 8) c
  simpa only [mem_bitsSet, testBit_getLsbD] using hread

/-! ### The rows of an incremental channel -/

theorem exec_pfQuadStep (ch : Fin 8) (dt : Nat) (l : QuadLevels) (s : State) :
    exec (.pfQuadStep ch dt l) s = .next (settle s (pfSample s ch.val dt (.quad l.a l.b l.na l.nb))) := rfl

theorem exec_pfIndexEdge (ch : Fin 8) (dt : Nat) (z : Bool) (nz : Nat) (s : State) :
    exec (.pfIndexEdge ch dt z nz) s = .next (settle s (pfSample s ch.val dt (.index z nz))) := rfl

theorem exec_pfLatchEdge (ch : Fin 8) (dt : Nat) (rising : Bool) (s : State) :
    exec (.pfLatchEdge ch dt rising) s = .next (settle s (pfSample s ch.val dt (.latch rising))) := rfl

theorem exec_pfSwitchEdge (ch : Fin 8) (dt : Nat) (sw : Fin 4) (level : Bool) (s : State) :
    exec (.pfSwitchEdge ch dt sw level) s = .next (settle s (pfSample s ch.val dt (.switch sw.val level))) := rfl

theorem exec_cmpWidthEnd (ch : Fin 8) (s : State) : exec (.cmpWidthEnd ch) s = .next (settle s (doCmpEnd s ch.val)) := rfl

section
variable {s : State} {dt : Nat} (hm : s.md.mode ≠ .reset) (ht : s.fr.t10 + dt < s.fr.next) (ch : Fin 8)
include hm ht

theorem exec_pfQuadStep_of_inFrame (a b : Bool) (na nb : Nat) :
    exec (.pfQuadStep ch dt ⟨a, b, na, nb⟩) s = .next (settle s (pfQuad (advance s dt) ch.val a b na nb)) := by
  rw [exec_pfQuadStep, pfSample_of_inFrame hm ht, pfHap]

theorem exec_pfIndexEdge_of_inFrame (z : Bool) (nz : Nat) :
    exec (.pfIndexEdge ch dt z nz) s = .next (settle s (pfIndex (advance s dt) ch.val z nz)) := by
  rw [exec_pfIndexEdge, pfSample_of_inFrame hm ht, pfHap]

theorem exec_pfLatchEdge_of_inFrame (rising : Bool) :
    exec (.pfLatchEdge ch dt rising) s = .next (settle s (pfLatchIn (advance s dt) ch.val rising)) := by
  rw [exec_pfLatchEdge, pfSample_of_inFrame hm ht, pfHap]

theorem exec_pfSwitchEdge_of_inFrame (sw : Fin 4) (level : Bool) :
    exec (.pfSwitchEdge ch dt sw level) s = .next (settle s (pfSwitch (advance s dt) ch.val sw.val level)) := by
  rw [exec_pfSwitchEdge, pfSample_of_inFrame hm ht, pfHap]

end

/-- Settles O47: each happening by what it makes of its channel; a step and an index edge field by field. -/
theorem incrementalChannelsCountAndLatch : Obligations.IncrementalChannelsCountAndLatch := by
  refine ⟨fun a b a' b' => ⟨quadStep_eq_none_iff .., quadStep_eq_illegal_iff .., ?_, ?_⟩,
    fun ch dt p q n k s => ⟨fun hm => ?_, fun hm ht => ?_⟩, fun ch dt pa pb na nb s hm ht => ?_, fun ch dt z nz s hm ht => ?_,
    fun ch dt r n s => ⟨fun hm => ?_, fun hm ht => ?_⟩, fun ch dt rising s hm ht => ?_, fun ch dt sw level s hm ht => ?_,
    fun ch s => ⟨fun hon hend => ?_, fun h => ?_⟩, fun v s hup => ?_⟩
  · rintro ha rfl
    exact quadStep_of_change_a ha b'
  · rintro rfl hb
    exact quadStep_of_change_b a' hb
  · rw [exec_pfQuadStep, exec_pfIndexEdge, pfSample_of_reset hm, pfSample_of_reset hm]
    exact ⟨rfl, rfl⟩
  · rw [exec_pfQuadStep, exec_pfIndexEdge, pfSample_of_next_tick hm ht, pfSample_of_next_tick hm ht]
    exact ⟨rfl, rfl⟩
  · intro a c x la lb taken
    rw [exec_pfQuadStep_of_inFrame hm ht]
    refine ⟨fun h => ?_, fun hcounts h => ?_, fun up hcounts h => ?_⟩
    · rw [pfQuad_of_no_step (s := a) h]
      rfl
    · rw [pfQuad_of_illegal (s := a) hcounts h]
      rfl
    · intro sense r' d c'
      let y : PfCh := { x with la := la, lb := lb }
      have hn : countAfter (pfFlag taken c 1) sense y = c' := pfFollow_eq ..
      have hy : pfCh taken c = y := pfCh_updPf_same ..
      have honly : PfOnly c a (pfStep taken c sense) := (PfOnly.updPf ..).trans (PfOnly.pfStep ..)
      obtain ⟨hla, hlb, hr, hc, href, hidx⟩ := PfCh.step_counts taken c sense y
      obtain ⟨fifo, seq, lost, hu⟩ := hy ▸ pfStep_eqButFifo taken c sense
      refine ⟨pfStep taken c sense, by rw [pfQuad_of_step (s := a) hcounts h]; rfl, honly.1, honly.2, ?_⟩
      rw [hu]
      refine ⟨hla, hlb, hr, hc.trans hn, href, hidx, fun hstill => ?_, fun hmove => ?_, fun hmove harmed hmeets => ?_, fun hno => ?_⟩
      · rw [PfCh.step_of_still (x := y) (hn.trans hstill)]
        exact ⟨rfl, rfl⟩
      · exact hn ▸ PfCh.step_of_move (x := y) (hn ▸ hmove)
      · let upward := decide (0 < posDiff c' x.c)
        rw [PfCh.step_of_hit (x := y) (hn ▸ hmove) ⟨harmed, hn.trans hmeets⟩, hn]
        exact ⟨rfl, rfl, ite_congr decide_eq_true_eq (fun _ => rfl) fun _ => rfl, PfCh.hit_of_driven (s := taken) upward,
          PfCh.hit_of_not_driven (s := taken) upward⟩
      · exact PfCh.step_of_no_hit (x := y) (hn ▸ hno)
  · intro a c x m lz v
    rw [exec_pfIndexEdge_of_inFrame hm ht]
    refine ⟨fun hcounts hlz hold hqual => ?_, fun h => ?_⟩
    · let w := indexTaken a c z nz
      have hw : pfCh w c = { x with lz := lz } := pfCh_updPf_same ..
      have honly : PfOnly c a (pfIndexEdge w c) := (PfOnly.updPf ..).trans (PfOnly.pfIndexEdge ..)
      obtain ⟨fifo, seq, lost, hu⟩ := pfIndexEdge_eqButFifo w c
      refine ⟨pfIndexEdge w c, by rw [pfIndex_of_edge (s := a) hcounts hlz hold hqual], honly.1, honly.2, ?_⟩
      rw [hu]
      by_cases hset : indexSets a c
      · rw [if_pos ((indexSets_indexTaken ..).2 hset), hw]
        exact ⟨hlz, rfl, rfl, fun _ => ⟨rfl, rfl, rfl, rfl, rfl⟩, fun hm1 hm2 =>
          hset.elim (absurd · hm1) fun h => hm2.elim (absurd h.1 ·) (absurd h.2 <| ne_true_of_eq_false ·)⟩
      · rw [if_neg (mt (indexSets_indexTaken ..).1 hset), idxCheckFails_indexTaken, hw]
        exact ⟨hlz, rfl, rfl, fun h => absurd h hset, fun _ _ => ⟨rfl, rfl, rfl, rfl⟩⟩
    · rw [pfIndex_of_no_edge (s := a) h]
      rfl
  · rw [exec_pfLatchEdge, exec_pfSwitchEdge, pfSample_of_reset hm, pfSample_of_reset hm]
    exact ⟨rfl, rfl⟩
  · rw [exec_pfLatchEdge, exec_pfSwitchEdge, pfSample_of_next_tick hm ht, pfSample_of_next_tick hm ht]
    exact ⟨rfl, rfl⟩
  · intro a c x e
    rw [exec_pfLatchEdge_of_inFrame hm ht]
    refine ⟨fun hdec hedge hsel => ?_, fun h => ?_⟩
    · have honly := PfOnly.pfFifo a c 2 0 rising
      refine ⟨pfFifo a c 2 0 rising, by rw [pfLatchIn_of_latched (s := a) hdec hedge], honly.1, honly.2, fun hroom => ?_,
        fun hfull => ?_⟩
      · rw [pfFifo_of_room (s := a) (c := c) (kind := 2) hsel hroom, pfCh_updPf_same, pfCh_updPf_same, fifoEntry_of_latch]
        exact ⟨rfl, rfl⟩
      · rw [pfFifo_of_full (s := a) (c := c) (kind := 2) hsel hfull, pfCh_pfEvent, pfCh_updPf_same, pfCh_updPf_same]
        exact ⟨rfl, rfl⟩
    · rcases h with h | h | h
      · rw [pfLatchIn_of_not_latched (s := a) (.inl h)]
      · rw [pfLatchIn_of_not_latched (s := a) (.inr h)]
      · rw [pfLatchIn_of_unselected (s := a) h]
  · intro a c x n k was m now counted
    rw [exec_pfSwitchEdge_of_inFrame hm ht]
    have hfilt : switchFilt a c sw.val level = (if k = 0 then Tab.get x.swCount 0 sw.val else m, now) := filtRun_eq ..
    have hcounted : switchCounted a c sw.val level = counted := by
      rw [switchCounted, hfilt]
      rfl
    refine ⟨fun hdec hsw h100 hsame => ?_, fun hdec hsw h100 hedge => ?_, fun h => ?_⟩
    · rw [pfSwitch_of_same (s := a) hdec hsw h100 (hfilt ▸ hsame), hcounted]
    · have honly : PfOnly c a (pfSwitchEdge counted c sw.val now) := (PfOnly.updPf ..).trans (PfOnly.pfSwitchEdge ..)
      have hmatch : switchMatch counted c sw.val now = switchMatch s c sw.val now := hcounted ▸ switchMatch_switchCounted ..
      refine ⟨pfSwitchEdge counted c sw.val now, ?_, honly.1, honly.2, ?_⟩
      · rw [pfSwitch_of_edge (s := a) hdec hsw h100 (hfilt ▸ hedge), hcounted, hfilt]
      have hx : pfCh counted c = _ := pfCh_updPf_same ..
      cases hfound : switchMatch s c sw.val now with
      | none =>
        obtain ⟨fifo, seq, lost, hu⟩ := pfSwitchEdge_eqButFifo_of_no_match (hmatch.trans hfound)
        rw [hu, hx]
        refine ⟨rfl, rfl, rfl, rfl, rfl, rfl, fun e he => (nomatch he), fun _ => ⟨rfl, rfl, ?_⟩⟩
        rw [pfSwitchEdge_of_no_match (hmatch.trans hfound)]
        exact getLsbD_pfEvent _ (k := 6) (c := ch.val) (by omega)
      | some e =>
        obtain ⟨fifo, seq, lost, hu⟩ := pfSwitchEdge_eqButFifo_of_match (hmatch.trans hfound)
        rw [hu, hx]
        exact ⟨rfl, rfl, rfl, rfl, rfl, rfl, fun e' he => Option.some.inj he ▸ ⟨rfl, rfl⟩, fun h => nomatch h⟩
    · rw [pfSwitch_of_idle (s := a) h]
  · rw [exec_cmpWidthEnd, doCmpEnd_of_due hon hend]
  · rw [exec_cmpWidthEnd, doCmpEnd_of_not_due h]
  · refine ⟨_, done_hostAccess_of_up hup, rfl, fun c => ?_⟩
    rw [snap_doPfSnap]
    split
    · exact ⟨rfl, rfl⟩
    · rfl

end Sys2Proof.Machine
end

section
/-! Proofs about the serial channels of position feedback (10): transactions and words, the failures in a row, and the faults of a
line and of an encoder's supply. -/

namespace Sys2Proof.Machine

open Sys2Proof

/-! ### Transactions (10 R249, R252) -/

/-- A transaction runs on channel c. -/
def serRuns (s : State) (c : Nat) : Prop := (pfCh s c).decoded = true ∧ pfSerial s c = true ∧ (pfCh s c).serBusy = true

/-- The sample time of channel c has come: the tick, or a multiple of SAMPLE_US. -/
abbrev serDue (s : State) (c : Nat) : Prop :=
  (u16 (pfBody s c) 34 = 0 ∧ s.fr.t10 = s.fr.tick) ∨ (u16 (pfBody s c) 34 ≠ 0 ∧ s.fr.t10 % (u16 (pfBody s c) 34 * 100) = 0)

theorem not_serRuns_iff (s : State) (c : Nat) :
    ¬serRuns s c ↔ (!(pfCh s c).decoded || !pfSerial s c || !(pfCh s c).serBusy) = true := by
  simp [serRuns, imp_iff_not_or, or_assoc]

theorem doSerStart_eq (s : State) (c dt : Nat) : doSerStart s c dt =
    let a := advance s dt
    if (pfCh a c).decoded = true ∧ pfSerial a c = true ∧ serDue a c ∧ (pfCh a c).serBusy = false
    then updPf a c fun x => { x with serBusy := true, serStart := a.fr.t10 } else a := by
  refine ite_congr ?_ (fun _ => rfl) fun _ => rfl
  generalize advance s dt = a
  by_cases hus : u16 (pfBody a c) 34 = 0 <;> simp [serDue, hus, and_assoc]

section
variable {s : State} {c dt : Nat}

theorem doSerTimeout_of_runs (h : serRuns s c) : doSerTimeout s c dt =
    pfEvent (serFail (updPf (advance s dt) c fun x => { x with errTimeout := satInc 255 x.errTimeout }) c) 2 c :=
  if_neg (mt (not_serRuns_iff (advance s dt) c).2 (not_not_intro h))

theorem doSerTimeout_of_idle (h : ¬serRuns s c) : doSerTimeout s c dt = advance s dt := if_pos ((not_serRuns_iff (advance s dt) c).1 h)

theorem doSerBad_of_limit (hdec : (pfCh s c).decoded = true) (hser : pfSerial s c = true)
    (hfail : u8 (pfBody s c) 37 ≤ (pfCh s c).failRun) :
    doSerBad s c = pfUnreference (updPf s c fun x => { x with bad := true, serPrev := none }) c :=
  if_pos (by simp [hdec, hser, hfail])

theorem doSerBad_of_no_limit (h : (pfCh s c).decoded = false ∨ pfSerial s c = false ∨ (pfCh s c).failRun < u8 (pfBody s c) 37) :
    doSerBad s c = s := if_neg (by rcases h with h | h | h <;> simp [h])

end

/-! ### Words (10 R248-R251, R263, R268, R273) -/

/-- The position after a word. -/
def serCount (s : State) (c data : Nat) : BitVec 48 :=
  match (pfCh s c).serPrev with
  | none => BitVec.ofInt 48 (if pfFlag s c 4 then signed (u8 (pfBody s c) 27) (serPosition s c data) else serPosition s c data)
  | some q => (pfCh s c).c + BitVec.ofInt 48
      (signed (u8 (pfBody s c) 27) ((serPosition s c data + 2 ^ u8 (pfBody s c) 27 - q % 2 ^ u8 (pfBody s c) 27) % 2 ^ u8 (pfBody s c) 27))

/-- A channel that takes the word at position `p` and count `n`. -/
def PfCh.word (n : BitVec 48) (p : Nat) (warn : Bool) (x : PfCh) : PfCh :=
  { x with
    r := n, c := n, dir := if n = x.c then x.dir else decide (posDiff n x.c < 0), stamp := x.serStart, serBusy := false
    serPrev := some p, serNew := true, warn := warn, failRun := 0, bad := false, moved := x.moved || (x.serPrev.isNone && n != x.c) }

theorem serCount_of_first {s : State} {c : Nat} (h : (pfCh s c).serPrev = none) (data : Nat) : serCount s c data =
    BitVec.ofInt 48 (if pfFlag s c 4 = true then signed (u8 (pfBody s c) 27) (serPosition s c data) else serPosition s c data) := by
  rw [serCount, h]

theorem serCount_of_next {s : State} {c q : Nat} (h : (pfCh s c).serPrev = some q) (data : Nat) : serCount s c data =
    (pfCh s c).c + BitVec.ofInt 48
      (signed (u8 (pfBody s c) 27) ((serPosition s c data + 2 ^ u8 (pfBody s c) 27 - q % 2 ^ u8 (pfBody s c) 27) % 2 ^ u8 (pfBody s c) 27)) := by
  rw [serCount, h]

/-- The state with a word taken, but for the compare unit. -/
def serTaken (s : State) (c data : Nat) : State :=
  let warn := serBit s c data (u8 (pfBody s c) 30)
  let word := updPf s c (PfCh.word (serCount s c data) (serPosition s c data) warn)
  let warned := if warn then pfEvent word 4 c else word
  if (pfCh s c).supplyFault then warned else pfReference warned c

/-- The state after a word: a change by one count may meet the compare position. -/
def serCompared (s : State) (c data : Nat) : State :=
  let d := posDiff (serCount s c data) (pfCh s c).c
  if d.natAbs = 1 then pfCompare (serTaken s c data) c (decide (0 < d)) else serTaken s c data

/-- What a word makes of its channel, but for the compare unit. -/
def PfCh.taken (s : State) (c data : Nat) (x : PfCh) : PfCh :=
  { x.word (serCount s c data) (serPosition s c data) (serBit s c data (u8 (pfBody s c) 30)) with
    referenced := x.referenced || !x.supplyFault }

section
variable (s : State) (c data : Nat)

theorem pfCh_serTaken : pfCh (serTaken s c data) c = (pfCh s c).taken s c data := by
  unfold serTaken PfCh.taken
  extract_lets warn word warned
  have hword : pfCh warned c = (pfCh s c).word (serCount s c data) (serPosition s c data) warn := by
    unfold warned
    split
    · rw [pfCh_pfEvent, pfCh_updPf_same]
    · rw [pfCh_updPf_same]
  cases hsup : (pfCh s c).supplyFault
  · rw [if_neg Bool.false_ne_true, pfCh_pfReference, hword, Bool.not_false, Bool.or_true]
  · rw [if_pos rfl, hword, Bool.not_true, Bool.or_false]
    rfl

theorem PfOnly.serTaken : PfOnly c s (serTaken s c data) :=
  have hwarned := (updPf s c _).trans (ite (pfEvent _ 4 c c) (refl ..))
  ite hwarned (hwarned.trans (pfReference ..))

theorem PfOnly.serCompared : PfOnly c s (serCompared s c data) :=
  ite ((serTaken ..).trans (pfCompare ..)) (serTaken ..)

/-- A word meets the compare position of its channel. -/
def serHits : Prop :=
  (posDiff (serCount s c data) (pfCh s c).c).natAbs = 1 ∧ (pfCh s c).cmpArmed = true ∧ serCount s c data = (pfCh s c).compare

variable {s c data}

theorem serCompared_eqButFifo_of_hit (h : serHits s c data) : (pfCh (serCompared s c data) c).EqButFifo
    (((pfCh s c).taken s c data).hit (serTaken s c data) c (decide (0 < posDiff (serCount s c data) (pfCh s c).c))) := by
  obtain ⟨hone, harmed, hmeets⟩ := h
  rw [serCompared, if_pos hone, ← pfCh_serTaken]
  refine pfCompare_of_hit_eqButFifo ?_
  rw [pfCh_serTaken]
  exact ⟨harmed, hmeets⟩

theorem pfCh_serCompared_of_no_hit (h : ¬serHits s c data) : pfCh (serCompared s c data) c = (pfCh s c).taken s c data := by
  rw [serCompared]
  split
  · next hone =>
    rw [pfCompare_of_no_hit, pfCh_serTaken]
    rw [pfCh_serTaken]
    exact fun hmeets => h ⟨hone, hmeets⟩
  · exact pfCh_serTaken ..

end

section
variable {s : State} {c dt data crc : Nat}

theorem doSerWord_of_idle (h : ¬serRuns s c) : doSerWord s c dt data crc = advance s dt :=
  if_pos ((not_serRuns_iff (advance s dt) c).1 h)

variable (h : serRuns s c)
include h

theorem doSerWord_of_lineFault (hfault : (pfCh s c).lineFault = true) :
    doSerWord s c dt data crc = updPf (advance s dt) c fun x => { x with serBusy := false } :=
  (if_neg (mt (not_serRuns_iff (advance s dt) c).2 (not_not_intro h))).trans (if_pos hfault)

variable (hline : (pfCh s c).lineFault = false)
include hline

/-- A word on a sound line is judged by its CRC and its error bit. -/
theorem doSerWord_of_line : doSerWord s c dt data crc =
    if serCrcOk s c data crc = false then
      pfEvent (serFail (updPf (advance s dt) c fun x => { x with errCrc := satInc 255 x.errCrc }) c) 1 c
    else if serBit s c data (u8 (pfBody s c) 29) = true then
      pfEvent (updPf (advance s dt) c fun x => { x with serBusy := false, serErr := true, failRun := 0 }) 3 c
    else serCompared (advance s dt) c data :=
  (if_neg (mt (not_serRuns_iff (advance s dt) c).2 (not_not_intro h))).trans <| (if_neg (ne_true_of_eq_false hline)).trans <|
    ite_congr (Bool.not_eq_true' _) (fun _ => rfl) fun _ => rfl

theorem doSerWord_of_bad_crc (hcrc : serCrcOk s c data crc = false) : doSerWord s c dt data crc =
    pfEvent (serFail (updPf (advance s dt) c fun x => { x with errCrc := satInc 255 x.errCrc }) c) 1 c :=
  (doSerWord_of_line h hline).trans (if_pos hcrc)

variable (hcrc : serCrcOk s c data crc = true)
include hcrc

theorem doSerWord_of_error (herr : serBit s c data (u8 (pfBody s c) 29) = true) : doSerWord s c dt data crc =
    pfEvent (updPf (advance s dt) c fun x => { x with serBusy := false, serErr := true, failRun := 0 }) 3 c :=
  (doSerWord_of_line h hline).trans <| (if_neg (ne_false_of_eq_true hcrc)).trans (if_pos herr)

theorem doSerWord_of_sound (herr : serBit s c data (u8 (pfBody s c) 29) = false) :
    doSerWord s c dt data crc = serCompared (advance s dt) c data :=
  (doSerWord_of_line h hline).trans <| (if_neg (ne_false_of_eq_true hcrc)).trans (if_neg (ne_true_of_eq_false herr))

end

/-! ### The rows of a serial channel -/

theorem exec_pfSerialStart (ch : Fin 8) (dt : Nat) (s : State) :
    exec (.pfSerialStart ch dt) s = .next (settle s (doSerStart s ch.val dt)) := rfl

theorem exec_pfSerialWord (ch : Fin 8) (dt data crc : Nat) (s : State) :
    exec (.pfSerialWord ch dt data crc) s = .next (settle s (doSerWord s ch.val dt data crc)) := rfl

theorem exec_pfSerialTimeout (ch : Fin 8) (dt : Nat) (s : State) :
    exec (.pfSerialTimeout ch dt) s = .next (settle s (doSerTimeout s ch.val dt)) := rfl

theorem exec_pfSerialBad (ch : Fin 8) (s : State) : exec (.pfSerialBad ch) s = .next (settle s (doSerBad s ch.val)) := rfl

/-- Settles O48: the starts and the failures by their conditions, a word by what it shows. -/
theorem serialChannelsTakeWords : Obligations.SerialChannelsTakeWords := by
  intro ch dt data crc s a c x b us failed
  rw [exec_pfSerialStart, exec_pfSerialWord, exec_pfSerialTimeout, exec_pfSerialBad, doSerStart_eq]
  refine ⟨fun hdec hser hfree hdue => ?_, fun hno => ?_, fun hdec hser hbusy hfault => ?_, fun hdec hser hbusy hline => ?_,
    fun hidle => ?_, fun hdec hser hbusy => ?_, fun hdec hser hfail => ?_, fun hno => ?_, rfl, rfl, rfl, rfl⟩
  · exact congrArg (fun u => Host.Outcome.next (settle s u)) (if_pos ⟨hdec, hser, hdue, hfree⟩)
  · refine congrArg (fun u => Host.Outcome.next (settle s u)) (if_neg ?_)
    rintro ⟨hdec, hser, hdue, hfree⟩
    rcases hno with h | h | h | ⟨hus, ht⟩ | ⟨hus, ht⟩
    · exact ne_true_of_eq_false h hdec
    · exact ne_true_of_eq_false h hser
    · exact ne_true_of_eq_false hfree h
    · exact hdue.elim (fun hd => ht hd.2) fun hd => hd.1 hus
    · exact hdue.elim (fun hd => hus hd.1) fun hd => ht hd.2
  · rw [doSerWord_of_lineFault ⟨hdec, hser, hbusy⟩ hfault]
  · have hruns : serRuns s c := ⟨hdec, hser, hbusy⟩
    refine ⟨fun hcrc => ?_, fun hcrc herr => ?_, fun hcrc herr => ?_⟩
    · rw [doSerWord_of_bad_crc hruns hline hcrc]
      rfl
    · rw [doSerWord_of_error hruns hline hcrc herr]
    · rw [doSerWord_of_sound hruns hline hcrc herr]
      have honly := PfOnly.serCompared a c data
      refine ⟨_, rfl, honly.1, honly.2, ?_⟩
      by_cases hhit : serHits a c data
      · obtain ⟨fifo, seq, lost, hu⟩ := serCompared_eqButFifo_of_hit hhit
        rw [hu]
        exact ⟨rfl, rfl, rfl, rfl, rfl, rfl, rfl, rfl, (serCount_of_first · data), fun _ hprev => serCount_of_next hprev data,
          fun _ _ _ => rfl, fun hno => absurd hhit (hno.elim (fun h k => h k.1) fun h k => h.elim (ne_true_of_eq_false · k.2.1) (· k.2.2))⟩
      · rw [pfCh_serCompared_of_no_hit hhit]
        exact ⟨rfl, rfl, rfl, rfl, rfl, rfl, rfl, rfl, (serCount_of_first · data), fun _ hprev => serCount_of_next hprev data,
          fun hone harmed hmeets => absurd ⟨hone, harmed, hmeets⟩ hhit, fun _ => rfl⟩
  · have hno : ¬serRuns s c := fun h => hidle.elim (ne_true_of_eq_false · h.1)
      fun k => k.elim (ne_true_of_eq_false · h.2.1) (ne_true_of_eq_false · h.2.2)
    rw [doSerWord_of_idle hno, doSerTimeout_of_idle hno]
    exact ⟨rfl, rfl⟩
  · rw [doSerTimeout_of_runs ⟨hdec, hser, hbusy⟩]
    rfl
  · rw [doSerBad_of_limit hdec hser hfail]
    rfl
  · rw [doSerBad_of_no_limit hno]

end Sys2Proof.Machine
end

section
/-! Proofs about the claim rounds of a redundancy group (17): the result of a line, the latch of a round, the output gates and the
compare outputs that go off with them. -/

namespace Sys2Proof.Machine

open Sys2Proof

/-! ### The result of a round on a line (17 R493) -/

/-- A line is FAULTY. -/
abbrev lineFaulty (own : Option Nat) (l : LineObs) : Prop :=
  l.dominant = true ∨ bits l.word 2 5 ≠ 0 ∨ (l.recessive = true ∧ own ≠ none)

theorem lineResult_eq (own : Option Nat) (l : LineObs) : lineResult own l =
    if lineFaulty own l then 0 else if own = some l.word then 1 else if l.word = 0 then 3 else 2 := by
  refine ite_congr ?_ (fun _ => rfl) fun _ => ite_congr rfl (fun _ => rfl) fun _ => ?_
  · simp [lineFaulty, or_assoc, Option.isSome_iff_ne_none]
  · exact ite_not ..

/-! ### The compare outputs (10 R269) -/

theorem cmpDrop_of_driven {s : State} (h : cmpDriven s = true) : cmpDrop s = s := if_pos h

theorem cmpDrop_frame (s : State) : cmpDrop s = { s with pf := { s.pf with ch := (cmpDrop s).pf.ch } } := by
  unfold cmpDrop
  split <;> rfl

theorem pfCh_cmpDrop_of_not_driven {s : State} (h : cmpDriven s = false) (c : Nat) :
    pfCh (cmpDrop s) c = { pfCh s c with cmpOn := false } := by
  rw [cmpDrop, if_neg (ne_true_of_eq_false h)]
  exact Tab.get_mapAll PfCh.init s.pf.ch (fun _ x => { x with cmpOn := false }) c rfl

/-! ### The output gates (17 R489, R496) -/

theorem openGate_of_open {s : State} {k : Nat} (h : gateShut s k = false) : openGate s k = s := if_neg (ne_true_of_eq_false h)

theorem openGate_of_shut {s : State} {k : Nat} (h : gateShut s k = true) : openGate s k =
    { s with
      gr := { s.gr with gate := bclr s.gr.gate k }
      an := { s.an with
        ao := Tab.updMany s.an.ao AoCh.init ((List.range 32).filter fun c => decide (c / 4 + 1 = k))
          fun _ x => { x with since := s.fr.t10 } } } :=
  if_pos h

theorem aoCh_openGate_of_shut {s : State} {k : Nat} (h : gateShut s k = true) (c : Nat) :
    aoCh (openGate s k) c = if c < 32 ∧ c / 4 + 1 = k then { aoCh s c with since := s.fr.t10 } else aoCh s c := by
  rw [openGate_of_shut h]
  have hread := Tab.get_updMany AoCh.init s.an.ao ((List.range 32).filter fun c => decide (c / 4 + 1 = k))
    (fun _ x => { x with since := s.fr.t10 }) (List.nodup_range.filter _) c
  simp only [List.mem_filter, List.mem_range, decide_eq_true_eq] at hread
  exact hread

/-- The gate message of this round shows CONTROL. -/
theorem gateControl_iff (s : State) (arrived : Bool) :
    gateControl s arrived = true ↔ arrived = true ∧ s.gr.latch = 1 ∧ s.gr.round = some s.fr.frame := by
  simp [gateControl, and_assoc]

section
variable {s : State} {rx : Option (Fin 8)} {arrived : Bool}

theorem doGateClose_of_ungrouped (h : s.mram.grouped = false) : doGateClose s rx arrived = s := if_pos (by rw [h]; rfl)

theorem doGateOpen_of_ungrouped (h : s.mram.grouped = false) : doGateOpen s rx arrived = s := if_pos (by rw [h]; rfl)

variable (h : s.mram.grouped = true)
include h

theorem doGateClose_of_grouped : doGateClose s rx arrived =
    if arrived = true ∧ s.gr.latch = 1 ∧ s.gr.round = some s.fr.frame then advanceTo s (s.fr.tick + 300)
    else cmpDrop { advanceTo s (s.fr.tick + 300) with gr := { s.gr with gate := bset s.gr.gate (rxIdx rx) } } :=
  (if_neg (by rw [h]; decide)).trans <| ite_congr (propext (gateControl_iff (advanceTo s _) arrived)) (fun _ => rfl) fun _ => rfl

theorem doGateOpen_of_grouped : doGateOpen s rx arrived =
    if arrived = true ∧ s.gr.latch = 1 ∧ s.gr.round = some s.fr.frame then openGate (advanceTo s (s.fr.tick + 350)) (rxIdx rx)
    else advanceTo s (s.fr.tick + 350) :=
  (if_neg (by rw [h]; decide)).trans <| ite_congr (propext (gateControl_iff (advanceTo s _) arrived)) (fun _ => rfl) fun _ => rfl

end

/-! ### The transmit gates of the ports (15 R429) -/

theorem openInFrame_frame (s : State) (p : Nat) :
    openInFrame s p = { s with bus := { s.bus with ports := (openInFrame s p).bus.ports } } := by
  unfold openInFrame
  split <;> rfl

theorem foldl_openInFrame_frame (ps : List Nat) (s : State) :
    ps.foldl openInFrame s = { s with bus := { s.bus with ports := (ps.foldl openInFrame s).bus.ports } } := by
  induction ps generalizing s with
  | nil => rfl
  | cons p ps ih => rw [List.foldl_cons, ih, openInFrame_frame]

theorem hasControl_openInFrame (s : State) (p : Nat) : hasControl (openInFrame s p) = hasControl s := by
  rw [openInFrame_frame]
  rfl

theorem port_updPort (s : State) (p : Nat) (f : Port → Port) (i : Nat) :
    port (updPort s p f) i = if i = p then f (port s i) else port s i := Tab.get_upd ..

/-- A port with its transmit gate open. -/
def Port.opened (x : Port) : Port := { x with gate := true }

/-- A port in normal operation opens its gate. -/
theorem port_openInFrame {s : State} (h : hasControl s = true) (p i : Nat) : port (openInFrame s p) i =
    if i = p ∧ normalOp (port s i) = true then (port s i).opened else port s i := by
  have hgate : txGate s p = normalOp (port s p) := by rw [txGate, h, Bool.true_and]
  rw [openInFrame, hgate, ite_and]
  by_cases hi : i = p
  · subst hi
    rw [if_pos rfl, apply_ite (port · i), port_updPort, if_pos rfl]
    rfl
  · rw [if_neg hi, apply_ite (port · i), port_updPort, if_neg hi, ite_self]

theorem port_foldl_openInFrame (ps : List Nat) {s : State} (h : hasControl s = true) (i : Nat) : port (ps.foldl openInFrame s) i =
    if i ∈ ps ∧ normalOp (port s i) = true then (port s i).opened else port s i := by
  induction ps generalizing s with
  | nil => simp
  | cons p ps ih =>
    rw [List.foldl_cons, ih ((hasControl_openInFrame s p).trans h), port_openInFrame h]
    by_cases hopen : i = p ∧ normalOp (port s i) = true
    · rw [if_pos hopen, if_pos (c := i ∈ p :: ps ∧ _) ⟨List.mem_cons.2 (.inl hopen.1), hopen.2⟩]
      exact ite_self _
    · rw [if_neg hopen]
      refine if_congr ?_ rfl rfl
      rw [List.mem_cons, or_and_right, or_iff_right hopen]

/-! ### The latch of a round (17 R492-R495) -/

/-- The parts of a state that a claim round speaks of, but for the announced handover and the registers that show the group. -/
structure ClaimPart where
  fr : FrameSt
  md : ModeSt
  bus : BusSt
  gr : GroupSt
  hl : HealthSt
  mram : MramSt
  pending : List Instr

def State.claimPart (s : State) : ClaimPart :=
  { fr := s.fr, md := s.md, bus := s.bus, gr := { s.gr with target := none, reqFrame := none, shown := [] }, hl := s.hl
    mram := s.mram, pending := s.pending }

/-- The ports' transmit gates and the event of a round that gains the latch. -/
def gainTaken (gains : Bool) (s : State) : State :=
  if gains then (List.range 4).foldl openInFrame (grEvent s 0) else s

/-- The events of a round. -/
def roundEvents (loses : Bool) (faulty : Prop) [Decidable faulty] (s : State) : State :=
  let lost := if loses then grEvent s 1 else s
  if faulty then grEvent lost 5 else lost

/-- The announced handover ends with the holder that the round before has shown. -/
def handoverKept (was holder : Option Nat) (s : State) : State :=
  match s.gr.target with
  | some t => if was = some t.1 ∧ holder ≠ some t.1 then dropTarget s else s
  | none => s

/-- A changed latch ends the tests. -/
def testsKept (same : Prop) [Decidable same] (s : State) : State := if same then s else abandonTests true s

/-- What a round does once its latch is formed. -/
def roundEffects (gains loses : Bool) (faulty same : Prop) [Decidable faulty] [Decidable same]
    (was holder : Option Nat) (s : State) : State :=
  let u := testsKept same (handoverKept was holder (roundEvents loses faulty (cmpDrop (gainTaken gains s))))
  { u with gr := { u.gr with shown := grRegs u } }

/-- The events of the group after a round. -/
def eventsAfter (gains loses : Bool) (faulty : Prop) [Decidable faulty] (e : BitVec 9) : BitVec 9 :=
  let gained := if gains then bset e 0 else e
  let lost := if loses then bset gained 1 else gained
  if faulty then bset lost 5 else lost

theorem cmpDrop_claimPart (s : State) : (cmpDrop s).claimPart = s.claimPart := by
  rw [cmpDrop_frame]
  rfl

theorem handoverKept_claimPart (was holder : Option Nat) (s : State) : (handoverKept was holder s).claimPart = s.claimPart := by
  unfold handoverKept
  split
  · split <;> rfl
  · rfl

section
variable (gains loses : Bool) (faulty same : Prop) [Decidable faulty] [Decidable same] (s : State)

theorem gainTaken_claimPart : (gainTaken gains s).claimPart =
    { s.claimPart with
      bus := { s.bus with ports := (gainTaken gains s).bus.ports }
      gr := { s.claimPart.gr with event := if gains then bset s.gr.event 0 else s.gr.event } } := by
  unfold gainTaken
  split
  · rw [foldl_openInFrame_frame]
    rfl
  · rfl

theorem roundEvents_claimPart : (roundEvents loses faulty s).claimPart =
    { s.claimPart with gr := { s.claimPart.gr with event := eventsAfter false loses faulty s.claimPart.gr.event } } := by
  unfold roundEvents eventsAfter
  cases loses <;> by_cases hf : faulty <;> simp only [hf, if_true, if_false] <;> rfl

theorem testsKept_claimPart : (testsKept same s).claimPart =
    { s.claimPart with hl := if same then s.claimPart.hl else { s.claimPart.hl with running := [] } } := by
  unfold testsKept
  split
  · rfl
  · simp [abandonTests, State.claimPart]

theorem roundEffects_claimPart (was holder : Option Nat) : (roundEffects gains loses faulty same was holder s).claimPart =
    { s.claimPart with
      bus := { s.bus with ports := (gainTaken gains s).bus.ports }
      gr := { s.claimPart.gr with event := eventsAfter gains loses faulty s.gr.event }
      hl := if same then s.hl else { s.hl with running := [] } } := by
  have h : (roundEffects gains loses faulty same was holder s).claimPart =
    (testsKept same (handoverKept was holder (roundEvents loses faulty (cmpDrop (gainTaken gains s))))).claimPart := rfl
  rw [h, testsKept_claimPart, handoverKept_claimPart, roundEvents_claimPart, cmpDrop_claimPart, gainTaken_claimPart]
  rfl

section
variable (e : BitVec 9)

theorem getLsbD_eventsAfter {k : Nat} (hk : k < 9) : (eventsAfter gains loses faulty e).getLsbD k =
    (e.getLsbD k || (decide (k = 0) && gains) || (decide (k = 1) && loses) || (decide (k = 5) && decide faulty)) := by
  simp only [eventsAfter, getLsbD_ite_bset _ _ _ hk, Bool.decide_eq_true]

theorem eventsAfter_gained : (eventsAfter gains loses faulty e).getLsbD 0 = (e.getLsbD 0 || gains) :=
  (getLsbD_eventsAfter gains loses faulty e (by decide)).trans (by simp)

theorem eventsAfter_lost : (eventsAfter gains loses faulty e).getLsbD 1 = (e.getLsbD 1 || loses) :=
  (getLsbD_eventsAfter gains loses faulty e (by decide)).trans (by simp)

theorem eventsAfter_faulty : (eventsAfter gains loses faulty e).getLsbD 5 = (e.getLsbD 5 || decide faulty) :=
  (getLsbD_eventsAfter gains loses faulty e (by decide)).trans (by simp)

end

variable {gains} in
theorem port_gainTaken (h : gains = true → s.gr.latch = 1) (p : Nat) : port (gainTaken gains s) p =
    if gains = true ∧ p < 4 ∧ normalOp (port s p) = true then (port s p).opened else port s p := by
  unfold gainTaken
  cases gains with
  | false => exact (if_neg fun k => Bool.false_ne_true k.1).symm
  | true =>
    have hctl : hasControl (grEvent s 0) = true := Bool.or_eq_true_iff.2 (.inr (decide_eq_true (h rfl)))
    rw [if_pos rfl, port_foldl_openInFrame _ hctl]
    simp only [List.mem_range, true_and]
    rfl

end

/-- The round of this frame is formed now. -/
def roundRuns (s : State) : Prop := grouped s = true ∧ s.gr.round ≠ some s.fr.frame ∧ s.md.mode ≠ .reset ∧ s.md.mode ≠ .boot

theorem not_roundRuns_iff (s : State) : ¬roundRuns s ↔
    (!grouped s || decide (s.gr.round = some s.fr.frame) || decide (s.md.mode = .reset) || decide (s.md.mode = .boot)) = true := by
  simp [roundRuns, imp_iff_not_or, or_assoc]

theorem doClaimLatch_of_idle {s : State} (h : ¬roundRuns s) (l0 l1 : LineObs) : doClaimLatch s l0 l1 = s :=
  if_pos ((not_roundRuns_iff s).1 h)

section
variable (s : State) (l0 l1 : LineObs)

/-- The latch of a round. -/
def roundLatch : Nat := latchOf (lineResult s.gr.word l0) (lineResult s.gr.word l1)

/-- The rounds in a row that have shown VACANT. -/
def roundVacant : Nat := if roundLatch s l0 l1 = 0 then s.gr.vacant + 1 else 0

/-- The latch loses: PEER, or VACANT in two rounds in a row, after CONTROL. -/
def roundLoses : Bool := s.gr.claimed && (decide (roundLatch s l0 l1 = 2) || decide (2 ≤ roundVacant s l0 l1))

def roundGains : Bool := decide (roundLatch s l0 l1 = 1) && decide (s.gr.latch ≠ 1)

/-- A line is FAULTY, or the words of two sound lines differ. -/
abbrev roundFaulty : Prop :=
  let r0 := lineResult s.gr.word l0
  let r1 := lineResult s.gr.word l1
  r0 = 0 ∨ r1 = 0 ∨ (decide (r0 ≠ 0) && decide (r1 ≠ 0) && decide (l0.word % 65536 ≠ l1.word % 65536)) = true

def roundHolder : Option Nat :=
  holderOf s (roundLatch s l0 l1) (lineResult s.gr.word l0) (l0.word % 65536) (l1.word % 65536)

end

theorem doClaimLatch_of_runs {s : State} (h : roundRuns s) (l0 l1 : LineObs) : ∃ f : State,
    doClaimLatch s l0 l1 = roundEffects (roundGains s l0 l1) (roundLoses s l0 l1) (roundFaulty s l0 l1)
      (roundLatch s l0 l1 = s.gr.latch) s.gr.holder (roundHolder s l0 l1) f ∧
    f = { advanceTo s (s.fr.tick + 200) with gr := { s.gr with
      latch := roundLatch s l0 l1, vacant := roundVacant s l0 l1, round := some s.fr.frame
      claimed := if roundLatch s l0 l1 = 1 then true else if roundLoses s l0 l1 then false else s.gr.claimed
      own := s.gr.word.getD 0, word0 := l0.word % 65536, word1 := l1.word % 65536
      faults0 := if lineResult s.gr.word l0 = 0 then satInc 0xFFFF s.gr.faults0 else s.gr.faults0
      faults1 := if lineResult s.gr.word l1 = 0 then satInc 0xFFFF s.gr.faults1 else s.gr.faults1
      holder := roundHolder s l0 l1, claimStatus := f.gr.claimStatus, incumbent := f.gr.incumbent
      healthSent := f.gr.healthSent, gained := f.gr.gained, holderFrame := f.gr.holderFrame } } := by
  unfold doClaimLatch
  rw [if_neg (mt (not_roundRuns_iff s).2 (not_not_intro h))]
  extract_lets a g r0 r1 latch w0 w1 differ holder vacant loses gained formed
  exact ⟨formed, rfl, rfl⟩

/-- What a round leaves in the parts it speaks of. -/
theorem doClaimLatch_claimPart {s : State} (h : roundRuns s) (l0 l1 : LineObs) :
    ∃ ports claimStatus incumbent healthSent gained holderFrame, (doClaimLatch s l0 l1).claimPart =
      { s.claimPart with
        fr := (advanceTo s (s.fr.tick + 200)).fr, bus := { s.bus with ports := ports }
        hl := if roundLatch s l0 l1 = s.gr.latch then s.hl else { s.hl with running := [] }
        gr := { s.claimPart.gr with
          latch := roundLatch s l0 l1, vacant := roundVacant s l0 l1, round := some s.fr.frame
          claimed := if roundLatch s l0 l1 = 1 then true else if roundLoses s l0 l1 then false else s.gr.claimed
          own := s.gr.word.getD 0, word0 := l0.word % 65536, word1 := l1.word % 65536
          faults0 := if lineResult s.gr.word l0 = 0 then satInc 0xFFFF s.gr.faults0 else s.gr.faults0
          faults1 := if lineResult s.gr.word l1 = 0 then satInc 0xFFFF s.gr.faults1 else s.gr.faults1
          holder := roundHolder s l0 l1
          event := eventsAfter (roundGains s l0 l1) (roundLoses s l0 l1) (roundFaulty s l0 l1) s.gr.event
          claimStatus := claimStatus, incumbent := incumbent, healthSent := healthSent, gained := gained
          holderFrame := holderFrame } } := by
  obtain ⟨f, hu, hf⟩ := doClaimLatch_of_runs h l0 l1
  rw [hu, roundEffects_claimPart]
  generalize (gainTaken (roundGains s l0 l1) f).bus.ports = ports
  rw [hf]
  exact ⟨ports, f.gr.claimStatus, f.gr.incumbent, f.gr.healthSent, f.gr.gained, f.gr.holderFrame, rfl⟩

/-- A latch gained opens the ports in normal operation. -/
theorem port_doClaimLatch {s : State} (h : roundRuns s) (l0 l1 : LineObs) (p : Nat) : port (doClaimLatch s l0 l1) p =
    if roundLatch s l0 l1 = 1 ∧ s.gr.latch ≠ 1 ∧ p < 4 ∧ normalOp (port s p) = true then { port s p with gate := true }
    else port s p := by
  obtain ⟨f, hu, hf⟩ := doClaimLatch_of_runs h l0 l1
  have hbus : (doClaimLatch s l0 l1).bus.ports = (gainTaken (roundGains s l0 l1) f).bus.ports := by
    rw [hu]
    exact congrArg (fun P : ClaimPart => P.bus.ports) (roundEffects_claimPart ..)
  have hlatch : f.gr.latch = roundLatch s l0 l1 := by rw [hf]
  have hport : port f p = port s p := by
    rw [hf]
    rfl
  have hgains : roundGains s l0 l1 = true ↔ roundLatch s l0 l1 = 1 ∧ s.gr.latch ≠ 1 := by simp [roundGains]
  calc port (doClaimLatch s l0 l1) p = port (gainTaken (roundGains s l0 l1) f) p := congrArg (fun t => Tab.get t Port.init p) hbus
    _ = if roundGains s l0 l1 = true ∧ p < 4 ∧ normalOp (port s p) = true then (port s p).opened else port s p := by
      rw [port_gainTaken f fun hg => hlatch.trans (hgains.1 hg).1, hport]
    _ = _ := if_congr (by rw [hgains, and_assoc]) rfl rfl

section
variable (s : State) (l0 l1 : LineObs)

theorem claimed_after_round :
    (if roundLatch s l0 l1 = 1 then true else if roundLoses s l0 l1 then false else s.gr.claimed) =
      (decide (roundLatch s l0 l1 = 1) ||
        (s.gr.claimed && decide (roundLatch s l0 l1 ≠ 2) && decide (roundVacant s l0 l1 < 2))) := by
  unfold roundLoses
  generalize roundLatch s l0 l1 = latch, roundVacant s l0 l1 = vacant
  by_cases h1 : latch = 1
  · rw [if_pos h1, decide_eq_true h1, Bool.true_or]
  · rw [if_neg h1, decide_eq_false h1, Bool.false_or]
    by_cases h2 : latch = 2
    · cases s.gr.claimed <;> simp [h2]
    · rcases Nat.lt_or_ge vacant 2 with hv | hv <;> cases s.gr.claimed <;> simp [h2, hv, Nat.not_le.2, Nat.not_lt.2]

/-- A round with CONTROL shows this unit as the holder, one with PEER the unit of the word that won. -/
theorem roundHolder_of_control (h : roundLatch s l0 l1 = 1) : roundHolder s l0 l1 = some (unitId s) := if_pos h

theorem roundHolder_of_vacant (h : roundLatch s l0 l1 = 0) : roundHolder s l0 l1 = none := by
  rw [roundHolder, h]
  rfl

theorem roundHolder_of_peer (h : roundLatch s l0 l1 = 2) : roundHolder s l0 l1 =
    some ((if lineResult s.gr.word l0 = 2 then l0.word % 65536 else l1.word % 65536) % 4) := by
  rw [roundHolder, h]
  rfl

theorem decide_roundFaulty : decide (roundFaulty s l0 l1) =
    (decide (lineResult s.gr.word l0 = 0) || decide (lineResult s.gr.word l1 = 0) || decide (l0.word % 65536 ≠ l1.word % 65536)) := by
  by_cases h0 : lineResult s.gr.word l0 = 0
  · simp [h0]
  · by_cases h1 : lineResult s.gr.word l1 = 0 <;> simp [h0, h1]

end

/-! ### The rows of a claim round -/

theorem exec_claimLatch (l0 l1 : LineObs) (s : State) : exec (.claimLatch l0 l1) s = .next (settle s (doClaimLatch s l0 l1)) := rfl

theorem exec_gateClose (rx : Option (Fin 8)) (arrived : Bool) (s : State) :
    exec (.gateClose rx arrived) s = .next (settle s (doGateClose s rx arrived)) := rfl

theorem exec_gateOpen (rx : Option (Fin 8)) (arrived : Bool) (s : State) :
    exec (.gateOpen rx arrived) s = .next (settle s (doGateOpen s rx arrived)) := rfl

/-- Settles O56: the round by what it leaves in each part it speaks of, the gates by what their message shows. -/
theorem theClaimRoundGivesTheLatch : Obligations.TheClaimRoundGivesTheLatch := by
  refine ⟨fun own l => ?_, fun l0 l1 s => ?_, fun rx arrived s => ?_, fun k s => ⟨openGate_of_open, fun h => ?_⟩,
    fun s => ⟨cmpDrop_of_driven, fun h => ⟨_, cmpDrop_frame s, pfCh_cmpDrop_of_not_driven h⟩⟩⟩
  · intro faulty
    rw [lineResult_eq]
    refine ⟨fun h => if_pos h, fun h hown => ?_, fun h hown => ?_⟩
    · rw [if_neg h, if_pos hown]
    · rw [if_neg h, if_neg hown]
  · intro a r0 r1 latch vacant runs
    rw [exec_claimLatch]
    refine ⟨fun h => by rw [doClaimLatch_of_idle h], fun h => ⟨_, rfl, ?_⟩⟩
    obtain ⟨ports, status, incumbent, health, gained, since, hpart⟩ := doClaimLatch_claimPart h l0 l1
    have hgr := congrArg ClaimPart.gr hpart
    have hbus : (doClaimLatch s l0 l1).bus = { s.bus with ports := ports } := congrArg ClaimPart.bus hpart
    refine ⟨congrArg ClaimPart.fr hpart, congrArg ClaimPart.md hpart, congrArg ClaimPart.mram hpart, by rw [hbus],
      congrArg ClaimPart.pending hpart, port_doClaimLatch h l0 l1, congrArg GroupSt.latch hgr, congrArg GroupSt.vacant hgr,
      congrArg GroupSt.round hgr, (congrArg GroupSt.gate hgr :), (congrArg GroupSt.word hgr :),
      (congrArg GroupSt.claimed hgr).trans (claimed_after_round ..), congrArg GroupSt.own hgr, congrArg GroupSt.word0 hgr,
      congrArg GroupSt.word1 hgr, congrArg GroupSt.faults0 hgr, congrArg GroupSt.faults1 hgr,
      fun hl => (congrArg GroupSt.holder hgr).trans (roundHolder_of_control s l0 l1 hl),
      fun hl => (congrArg GroupSt.holder hgr).trans (roundHolder_of_vacant s l0 l1 hl),
      fun hl => (congrArg GroupSt.holder hgr).trans (roundHolder_of_peer s l0 l1 hl),
      (congrArg (fun g : GroupSt => g.event.getLsbD 0) hgr).trans (eventsAfter_gained ..),
      (congrArg (fun g : GroupSt => g.event.getLsbD 1) hgr).trans (eventsAfter_lost ..), ?_, congrArg ClaimPart.hl hpart⟩
    refine (congrArg (fun g : GroupSt => g.event.getLsbD 5) hgr).trans ((eventsAfter_faulty ..).trans ?_)
    rw [decide_roundFaulty, ← Bool.or_assoc, ← Bool.or_assoc]
  · intro i shows
    have hi : rxIdx rx = i := rfl
    rw [exec_gateClose, exec_gateOpen]
    refine ⟨fun h => ?_, fun h hshows => ?_, fun h hshows => ?_⟩
    · rw [doGateClose_of_ungrouped h, doGateOpen_of_ungrouped h]
      exact ⟨rfl, rfl⟩
    · rw [doGateClose_of_grouped h, doGateOpen_of_grouped h, if_pos hshows, if_pos hshows, hi]
      exact ⟨rfl, rfl⟩
    · rw [doGateClose_of_grouped h, doGateOpen_of_grouped h, if_neg hshows, if_neg hshows, hi]
      exact ⟨rfl, rfl⟩
  · exact ⟨_, openGate_of_shut h, aoCh_openGate_of_shut h⟩

end Sys2Proof.Machine
end

section
/-! Proofs about every command: it answers a next state, leaves the commands that wait, and settles the fault log, the failure
counts of collected tests and the rankings of the claims beside its own effect. -/

namespace Sys2Proof.Machine

open Sys2Proof

/-! ### The commands that wait -/

theorem enterReset_pending (internal : Bool) (s : State) : (enterReset internal s).pending = s.pending := by
  unfold enterReset
  split <;> rfl

theorem doFwReset_pending (s : State) : (doFwReset s).pending = s.pending := by
  unfold doFwReset
  split
  · exact enterReset_pending true s
  · rfl

theorem doLeaveReset_pending (s : State) (p : Straps) : (doLeaveReset s p).pending = s.pending := by
  by_cases hm : s.md.mode = .reset
  · obtain ⟨dio, an, gr, queue, dropped, bootRead, status, hu⟩ := doLeaveReset_eq p s hm
    rw [hu]
  · rw [doLeaveReset, if_pos hm]

theorem doTick_pending (s : State) (i : TickIn) : (doTick s i).pending = s.pending := by
  by_cases hm : s.md.mode = .reset
  · rw [doTick_of_reset i hm]
  · exact (doTick_ticks s i hm).pending

theorem doSyncEdge_pending (s : State) (dt : Nat) (rising : Bool) (ppm : Int) (step : Bool) :
    (doSyncEdge s dt rising ppm step).pending = s.pending := by
  unfold doSyncEdge
  dsimp only
  (repeat' split) <;> rfl

theorem doCheckComplete_pending (s : State) (c : CheckIn) : (doCheckComplete s c).pending = s.pending := by
  unfold doCheckComplete
  split
  · rfl
  extract_lets prog r s0 cfg s1
  have h0 : s0.pending = s.pending := by
    unfold s0
    split
    · rfl
    · exact anchor_pending (stageNine_anchor ..)
  split
  · exact h0
  · exact h0

/-- Of the commands none touches those that wait behind it: what moves device time alone, and the few that change more of the anchor. -/
theorem exec_pending (c : Instr) (s : State) : ∃ t, exec c s = .next t ∧ t.pending = s.pending := by
  by_cases hc : movesAnchor c = false
  · obtain ⟨u, hu, ho⟩ := exec_onward c s hc
    exact ⟨settle s u, hu, ho.pending⟩
  · cases c with
    | resetAssert => exact ⟨_, rfl, enterReset_pending false s⟩
    | supplySupervisorReset => exact ⟨_, rfl, enterReset_pending false s⟩
    | fcSupervisoryTimeout => exact ⟨_, rfl, enterReset_pending true s⟩
    | fwActivateReset => exact ⟨_, rfl, doFwReset_pending s⟩
    | leaveReset p => exact ⟨_, rfl, doLeaveReset_pending s p⟩
    | tick i => exact ⟨_, rfl, doTick_pending s i⟩
    | syncInEdge edge ppm step => exact ⟨_, rfl, doSyncEdge_pending ..⟩
    | checkComplete c => exact ⟨_, rfl, doCheckComplete_pending s c⟩
    | _ => exact absurd rfl hc

/-! ### Failed items of the collected tests (18 R526, R535, R539) -/

/-- `h` with more failed items counted: the queue of the fault log, the failure counts and TEST_FAILED may have changed, no more. -/
structure FailsCounted (h h' : HealthSt) : Prop where
  frame : h' = { h with queue := h'.queue, dropped := h'.dropped, tests := h'.tests, event := h'.event }
  tests (i : Nat) : Tab.get h'.tests TestSt.init i =
    { Tab.get h.tests TestSt.init i with failCount := (Tab.get h'.tests TestSt.init i).failCount }
  event (i : Nat) : 0 < i → h'.event.getLsbD i = h.event.getLsbD i

theorem FailsCounted.refl (h : HealthSt) : FailsCounted h h := ⟨rfl, fun _ => rfl, fun _ _ => rfl⟩

theorem FailsCounted.trans {a b c : HealthSt} (hab : FailsCounted a b) (hbc : FailsCounted b c) : FailsCounted a c where
  frame := by rw [hbc.frame, hab.frame]
  tests i := by rw [hbc.tests i, hab.tests i]
  event i hi := (hbc.event i hi).trans (hab.event i hi)

theorem FailsCounted.foldl {α : Type} {g : HealthSt → α → HealthSt} (hg : ∀ h x, FailsCounted h (g h x)) (l : List α) (h : HealthSt) :
    FailsCounted h (l.foldl g h) := by
  induction l generalizing h with
  | nil => exact .refl h
  | cons x r ih => exact (hg h x).trans (ih _)

theorem queueLog_failsCounted (h : HealthSt) (es : List LogEntry) : FailsCounted h (queueLog h es) :=
  ⟨rfl, fun _ => rfl, fun _ _ => rfl⟩

theorem countFail_failsCounted (t10 frame t item : Nat) (h : HealthSt) : FailsCounted h (countFail t10 frame t item h) where
  frame := rfl
  tests i := by
    have htests : (countFail t10 frame t item h).tests =
        Tab.upd h.tests TestSt.init t (fun x => { x with failCount := satInc32 x.failCount }) := rfl
    rw [htests, Tab.get_upd]
    split <;> rfl
  event i hi := by
    show (bset h.event 0).getLsbD i = h.event.getLsbD i
    simp [Nat.ne_of_lt hi]

theorem riseFails_failsCounted (a b : State) : FailsCounted b.hl (riseFails a b) :=
  .foldl (fun h _ => .foldl (fun h i => countFail_failsCounted _ _ _ i h) _ h) _ _

/-- What a command settles of the health is the fault log's queue and the failures of the collected tests. -/
theorem settle_failsCounted (a b : State) : FailsCounted b.hl (settle a b).hl :=
  (riseFails_failsCounted a b).trans (queueLog_failsCounted _ _)

/-! ### The rankings of the claims (07 R161) -/

/-- A ranking loses sources alone, and of its target nothing else changes. -/
theorem staleRank_frame (a b : State) (t : Nat) (T : Target) : staleRank a b t T = { T with rank := (staleRank a b t T).rank } := by
  unfold staleRank
  dsimp only
  (repeat' split) <;> rfl

theorem staleRank_subset (a b : State) (t : Nat) (T : Target) {x : Nat × Nat} (hx : x ∈ (staleRank a b t T).rank) : x ∈ T.rank := by
  unfold staleRank at hx
  dsimp only at hx
  split at hx
  · exact hx
  · split at hx
    · exact List.mem_of_mem_filter hx
    · exact List.mem_of_mem_filter (List.mem_of_mem_filter hx)

theorem hecTgt_settle (a b : State) (t : Nat) : hecTgt (settle a b) t = staleRank a b t (hecTgt b t) :=
  Tab.get_mapAll Target.init b.hec.tgt (staleRank a b) t (if_pos rfl)

/-- Settles O2: the answer from what each command does to the anchor, the rest from the parts of what a command settles. -/
theorem everyCommandAnswersANextState : Obligations.EveryCommandAnswersANextState := by
  refine ⟨exec_pending, fun a b => ?_⟩
  have hcounted := settle_failsCounted a b
  refine ⟨rfl, hcounted.frame, hcounted.tests, hcounted.event, fun t => ?_⟩
  rw [hecTgt_settle]
  exact ⟨staleRank_frame a b t _, fun _ => staleRank_subset a b t _⟩

end Sys2Proof.Machine
end

section
/-! Proofs about memory errors and the fault log (18): the ECC counters, the writing of a queued entry. -/

namespace Sys2Proof.Machine

open Sys2Proof

/-! ### Memory errors (18 R534) -/

/-- `s` with an uncorrectable error noted at an address, before its cause is asked for. -/
def eccNoted (s : State) (addr : Nat) : State :=
  { s with hl := { s.hl with eccAddr := addr / 64, event := bset s.hl.event 3 } }

theorem exec_eccUncorrectable (dram : Bool) (addr : Nat) (s : State) :
    exec (.eccUncorrectable dram addr) s = .next (settle s (pendCause (eccNoted s addr) 0x0A)) := rfl

/-! ### The writing of the fault log (18 R535, R536) -/

/-- The idle tail stands open for an entry: fewer than 16 in this frame, and a frame committed or no phases at all. -/
def logOpen (s : State) : Prop := s.hl.written < 16 ∧ s.md.mode ≠ .reset ∧ (s.fr.commitDone = true ∨ s.md.mode = .boot)

theorem logTail_iff (s : State) : logTail s = true ↔ s.fr.commitDone = true ∨ s.md.mode = .boot := by
  simp [logTail]

theorem logOpen_iff (s : State) : logOpen s ↔ ¬(16 ≤ s.hl.written ∨ s.md.mode = .reset ∨ logTail s = false) := by
  rw [logOpen, not_or, not_or, Nat.not_le, Bool.not_eq_false, logTail_iff]

theorem doLogWrite_of_empty {s : State} (h : s.hl.queue = []) : doLogWrite s = s := by
  unfold doLogWrite
  rw [h]

theorem doLogWrite_of_shut {s : State} (h : ¬logOpen s) : doLogWrite s = s := by
  rw [logOpen_iff, not_not] at h
  unfold doLogWrite
  split
  · rfl
  · exact if_pos h

/-- `s` with the entry in the ring at the index of the next one, with the mode of the moment, and `r` still queued. -/
def logWritten (s : State) (e : LogEntry) (r : List LogEntry) : State :=
  { s with
    mram := { s.mram with
      log := Tab.set s.mram.log none (s.mram.logSeq % 4096) (some { e with mode := s.md.mode.num }), logSeq := s.mram.logSeq + 1 }
    hl := { s.hl with
      queue := r, written := s.hl.written + 1
      event := if (s.mram.logSeq + 1) % 4096 = 0 then bset s.hl.event 4 else s.hl.event } }

theorem logWritten_log (s : State) (e : LogEntry) (r : List LogEntry) (i : Nat) : Tab.get (logWritten s e r).mram.log none i =
    if i = s.mram.logSeq % 4096 then some { e with mode := s.md.mode.num } else Tab.get s.mram.log none i := by
  simp only [logWritten, Tab.get_set]

/-- The oldest entry of the queue goes to the ring, and FAULT_LOG_WRAP comes with the index's return to 0. -/
theorem doLogWrite_of_open {s : State} {e : LogEntry} {r : List LogEntry} (hq : s.hl.queue = e :: r) (h : logOpen s) :
    doLogWrite s = logWritten s e r := by
  have hwrap : (s.mram.logSeq % 4096 + 1) % 4096 = (s.mram.logSeq + 1) % 4096 := Nat.mod_add_mod ..
  unfold doLogWrite logWritten
  rw [hq]
  dsimp only
  rw [if_neg ((logOpen_iff s).1 h), hwrap]
  split <;> rfl

theorem exec_faultLogEntryWrite (s : State) : exec .faultLogEntryWrite s = .next (settle s (doLogWrite s)) := rfl

/-- Settles O60: the ECC rows write their counters and the cause, and the fault log moves on by the oldest entry where its tail is open. -/
theorem memoryErrorsAndTheFaultLog : Obligations.MemoryErrorsAndTheFaultLog := by
  refine ⟨fun dram addr s => ⟨rfl, _, exec_eccUncorrectable dram addr s, pendCause_frame (eccNoted s addr) 0x0A,
    mem_pendCause (eccNoted s addr) 0x0A⟩, fun s => ⟨fun h => ?_, fun e r hq hwritten hmode htail => ?_⟩⟩
  · rw [exec_faultLogEntryWrite]
    by_cases hq : s.hl.queue = []
    · rw [doLogWrite_of_empty hq]
    · rw [doLogWrite_of_shut]
      rintro ⟨hwritten, hmode, htail⟩
      rcases h with h | h | h | ⟨hcommit, hboot⟩
      · exact hq h
      · exact Nat.not_le.2 hwritten h
      · exact hmode h
      · exact htail.elim (fun hc => Bool.false_ne_true (hcommit.symm.trans hc)) hboot
  · refine ⟨_, exec_faultLogEntryWrite s, ?_⟩
    rw [doLogWrite_of_open hq ⟨hwritten, hmode, htail⟩]
    exact ⟨rfl, (logWritten_log ..).trans (if_pos rfl), fun i hi => (logWritten_log ..).trans (if_neg hi)⟩

end Sys2Proof.Machine
end

section
/-! Proofs about the field-side tests (18): their start on an item of the pass, their end with a verdict, and the rows that step and end them. -/

namespace Sys2Proof.Machine

open Sys2Proof

/-! ### The end of a test (18 R524, R531) -/

/-- Test t of `u` has ended on an item with a verdict: of `s` its running tests and its test t have changed, and TEST_FAILED. -/
def TestEnds (s u : State) (t item : Nat) (ok : Bool) : Prop :=
  u.hl.running = s.hl.running.filter (fun r => !(decide (r.test = t) && decide (r.item = item))) ∧ (∀ i, i ≠ t → test u i = test s i) ∧
  (item ∈ (test u t).failed ↔ ok = false) ∧ (∀ j, j ≠ item → (j ∈ (test u t).failed ↔ j ∈ (test s t).failed)) ∧
  (test u t).failCount = (if ok then (test s t).failCount else satInc32 (test s t).failCount) ∧ item ∈ (test u t).tested ∧
  u.hl.event = (if ok then s.hl.event else bset s.hl.event 0)

/-- The place in the pass and the failures counted are those of the verdict: the end of a pass keeps both. -/
theorem test_finishTest_counts (s : State) (t item : Nat) (ok : Bool) :
    (test (finishTest s t item ok) t).pos = (judged t item ok (test s t)).pos ∧
      (test (finishTest s t item ok) t).failCount = (judged t item ok (test s t)).failCount := by
  have hverdict : test (verdict (testStopped s t item) t item ok) t = judged t item ok (test s t) := (test_verdict ..).trans (if_pos rfl)
  rcases finishTest_cases s t item ok with h | h
  · rw [h, hverdict]
    exact ⟨rfl, rfl⟩
  · rw [h, endPass_eq, test_updTest, if_pos rfl, hverdict]
    exact ⟨rfl, rfl⟩

theorem finishTest_event (s : State) (t item : Nat) (ok : Bool) :
    (finishTest s t item ok).hl.event = if ok then s.hl.event else bset s.hl.event 0 := by
  rcases finishTest_cases s t item ok with h | h <;> rw [h] <;> cases ok <;> rfl

theorem finishTest_hl (s : State) (t item : Nat) (ok : Bool) : finishTest s t item ok = { s with hl := (finishTest s t item ok).hl } := by
  rw [finishTest_frame]

/-- A test that is no memory walk ends with its verdict. -/
theorem finishTest_ends {t : Nat} (ht : ¬(4 ≤ t ∧ t ≤ 6)) (s : State) (item : Nat) (ok : Bool) :
    TestEnds s (finishTest s t item ok) t item ok := by
  obtain ⟨hfailed, htested⟩ := test_finishTest_items s t item ok
  refine ⟨?_, fun i hi => test_finishTest_other hi s item ok, ?_, fun j hj => ?_, ?_, ?_, finishTest_event s t item ok⟩
  · rw [finishTest_frame]
    rfl
  · rw [hfailed, mem_failed_judged, if_pos rfl]
  · rw [hfailed, mem_failed_judged, if_neg hj]
  · exact (test_finishTest_counts s t item ok).2
  · rw [htested]
    exact (mem_tested_judged ht item ok _ item).2 (.inl rfl)

/-- What is left of a test that ended depends on the running tests, the tests and TEST_FAILED before it alone. -/
theorem TestEnds.congr {s s' u : State} {t item : Nat} {ok : Bool} (h : TestEnds s' u t item ok) (hrun : s'.hl.running = s.hl.running)
    (hevent : s'.hl.event = s.hl.event) (hother : ∀ i, i ≠ t → test s' i = test s i) (hfailed : (test s' t).failed = (test s t).failed)
    (hcount : (test s' t).failCount = (test s t).failCount) : TestEnds s u t item ok := by
  obtain ⟨h1, h2, h3, h4, h5, h6, h7⟩ := h
  rw [hrun] at h1
  rw [hfailed] at h4
  rw [hcount] at h5
  rw [hevent] at h7
  exact ⟨h1, fun i hi => (h2 i hi).trans (hother i hi), h3, h4, h5, h6, h7⟩

/-! ### The start of a test (18 R523-R525) -/

/-- The items of the pass before `item`, which a start on it passes over. -/
def passedOver (s : State) (t item : Nat) : List Nat := (testItems s t).filter (fun i => decide (unitPos s t ≤ i ∧ i < item))

/-- Test t once it has started on an item: the items before it are skipped, the pass goes on behind it. -/
def fieldStarted (s : State) (t item : Nat) : TestSt :=
  let x := passBegun s t
  { x with pos := item + 1, skipped := x.skipped ++ (passedOver s t item).filter (fun i => !x.skipped.contains i && !x.tested.contains i) }

/-- `s` with test t running on an item. -/
def startedField (s : State) (t item : Nat) : State :=
  let s1 := updTest (skipItems (startPass s t) t (passedOver s t item)) t (fun x => { x with pos := item + 1 })
  { s1 with hl := { s1.hl with running := s1.hl.running ++ [{ test := t, item := item, step := 0, cmd := testCmd s t item }] } }

/-- The conditions of a start. -/
def fieldStarts (s : State) (t item : Nat) (peer : Bool) : Prop :=
  (t = 0 ∨ t = 3 ∨ t = 8 ∨ t = 11 ∨ t = 12) ∧ testAllowed s t = true ∧ fieldServes s t = true ∧ passWaits s t ∧
    item ∈ testItems s t ∧ unitPos s t ≤ item ∧ testable s t item peer = true

/-- The start of a pass changes none of what a test asks of its item. -/
theorem startPass_items (s : State) (t : Nat) : testItems (startPass s t) t = testItems s t := by
  rw [startPass_frame]
  rfl

theorem startPass_testable (s : State) (t item : Nat) (peer : Bool) : testable (startPass s t) t item peer = testable s t item peer := by
  rw [startPass_frame]
  rfl

theorem startPass_testCmd (s : State) (t item : Nat) : testCmd (startPass s t) t item = testCmd s t item := by
  rw [startPass_frame]
  rfl

theorem doFieldStart_of_starts {s : State} {t item : Nat} {peer : Bool} (h : fieldStarts s t item peer) :
    doFieldStart s t item peer = if t = 0 then updDo (startedField s t item) item (fun d => { d with dark := true }) else startedField s t item := by
  obtain ⟨ht, hallowed, hserves, hwait, hmem, hpos, htestable⟩ := h
  have hbegun : test (startPass s t) t = passBegun s t := (test_startPass hwait t).trans (if_pos rfl)
  have hin : (test (startPass s t) t).inPass = true := congrArg (·.inPass) hbegun
  have hat : (test (startPass s t) t).pos = unitPos s t := congrArg (·.pos) hbegun
  unfold doFieldStart
  dsimp only
  rw [if_neg (by simp [ht, hallowed, hserves])]
  rw [startPass_items, startPass_testable, startPass_testCmd, hin, hat, htestable]
  rw [if_neg (by simp [hmem, hpos])]
  rfl

theorem doFieldStart_of_not_starts {s : State} {t item : Nat} {peer : Bool} (h : ¬fieldStarts s t item peer) :
    doFieldStart s t item peer = s := by
  unfold doFieldStart
  dsimp only
  by_cases hhead : (t = 0 ∨ t = 3 ∨ t = 8 ∨ t = 11 ∨ t = 12) ∧ testAllowed s t = true ∧ fieldServes s t = true
  · obtain ⟨ht, hallowed, hserves⟩ := hhead
    rw [if_neg (by simp [ht, hallowed, hserves])]
    by_cases hwait : passWaits s t
    · have hbegun : test (startPass s t) t = passBegun s t := (test_startPass hwait t).trans (if_pos rfl)
      have hin : (test (startPass s t) t).inPass = true := congrArg (·.inPass) hbegun
      have hat : (test (startPass s t) t).pos = unitPos s t := congrArg (·.pos) hbegun
      rw [startPass_items, startPass_testable, hin, hat, if_pos]
      by_contra hno
      simp only [Bool.not_true, Bool.false_eq_true, Bool.not_eq_true', List.contains_eq_mem, decide_eq_false_iff_not, false_or, not_or,
        not_not, Nat.not_lt, Bool.not_eq_false] at hno
      obtain ⟨hmem, hpos, htestable⟩ := hno
      exact h ⟨ht, hallowed, hserves, hwait, hmem, hpos, htestable⟩
    · have hin : ¬(test s t).inPass = true := fun hin => hwait (.inl hin)
      rw [startPass_of_not_waiting hwait]
      exact if_pos (.inl (by simpa using hin))
  · rw [if_pos]
    by_contra hno
    simp only [not_or, Bool.not_eq_true, Bool.not_eq_false', decide_eq_true_eq] at hno
    exact hhead hno

theorem test_startedField {s : State} {t : Nat} (h : passWaits s t) (item i : Nat) :
    test (startedField s t item) i = if i = t then fieldStarted s t item else test s i := by
  have hskip (i : Nat) : test (updTest (skipItems (startPass s t) t (passedOver s t item)) t (fun x => { x with pos := item + 1 })) i =
      if i = t then fieldStarted s t item else test s i := by
    simp only [skipItems, test_updTest, test_startPass h, if_pos]
    split <;> rfl
  exact hskip i

theorem startedField_frame (s : State) (t item : Nat) : startedField s t item = { s with hl := { s.hl with
    tests := (startedField s t item).hl.tests
    running := s.hl.running ++ [{ test := t, item := item, step := 0, cmd := testCmd s t item }] } } := by
  unfold startedField skipItems updTest
  rw [startPass_frame]

/-- The items that a start passes over without a verdict are skipped. -/
theorem mem_skipped_fieldStarted {s : State} {t item j : Nat} (hmem : j ∈ testItems s t) (hpos : unitPos s t ≤ j) (hlt : j < item)
    (htested : j ∉ (test s t).tested) : j ∈ (fieldStarted s t item).skipped := by
  by_cases hin : j ∈ (test s t).skipped
  · exact List.mem_append_left _ hin
  · refine List.mem_append_right _ (List.mem_filter.2 ⟨List.mem_filter.2 ⟨hmem, by simp [hpos, hlt]⟩, ?_⟩)
    simpa [passBegun] using ⟨hin, htested⟩

theorem exec_fieldTestStart (t item : Nat) (peer : Bool) (s : State) :
    exec (.fieldTestStart t ⟨item, peer⟩) s = .next (settle s (doFieldStart s t item peer)) := rfl

/-- A start changes its test, puts its item among the running ones, and a dark test takes its channel. -/
theorem doFieldStart_frame {s : State} {t item : Nat} {peer : Bool} (h : fieldStarts s t item peer) :
    doFieldStart s t item peer = { s with
      hl := { s.hl with
        tests := (doFieldStart s t item peer).hl.tests
        running := s.hl.running ++ [{ test := t, item := item, step := 0, cmd := testCmd s t item }] }
      dio := { s.dio with ch := (doFieldStart s t item peer).dio.ch } } := by
  rw [doFieldStart_of_starts h, startedField_frame]
  split <;> rfl

theorem test_doFieldStart {s : State} {t item : Nat} {peer : Bool} (h : fieldStarts s t item peer) (i : Nat) :
    test (doFieldStart s t item peer) i = if i = t then fieldStarted s t item else test s i := by
  rw [doFieldStart_of_starts h]
  have hstarted := test_startedField h.2.2.2.1 item i
  split
  · exact hstarted
  · exact hstarted

theorem doCh_doFieldStart {s : State} {t item : Nat} {peer : Bool} (h : fieldStarts s t item peer) (c : Nat) :
    doCh (doFieldStart s t item peer) c = if t = 0 ∧ c = item then { doCh s c with dark := true } else doCh s c := by
  have hch : doCh (startedField s t item) c = doCh s c := by
    rw [startedField_frame]
    rfl
  rw [doFieldStart_of_starts h]
  by_cases ht : t = 0
  · rw [if_pos ht, doCh_updDo, hch]
    simp only [ht, true_and]
  · rw [if_neg ht, hch, if_neg (fun hc => ht hc.1)]

/-! ### The switch test of an SO (18 R527) -/

theorem exec_soSwitchTestStep (so : Fin 8) (ok : Bool) (s : State) :
    exec (.soSwitchTestStep so ok) s = .next (settle s (doSwitchStep s so.val ok)) := rfl

/-- The safety side once a switch fault of SO k has latched every used SO off. -/
def switchFaultSf (s : State) (k : Nat) : SafetySt :=
  { s.sf with
    high := 0, low := 0, swHigh := 0, swLow := 0, latchSc := s.sf.latchSc ||| BitVec.ofNat 8 (soUsed s)
    latchAt := s.sf.latchAt ||| BitVec.ofNat 8 (soUsed s), fltSwitch := bset s.sf.fltSwitch k, event := bset s.sf.event 6 }

theorem switchFaultAt_frame (s : State) (k : Nat) : switchFaultAt s k =
    { s with sf := switchFaultSf s k, md := { s.md with pendFault := (switchFaultAt s k).md.pendFault } } :=
  pendCause_frame { s with sf := switchFaultSf s k } 0x07

theorem mem_switchFaultAt (s : State) (k c : Nat) : c ∈ (switchFaultAt s k).md.pendFault ↔ c = 0x07 ∨ c ∈ s.md.pendFault :=
  mem_pendCause { s with sf := switchFaultSf s k } 0x07 c

/-- A switch that does not answer its command ends the test as a switch fault. -/
def switchTestFailed (s : State) (k : Nat) : State := switchFaultAt (finishTest s 3 k false) k

theorem switchTestFailed_frame (s : State) (k : Nat) : switchTestFailed s k = { s with
    hl := (finishTest s 3 k false).hl, sf := switchFaultSf s k, md := { s.md with pendFault := (switchTestFailed s k).md.pendFault } } := by
  unfold switchTestFailed
  rw [switchFaultAt_frame, finishTest_hl]
  rfl

theorem switchTestFailed_ends (s : State) (k : Nat) : TestEnds s (switchTestFailed s k) 3 k false := by
  have h := finishTest_ends (by decide) s k false (t := 3)
  rw [switchTestFailed_frame]
  exact h

theorem mem_switchTestFailed (s : State) (k c : Nat) : c ∈ (switchTestFailed s k).md.pendFault ↔ c = 0x07 ∨ c ∈ s.md.pendFault := by
  refine (mem_switchFaultAt ..).trans ?_
  rw [finishTest_hl]

theorem doSwitchStep_of_none {s : State} {k : Nat}
    (h : s.hl.running.find? (fun r => decide (r.test = 3) && decide (r.item = k)) = none) (ok : Bool) : doSwitchStep s k ok = s := by
  unfold doSwitchStep
  rw [h]

theorem doSwitchStep_of_some {s : State} {k : Nat} {r : RunTest}
    (h : s.hl.running.find? (fun r => decide (r.test = 3) && decide (r.item = k)) = some r) (ok : Bool) :
    doSwitchStep s k ok = if ok = false then switchTestFailed s k else if r.step = 0 then nextSide s 3 k else finishTest s 3 k true := by
  unfold doSwitchStep
  rw [h]
  cases ok <;> rfl

/-! ### Cross-checks and shadow tests (18 R529, 17 R509, R510) -/

theorem exec_aoCrossCheckEnd (ch : Fin 32) (mA : F64) (s : State) :
    exec (.aoCrossCheckEnd ch mA) s = .next (settle s (doCrossEnd s ch.val mA)) := rfl

theorem exec_shadowTestEnd (so : Bool) (item : Nat) (ok : Bool) (s : State) :
    exec (.shadowTestEnd so item ok) s = .next (settle s (doShadowEnd s so item ok)) := rfl

/-- The test number of a shadow test: of an SO, or of a parallel DO. -/
def shadowTest (so : Bool) : Nat := if so then 12 else 11

theorem doShadowEnd_of_idle {s : State} {so : Bool} {item : Nat} (h : testRuns s (shadowTest so) item = false) (ok : Bool) :
    doShadowEnd s so item ok = s := if_pos (by simpa [shadowTest] using h)

theorem doShadowEnd_of_runs {s : State} {so : Bool} {item : Nat} (h : testRuns s (shadowTest so) item = true) (ok : Bool) :
    doShadowEnd s so item ok = if so = true ∧ ok = true ∧ soStep s 12 item = some 0 then nextSide s 12 item
      else finishTest s (shadowTest so) item ok := by
  refine (if_neg (by simpa [shadowTest] using h)).trans ?_
  simp only [Bool.and_eq_true, decide_eq_true_eq, and_assoc]
  rfl

/-! ### Claim-line loopbacks and error windows (18 R526, R530) -/

/-- Test t comes to an item of its pass, which stands, or starts now. -/
def loopRuns (s : State) (t item : Nat) : Prop :=
  testAllowed s t = true ∧ (((test s t).inPass = true ∧ (test s t).pos ≤ item) ∨ ((test s t).inPass = false ∧ (test s t).due ≤ s.fr.t10))

theorem loopRuns_iff (s : State) (t item : Nat) : loopRuns s t item ↔ testAllowed s t = true ∧ passWaits s t ∧ unitPos s t ≤ item := by
  unfold loopRuns passWaits unitPos
  cases (test s t).inPass <;> simp

/-- `s` with test t in its pass, gone on behind an item. -/
def passPast (s : State) (t item : Nat) : State := updTest (startPass s t) t (fun x => { x with pos := item + 1 })

theorem loopTest_of_runs {s : State} {t item : Nat} (h : loopRuns s t item) (ok : Bool) :
    loopTest s t item ok = finishTest (passPast s t item) t item ok := by
  obtain ⟨hallowed, hwait, hpos⟩ := (loopRuns_iff s t item).1 h
  have hbegun : test (startPass s t) t = passBegun s t := (test_startPass hwait t).trans (if_pos rfl)
  have hin : (test (startPass s t) t).inPass = true := congrArg (·.inPass) hbegun
  have hat : (test (startPass s t) t).pos = unitPos s t := congrArg (·.pos) hbegun
  unfold loopTest
  rw [if_neg (by simp [hallowed])]
  dsimp only
  rw [if_neg (by simp [hin, hat, hpos])]
  rfl

theorem loopTest_of_not_runs {s : State} {t item : Nat} (h : ¬loopRuns s t item) (ok : Bool) : loopTest s t item ok = s := by
  unfold loopTest
  by_cases hallowed : testAllowed s t = true
  · rw [if_neg (by simp [hallowed])]
    dsimp only
    by_cases hwait : passWaits s t
    · have hpos : ¬unitPos s t ≤ item := fun hpos => h ((loopRuns_iff s t item).2 ⟨hallowed, hwait, hpos⟩)
      have hin : (test s t).inPass = true := by
        by_contra hin
        exact hpos (by simp [unitPos, hin])
      have hat : unitPos s t = (test s t).pos := if_pos hin
      have hself : startPass s t = s := if_pos (.inl hin)
      rw [hself, if_pos (.inr (by omega))]
    · have hin : ¬(test s t).inPass = true := fun hin => hwait (.inl hin)
      rw [startPass_of_not_waiting hwait, if_pos (.inl (by simpa using hin))]
  · exact if_pos (by simpa using hallowed)

theorem test_passPast {s : State} {t : Nat} (h : passWaits s t) (item i : Nat) :
    test (passPast s t item) i = if i = t then { passBegun s t with pos := item + 1 } else test s i := by
  rw [passPast, test_updTest, test_startPass h, test_startPass h, if_pos rfl]
  split <;> rfl

theorem passPast_frame (s : State) (t item : Nat) : passPast s t item = { s with hl := { s.hl with tests := (passPast s t item).hl.tests } } := by
  unfold passPast updTest
  rw [startPass_frame]

theorem loopTest_frame {s : State} {t item : Nat} (h : loopRuns s t item) (ok : Bool) :
    loopTest s t item ok = { s with hl := (loopTest s t item ok).hl } := by
  rw [loopTest_of_runs h, finishTest_hl, passPast_frame]

theorem loopTest_pos {s : State} {t item : Nat} (h : loopRuns s t item) (ok : Bool) : (test (loopTest s t item ok) t).pos = item + 1 := by
  have hwait := ((loopRuns_iff s t item).1 h).2.1
  rw [loopTest_of_runs h, (test_finishTest_counts ..).1, test_passPast hwait, if_pos rfl]
  rfl

theorem loopTest_ends {s : State} {t item : Nat} (ht : ¬(4 ≤ t ∧ t ≤ 6)) (h : loopRuns s t item) (ok : Bool) :
    TestEnds s (loopTest s t item ok) t item ok := by
  have hwait := ((loopRuns_iff s t item).1 h).2.1
  have hsame : test (passPast s t item) t = { passBegun s t with pos := item + 1 } := (test_passPast hwait item t).trans (if_pos rfl)
  rw [loopTest_of_runs h]
  refine (finishTest_ends ht (passPast s t item) item ok).congr ?_ ?_ (fun i hi => (test_passPast hwait item i).trans (if_neg hi)) ?_ ?_
  · rw [passPast_frame]
  · rw [passPast_frame]
  · rw [hsame]
    rfl
  · rw [hsame]
    rfl

/-- The unit's own frame has room for the claim-line loopback behind its commit (18 R530). -/
def loopSlot (s : State) : Prop :=
  grouped s = true ∧ s.fr.frame % 4 = unitId s ∧ s.fr.commitDone = true ∧ s.fr.t10 + 190 ≤ s.fr.next

theorem doLoopback_of_slot {s : State} (h : loopSlot s) (line : Nat) (ok : Bool) : doLoopback s line ok = loopTest s 9 line ok := by
  obtain ⟨hgrouped, hframe, hcommit, hroom⟩ := h
  exact if_pos (by simp [hgrouped, hframe, hcommit, hroom])

theorem doLoopback_of_no_slot {s : State} (h : ¬loopSlot s) (line : Nat) (ok : Bool) : doLoopback s line ok = s :=
  if_neg (by simpa [loopSlot, and_assoc] using h)

theorem exec_claimLoopback (l : Fin 2) (ok : Bool) (s : State) :
    exec (.claimLoopback l ok) s = .next (settle s (doLoopback s l.val ok)) := rfl

theorem exec_syncErrorWindow (p : Fin 2) (n : Nat) (s : State) :
    exec (.syncErrorWindow p n) s = .next (settle s (loopTest s 10 p.val (decide (n ≤ 10)))) := rfl

/-- Settles O59: each row by the lemma of its test, and each end by the one of `finishTest`. -/
theorem fieldSideTestsRunAndEnd : Obligations.FieldSideTestsRunAndEnd := by
  unfold Obligations.FieldSideTestsRunAndEnd
  intro Ends
  refine ⟨fun t item peer s => ?_, fun so ok s => ?_, fun ch mA so ok item s => ?_, fun c t item ok slot s hc => ?_⟩
  · intro x pos starts
    rw [exec_fieldTestStart]
    refine ⟨fun h => by rw [doFieldStart_of_not_starts h], fun (h : fieldStarts s t item peer) => ⟨_, rfl, doFieldStart_frame h, ?_⟩⟩
    have hsame := (test_doFieldStart h t).trans (if_pos rfl)
    refine ⟨fun i hi => (test_doFieldStart h i).trans (if_neg hi), congrArg (·.inPass) hsame, congrArg (·.pos) hsame,
      congrArg (·.failed) hsame, fun j hmem hpos hlt htested => ?_, doCh_doFieldStart h⟩
    rw [hsame]
    exact mem_skipped_fieldStarted hmem hpos hlt htested
  · rw [exec_soSwitchTestStep]
    split
    next hnone => rw [doSwitchStep_of_none hnone]
    next r hsome =>
      rw [doSwitchStep_of_some hsome]
      refine ⟨fun hok hstep => ?_, fun hok hstep => ⟨_, rfl, ?_⟩, fun hok => ⟨_, rfl, ?_⟩⟩
      · rw [if_neg (by simp [hok]), if_pos hstep]
        rfl
      · rw [if_neg (by simp [hok]), if_neg hstep]
        exact ⟨finishTest_hl s 3 so.val true, finishTest_ends (by decide) s so.val true⟩
      · rw [if_pos hok]
        have hframe := switchTestFailed_frame s so.val
        refine ⟨?_, switchTestFailed_ends s so.val, mem_switchTestFailed s so.val, congrArg State.md hframe, congrArg State.sf hframe⟩
        rw [hframe]
  · intro near
    rw [exec_aoCrossCheckEnd, exec_shadowTestEnd]
    refine ⟨fun h => ?_, fun h => ⟨_, rfl, ?_⟩, fun h => by rw [doShadowEnd_of_idle h], fun h hso hok hstep => ?_, fun h hno => ⟨_, rfl, ?_⟩⟩
    · rw [doCrossEnd, if_neg (by simp [h])]
    · rw [doCrossEnd, if_pos h]
      exact ⟨finishTest_hl s 8 ch.val near, finishTest_ends (by decide) s ch.val near⟩
    · subst hso
      rw [doShadowEnd_of_runs h, if_pos ⟨rfl, hok, hstep⟩]
      rfl
    · rw [doShadowEnd_of_runs h, if_neg hno]
      exact ⟨finishTest_hl s _ item ok, finishTest_ends (by cases so <;> decide) s item ok⟩
  · intro x runs
    rcases hc with ⟨l, rfl, rfl, rfl, hslot⟩ | ⟨p, n, rfl, rfl, rfl, hok, hslot⟩
    · rw [exec_claimLoopback]
      by_cases hs : loopSlot s
      · rw [doLoopback_of_slot hs]
        refine ⟨fun h => ?_, fun ⟨_, h⟩ => ⟨_, rfl, loopTest_frame h ok, loopTest_pos h ok, loopTest_ends (by decide) h ok⟩⟩
        rw [loopTest_of_not_runs fun hr => h ⟨hslot.2 hs, hr⟩]
      · rw [doLoopback_of_no_slot hs]
        exact ⟨fun _ => rfl, fun ⟨h, _⟩ => absurd (hslot.1 h) hs⟩
    · have hdec : decide (n ≤ 10) = ok := by
        cases ok <;> simpa using hok
      rw [exec_syncErrorWindow, hdec]
      refine ⟨fun h => ?_, fun ⟨_, h⟩ => ⟨_, rfl, loopTest_frame h ok, loopTest_pos h ok, loopTest_ends (by decide) h ok⟩⟩
      rw [loopTest_of_not_runs fun hr => h ⟨hslot.2 trivial, hr⟩]

end Sys2Proof.Machine
end

section
/-! Proofs about the control engine's windows and injections (11 R313, 12 R344, R357, 13 R391). -/

namespace Sys2Proof.Machine

open Sys2Proof

/-! ### Injections (12 R344) -/

/-- An injection that runs is over when it has run its FRAMES, or its chirp has reached its end. -/
def injEnded (s : State) (i : Nat) : Prop :=
  let x := stage s i
  (0 < x.frames ∧ x.frames ≤ x.k) ∨ (u8 (stBody s i) 24 = 1 ∧ u32 (stBody s i) 28 * 1000 ≤ x.k * s.fr.fUs)

theorem injOver_iff (s : State) (i : Nat) : injOver s i = true ↔ (stage s i).running = true ∧ injEnded s i := by
  simp [injOver, injEnded]

theorem stage_setStage (s : State) (i : Nat) (x : Stage) (j : Nat) : stage (setStage s i x) j = if j = i then x else stage s j := by
  simp only [stage, setStage, Tab.get_set]

theorem injStop_of_running {s : State} {i : Nat} (h : (stage s i).running = true) : injStop s i =
    { setStage s i { stage s i with running := false } with ce :=
      { (setStage s i { stage s i with running := false }).ce with injEnd := bset s.ce.injEnd (stOrd s 0x0B i) } } :=
  if_neg (by simp [h])

theorem stage_injStop {s : State} {i : Nat} (h : (stage s i).running = true) (j : Nat) :
    stage (injStop s i) j = if j = i then { stage s i with running := false } else stage s j := by
  rw [injStop_of_running h]
  exact stage_setStage s i _ j

theorem exec_injectEnded (i : Fin 512) (s : State) :
    exec (.injectEnded i) s = .next (settle s (if injOver s i.val then injStop s i.val else s)) := rfl

/-! ### The windows of a stage and of a profile (11 R313, 12 R357) -/

theorem exec_diagStageSnap {s : State} (h : hostUp s = true) (v : Word) :
    exec (.diagStageSnap v) s = .next (settle s (doStageSnap s v)) := done_hostAccess_of_up h

theorem exec_diagProfileSnap {s : State} (h : hostUp s = true) (v : Word) :
    exec (.diagProfileSnap v) s = .next (settle s (doProfileSnap s v)) := done_hostAccess_of_up h

/-- The window of a stage with record `b` in state `x`; all 0 without a record. -/
def stageWindow (b : List Byte) (x : Stage) (c : CeSt) : CeSt :=
  if b = [] then { c with winInfo := 0, winOut := 0, winS0 := 0, winS1 := 0, winFrame := BitVec.ofNat 32 c.frame }
  else { c with
    winInfo := BitVec.ofNat 32 (unsigned 8 x.e + 256 * stType b + 65536 * b2n x.sat + 131072 * b2n x.held + 262144 * b2n x.atLimit +
      524288 * b2n x.manual)
    winOut := x.out0
    winS0 := if stType b ∈ [2, 3, 4, 6, 7] then BitVec.ofInt 32 x.m1 else 0
    winS1 := if stType b ∈ [2, 3, 4] then BitVec.ofInt 32 x.err else 0
    winFrame := BitVec.ofNat 32 c.frame }

theorem doStageSnap_of_clear {s : State} {v : Word} (h : v.getLsbD 9 = false) : doStageSnap s v = s :=
  if_pos (by rw [testBit_getLsbD, h]; rfl)

theorem doStageSnap_of_set {s : State} {v : Word} (h : v.getLsbD 9 = true) : doStageSnap s v =
    { s with ce := stageWindow (stBody s (v.toNat % 512)) (Tab.get s.ce.endStages Stage.init (v.toNat % 512)) s.ce } := by
  have htype (ty : Nat) : (decide (ty = 2) || decide (ty = 3) || decide (ty = 4)) = decide (ty ∈ [2, 3, 4]) := by
    simp [Bool.or_assoc]
  have hval (ty : Nat) : (decide (ty ∈ [2, 3, 4]) || decide (ty = 6) || decide (ty = 7)) = decide (ty ∈ [2, 3, 4, 6, 7]) := by
    simp [Bool.or_assoc]
  refine (if_neg (by rw [testBit_getLsbD, h]; decide)).trans ?_
  unfold stageWindow
  by_cases hb : stBody s (v.toNat % 512) = []
  · simp [hb]
  · simp only [htype, hval, List.isEmpty_eq_false_iff.2 hb, if_neg hb, Bool.not_false, if_true, Bool.true_and, decide_eq_true_eq,
      apply_ite (BitVec.ofInt 32)]
    rfl

theorem doProfileSnap_of_clear {s : State} {v : Word} (h : v.getLsbD 4 = false) : doProfileSnap s v = s :=
  if_pos (by rw [testBit_getLsbD, h]; rfl)

theorem doProfileSnap_of_none {s : State} {v : Word} (h : v.getLsbD 4 = true) (hord : stOfOrd s 1 (v.toNat % 16) = none) :
    doProfileSnap s v = { s with ce := { s.ce with snapTarget := 0, snapDist := 0 } } := by
  refine (if_neg (by rw [testBit_getLsbD, h]; decide)).trans ?_
  rw [hord]

theorem doProfileSnap_of_some {s : State} {v : Word} {k : Nat} (h : v.getLsbD 4 = true) (hord : stOfOrd s 1 (v.toNat % 16) = some k) :
    doProfileSnap s v =
      let y := Tab.get s.ce.endStages Stage.init k
      { s with ce := { s.ce with
        snapTarget := BitVec.ofInt 48 (y.target.getD 0)
        snapDist := BitVec.ofInt 32 (F64.toIntSat (dstop (planV y) (planA y) (f64 (stBody s k) 32) (f64 (stBody s k) 40)) 0 0xFFFFFFFF) } } := by
  refine (if_neg (by rw [testBit_getLsbD, h]; decide)).trans ?_
  rw [hord]

/-! ### The peaks of the tasks (13 R391) -/

/-- A task without its peak. -/
def TaskSt.noPeak (x : TaskSt) : TaskSt := { x with peak := 0 }

theorem exec_diagTaskPeakClr {s : State} (h : hostUp s = true) (v : Word) :
    exec (.diagTaskPeakClr v) s = .next (settle s (doPeakClr s v)) := done_hostAccess_of_up h

theorem foldl_clearPeak (l : List Nat) (s : State) : l.foldl (fun s t => setTask s t { taskSt s t with peak := 0 }) s =
    { s with pg := { s.pg with tasks := Tab.updMany s.pg.tasks TaskSt.init l fun _ => TaskSt.noPeak } } := by
  induction l generalizing s with
  | nil => rfl
  | cons t l ih =>
    rw [List.foldl_cons, ih]
    rfl

theorem doPeakClr_frame (s : State) (v : Word) : doPeakClr s v = { s with pg := { s.pg with tasks := (doPeakClr s v).pg.tasks } } := by
  unfold doPeakClr
  rw [foldl_clearPeak]

theorem taskSt_doPeakClr (s : State) (v : Word) (t : Nat) :
    taskSt (doPeakClr s v) t = if t < 16 ∧ v.getLsbD t = true then (taskSt s t).noPeak else taskSt s t := by
  unfold doPeakClr
  rw [foldl_clearPeak]
  refine (Tab.get_updMany TaskSt.init s.pg.tasks _ (fun _ => TaskSt.noPeak) (bitsSet_nodup ..) t).trans (if_congr ?_ rfl rfl)
  exact mem_bitsSet v.toNat 16 t

/-- Settles O49: the end of an injection, the two windows and the peaks, each by what its row makes of the state. -/
theorem engineWindowsAndInjections : Obligations.EngineWindowsAndInjections := by
  refine ⟨fun i s => ?_, fun v s hup => ?_⟩
  · intro x ended
    rw [exec_injectEnded]
    refine ⟨fun hrun (hended : injEnded s i.val) => ⟨_, rfl, ?_⟩, fun hno => ?_⟩
    · have hstage := stage_injStop hrun
      rw [if_pos ((injOver_iff s i.val).2 ⟨hrun, hended⟩)]
      refine ⟨?_, (hstage i.val).trans (if_pos rfl), fun j hj => (hstage j).trans (if_neg hj)⟩
      rw [injStop_of_running hrun]
      rfl
    · rw [if_neg]
      rw [injOver_iff]
      rintro ⟨hrun, hended⟩
      exact hno.elim (fun h => Bool.false_ne_true (h.symm.trans hrun)) (fun h => h hended)
  · intro i x ty
    rw [exec_diagStageSnap hup, exec_diagProfileSnap hup, exec_diagTaskPeakClr hup]
    refine ⟨fun h => by rw [doStageSnap_of_clear h], fun h hb => ?_, fun h hb => ?_, fun h => by rw [doProfileSnap_of_clear h],
      fun h hord => by rw [doProfileSnap_of_none h hord], fun k h hord => by rw [doProfileSnap_of_some h hord], _, rfl,
      doPeakClr_frame s v, taskSt_doPeakClr s v⟩
    · rw [doStageSnap_of_set h, stageWindow, if_pos hb]
    · rw [doStageSnap_of_set h, stageWindow, if_neg hb]

end Sys2Proof.Machine
end

section
/-! Proofs about the point engine (14): the queue that it takes, a late one, and the snapshots of a subscription. -/

namespace Sys2Proof.Machine

open Sys2Proof

/-! ### What updates and acknowledgements leave (14 R396, R397, R402-R404) -/

/-- Of `a` only records, rings, the alarm journal and the events of the points have changed. -/
def RecordsOnly (a b : State) : Prop := b = { a with pt := { a.pt with
  recs := b.pt.recs, rings := b.pt.rings, journal := b.pt.journal, journalN := b.pt.journalN, event := b.pt.event } }

theorem RecordsOnly.refl (s : State) : RecordsOnly s s := rfl

theorem RecordsOnly.trans {a b c : State} (hab : RecordsOnly a b) (hbc : RecordsOnly b c) : RecordsOnly a c := by
  unfold RecordsOnly
  rw [hbc, hab]

theorem RecordsOnly.foldl {α : Type} {g : State → α → State} (hg : ∀ s x, RecordsOnly s (g s x)) (l : List α) (s : State) :
    RecordsOnly s (l.foldl g s) := by
  induction l generalizing s with
  | nil => exact .refl s
  | cons x r ih => exact (hg s x).trans (ih _)

theorem setPoint_recordsOnly (s : State) (n : Nat) (p : Point) : RecordsOnly s (setPoint s n p) := rfl

theorem journalAdd_recordsOnly (s : State) (t10 slot old new cond cause : Nat) :
    RecordsOnly s (journalAdd s t10 slot old new cond cause) := by
  obtain ⟨journal, h⟩ : ∃ journal, journalAdd s t10 slot old new cond cause =
      { s with pt := { s.pt with journal := journal, journalN := s.pt.journalN + 1 } } := ⟨_, rfl⟩
  rw [h]
  rfl

theorem event_recordsOnly (s : State) (e : BitVec 4) : RecordsOnly s { s with pt := { s.pt with event := e } } := rfl

theorem rings_recordsOnly (s : State) (rings : Tab (List Sample)) : RecordsOnly s { s with pt := { s.pt with rings := rings } } := rfl

theorem applyUpd_recordsOnly (frame tick : Nat) (s : State) (u : PtUpd) : RecordsOnly s (applyUpd frame tick s u) := by
  unfold applyUpd
  split
  · exact .refl s
  extract_lets p changed p1 tpl cond raw delay act flip used alarm p2 sj ptj s1 len gap append sm p3 s2 r
  have h1 : RecordsOnly s s1 := by
    unfold s1
    split
    · exact (journalAdd_recordsOnly ..).trans (event_recordsOnly ..)
    · exact .refl s
  have h2 : RecordsOnly s s2 := h1.trans (setPoint_recordsOnly s1 u.slot p3)
  split
  · exact h2.trans (rings_recordsOnly s2 _)
  · exact h2

theorem ackPoint_recordsOnly (tick : Nat) (s : State) (n : Nat) : RecordsOnly s (ackPoint tick s n).1 := by
  unfold ackPoint
  extract_lets p new s1
  split
  · exact .refl s
  · exact ((setPoint_recordsOnly ..).trans (journalAdd_recordsOnly ..)).trans (event_recordsOnly ..)

theorem ackRun_recordsOnly (s : State) (j : AckJob) (k : Nat) : RecordsOnly s (ackRun s j k).1 := by
  induction k generalizing s j with
  | zero => exact .refl s
  | succ k ih =>
    unfold ackRun
    split
    · exact .refl s
    · exact (ackPoint_recordsOnly ..).trans (ih ..)

theorem ackAll_recordsOnly (frame budget : Nat) (s : State) (l : List AckJob) : RecordsOnly s (ackAll frame budget s l).1 := by
  induction l generalizing s budget with
  | nil => exact .refl s
  | cons j r ih =>
    unfold ackAll
    split
    · exact .refl s
    · exact (ackRun_recordsOnly ..).trans (ih ..)

/-- The updates of a queue, in its order: inputs, outputs, written values. -/
def queueUpds (q : PtQueue) : List PtUpd :=
  q.ins ++ (q.outs ++ q.writes.map fun w => { slot := w.1, v := w.2, q := if F64.isFinite w.2 then .good else .bad, off := 0 })

/-- The records once a queue and the acknowledgements have been applied. -/
def queueRecords (q : PtQueue) (s : State) : State :=
  let s3 := (queueUpds q).foldl (applyUpd q.frame q.tick) s
  (ackAll q.frame (hostMax s - q.writes.length) s3 s3.pt.acks).1

theorem queueRecords_recordsOnly (q : PtQueue) (s : State) : RecordsOnly s (queueRecords q s) :=
  (RecordsOnly.foldl (applyUpd_recordsOnly q.frame q.tick) _ s).trans (ackAll_recordsOnly ..)

/-- Beside the records a queue leaves the acknowledgements in progress, what it shows, and itself as the one applied last. -/
theorem applyQueue_eq (q : PtQueue) (s : State) : ∃ acks shown counts hostN ackReg subReg, applyQueue q s =
    { queueRecords q s with pt := { (queueRecords q s).pt with
      acks := acks, shown := shown, counts := counts, applied := some q.frame, appliedLate := decide (q.frame + 2 ≤ s.fr.frame)
      hostN := hostN, ackReg := ackReg, subReg := subReg } } := by
  unfold applyQueue queueRecords queueUpds
  rw [List.foldl_append, List.foldl_append]
  exact ⟨_, _, _, _, _, _, rfl⟩

theorem applyQueue_frame (q : PtQueue) (s : State) : applyQueue q s = { s with pt := (applyQueue q s).pt } ∧
    (applyQueue q s).pt.queues = s.pt.queues ∧ (applyQueue q s).pt.applied = some q.frame ∧
    (applyQueue q s).pt.appliedLate = decide (q.frame + 2 ≤ s.fr.frame) ∧ (applyQueue q s).pt.lateFor = s.pt.lateFor ∧
    (applyQueue q s).pt.subOvr = s.pt.subOvr ∧ (applyQueue q s).pt.late = s.pt.late := by
  obtain ⟨acks, shown, counts, hostN, ackReg, subReg, h⟩ := applyQueue_eq q s
  rw [h, queueRecords_recordsOnly q s]
  exact ⟨rfl, rfl, rfl, rfl, rfl, rfl, rfl⟩

theorem point_applyQueue (q : PtQueue) (s : State) (n : Nat) : point (applyQueue q s) n = point (queueRecords q s) n := by
  obtain ⟨acks, shown, counts, hostN, ackReg, subReg, h⟩ := applyQueue_eq q s
  rw [h]
  rfl

/-! ### One update of a record without alarms and trend (14 R397) -/

/-- The record of a point with dead band `band` after an update that no alarm and no trend sees. -/
def plainUpd (frame : Nat) (band : F64) (w : PtUpd) (p : Point) : Point :=
  { p with
    frame := frame, off := w.off, q := w.q, cond := 0, used := 0
    v := if w.q ≠ p.q ∨ F64.le (F64.abs (F64.sub w.v p.v)) band = false then w.v else p.v
    prev := w.v, prevFrame := frame % 2 ^ 32, rateValid := true }

theorem applyUpd_of_plain {s : State} {w : PtUpd} {b : List Byte} (hrange : rangeOf s.cfg.run w.slot = some b)
    (halarm : alarmTpl s.cfg.run b = none) (htrend : ringLen s.cfg.run b = 0) (frame tick : Nat) :
    applyUpd frame tick s w = setPoint s w.slot (plainUpd frame (f64 b 24) w (point s w.slot)) := by
  unfold applyUpd plainUpd
  simp [hrange, halarm, htrend]

theorem point_setPoint (s : State) (n : Nat) (p : Point) (i : Nat) : point (setPoint s n p) i = if i = n then p else point s i := by
  simp only [point, setPoint, Tab.get_set]

theorem queueRecords_of_single {q : PtQueue} {w : PtUpd} {s : State} (hins : q.ins = [w]) (houts : q.outs = []) (hwrites : q.writes = [])
    (hacks : (applyUpd q.frame q.tick s w).pt.acks = []) : queueRecords q s = applyUpd q.frame q.tick s w := by
  unfold queueRecords queueUpds
  rw [hins, houts, hwrites]
  show (ackAll q.frame _ (applyUpd q.frame q.tick s w) (applyUpd q.frame q.tick s w).pt.acks).1 = _
  rw [hacks]
  rfl

/-! ### The queue taken and the queue late (14 R395, R400) -/

theorem exec_pointEngineQueue (s : State) : exec .pointEngineQueue s = .next (settle s (doPointQueue s)) := rfl

theorem doPointQueue_of_empty {s : State} (h : s.pt.queues = []) : doPointQueue s = s := by
  unfold doPointQueue
  rw [h]

theorem doPointQueue_of_early {s : State} {q : PtQueue} {r : List PtQueue} (hq : s.pt.queues = q :: r)
    (h : s.fr.frame ≤ q.frame ∨ s.md.mode = .checking ∨ s.gr.waiting = true) : doPointQueue s = s := by
  unfold doPointQueue
  rw [hq]
  refine if_neg ?_
  rintro ⟨hframe, hmode, hwait⟩
  rcases h with h | h | h
  · omega
  · exact hmode h
  · exact Bool.false_ne_true (hwait.symm.trans h)

/-- `c` with the queues `r` waiting. -/
def withQueues (c : State) (r : List PtQueue) : State := { c with pt := { c.pt with queues := r } }

/-- The oldest queue is applied once the due snapshots have been sent. -/
theorem doPointQueue_of_due {s : State} {q : PtQueue} {r : List PtQueue} (hq : s.pt.queues = q :: r) (hframe : q.frame < s.fr.frame)
    (hmode : s.md.mode ≠ .checking) (hwait : s.gr.waiting = false) : doPointQueue s = applyQueue q (withQueues (dueSnapshots s) r) := by
  unfold doPointQueue
  rw [hq]
  exact if_pos ⟨hframe, hmode, hwait⟩

/-- A queue with one update, of a point without alarms and trend, changes that record alone. -/
theorem point_applyQueue_of_plain {q : PtQueue} {r : List PtQueue} {w : PtUpd} {b : List Byte} {c : State} (hins : q.ins = [w])
    (houts : q.outs = []) (hwrites : q.writes = []) (hacks : c.pt.acks = []) (hrange : rangeOf c.cfg.run w.slot = some b)
    (halarm : alarmTpl c.cfg.run b = none) (htrend : ringLen c.cfg.run b = 0) (n : Nat) : point (applyQueue q (withQueues c r)) n =
      if n = w.slot then plainUpd q.frame (f64 b 24) w (point c w.slot) else point c n := by
  have hupd := applyUpd_of_plain (s := withQueues c r) hrange halarm htrend q.frame q.tick
  rw [point_applyQueue, queueRecords_of_single hins houts hwrites (by rw [hupd]; exact hacks), hupd]
  exact point_setPoint (withQueues c r) w.slot _ n

theorem exec_pointQueueLate (s : State) : exec .pointQueueLate s = .next (settle s (markLate (s.fr.frame + 1) s)) := rfl

theorem markLate_of_late {s : State} {n : Nat} (hlate : queueLate s n = true) (hmode : s.md.mode ≠ .checking) (hnew : s.pt.lateFor ≠ some n) :
    markLate n s = { (if s.pt.event.getLsbD 3 = true then pushLog s 116 0xFFFF 1 else s) with
      pt := { s.pt with lateFor := some n, late := satInc32 s.pt.late, event := bset s.pt.event 3 } } := by
  refine (if_pos (by simp [hlate, hmode, hnew])).trans ?_
  rw [testBit_getLsbD]
  split <;> rfl

theorem markLate_of_not {s : State} {n : Nat} (h : queueLate s n = false ∨ s.md.mode = .checking ∨ s.pt.lateFor = some n) :
    markLate n s = s := by
  refine if_neg ?_
  rcases h with h | h | h <;> simp [h]

theorem queueLate_of_empty {s : State} (h : s.pt.queues = []) (n : Nat) : queueLate s n = false := by
  unfold queueLate
  rw [h]

theorem queueLate_of_cons {s : State} {q : PtQueue} {r : List PtQueue} (h : s.pt.queues = q :: r) (n : Nat) :
    queueLate s n = decide (q.frame + 2 ≤ n) := by
  unfold queueLate
  rw [h]

/-! ### Snapshots (14 R407-R409) -/

theorem exec_subscriptionSnapshot (id : Fin 32) (s : State) :
    exec (.subscriptionSnapshot id) s = .next (settle s (doSnapshot s id.val)) := rfl

/-- Subscription `id` of `s` stands as `y`. -/
def putSub (s : State) (id : Nat) (y : Sub) : State := { s with cm := { s.cm with subs := Tab.set s.cm.subs none id (some y) } }

/-- A snapshot that is missed. -/
def Sub.passBy (x : Sub) (n : Nat) : Sub := { x with handled := n + 1, missed := x.missed + 1 }

/-- A snapshot that is sent. -/
def Sub.sent (x : Sub) (n : Nat) : Sub :=
  { x with handled := n + 1, missed := 0, seq := x.seq + 1, next := (x.next + 1) % max x.segCount 1 }

theorem doSnapshot_of_none {s : State} {id : Nat} (h : Tab.get s.cm.subs none id = none ∨ s.pt.applied = none) : doSnapshot s id = s := by
  unfold doSnapshot
  split
  next x n hx hn =>
    rcases h with h | h
    · exact absurd (hx.symm.trans h) (by simp)
    · exact absurd (hn.symm.trans h) (by simp)
  · rfl

theorem doSnapshot_of_some {s : State} {id n : Nat} {x : Sub} (hx : Tab.get s.cm.subs none id = some x) (hn : s.pt.applied = some n) :
    doSnapshot s id =
      if n < x.n0 ∨ n < x.handled ∨ (n - x.n0) % max x.decim 1 ≠ 0 then s
      else if s.pt.appliedLate = true then putSub s id (x.passBy n)
      else if (dirOf s (x.segFirst + x.next)).dev = false then
        { putSub s id (x.passBy n) with pt := { s.pt with subOvr := bset s.pt.subOvr id } }
      else handback (putSub (winWrite s ((x.segFirst + x.next) * 65536) (snapBytes s id x n)) id (x.sent n)) x.target (some 64)
        (x.segFirst + x.next) := by
  unfold doSnapshot
  rw [hx, hn]
  simp only [Bool.not_eq_true']
  rfl

/-- Settles O50: the oldest queue by what its updates leave, the late one by its mark, a snapshot by the branch it takes. -/
theorem pointQueuesAndSnapshots : Obligations.PointQueuesAndSnapshots := by
  refine ⟨fun s => ?_, fun s => ?_, fun id s => ?_⟩
  · rw [exec_pointEngineQueue]
    refine ⟨fun h => by rw [doPointQueue_of_empty h], fun q r hq h => by rw [doPointQueue_of_early hq h], fun q r hq hframe hmode hwait => ?_⟩
    intro c
    rw [doPointQueue_of_due hq hframe hmode hwait]
    have hc : dueSnapshots s = c := rfl
    clear_value c
    rw [hc]
    obtain ⟨heq, hqueues, happlied, hlate, hfor, hovr, hcount⟩ := applyQueue_frame q (withQueues c r)
    refine ⟨_, rfl, heq, hqueues, happlied, hlate, hfor, hovr, hcount, ?_⟩
    intro w b hins houts hwrites hacks hrange halarm htrend p
    have hpoint := point_applyQueue_of_plain (r := r) hins houts hwrites hacks hrange halarm htrend
    exact ⟨(hpoint w.slot).trans (if_pos rfl), fun n hn => (hpoint n).trans (if_neg hn)⟩
  · rw [exec_pointQueueLate]
    refine ⟨fun h => ?_, fun q r hq hearly => ?_, fun q r hq hlate hmode hnew => ?_⟩
    · rw [markLate_of_not (h.imp_left fun h => queueLate_of_empty h _)]
    · rw [markLate_of_not (.inl ((queueLate_of_cons hq _).trans (decide_eq_false (by omega))))]
    · rw [markLate_of_late ((queueLate_of_cons hq _).trans (decide_eq_true hlate)) hmode hnew]
  · rw [exec_subscriptionSnapshot]
    refine ⟨fun h => by rw [doSnapshot_of_none h], fun x n hx hn => ?_⟩
    intro seg put
    rw [doSnapshot_of_some hx hn]
    refine ⟨fun h => by rw [if_pos h], fun hfirst hhandled hdecim => ?_⟩
    rw [if_neg (by omega)]
    refine ⟨fun hlate => ?_, fun hlate hdev => ?_, fun hlate hdev => ?_⟩
    · rw [if_pos hlate]
      rfl
    · rw [if_neg (by simp [hlate]), if_pos hdev]
      rfl
    · rw [if_neg (by simp [hlate]), if_neg (by simpa using hdev)]
      rfl

end Sys2Proof.Machine
end

section
/-! Proofs about the transmission of a port and its error confinement (15): the frame that goes on the bus, what a port's rows change,
the counters and states they leave. -/

namespace Sys2Proof.Machine

open Sys2Proof

/-- The lower of the order values so far and a frame's. -/
def lowerOrder (m : Option Nat) (f : TxFrame) : Option Nat := some ((m.map fun o => min o f.order).getD f.order)

/-- The lowest order value of a queue from `m` on is that of a frame or `m`, and none is below it. -/
theorem foldl_lowerOrder (q : List TxFrame) (m : Nat) : ∃ o, q.foldl lowerOrder (some m) = some o ∧ o ≤ m ∧
    (∀ g ∈ q, o ≤ g.order) ∧ (o = m ∨ ∃ g ∈ q, g.order = o) := by
  induction q generalizing m with
  | nil => exact ⟨m, rfl, Nat.le_refl m, by simp, .inl rfl⟩
  | cons f q ih =>
    obtain ⟨o, ho, hle, hall, hfrom⟩ := ih (min m f.order)
    refine ⟨o, ho, Nat.le_trans hle (Nat.min_le_left ..), ?_, ?_⟩
    · intro g hg
      rcases List.mem_cons.1 hg with rfl | hg
      · exact Nat.le_trans hle (Nat.min_le_right ..)
      · exact hall g hg
    · rcases hfrom with hmin | ⟨g, hg, heq⟩
      · rcases Nat.le_total m f.order with h | h
        · exact .inl (hmin.trans (Nat.min_eq_left h))
        · exact .inr ⟨f, List.mem_cons_self, (hmin.trans (Nat.min_eq_right h)).symm⟩
      · exact .inr ⟨g, List.mem_cons_of_mem _ hg, heq⟩

/-- A queue with frames has one of the lowest order value. -/
theorem foldl_lowerOrder_of_ne_nil {q : List TxFrame} (h : q ≠ []) :
    ∃ o, q.foldl lowerOrder none = some o ∧ (∀ g ∈ q, o ≤ g.order) ∧ ∃ g ∈ q, g.order = o := by
  cases q with
  | nil => exact absurd rfl h
  | cons f q =>
    obtain ⟨o, ho, hle, hall, hfrom⟩ := foldl_lowerOrder q f.order
    refine ⟨o, ho, ?_, ?_⟩
    · intro g hg
      rcases List.mem_cons.1 hg with rfl | hg
      · exact hle
      · exact hall g hg
    · rcases hfrom with heq | ⟨g, hg, heq⟩
      · exact ⟨f, List.mem_cons_self, heq.symm⟩
      · exact ⟨g, List.mem_cons_of_mem _ hg, heq⟩

/-- The frame at place i goes on the bus. -/
theorem numberedQ_map_onBus {q : List TxFrame} {i : Nat} {f : TxFrame} (hf : q[i]? = some f) :
    (offer.numberedQ q).map (fun p => if p.1 = i then { p.2 with onBus := true } else p.2) = q.set i { f with onBus := true } := by
  apply List.ext_getElem?
  intro j
  have hi : i < q.length := (List.getElem?_eq_some_iff.1 hf).1
  by_cases hj : j < q.length
  · by_cases hji : i = j
    · subst hji
      obtain ⟨_, hget⟩ := List.getElem?_eq_some_iff.1 hf
      simp [offer.numberedQ, hj, hget]
    · simp [offer.numberedQ, hj, hji, Ne.symm hji]
  · simp [offer.numberedQ, hj]

theorem offer_of_onBus {q : List TxFrame} (h : q.any (·.onBus) = true) : offer q = q := if_pos h

/-- With none on the bus the frame of the lowest order value goes there. -/
theorem offer_of_waiting {q : List TxFrame} (hne : q ≠ []) (h : q.any (·.onBus) = false) :
    ∃ i f, q[i]? = some f ∧ offer q = q.set i { f with onBus := true } ∧ ∀ g ∈ q, f.order ≤ g.order := by
  obtain ⟨o, ho, hall, g, hg, hgo⟩ := foldl_lowerOrder_of_ne_nil hne
  unfold offer
  rw [if_neg (by simp [h])]
  extract_lets best
  have hbest : best = some o := by
    refine Eq.trans ?_ ho
    unfold best
    congr 1
    funext m f
    cases m <;> rfl
  rw [hbest]
  have hsome : (q.findIdx? fun f => decide (some f.order = some o)).isSome = true := by
    rw [List.findIdx?_isSome, List.any_eq_true]
    exact ⟨g, hg, by simp [hgo]⟩
  obtain ⟨i, hi⟩ := Option.isSome_iff_exists.1 hsome
  obtain ⟨hlt, hord, -⟩ := List.findIdx?_eq_some_iff_getElem.1 hi
  have hget : q[i]? = some q[i] := List.getElem?_eq_getElem hlt
  have hmin : q[i].order = o := by simpa using hord
  refine ⟨i, q[i], hget, ?_, fun g hg => hmin ▸ hall g hg⟩
  rw [hi]
  exact numberedQ_map_onBus hget

/-! ### What the rows of a port change -/

/-- Of `a` only the port p, its queue and the events of the ports have changed. -/
def PortOnly (p : Nat) (a u : State) : Prop :=
  u = { a with bus := { a.bus with ports := u.bus.ports, txq := u.bus.txq, event := u.bus.event } } ∧
    ∀ i, i ≠ p → port u i = port a i ∧ txq u i = txq a i

theorem PortOnly.refl (p : Nat) (s : State) : PortOnly p s s := ⟨rfl, fun _ _ => ⟨rfl, rfl⟩⟩

theorem PortOnly.trans {p : Nat} {a b c : State} (hab : PortOnly p a b) (hbc : PortOnly p b c) : PortOnly p a c := by
  obtain ⟨hb, hbi⟩ := hab
  obtain ⟨hc, hci⟩ := hbc
  refine ⟨?_, fun i hi => ?_⟩
  · rw [hc, hb]
  · exact ⟨(hci i hi).1.trans (hbi i hi).1, (hci i hi).2.trans (hbi i hi).2⟩

theorem txq_setTxq (s : State) (p : Nat) (q : List TxFrame) (i : Nat) : txq (setTxq s p q) i = if i = p then q else txq s i := by
  simp only [txq, setTxq, Tab.get_set]

theorem port_updPort_same (s : State) (p : Nat) (f : Port → Port) : port (updPort s p f) p = f (port s p) :=
  (port_updPort s p f p).trans (if_pos rfl)

theorem txq_setTxq_same (s : State) (p : Nat) (q : List TxFrame) : txq (setTxq s p q) p = q := (txq_setTxq s p q p).trans (if_pos rfl)

@[simp] theorem txq_updPort (s : State) (p : Nat) (f : Port → Port) (i : Nat) : txq (updPort s p f) i = txq s i := rfl

@[simp] theorem port_setTxq (s : State) (p : Nat) (q : List TxFrame) (i : Nat) : port (setTxq s p q) i = port s i := rfl

@[simp] theorem port_busEvent (s : State) (k p i : Nat) : port (busEvent s k p) i = port s i := rfl

@[simp] theorem txq_busEvent (s : State) (k p i : Nat) : txq (busEvent s k p) i = txq s i := rfl

theorem updPort_portOnly (s : State) (p : Nat) (f : Port → Port) : PortOnly p s (updPort s p f) :=
  ⟨rfl, fun i hi => ⟨(port_updPort s p f i).trans (if_neg hi), rfl⟩⟩

theorem setTxq_portOnly (s : State) (p : Nat) (q : List TxFrame) : PortOnly p s (setTxq s p q) :=
  ⟨rfl, fun i hi => ⟨rfl, (txq_setTxq s p q i).trans (if_neg hi)⟩⟩

theorem busEvent_portOnly (s : State) (k p : Nat) : PortOnly p s (busEvent s k p) := ⟨rfl, fun _ _ => ⟨rfl, rfl⟩⟩

theorem openInFrame_portOnly (s : State) (p : Nat) : PortOnly p s (openInFrame s p) := by
  unfold openInFrame
  split
  · exact updPort_portOnly ..
  · exact .refl p s

/-! ### Error confinement (15 R420, R437) -/

/-- A port with new counters at T10 `t`, in the state they give. -/
def Port.confined (t tec rec : Nat) (x : Port) : Port :=
  { x with tecN := tec, recN := rec, st := confState tec rec, offAt := if confState tec rec = 5 then t else x.offAt }

/-- The queue that new counters leave: none in BUS_OFF. -/
def queueConfined (tec rec : Nat) (q : List TxFrame) : List TxFrame := if confState tec rec = 5 then [] else q

/-- The port and its queue with new counters, before the events. -/
def withCounters (s : State) (p tec rec : Nat) : State :=
  if confState tec rec = 5 then setTxq (updPort s p (Port.confined s.fr.t10 tec rec)) p [] else updPort s p (Port.confined s.fr.t10 tec rec)

theorem confine_cases (s : State) (p tec rec : Nat) :
    confine s p tec rec = withCounters s p tec rec ∨ ∃ k, confine s p tec rec = busEvent (withCounters s p tec rec) k p := by
  unfold confine
  extract_lets x st s1 s2
  split
  · exact .inr ⟨4, rfl⟩
  · split
    · exact .inr ⟨5, rfl⟩
    · exact .inl rfl

theorem withCounters_portOnly (s : State) (p tec rec : Nat) : PortOnly p s (withCounters s p tec rec) := by
  unfold withCounters
  split
  · exact (updPort_portOnly ..).trans (setTxq_portOnly ..)
  · exact updPort_portOnly ..

theorem confine_portOnly (s : State) (p tec rec : Nat) : PortOnly p s (confine s p tec rec) := by
  rcases confine_cases s p tec rec with h | ⟨k, h⟩
  · exact h ▸ withCounters_portOnly s p tec rec
  · exact h ▸ (withCounters_portOnly s p tec rec).trans (busEvent_portOnly _ k p)

theorem port_confine (s : State) (p tec rec : Nat) : port (confine s p tec rec) p = (port s p).confined s.fr.t10 tec rec := by
  have hport : port (withCounters s p tec rec) p = (port s p).confined s.fr.t10 tec rec := by
    unfold withCounters
    split
    · exact port_updPort_same ..
    · exact port_updPort_same ..
  rcases confine_cases s p tec rec with h | ⟨k, h⟩ <;> rw [h]
  · exact hport
  · exact hport

theorem txq_confine (s : State) (p tec rec : Nat) : txq (confine s p tec rec) p = queueConfined tec rec (txq s p) := by
  have hqueue : txq (withCounters s p tec rec) p = queueConfined tec rec (txq s p) := by
    unfold withCounters queueConfined
    split
    · exact txq_setTxq_same ..
    · rfl
  rcases confine_cases s p tec rec with h | ⟨k, h⟩ <;> rw [h]
  · exact hqueue
  · exact hqueue

/-! ### Completed frames (15 R437, R438) -/

theorem exec_canTxComplete (p : Fin 4) (dt : Nat) (s : State) :
    exec (.canTxComplete p dt) s = .next (settle s (doTxComplete s p.val dt)) := rfl

theorem doTxComplete_of_idle {s : State} {p : Nat} (h : (txq s p).any (·.onBus) = false) (dt : Nat) :
    doTxComplete s p dt = advance s dt := if_pos (by rw [Bool.not_eq_true']; exact h)

/-- A port whose frame has been acknowledged. -/
def Port.acked (x : Port) : Port := { x with tx := satInc32 x.tx, ackRun := 0, alone := false }

/-- A port in normal operation with one transmit error less. -/
def Port.tecLess (x : Port) : Port := { x with tecN := x.tecN - 1, st := confState (x.tecN - 1) x.recN }

/-- The frames that wait behind the one on the bus. -/
def behind (q : List TxFrame) : List TxFrame := q.filter (fun f => !f.onBus)

theorem doTxComplete_of_normal {s : State} {p : Nat} (h : (txq s p).any (·.onBus) = true) (hn : normalOp (port s p) = true) (dt : Nat) :
    doTxComplete s p dt =
      updPort (updPort (setTxq (advance s dt) p (offer (behind (txq s p)))) p Port.acked) p Port.tecLess := by
  refine (if_neg (by rw [Bool.not_eq_true', Bool.not_eq_false]; exact h)).trans ((if_pos hn).trans ?_)
  have hq : (if normalOp (port (advance s dt) p) = true then offer (behind (txq s p)) else behind (txq s p)) = offer (behind (txq s p)) :=
    if_pos hn
  exact congrArg (fun q => updPort (updPort (setTxq (advance s dt) p q) p Port.acked) p Port.tecLess) hq

theorem doTxComplete_of_not_normal {s : State} {p : Nat} (h : (txq s p).any (·.onBus) = true) (hn : normalOp (port s p) = false) (dt : Nat) :
    doTxComplete s p dt = updPort (setTxq (advance s dt) p (behind (txq s p))) p Port.acked := by
  have hn' : ¬normalOp (port (advance s dt) p) = true := by rw [Bool.not_eq_true]; exact hn
  refine (if_neg (by rw [Bool.not_eq_true', Bool.not_eq_false]; exact h)).trans ((if_neg hn').trans ?_)
  have hq : (if normalOp (port (advance s dt) p) = true then offer (behind (txq s p)) else behind (txq s p)) = behind (txq s p) :=
    if_neg hn'
  exact congrArg (fun q => updPort (setTxq (advance s dt) p q) p Port.acked) hq

/-- A port after a frame of its own that was acknowledged. -/
def Port.completed (x : Port) : Port := if normalOp x = true then x.acked.tecLess else x.acked

theorem doTxComplete_spec {s : State} {p : Nat} (h : (txq s p).any (·.onBus) = true) (dt : Nat) :
    PortOnly p (advance s dt) (doTxComplete s p dt) ∧ (doTxComplete s p dt).bus.event = s.bus.event ∧
      txq (doTxComplete s p dt) p = (if normalOp (port s p) = true then offer (behind (txq s p)) else behind (txq s p)) ∧
      port (doTxComplete s p dt) p = (port s p).completed := by
  cases hn : normalOp (port s p) with
  | true =>
    rw [doTxComplete_of_normal h hn, Port.completed, hn, if_pos rfl, if_pos rfl]
    exact ⟨((setTxq_portOnly ..).trans (updPort_portOnly ..)).trans (updPort_portOnly ..), rfl, txq_setTxq_same ..,
      (port_updPort_same ..).trans (congrArg Port.tecLess (port_updPort_same ..))⟩
  | false =>
    rw [doTxComplete_of_not_normal h hn, Port.completed, hn, if_neg Bool.false_ne_true, if_neg Bool.false_ne_true]
    exact ⟨(setTxq_portOnly ..).trans (updPort_portOnly ..), rfl, txq_setTxq_same .., port_updPort_same ..⟩

/-! ### Failed frames (15 R420, R429, R437-R439) -/

theorem exec_canTxError (p : Fin 4) (dt : Nat) (ackErr dominant : Bool) (s : State) :
    exec (.canTxError p dt ackErr dominant) s = .next (settle s (doTxError s p.val dt ackErr dominant)) := rfl

theorem doTxError_of_idle {s : State} {p : Nat} (h : (txq s p).any (·.onBus) = false) (dt : Nat) (ackErr dominant : Bool) :
    doTxError s p dt ackErr dominant = advance s dt := if_pos (by rw [Bool.not_eq_true']; exact h)

/-- A port that has seen one error more. -/
def Port.errored (x : Port) : Port := { x with errors := satInc32 x.errors }

/-- Behind a closed gate the frame that failed leaves the queue. -/
theorem doTxError_of_not_normal {s : State} {p : Nat} (h : (txq s p).any (·.onBus) = true) (hn : normalOp (port s p) = false) (dt : Nat)
    (ackErr dominant : Bool) :
    doTxError s p dt ackErr dominant = updPort (setTxq (advance s dt) p (behind (txq s p))) p Port.errored :=
  (if_neg (by rw [Bool.not_eq_true', Bool.not_eq_false]; exact h)).trans (if_pos (by rw [Bool.not_eq_true']; exact hn))

/-- The frame on the bus has failed RETX_LIMIT times with this one. -/
def retxSpent (lim : Nat) (f : TxFrame) : Bool := f.onBus && decide (lim ≠ 0) && decide (lim ≤ f.fails + 1)

/-- The queue after a failure, before the next frame is offered. -/
def queueFailed (lim : Nat) (q : List TxFrame) : List TxFrame :=
  (q.filter (fun f => !retxSpent lim f)).map (fun f => if f.onBus = true then { f with fails := f.fails + 1, onBus := false } else f)

/-- An acknowledge error without a dominant bit in ERROR_PASSIVE, which leaves TEC (15 R437). -/
def tecHeld (x : Port) (ackErr dominant : Bool) : Bool := decide (x.st = 4) && ackErr && !dominant

/-- A port after a transmission of its own that failed, before its counters; `drop` when the frame leaves the queue. -/
def Port.txFailed (ackErr drop : Bool) (x : Port) : Port :=
  { x with
    errors := satInc32 x.errors, ackRun := if ackErr = true then satInc 255 x.ackRun else 0
    retxDrop := if drop = true then satInc32 x.retxDrop else x.retxDrop }

/-- `s` with the failure of the frame on the bus in its port and queue, and the event of a frame that leaves. -/
def frameFailed (s : State) (p : Nat) (ackErr : Bool) : State :=
  let lim := u8 (portBody s p) 11
  let drop := (txq s p).any (retxSpent lim)
  let s1 := updPort (setTxq s p (offer (queueFailed lim (txq s p)))) p (Port.txFailed ackErr drop)
  if drop then busEvent s1 7 p else s1

/-- `s` with the counters of port p after an error of its own. -/
def tecRaised (s : State) (p : Nat) (ackErr dominant : Bool) : State :=
  if tecHeld (port s p) ackErr dominant = true then frameFailed s p ackErr
  else confine (frameFailed s p ackErr) p ((port s p).tecN + 8) (port s p).recN

theorem doTxError_of_normal {s : State} {p : Nat} (h : (txq s p).any (·.onBus) = true) (hn : normalOp (port s p) = true) (dt : Nat)
    (ackErr dominant : Bool) :
    doTxError s p dt ackErr dominant = watchPorts (aloneCheck (tecRaised (advance s dt) p ackErr dominant) p) :=
  (if_neg (by rw [Bool.not_eq_true', Bool.not_eq_false]; exact h)).trans
    (if_neg (by rw [Bool.not_eq_true', Bool.not_eq_false]; exact hn))

theorem frameFailed_portOnly (s : State) (p : Nat) (ackErr : Bool) : PortOnly p s (frameFailed s p ackErr) := by
  unfold frameFailed
  extract_lets lim drop s1
  have h1 : PortOnly p s s1 := (setTxq_portOnly ..).trans (updPort_portOnly ..)
  split
  · exact h1.trans (busEvent_portOnly ..)
  · exact h1

theorem port_frameFailed (s : State) (p : Nat) (ackErr : Bool) : port (frameFailed s p ackErr) p =
    (port s p).txFailed ackErr ((txq s p).any (retxSpent (u8 (portBody s p) 11))) := by
  unfold frameFailed
  extract_lets lim drop s1
  have h1 : port s1 p = (port s p).txFailed ackErr drop := port_updPort_same ..
  split
  · exact h1
  · exact h1

theorem txq_frameFailed (s : State) (p : Nat) (ackErr : Bool) :
    txq (frameFailed s p ackErr) p = offer (queueFailed (u8 (portBody s p) 11) (txq s p)) := by
  unfold frameFailed
  extract_lets lim drop s1
  have h1 : txq s1 p = offer (queueFailed lim (txq s p)) := txq_setTxq_same ..
  split
  · exact h1
  · exact h1

/-- A port with nobody to acknowledge its frames for long enough is ALONE (15 R438). -/
def aloneNow (s : State) (p : Nat) : Prop :=
  (port s p).alone = false ∧ 16 ≤ (port s p).ackRun ∧ (port s p).lastRx + 10000000 ≤ s.fr.t10

def Port.left (x : Port) : Port := { x with alone := true }

theorem aloneCheck_of_alone {s : State} {p : Nat} (h : aloneNow s p) : aloneCheck s p = busEvent (updPort s p Port.left) 3 p := by
  obtain ⟨h1, h2, h3⟩ := h
  exact if_pos (by simp [h1, h2, h3])

theorem aloneCheck_of_not {s : State} {p : Nat} (h : ¬aloneNow s p) : aloneCheck s p = s :=
  if_neg (by simpa [aloneNow] using h)

theorem aloneCheck_portOnly (s : State) (p : Nat) : PortOnly p s (aloneCheck s p) := by
  by_cases h : aloneNow s p
  · rw [aloneCheck_of_alone h]
    exact (updPort_portOnly ..).trans (busEvent_portOnly ..)
  · rw [aloneCheck_of_not h]
    exact .refl p s

theorem txq_aloneCheck (s : State) (p : Nat) : txq (aloneCheck s p) p = txq s p := by
  by_cases h : aloneNow s p
  · rw [aloneCheck_of_alone h]
    rfl
  · rw [aloneCheck_of_not h]

theorem port_aloneCheck (s : State) (p : Nat) : port (aloneCheck s p) p = { port s p with
    alone := (port s p).alone || (decide (16 ≤ (port s p).ackRun) && decide ((port s p).lastRx + 10000000 ≤ s.fr.t10)) } := by
  by_cases h : aloneNow s p
  · obtain ⟨h1, h2, h3⟩ := h
    rw [aloneCheck_of_alone ⟨h1, h2, h3⟩, port_busEvent, port_updPort_same]
    simp [Port.left, h2, h3]
  · have hkeep : ((port s p).alone || (decide (16 ≤ (port s p).ackRun) && decide ((port s p).lastRx + 10000000 ≤ s.fr.t10))) =
        (port s p).alone := by
      unfold aloneNow at h
      cases hal : (port s p).alone <;> simp_all
    rw [aloneCheck_of_not h, hkeep]

theorem exec_portAlone (p : Fin 4) (dt : Nat) (s : State) :
    exec (.portAlone p dt) s = .next (settle s (watchPorts (aloneCheck (advance s dt) p.val))) := rfl

/-! ### Errors while receiving (15 R420, R437) -/

theorem exec_canRxError (p : Fin 4) (dt n : Nat) (s : State) : exec (.canRxError p dt n) s = .next (settle s (doRxError s p.val dt n)) := rfl

theorem doRxError_of_deaf {s : State} {p : Nat} (h : receives (port s p) = false) (dt n : Nat) : doRxError s p dt n = advance s dt :=
  if_pos (by rw [Bool.not_eq_true']; exact h)

theorem doRxError_of_receives {s : State} {p : Nat} (h : receives (port s p) = true) (dt n : Nat) : doRxError s p dt n =
    if normalOp (port s p) = true then
      confine (updPort (advance s dt) p Port.errored) p (port s p).tecN (min ((port s p).recN + n) 511)
    else updPort (advance s dt) p Port.errored :=
  if_neg (by rw [Bool.not_eq_true', Bool.not_eq_false]; exact h)

/-! ### Recovery and joins (15 R422, R437) -/

theorem exec_busOffRecoveryStart (p : Fin 4) (dt : Nat) (s : State) :
    exec (.busOffRecoveryStart p dt) s = .next (settle s (doRecStart s p.val dt)) := rfl

theorem exec_busOffRecoveryDone (p : Fin 4) (dt : Nat) (s : State) :
    exec (.busOffRecoveryDone p dt) s = .next (settle s (doRecDone s p.val dt)) := rfl

theorem exec_joinEnd (p : Fin 4) (dt : Nat) (s : State) : exec (.joinEnd p dt) s = .next (settle s (doJoinEnd s p.val dt)) := rfl

theorem joinOver_iff (s : State) (p : Nat) : joinOver s p = true ↔ (port s p).st = 1 ∧ (u8 (portBody s p) 12 ≤ (port s p).joinRx ∨
    ((port s p).joinRx = 0 ∧ (port s p).joinFrom + u16 (portBody s p) 14 * 100000 ≤ s.fr.t10)) := by
  simp [joinOver]

theorem goNormal_portOnly (s : State) (p : Nat) : PortOnly p s (goNormal s p) := (updPort_portOnly ..).trans (confine_portOnly ..)

theorem port_goNormal (s : State) (p : Nat) : (port (goNormal s p) p).st = confState (port s p).tecN (port s p).recN ∧
    (port (goNormal s p) p).tecN = (port s p).tecN ∧ (port (goNormal s p) p).recN = (port s p).recN := by
  unfold goNormal
  rw [port_confine]
  exact ⟨rfl, rfl, rfl⟩

/-- A gate that opens leaves the state and the counters of its port. -/
theorem port_openInFrame_counters (s : State) (p : Nat) : (port (openInFrame s p) p).st = (port s p).st ∧
    (port (openInFrame s p) p).tecN = (port s p).tecN ∧ (port (openInFrame s p) p).recN = (port s p).recN := by
  unfold openInFrame
  split
  · rw [port_updPort_same]
    exact ⟨rfl, rfl, rfl⟩
  · exact ⟨rfl, rfl, rfl⟩

theorem watchPorts_of_idle {s : State} (h : safetyLive s = false ∨ s.md.mode = .checking) : watchPorts s = s := by
  refine if_neg ?_
  rcases h with h | h <;> simp [h]

theorem tecRaised_portOnly (s : State) (p : Nat) (ackErr dominant : Bool) : PortOnly p s (tecRaised s p ackErr dominant) := by
  unfold tecRaised
  split
  · exact frameFailed_portOnly ..
  · exact (frameFailed_portOnly ..).trans (confine_portOnly ..)

theorem port_tecRaised (s : State) (p : Nat) (ackErr dominant : Bool) : port (tecRaised s p ackErr dominant) p =
    let y := (port s p).txFailed ackErr ((txq s p).any (retxSpent (u8 (portBody s p) 11)))
    if tecHeld (port s p) ackErr dominant = true then y else y.confined s.fr.t10 ((port s p).tecN + 8) (port s p).recN := by
  have ht : (frameFailed s p ackErr).fr = s.fr := by rw [(frameFailed_portOnly s p ackErr).1]
  unfold tecRaised
  split
  · exact port_frameFailed ..
  · rw [port_confine, port_frameFailed, ht]

theorem txq_tecRaised (s : State) (p : Nat) (ackErr dominant : Bool) : txq (tecRaised s p ackErr dominant) p =
    let q := offer (queueFailed (u8 (portBody s p) 11) (txq s p))
    if tecHeld (port s p) ackErr dominant = true then q else queueConfined ((port s p).tecN + 8) (port s p).recN q := by
  unfold tecRaised
  split
  · exact txq_frameFailed ..
  · rw [txq_confine, txq_frameFailed]

/-- What a failed transmission in normal operation leaves of its port and of its queue, before the safety ports look at it. -/
theorem txError_spec (s : State) (p : Nat) (ackErr dominant : Bool) :
    let x := port s p
    let u := aloneCheck (tecRaised s p ackErr dominant) p
    let lim := u8 (portBody s p) 11
    let held := tecHeld x ackErr dominant
    let tec := if held = true then x.tecN else x.tecN + 8
    let run := if ackErr = true then satInc 255 x.ackRun else 0
    let st := if held = true then 4 else confState tec x.recN
    PortOnly p s u ∧ (port u p).tecN = tec ∧ (port u p).recN = x.recN ∧ (port u p).st = st ∧ (port u p).errors = satInc32 x.errors ∧
      (port u p).ackRun = run ∧ (port u p).alone = (x.alone || (decide (16 ≤ run) && decide (x.lastRx + 10000000 ≤ s.fr.t10))) ∧
      (port u p).retxDrop = (if (txq s p).any (retxSpent lim) = true then satInc32 x.retxDrop else x.retxDrop) ∧
      txq u p = (if st = 5 then [] else offer (queueFailed lim (txq s p))) := by
  intro x u lim held tec run st
  have ht : (tecRaised s p ackErr dominant).fr = s.fr := by rw [(tecRaised_portOnly s p ackErr dominant).1]
  have hu : port u p = _ := port_aloneCheck (tecRaised s p ackErr dominant) p
  have hq : txq u p = _ := (txq_aloneCheck (tecRaised s p ackErr dominant) p).trans (txq_tecRaised s p ackErr dominant)
  rw [port_tecRaised, ht] at hu
  refine ⟨(tecRaised_portOnly ..).trans (aloneCheck_portOnly ..), ?_⟩
  rw [hu, hq]
  unfold st tec
  by_cases hheld : held = true
  · have hst : (port s p).st = 4 := by
      have : decide ((port s p).st = 4) = true := (Bool.and_eq_true_iff.1 (Bool.and_eq_true_iff.1 hheld).1).1
      exact of_decide_eq_true this
    simp only [if_pos hheld]
    rw [if_pos hheld, if_pos hheld]
    exact ⟨rfl, rfl, hst, rfl, rfl, rfl, rfl, rfl⟩
  · simp only [if_neg hheld]
    rw [if_neg hheld, if_neg hheld]
    exact ⟨rfl, rfl, rfl, rfl, rfl, rfl, rfl, rfl⟩

/-- What an error while receiving leaves of its port and of its queue. -/
theorem rxError_spec {s : State} {p : Nat} (h : receives (port s p) = true) (dt n : Nat) :
    let x := port s p
    let u := doRxError s p dt n
    PortOnly p (advance s dt) u ∧
      txq u p = (if normalOp x = true ∧ confState x.tecN (min (x.recN + n) 511) = 5 then [] else txq s p) ∧
      (port u p).errors = satInc32 x.errors ∧ (port u p).tecN = x.tecN ∧
      (normalOp x = false → (port u p).recN = x.recN ∧ (port u p).st = x.st) ∧
      (normalOp x = true → (port u p).recN = min (x.recN + n) 511 ∧ (port u p).st = confState x.tecN (min (x.recN + n) 511)) := by
  intro x u
  have herr : port (updPort (advance s dt) p Port.errored) p = x.errored := port_updPort_same ..
  unfold u
  rw [doRxError_of_receives h]
  by_cases hn : normalOp x = true
  · rw [if_pos hn]
    refine ⟨(updPort_portOnly ..).trans (confine_portOnly ..), ?_⟩
    rw [txq_confine, port_confine, herr]
    refine ⟨?_, rfl, rfl, fun h => absurd (h.symm.trans hn) (by decide), fun _ => ⟨rfl, rfl⟩⟩
    simp only [hn, true_and]
    rfl
  · rw [if_neg hn, herr]
    exact ⟨updPort_portOnly .., (if_neg fun h => hn h.1).symm, rfl, rfl, fun _ => ⟨rfl, rfl⟩, fun h => absurd h hn⟩

/-- Settles O51: the queue by its lowest order value, each row of a port by the lemma of what it leaves. -/
theorem transmissionsUnderErrorConfinement : Obligations.TransmissionsUnderErrorConfinement := by
  refine ⟨fun q => ⟨offer_of_onBus, offer_of_waiting⟩, fun p dt s => ?_, fun s => watchPorts_of_idle, fun p s => ⟨fun h => if_pos h, fun h => ?_⟩⟩
  · intro a x q only
    rw [exec_canTxComplete, exec_busOffRecoveryStart, exec_busOffRecoveryDone, exec_joinEnd, exec_portAlone]
    refine ⟨fun h => ?_, fun h => ?_, fun hn h ackErr dominant => ?_, fun hn h ackErr dominant => ?_, fun n => ?_, ?_, fun h => ?_,
      fun h => ?_, ?_, ?_⟩
    · rw [doTxComplete_of_idle h]
      refine ⟨rfl, fun ackErr dominant => ?_⟩
      rw [exec_canTxError, doTxError_of_idle h]
    · obtain ⟨honly, hevent, hqueue, hport⟩ := doTxComplete_spec h dt
      refine ⟨_, rfl, honly, hevent, hqueue, hport.trans ?_⟩
      unfold Port.completed
      cases normalOp x <;> rfl
    · rw [exec_canTxError, doTxError_of_not_normal h hn]
      exact ⟨_, rfl, (setTxq_portOnly ..).trans (updPort_portOnly ..), rfl, txq_setTxq_same .., port_updPort_same ..⟩
    · intro lim gone held tec run
      rw [exec_canTxError, doTxError_of_normal h hn]
      exact ⟨_, rfl, txError_spec a p.val ackErr dominant⟩
    · rw [exec_canRxError]
      exact ⟨fun h => by rw [doRxError_of_deaf h], fun h => ⟨_, rfl, rxError_spec h dt n⟩⟩
    · intro dueNow
      refine ⟨fun h => ?_, fun h => ?_⟩
      · rw [show doRecStart s p.val dt = _ from if_pos h]
      · rw [show doRecStart s p.val dt = _ from if_neg h]
    · rw [show doRecDone s p.val dt = _ from if_pos h]
    · rw [show doRecDone s p.val dt = _ from if_neg h]
    · intro joined
      refine ⟨fun h => ?_, fun h => ?_⟩
      · rw [show doJoinEnd s p.val dt = _ from if_pos ((joinOver_iff a p.val).2 h)]
        obtain ⟨hst, htec, hrec⟩ := port_goNormal a p.val
        obtain ⟨hst', htec', hrec'⟩ := port_openInFrame_counters (goNormal a p.val) p.val
        exact ⟨_, rfl, (goNormal_portOnly ..).trans (openInFrame_portOnly ..), hst'.trans hst, htec'.trans htec, hrec'.trans hrec⟩
      · rw [show doJoinEnd s p.val dt = _ from if_neg fun hj => h ((joinOver_iff a p.val).1 hj)]
    · intro aloneNow
      refine ⟨fun h => ?_, fun h => ?_⟩
      · rw [aloneCheck_of_alone (s := a) h]
        rfl
      · rw [aloneCheck_of_not (s := a) h]
  · exact if_neg (by rw [h]; decide)

end Sys2Proof.Machine
end

section
/-! Proofs about reception (15): what a frame counts for its port, the lookup in the pool, the first frame of a node, a node lost. -/

namespace Sys2Proof.Machine

open Sys2Proof

/-! ### A frame as it counts for its port (15 R422, R437, R438) -/

/-- A port that has received a frame at T10 `t`. -/
def Port.received (t : Nat) (x : Port) : Port := { x with rx := satInc32 x.rx, lastRx := t, joinRx := x.joinRx + 1 }

/-- A port in normal operation with another REC. -/
def Port.withRec (rec : Nat) (x : Port) : Port := { x with recN := rec, st := confState x.tecN rec }

/-- `s` with the frame counted for port p. -/
def frameCounted (s : State) (p : Nat) : State := updPort s p (Port.received s.fr.t10)

theorem port_frameCounted (s : State) (p : Nat) : port (frameCounted s p) p = (port s p).received s.fr.t10 := port_updPort_same ..

/-- A join that a frame ends takes the port to normal operation. -/
theorem frameSeen_of_joining {s : State} {p : Nat} (h : (port s p).st = 1) : frameSeen s p =
    if joinOver (frameCounted s p) p = true then openInFrame (goNormal (frameCounted s p) p) p else frameCounted s p := by
  unfold frameSeen
  extract_lets s1 x
  have hx : x = (port s p).received s.fr.t10 := port_frameCounted s p
  rw [if_pos ((congrArg Port.st hx).trans h)]
  rfl

/-- In normal operation the frame lowers REC. -/
theorem frameSeen_of_normal {s : State} {p : Nat} (h : normalOp (port s p) = true) : ∃ f, frameSeen s p =
    updPort { frameCounted s p with free := f } p (Port.withRec (recAfter s (port s p).recN).1) := by
  unfold frameSeen
  extract_lets s1 x r s2
  have hx : x = (port s p).received s.fr.t10 := port_frameCounted s p
  have hst : (port s p).st ≠ 1 := fun h1 => by simp [normalOp, h1] at h
  have hr : r = recAfter s (port s p).recN := (congrArg (fun y : Port => recAfter s1 y.recN) hx).trans rfl
  rw [if_neg fun h1 => hst ((congrArg Port.st hx).symm.trans h1), if_pos ((congrArg normalOp hx).trans h), hr]
  unfold s2
  split
  · exact ⟨_, rfl⟩
  · exact ⟨s.free, rfl⟩

/-- In every other state it is counted and no more. -/
theorem frameSeen_of_other {s : State} {p : Nat} (h1 : (port s p).st ≠ 1) (hn : normalOp (port s p) = false) :
    frameSeen s p = frameCounted s p := by
  unfold frameSeen
  extract_lets s1 x
  have hx : x = (port s p).received s.fr.t10 := port_frameCounted s p
  have hnx : ¬normalOp x = true := by
    rw [hx, Bool.not_eq_true]
    exact hn
  rw [if_neg fun h => h1 ((congrArg Port.st hx).symm.trans h), if_neg hnx]
  rfl

theorem frameSeen_portOnly (s : State) (p : Nat) : ∃ f, PortOnly p { s with free := f } (frameSeen s p) := by
  have hcount (f : Nat) : PortOnly p { s with free := f } { frameCounted s p with free := f } :=
    updPort_portOnly { s with free := f } p (Port.received s.fr.t10)
  by_cases h1 : (port s p).st = 1
  · refine ⟨s.free, ?_⟩
    rw [frameSeen_of_joining h1]
    split
    · exact ((hcount s.free).trans (goNormal_portOnly ..)).trans (openInFrame_portOnly ..)
    · exact hcount s.free
  · cases hn : normalOp (port s p) with
    | true =>
      obtain ⟨f, h⟩ := frameSeen_of_normal hn
      exact ⟨f, h ▸ (hcount f).trans (updPort_portOnly ..)⟩
    | false => exact ⟨s.free, frameSeen_of_other h1 hn ▸ hcount s.free⟩

theorem frameSeen_frame (s : State) (p : Nat) : (frameSeen s p).bus.objs = s.bus.objs ∧ (frameSeen s p).bus.dyns = s.bus.dyns ∧
    (frameSeen s p).bus.nodes = s.bus.nodes ∧ (frameSeen s p).cfg = s.cfg ∧ (frameSeen s p).fr = s.fr ∧ (frameSeen s p).gr = s.gr := by
  obtain ⟨f, h, -⟩ := frameSeen_portOnly s p
  rw [h]
  exact ⟨rfl, rfl, rfl, rfl, rfl, rfl⟩

theorem port_frameSeen_other {s : State} {p i : Nat} (hi : i ≠ p) : port (frameSeen s p) i = port s i := by
  obtain ⟨f, -, h⟩ := frameSeen_portOnly s p
  exact (h i hi).1

theorem port_openInFrame_eq (s : State) (p : Nat) : ∃ gate, port (openInFrame s p) p = { port s p with gate := gate } := by
  unfold openInFrame
  split
  · exact ⟨true, port_updPort_same ..⟩
  · exact ⟨(port s p).gate, rfl⟩

theorem port_goNormal_eq (s : State) (p : Nat) :
    port (goNormal s p) p = Port.confined s.fr.t10 (port s p).tecN (port s p).recN { port s p with st := 3 } := by
  unfold goNormal
  rw [port_confine, port_updPort_same]
  rfl

theorem joinOver_frameCounted {s : State} {p : Nat} (h : (port s p).st = 1) :
    joinOver (frameCounted s p) p = true ↔ u8 (portBody s p) 12 ≤ (port s p).joinRx + 1 := by
  rw [joinOver_iff, port_frameCounted]
  have hbody : portBody (frameCounted s p) p = portBody s p := rfl
  rw [hbody]
  simp [Port.received, h]

/-- The port once a frame has been received while it joins. -/
theorem port_frameSeen_of_joining {s : State} {p : Nat} (h : (port s p).st = 1) : ∃ offAt gate, port (frameSeen s p) p =
    { (port s p).received s.fr.t10 with
      st := if u8 (portBody s p) 12 ≤ (port s p).joinRx + 1 then confState (port s p).tecN (port s p).recN else 1
      offAt := offAt, gate := gate } := by
  rw [frameSeen_of_joining h]
  by_cases hover : u8 (portBody s p) 12 ≤ (port s p).joinRx + 1
  · obtain ⟨gate, hgate⟩ := port_openInFrame_eq (goNormal (frameCounted s p) p) p
    rw [if_pos ((joinOver_frameCounted h).2 hover), hgate, port_goNormal_eq, port_frameCounted, if_pos hover]
    exact ⟨_, _, rfl⟩
  · rw [if_neg fun hj => hover ((joinOver_frameCounted h).1 hj), port_frameCounted, if_neg hover, ← h]
    exact ⟨_, _, rfl⟩

theorem port_frameSeen_of_normal {s : State} {p : Nat} (h : normalOp (port s p) = true) :
    port (frameSeen s p) p = ((port s p).received s.fr.t10).withRec (recAfter s (port s p).recN).1 := by
  obtain ⟨f, hf⟩ := frameSeen_of_normal h
  rw [hf, port_updPort_same]
  exact congrArg (Port.withRec _) (port_frameCounted s p)

theorem port_frameSeen_of_other {s : State} {p : Nat} (h1 : (port s p).st ≠ 1) (hn : normalOp (port s p) = false) :
    port (frameSeen s p) p = (port s p).received s.fr.t10 := by
  rw [frameSeen_of_other h1 hn, port_frameCounted]

theorem port_frameSeen_counts (s : State) (p : Nat) : (port (frameSeen s p) p).rx = satInc32 (port s p).rx ∧
    (port (frameSeen s p) p).lastRx = s.fr.t10 ∧ (port (frameSeen s p) p).joinRx = (port s p).joinRx + 1 ∧
    (port (frameSeen s p) p).tecN = (port s p).tecN := by
  by_cases h1 : (port s p).st = 1
  · obtain ⟨offAt, gate, h⟩ := port_frameSeen_of_joining h1
    rw [h]
    exact ⟨rfl, rfl, rfl, rfl⟩
  · cases hn : normalOp (port s p) with
    | true =>
      rw [port_frameSeen_of_normal hn]
      exact ⟨rfl, rfl, rfl, rfl⟩
    | false =>
      rw [port_frameSeen_of_other h1 hn]
      exact ⟨rfl, rfl, rfl, rfl⟩

/-- REC falls by one, stays at 0, and from above 127 goes to a value the specification leaves open. -/
theorem recAfter_spec (s : State) (r : Nat) : (r = 0 → (recAfter s r).1 = 0) ∧ (0 < r → r ≤ 127 → (recAfter s r).1 = r - 1) ∧
    (127 < r → 119 ≤ (recAfter s r).1 ∧ (recAfter s r).1 ≤ 127) := by
  unfold recAfter
  refine ⟨fun h => ?_, fun h0 h1 => ?_, fun h => ?_⟩
  · rw [if_pos h]
  · rw [if_neg (by omega), if_pos h1]
  · rw [if_neg (by omega), if_neg (by omega)]
    dsimp only
    omega

/-! ### The way of a frame (15 R417, R424) -/

theorem exec_canFrameReceived (p : Fin 4) (dt : Nat) (ide : Bool) (id : Nat) (fdf rtr : Bool) (data : List Byte) (s : State) :
    exec (.canFrameReceived p dt ide id fdf rtr data) s = .next (settle s (doCanFrame s p.val dt ide id fdf rtr data)) := rfl

section
variable {s : State} {p : Nat} {ide : Bool} {id : Nat} {fdf rtr : Bool} {data : List Byte}

theorem doCanFrame_of_none {u : State} {dt : Nat} (h : busReceive (advance s dt) p ide id fdf rtr data = (u, none)) :
    doCanFrame s p dt ide id fdf rtr data = u := by
  unfold doCanFrame
  dsimp only
  rw [h]

theorem doCanFrame_of_some {u : State} {dt : Nat} {m : Nat × Bool} (h : busReceive (advance s dt) p ide id fdf rtr data = (u, some m)) :
    doCanFrame s p dt ide id fdf rtr data = safeCopy u p m.1 ide id fdf data := by
  unfold doCanFrame
  dsimp only
  rw [h]

theorem busReceive_of_deaf (h : receives (port s p) = false) : busReceive s p ide id fdf rtr data = (s, none) :=
  if_pos (by rw [h]; rfl)

theorem busReceive_of_fd (h : receives (port s p) = true) (hfd : fdf = true) (hno : portFlag s p 0 = false) :
    busReceive s p ide id fdf rtr data = (countDropped s p, none) :=
  (if_neg (by rw [h]; decide)).trans (if_pos (by rw [hfd, hno]; rfl))

/-- The port takes the frame. -/
def frameTaken (s : State) (p : Nat) (fdf : Bool) : Prop := receives (port s p) = true ∧ (fdf = false ∨ portFlag s p 0 = true)

theorem frameTaken.heard (h : frameTaken s p fdf) : ¬(!receives (port s p)) = true := by
  rw [h.1]
  decide

theorem frameTaken.format (h : frameTaken s p fdf) : ¬(fdf && !portFlag s p 0) = true := by
  rcases h.2 with h | h <;> rw [h] <;> simp

theorem busReceive_of_remote (h : frameTaken s p fdf) (hr : rtr = true) :
    busReceive s p ide id fdf rtr data = (countUnmatched (frameSeen s p) p, none) :=
  (if_neg h.heard).trans ((if_neg h.format).trans (if_pos hr))

theorem busReceive_of_safe (h : frameTaken s p fdf) (hr : rtr = false) {m : Nat × Bool} (hm : safeMatch s p ide id = some m) :
    busReceive s p ide id fdf rtr data = (frameSeen s p, some m) := by
  refine (if_neg h.heard).trans ((if_neg h.format).trans ((if_neg (by rw [hr]; decide)).trans ?_))
  rw [hm]

theorem busReceive_of_plain (h : frameTaken s p fdf) (hr : rtr = false) (hm : safeMatch s p ide id = none) :
    busReceive s p ide id fdf rtr data =
      (if s.gr.tracking = true then frameSeen s p else lookupFrame (frameSeen s p) p ide id fdf data, none) := by
  refine (if_neg h.heard).trans ((if_neg h.format).trans ((if_neg (by rw [hr]; decide)).trans ?_))
  rw [hm]

end

/-! ### The lookup in the pool (15 R424, R425) -/

/-- The first static object of a key. -/
def firstObj (l : List (List Byte)) (key k : Nat) (b : List Byte) : Prop :=
  l[k]? = some b ∧ soKey b = key ∧ ∀ j b', j < k → l[j]? = some b' → soKey b' ≠ key

theorem numbered_getElem? {α : Type} (l : List α) (k : Nat) : (numbered l)[k]? = l[k]?.map (k, ·) := by
  by_cases h : k < l.length
  · simp [numbered, h]
  · simp [numbered, h]

theorem find?_numbered_of_first {l : List (List Byte)} {key k : Nat} {b : List Byte} (h : firstObj l key k b) :
    (numbered l).find? (fun kb => decide (soKey kb.2 = key)) = some (k, b) := by
  obtain ⟨hget, hkey, hbefore⟩ := h
  rw [List.find?_eq_some_iff_getElem]
  have hget' : (numbered l)[k]? = some (k, b) := by rw [numbered_getElem?, hget]; rfl
  obtain ⟨hlt, heq⟩ := List.getElem?_eq_some_iff.1 hget'
  refine ⟨by simpa using hkey, k, hlt, heq, fun j hj => ?_⟩
  have hjget : (numbered l)[j]? = some (numbered l)[j] := List.getElem?_eq_getElem (by omega)
  rw [numbered_getElem?] at hjget
  obtain ⟨b', hb', hpair⟩ := Option.map_eq_some_iff.1 hjget
  rw [← hpair]
  simpa using hbefore j b' hj hb'

theorem find?_numbered_of_no_first {l : List (List Byte)} {key : Nat} (h : ∀ k b, ¬firstObj l key k b) :
    (numbered l).find? (fun kb => decide (soKey kb.2 = key)) = none := by
  cases hfind : (numbered l).find? (fun kb => decide (soKey kb.2 = key)) with
  | none => rfl
  | some kb =>
    obtain ⟨hkey, k, hlt, heq, hbefore⟩ := List.find?_eq_some_iff_getElem.1 hfind
    have hget : (numbered l)[k]? = some kb := by rw [List.getElem?_eq_getElem hlt, heq]
    rw [numbered_getElem?] at hget
    obtain ⟨b, hb, hpair⟩ := Option.map_eq_some_iff.1 hget
    refine absurd ⟨hb, ?_, fun j b' hj hb' => ?_⟩ (h k b)
    · rw [← hpair] at hkey
      simpa using hkey
    · have hj' : (numbered l)[j]? = some (j, b') := by rw [numbered_getElem?, hb']; rfl
      obtain ⟨hjlt, hjeq⟩ := List.getElem?_eq_some_iff.1 hj'
      have := hbefore j hj
      rw [hjeq] at this
      simpa using this

/-- A receive object of the key takes the frame where its format fits. -/
theorem lookupFrame_of_first {s : State} {p : Nat} {ide : Bool} {id : Nat} {fdf : Bool} {data : List Byte} {k : Nat} {b : List Byte}
    (h : firstObj (objElems s.cfg.run) (canKey p ide id) k b) : lookupFrame s p ide id fdf data =
      if soFlag b 0 = true then countUnmatched s p
      else if soFlag b 2 ≠ fdf ∨ soLen b ≠ data.length then countDropped s p
      else
        let o := Tab.get s.bus.objs Obj.init k
        { s with bus := { s.bus with
          event := if o.isNew = true ∧ soFlag b 4 = true then bset s.bus.event (24 + p) else s.bus.event
          objs := Tab.set s.bus.objs Obj.init k (storeObj s.fr.t10 data o) } } := by
  unfold lookupFrame
  dsimp only
  rw [find?_numbered_of_first h]
  simp only [Bool.and_eq_true]
  split
  · rfl
  · split
    · rfl
    · split <;> rfl

section
variable {s : State} {p : Nat} {ide : Bool} {id : Nat} (h : ∀ k b, ¬firstObj (objElems s.cfg.run) (canKey p ide id) k b)
include h

/-- Without a static object the dynamic one of the key takes the frame, of its template's format (15 R432, R433). -/
theorem lookupFrame_of_dyn {d : DynObj} (hd : s.bus.dyns.find? (fun d => decide (d.key = canKey p ide id)) = some d) (fdf : Bool)
    (data : List Byte) : lookupFrame s p ide id fdf data =
      if (u8 (cfgBody s 0x0503 d.tmpl) 1).testBit 2 ≠ fdf ∨ u8 (cfgBody s 0x0503 d.tmpl) 2 ≠ data.length then countDropped s p
      else nodeFrame { s with bus := { s.bus with dyns := s.bus.dyns.map (fun x =>
        if x.key = canKey p ide id then { x with o := storeObj s.fr.t10 data d.o } else x) } } d.node ide id fdf data d.tmpl d.o.isNew := by
  unfold lookupFrame
  dsimp only
  rw [find?_numbered_of_no_first h]
  dsimp only
  rw [hd]

theorem lookupFrame_of_unfit (hd : s.bus.dyns.find? (fun d => decide (d.key = canKey p ide id)) = none) {fdf : Bool} {data : List Byte}
    (hfit : fitTemplate s p ide id fdf data.length = none) : lookupFrame s p ide id fdf data = countUnmatched s p := by
  unfold lookupFrame
  dsimp only
  rw [find?_numbered_of_no_first h]
  dsimp only
  rw [hd]
  dsimp only
  rw [hfit]

theorem lookupFrame_of_fit (hd : s.bus.dyns.find? (fun d => decide (d.key = canKey p ide id)) = none) {fdf : Bool} {data : List Byte}
    {t n : Nat} (hfit : fitTemplate s p ide id fdf data.length = some (t, n)) :
    lookupFrame s p ide id fdf data = newDyn s p ide id fdf data t n := by
  unfold lookupFrame
  dsimp only
  rw [find?_numbered_of_no_first h]
  dsimp only
  rw [hd]
  dsimp only
  rw [hfit]

end

/-! ### The first frame of a node (15 R431, R432) -/

/-- The entry of a node that its first frame makes. -/
def firstNode (s : State) (p t n : Nat) : Node :=
  { Node.init with
    port := p, group := u8 (cfgBody s 0x0503 t) 3, st := 1, node := n, firstT10 := s.fr.t10, lastT10 := s.fr.t10, tmpl := t, joins := 1 }

/-- The dynamic object that a frame of template t takes from the template's reserve. -/
def firstDyn (s : State) (p : Nat) (ide : Bool) (id : Nat) (data : List Byte) (t k b : Nat) : DynObj :=
  { key := canKey p ide id, tmpl := t, node := k, reserved := true, place := b, o := storeObj s.fr.t10 data Obj.init }

/-- `s` with the entry of node k, its first object in the pool, and NODE_JOINED. -/
def entryMade (s : State) (p : Nat) (ide : Bool) (id : Nat) (data : List Byte) (t n k b : Nat) : State :=
  let s1 := busEvent (setNode s k (firstNode s p t n)) 0 p
  { s1 with bus := { s1.bus with dyns := s1.bus.dyns ++ [firstDyn s p ide id data t k b] } }

/-- A node with one object more. -/
def Node.moreObjects (x : Node) : Node := { x with objects := x.objects + 1 }

/-- `s` with node k and its first object, before the frame updates the node. -/
def nodeJoined (s : State) (p : Nat) (ide : Bool) (id : Nat) (data : List Byte) (t n k b : Nat) : State :=
  setNode (entryMade s p ide id data t n k b) k (node (entryMade s p ide id data t n k b) k).moreObjects

section
variable {s : State} {p : Nat} {ide : Bool} {id : Nat} {fdf : Bool} {data : List Byte} {t n : Nat}
  (hnew : findNode s p (u8 (cfgBody s 0x0503 t) 3) n = none)
include hnew

theorem newDyn_of_full (hfree : freeNode s = none) : newDyn s p ide id fdf data t n = refuseDyn s p := by
  unfold newDyn
  dsimp only
  rw [hnew, hfree]
  rfl

theorem newDyn_of_first {k b : Nat} (hfree : freeNode s = some k)
    (hreserve : (s.bus.dyns.filter (fun d => d.reserved && decide (d.tmpl = t))).length < u16 (cfgBody s 0x0503 t) 16)
    (hplace : placeKey (placesUsed s) (canKey p ide id) = some b) :
    newDyn s p ide id fdf data t n = nodeFrame (nodeJoined s p ide id data t n k b) k ide id fdf data t false := by
  have hmine : decide (((busEvent (setNode s k (firstNode s p t n)) 0 p).bus.dyns.filter
      (fun d => d.reserved && decide (d.tmpl = t))).length < u16 (cfgBody s 0x0503 t) 16) = true := decide_eq_true hreserve
  have hroom : placeKey (placesUsed (busEvent (setNode s k (firstNode s p t n)) 0 p)) (canKey p ide id) = some b := hplace
  unfold newDyn
  dsimp only
  rw [hnew, hfree]
  dsimp only [Option.map_some]
  unfold firstNode at hmine hroom
  rw [hmine]
  simp only [Bool.true_or, if_true]
  rw [hroom]
  rfl

end

theorem node_setNode (s : State) (n : Nat) (x : Node) (i : Nat) : node (setNode s n x) i = if i = n then x else node s i := by
  simp only [node, setNode, Tab.get_set]

theorem node_setNode_same (s : State) (n : Nat) (x : Node) : node (setNode s n x) n = x := (node_setNode s n x n).trans (if_pos rfl)

theorem node_setNode_other {n i : Nat} (hi : i ≠ n) (s : State) (x : Node) : node (setNode s n x) i = node s i :=
  (node_setNode s n x i).trans (if_neg hi)

/-- The entry of a node that has sent a frame, and is not LOST. -/
def Node.heard (t10 id : Nat) (ide fdf : Bool) (data : List Byte) (tmpl : Nat) (x : Node) : Node :=
  { x with
    st := 1, lastT10 := t10, frames := satInc32 x.frames, lastId := id + 2 ^ 29 * b2n ide + 2 ^ 30 * b2n fdf
    lastLen := data.length, tmpl := tmpl, payload := data }

theorem nodeFrame_of_present {s : State} {k : Nat} (h : (node s k).st ≠ 2) (ide : Bool) (id : Nat) (fdf : Bool) (data : List Byte) (tmpl : Nat) :
    nodeFrame s k ide id fdf data tmpl false = setNode s k ((node s k).heard s.fr.t10 id ide fdf data tmpl) := by
  unfold nodeFrame
  simp only [h, decide_false, Bool.false_eq_true, if_false]
  rfl

theorem entryMade_nodes (s : State) (p : Nat) (ide : Bool) (id : Nat) (data : List Byte) (t n k b : Nat) :
    (entryMade s p ide id data t n k b).bus.nodes = (setNode s k (firstNode s p t n)).bus.nodes := rfl

theorem node_entryMade (s : State) (p : Nat) (ide : Bool) (id : Nat) (data : List Byte) (t n k b i : Nat) :
    node (entryMade s p ide id data t n k b) i = if i = k then firstNode s p t n else node s i := by
  rw [← node_setNode, node, entryMade_nodes, ← node]

theorem node_nodeJoined (s : State) (p : Nat) (ide : Bool) (id : Nat) (data : List Byte) (t n k b i : Nat) :
    node (nodeJoined s p ide id data t n k b) i = if i = k then (firstNode s p t n).moreObjects else node s i := by
  rw [nodeJoined, node_setNode, node_entryMade, node_entryMade, if_pos rfl]
  split <;> rfl

theorem entryMade_frame (s : State) (p : Nat) (ide : Bool) (id : Nat) (data : List Byte) (t n k b : Nat) :
    entryMade s p ide id data t n k b = { s with bus := { s.bus with
      dyns := s.bus.dyns ++ [firstDyn s p ide id data t k b], nodes := (entryMade s p ide id data t n k b).bus.nodes
      event := bset s.bus.event p } } := by
  have hevent : 4 * 0 + p = p := by omega
  unfold entryMade busEvent
  rw [hevent]
  rfl

theorem nodeJoined_frame (s : State) (p : Nat) (ide : Bool) (id : Nat) (data : List Byte) (t n k b : Nat) :
    nodeJoined s p ide id data t n k b = { s with bus := { s.bus with
      dyns := s.bus.dyns ++ [firstDyn s p ide id data t k b], nodes := (nodeJoined s p ide id data t n k b).bus.nodes
      event := bset s.bus.event p } } := by
  unfold nodeJoined
  rw [entryMade_frame]
  rfl

/-- The first frame of a node leaves its entry, one object of its own, and NODE_JOINED. -/
theorem nodeFrame_nodeJoined_spec (s : State) (p t n k b : Nat) (ide : Bool) (id : Nat) (fdf : Bool) (data : List Byte) :
    let u := nodeFrame (nodeJoined s p ide id data t n k b) k ide id fdf data t false
    u = { s with bus := { s.bus with dyns := u.bus.dyns, nodes := u.bus.nodes, event := bset s.bus.event p } } ∧
      u.bus.dyns = s.bus.dyns ++ [firstDyn s p ide id data t k b] ∧ (∀ i, i ≠ k → node u i = node s i) ∧
      node u k = (Node.heard s.fr.t10 id ide fdf data t (firstNode s p t n).moreObjects) := by
  intro u
  have hk : node (nodeJoined s p ide id data t n k b) k = (firstNode s p t n).moreObjects :=
    (node_nodeJoined ..).trans (if_pos rfl)
  have hu : u = setNode (nodeJoined s p ide id data t n k b) k
      (Node.heard s.fr.t10 id ide fdf data t (firstNode s p t n).moreObjects) := by
    have hst : (node (nodeJoined s p ide id data t n k b) k).st ≠ 2 := by
      rw [hk]
      exact (by decide : (1 : Nat) ≠ 2)
    have ht : (nodeJoined s p ide id data t n k b).fr = s.fr := by rw [nodeJoined_frame]
    exact (nodeFrame_of_present hst ide id fdf data t).trans (by rw [hk, ht])
  refine ⟨?_, ?_, fun i hi => ?_, ?_⟩
  · rw [hu, nodeJoined_frame]
    rfl
  · rw [hu, nodeJoined_frame]
    rfl
  · rw [hu, node_setNode_other hi]
    exact (node_nodeJoined ..).trans (if_neg hi)
  · rw [hu, node_setNode_same]

/-! ### A node lost (15 R433) -/

theorem exec_nodeLost (n : Nat) (s : State) : exec (.nodeLost n) s = .next (settle s (doNodeLost s n)) := rfl

theorem nodeSilent_iff (s : State) (t n : Nat) : nodeSilent s t n = true ↔
    (node s n).st = 1 ∧ (node s n).lastT10 + u16 (cfgBody s 0x0503 (node s n).tmpl) 14 * 100000 < t := by
  simp [nodeSilent]

/-- Settles O52: a frame by the way it takes and the object or node that stores it. -/
theorem framesAreStoredOnce : Obligations.FramesAreStoredOnce := by
  refine ⟨fun p s => ?_, fun p dt ide id fdf rtr data s => ?_, fun n s => ?_⟩
  · intro g x y
    obtain ⟨hobjs, hdyns, hnodes, hcfg, hfr, -⟩ := frameSeen_frame s p
    obtain ⟨hrx, hlast, hjoin, htec⟩ := port_frameSeen_counts s p
    refine ⟨hobjs, hdyns, hnodes, hcfg, hfr, fun i hi => port_frameSeen_other hi, hrx, hlast, hjoin, htec, fun h => ?_, fun h => ?_, fun h => ?_⟩
    · obtain ⟨offAt, gate, hport⟩ := port_frameSeen_of_joining h
      rw [show y = _ from hport]
      exact ⟨rfl, rfl⟩
    · rw [show y = _ from port_frameSeen_of_other (by rw [h]; decide) (by simp [normalOp, show (port s p).st = 2 from h])]
      exact ⟨rfl, h⟩
    · have hn : normalOp x = true := by rcases h with h | h <;> simp [normalOp, h]
      obtain ⟨h0, hlow, hhigh⟩ := recAfter_spec s x.recN
      rw [show y = _ from port_frameSeen_of_normal hn]
      exact ⟨rfl, h0, hlow, hhigh⟩
  · intro a x c g seen looked first
    obtain ⟨-, -, -, -, -, hgr⟩ := frameSeen_frame a p.val
    rw [show exec c s = _ from exec_canFrameReceived p dt ide id fdf rtr data s]
    have hlook : looked → doCanFrame s p.val dt ide id fdf rtr data = lookupFrame g p.val ide id fdf data := by
      rintro ⟨hseen, hr, hm, htrack⟩
      have htrack' : ¬a.gr.tracking = true := by
        rw [← hgr, Bool.not_eq_true]
        exact htrack
      have hplain := busReceive_of_plain (s := a) (data := data) hseen hr hm
      rw [if_neg htrack'] at hplain
      exact doCanFrame_of_none hplain
    refine ⟨fun h => ?_, fun h hfd hno => ?_, fun h hr => ?_, fun h hr m hm => ?_, fun h hr hm htrack => ?_, fun hl k b hfirst => ?_,
      fun hl hnone => ⟨fun d hd => ?_, fun hd => ⟨fun hfit => ?_, fun t n hfit hnew => ⟨fun hfree => ?_, fun k b hfree hres hplace => ?_⟩⟩⟩⟩
    · rw [doCanFrame_of_none (busReceive_of_deaf (s := a) h)]
    · rw [doCanFrame_of_none (busReceive_of_fd (s := a) h hfd hno)]
      rfl
    · rw [doCanFrame_of_none (busReceive_of_remote (s := a) h hr)]
    · rw [doCanFrame_of_some (busReceive_of_safe (s := a) h hr hm)]
    · have hplain := busReceive_of_plain (s := a) (data := data) h hr hm
      rw [if_pos (hgr ▸ htrack)] at hplain
      rw [doCanFrame_of_none hplain]
    · intro o
      rw [hlook hl]
      clear_value g
      rw [lookupFrame_of_first hfirst]
      refine ⟨fun hso => by rw [if_pos hso], fun hso hfmt => ?_, fun hso hfd hlen => ⟨_, rfl, ?_⟩⟩
      · rw [if_neg (by rw [hso]; decide), if_pos hfmt]
      · rw [if_neg (by rw [hso]; decide), if_neg (not_or.2 ⟨not_not.2 hfd, not_not.2 hlen⟩)]
        rfl
    · intro tb
      rw [hlook hl]
      clear_value g
      rw [lookupFrame_of_dyn hnone hd]
      exact ⟨fun hfmt => by rw [if_pos hfmt], fun hfd hlen => by rw [if_neg (not_or.2 ⟨not_not.2 hfd, not_not.2 hlen⟩)]⟩
    · rw [hlook hl]
      clear_value g
      rw [lookupFrame_of_unfit hnone hd hfit]
    · rw [hlook hl]
      clear_value g
      rw [lookupFrame_of_fit hnone hd hfit, newDyn_of_full hnew hfree]
      rfl
    · rw [hlook hl]
      clear_value g
      rw [lookupFrame_of_fit hnone hd hfit, newDyn_of_first hnew hfree hres hplace]
      exact ⟨_, rfl, nodeFrame_nodeJoined_spec g p.val t n k b ide id fdf data⟩
  · intro x silent
    rw [exec_nodeLost]
    refine ⟨fun h => ?_, fun h => ?_⟩
    · rw [show doNodeLost s n = _ from if_pos ((nodeSilent_iff s s.fr.next n).2 h)]
      rfl
    · rw [show doNodeLost s n = _ from if_neg fun hs => h ((nodeSilent_iff s s.fr.next n).1 hs)]

end Sys2Proof.Machine
end

section
/-! Proofs about the safety faults (16): what holds every switch command off, and the rows that report a fault. -/

namespace Sys2Proof.Machine

open Sys2Proof

/-! ### What holds every command off (16 R449) -/

/-- Both channels command SO after SO open. -/
def SoDark (s : State) : Prop := ∀ j, highCmd s j = false ∧ lowCmd s j = false

theorem soDark_of_permit {s : State} (h : ∀ j, permit s j = false) : SoDark s := fun j =>
  ⟨by rw [highCmd, h, Bool.and_false], by rw [lowCmd, h, Bool.and_false, Bool.false_and]⟩

theorem soDark_of_hold {s : State} (h : s.sf.hold = true) : SoDark s :=
  soDark_of_permit fun j => by rw [permit, h, Bool.not_true, Bool.and_false]

theorem soUsed_lt (s : State) : soUsed s < 2 ^ 8 := BitVec.isLt _

/-- A used SO is one of the eight. -/
theorem soIn_getLsbD {s : State} {j : Nat} (h : soIn s j = true) : (BitVec.ofNat 8 (soUsed s)).getLsbD j = true := by
  rw [BitVec.getLsbD, BitVec.toNat_ofNat, Nat.mod_eq_of_lt (soUsed_lt s)]
  exact h

/-- With every used SO latched off in SC no SO is permitted. -/
theorem soDark_of_latched {s : State} (h : ∀ j, soIn s j = true → s.sf.latchSc.getLsbD j = true) : SoDark s := by
  refine soDark_of_permit fun j => ?_
  cases hj : soIn s j with
  | false => simp [permit, hj]
  | true =>
    rw [permit, testBit_getLsbD, h j hj]
    simp

/-- A fault cause that waits for the tick changes no command. -/
theorem soDark_pendCause {s : State} (c : Nat) (h : SoDark s) : SoDark (pendCause s c) := by
  rw [pendCause_frame]
  exact h

/-! ### Switch faults latch every used SO off (16 R457-R459) -/

/-- The safety functions once both channels have latched the SOs `used` off and event `e` stands. -/
def latchedSf (f : SafetySt) (used : BitVec 8) (e : Nat) : SafetySt :=
  { f with high := 0, low := 0, swHigh := 0, swLow := 0, latchSc := f.latchSc ||| used, latchAt := f.latchAt ||| used, event := bset f.event e }

theorem soDark_latchedSf {s : State} {f : SafetySt} {e : Nat} (hused : soUsed { s with sf := latchedSf f (BitVec.ofNat 8 (soUsed s)) e } = soUsed s) :
    SoDark { s with sf := latchedSf f (BitVec.ofNat 8 (soUsed s)) e } := by
  refine soDark_of_latched fun j hj => ?_
  have hbit : (BitVec.ofNat 8 (soUsed s)).getLsbD j = true := soIn_getLsbD (s := s) (by rw [← hj, soIn, soIn, hused])
  simp only [latchedSf, BitVec.getLsbD_or, hbit, Bool.or_true]

theorem discFaultAt_eq (s : State) (k : Nat) : discFaultAt s k =
    pendCause { s with sf := latchedSf { s.sf with fltDisc := bset s.sf.fltDisc k } (BitVec.ofNat 8 (soUsed s)) 1 } 0x05 := rfl

theorem soDark_discFaultAt (s : State) (k : Nat) : SoDark (discFaultAt s k) := by
  rw [discFaultAt_eq]
  exact soDark_pendCause _ (soDark_latchedSf rfl)

/-- The safety functions with the readback of SO k as the fault found it. -/
def readBack (s : State) (k : Nat) (high : Bool) : SafetySt :=
  let rb := if high then s.sf.rbHigh.getLsbD k else s.sf.rbLow.getLsbD k
  { s.sf with
    rbHigh := if high then bput s.sf.rbHigh k (rb || !soHighOn s k) else s.sf.rbHigh
    rbLow := if high then s.sf.rbLow else bput s.sf.rbLow k (rb || !soLowOn s k) }

/-- `s` once a switch fault of SO k has latched the used SOs off. -/
def switchFaulted (s : State) (k : Nat) (high : Bool) : State :=
  pendCause { s with sf := latchedSf { readBack s k high with fltSwitch := bset s.sf.fltSwitch k } (BitVec.ofNat 8 (soUsed s)) 6 } 0x07

theorem soDark_switchFaulted (s : State) (k : Nat) (high : Bool) : SoDark (switchFaulted s k high) :=
  soDark_pendCause _ (soDark_latchedSf rfl)

/-! ### Discrepancies (16 R457) -/

/-- Both results of SO k for the frame running stand and differ, or SC's does not. -/
theorem getLsbD_discNow (s : State) (k : Nat) : (discNow s).getLsbD k =
    (safetyLive s && soIn s k && (!s.sf.scDone || (s.sf.lsc.getLsbD k != s.sf.lat.getLsbD k))) := by
  have hused : (BitVec.ofNat 8 (soUsed s)).getLsbD k = soIn s k := by
    rw [BitVec.getLsbD, BitVec.toNat_ofNat, Nat.mod_eq_of_lt (soUsed_lt s), soIn]
  unfold discNow
  cases safetyLive s <;> cases s.sf.scDone
  · exact BitVec.getLsbD_zero
  · exact BitVec.getLsbD_zero
  · rw [if_neg (by decide), if_neg (by decide), hused]
    simp
  · rw [if_neg (by decide), if_pos rfl, BitVec.getLsbD_and, BitVec.getLsbD_xor, hused]
    simp [Bool.and_comm]

theorem discOver_iff (s : State) (k : Nat) : discOver s k = true ↔
    (safetyLive s = true ∧ soIn s k = true ∧ (s.sf.scDone = false ∨ s.sf.lsc.getLsbD k ≠ s.sf.lat.getLsbD k)) ∧
      ∃ t, Tab.get s.sf.discSince none k = some t ∧ t + 2000000 < s.fr.tick := by
  unfold discOver
  rw [testBit_getLsbD, getLsbD_discNow]
  cases Tab.get s.sf.discSince none k <;> simp [and_assoc]

theorem exec_discrepancyFault (k : Fin 8) (dt : Nat) (s : State) :
    exec (.discrepancyFault k dt) s = .next (settle s (doDiscFault s k.val dt)) := rfl

theorem doDiscFault_of_over {s : State} {k : Nat} (dt : Nat) (h : discOver (advance s dt) k = true) :
    doDiscFault s k dt = discFaultAt (advance s dt) k := if_pos h

theorem doDiscFault_of_not_over {s : State} {k : Nat} (dt : Nat) (h : ¬discOver (advance s dt) k = true) :
    doDiscFault s k dt = advance s dt := if_neg h

/-! ### Readbacks (16 R458) -/

theorem exec_soSwitchFault (k : Fin 8) (high : Bool) (dt : Nat) (s : State) :
    exec (.soSwitchFault k high dt) s = .next (settle s (doSwitchFault s k.val high dt)) := rfl

theorem doSwitchFault_of_seen {s : State} {k : Nat} (high : Bool) (dt : Nat) (hlive : safetyLive s = true) (hin : soIn s k = true)
    (htest : soTestRuns s k = false) : doSwitchFault s k high dt = switchFaulted (advance s dt) k high :=
  if_neg (show ¬(!safetyLive s || !soIn s k || soTestRuns s k) = true by rw [hlive, hin, htest]; decide)

theorem doSwitchFault_of_idle {s : State} {k : Nat} (high : Bool) (dt : Nat)
    (h : safetyLive s = false ∨ soIn s k = false ∨ soTestRuns s k = true) : doSwitchFault s k high dt = advance s dt :=
  if_pos (show (!safetyLive s || !soIn s k || soTestRuns s k) = true by rcases h with h | h | h <;> simp [h])

/-! ### Feedbacks (16 R460, R461) -/

theorem edmOver_iff (s : State) (t : Tab (Option Nat)) (k : Nat) : edmOver s t k = true ↔
    (safetyLive s = true ∧ hasControl s = true) ∧
      ∃ f, Tab.get t none k = some f ∧ f + u16 (sfBody s 0x0805 k) 4 * 100000 < s.fr.t10 := by
  unfold edmOver edmLive
  cases Tab.get t none k <;> simp

theorem exec_edmFault (k : Fin 8) (dt : Nat) (s : State) : exec (.edmFault k dt) s = .next (settle s (doEdmFault s k.val dt)) := rfl

/-- A channel's feedback of SO k is wrong for longer than T_EDM. -/
def edmSeen (s : State) (k : Nat) : Prop := edmOver s s.sf.edmSc k = true ∨ edmOver s s.sf.edmAt k = true

theorem doEdmFault_of_seen {s : State} {k : Nat} (dt : Nat) (h : edmSeen (advance s dt) k) : doEdmFault s k dt = edmFaultAt (advance s dt) k :=
  if_pos ((Bool.or_eq_true ..).mpr h)

theorem doEdmFault_of_unseen {s : State} {k : Nat} (dt : Nat) (h : ¬edmSeen (advance s dt) k) : doEdmFault s k dt = advance s dt :=
  if_neg fun hor => h ((Bool.or_eq_true ..).mp hor)

/-! ### Checks of the running image (16 R472) -/

theorem exec_attarCrcCheck (crc : Nat) (s : State) : exec (.attarCrcCheck crc) s = .next (settle s (doAttarCrc s crc)) := rfl
theorem exec_scImageCheck (ok : Bool) (s : State) : exec (.scImageCheck ok) s = .next (settle s (doScImage s ok)) := rfl

/-- `s` with the CRC that Attar's check found. -/
def withAttarCrc (s : State) (crc : Nat) : State := { s with sf := { s.sf with attarCrc := crc } }

theorem doAttarCrc_of_idle {s : State} (crc : Nat) (h : safetyLive s = false) : doAttarCrc s crc = s := if_pos (by rw [h]; rfl)

theorem doAttarCrc_of_live {s : State} (crc : Nat) (h : safetyLive s = true) : doAttarCrc s crc =
    if s.sf.agreed && decide (crc ≠ attarCrc s.sf.copy) then imageMismatch (withAttarCrc s crc) else withAttarCrc s crc :=
  if_neg (by rw [h]; decide)

theorem doScImage_of_sound {s : State} {ok : Bool} (h : safetyLive s = false ∨ s.sf.agreed = false ∨ ok = true) : doScImage s ok = s :=
  if_neg (by rcases h with h | h | h <;> simp [h])

theorem doScImage_of_wrong {s : State} (hlive : safetyLive s = true) (hagreed : s.sf.agreed = true) : doScImage s false = imageMismatch s :=
  if_pos (by rw [hlive, hagreed]; rfl)

/-- The safety functions once every switch is opened and held open for event `e`. -/
def heldSf (f : SafetySt) (e : Nat) : SafetySt :=
  { f with high := 0, low := 0, swHigh := 0, swLow := 0, hold := true, event := bset f.event e }

theorem sfEvent_openAll (s : State) (e : Nat) : sfEvent (openAll s) e = { s with sf := heldSf s.sf e } := rfl

/-- `s` once a check with the CRC `c` has found the running image wrong. -/
def imageWrong (s : State) (c : Nat) : State := pendCause { s with sf := { heldSf s.sf 7 with attarCrc := c, agreed := false } } 0x0D

theorem imageMismatch_eq (s : State) : imageMismatch s = imageWrong s s.sf.attarCrc := by
  unfold imageMismatch
  rw [sfEvent_openAll]
  rfl

theorem imageMismatch_withAttarCrc (s : State) (c : Nat) : imageMismatch (withAttarCrc s c) = imageWrong s c := by
  unfold imageMismatch
  rw [sfEvent_openAll]
  rfl

theorem soDark_imageWrong (s : State) (c : Nat) : SoDark (imageWrong s c) := soDark_pendCause _ (soDark_of_hold rfl)

/-- Settles O53: each fault row either leaves the state but for the time, or ends in a state in which every used SO is latched or
the hold stands, and each of the two takes the permission of every SO. -/
theorem safetyFaultsOpenEverySwitch : Obligations.SafetyFaultsOpenEverySwitch := by
  unfold Obligations.SafetyFaultsOpenEverySwitch
  refine ⟨fun k dt s => ?_, fun crc ok s => ?_, fun c s => ⟨congrArg State.md (pendCause_frame s c), mem_pendCause s c⟩⟩
  · intro a used latched dark
    refine ⟨fun t hlive hin hdiff hsince hlate => ?_, fun hno => ?_, fun high hlive hin htest => ?_, fun high hidle => ?_, ?_⟩
    · have hover : discOver a k.val = true := (discOver_iff a k.val).2 ⟨⟨hlive, hin, hdiff⟩, t, hsince, hlate⟩
      exact ⟨discFaultAt a k.val, by rw [exec_discrepancyFault, doDiscFault_of_over dt hover], soDark_discFaultAt a k.val, rfl⟩
    · have hover : ¬discOver a k.val = true := by
        intro h
        obtain ⟨⟨hlive, hin, hdiff⟩, t, hsince, hlate⟩ := (discOver_iff a k.val).1 h
        rcases hno with h | h | ⟨hdone, heq⟩ | h | ⟨t', h, hle⟩
        · exact absurd (hlive.symm.trans h) (by decide)
        · exact absurd (hin.symm.trans h) (by decide)
        · exact hdiff.elim (fun hd => absurd (hdone.symm.trans hd) (by decide)) (fun hd => hd heq)
        · exact absurd (hsince.symm.trans h) (by simp)
        · have htt : t = t' := Option.some.inj (hsince.symm.trans h)
          exact absurd hlate (by rw [htt]; exact Nat.not_lt.2 hle)
      rw [exec_discrepancyFault, doDiscFault_of_not_over dt hover]
    · intro rb
      exact ⟨switchFaulted a k.val high, by rw [exec_soSwitchFault, doSwitchFault_of_seen high dt hlive hin htest],
        soDark_switchFaulted a k.val high, rfl⟩
    · rw [exec_soSwitchFault, doSwitchFault_of_idle high dt hidle]
    · intro wrong
      refine ⟨fun hlive hctl hwrong => ?_, fun hno => ?_⟩
      · have hseen : edmSeen a k.val :=
          hwrong.imp (fun h => (edmOver_iff a _ k.val).2 ⟨⟨hlive, hctl⟩, h⟩) (fun h => (edmOver_iff a _ k.val).2 ⟨⟨hlive, hctl⟩, h⟩)
        exact ⟨edmFaultAt a k.val, by rw [exec_edmFault, doEdmFault_of_seen dt hseen], soDark_of_hold rfl, rfl⟩
      · have hseen : ¬edmSeen a k.val := by
          intro h
          have hall : (safetyLive s = true ∧ hasControl s = true) ∧ (wrong s.sf.edmSc ∨ wrong s.sf.edmAt) := by
            rcases h with h | h
            · exact ⟨((edmOver_iff a _ k.val).1 h).1, .inl ((edmOver_iff a _ k.val).1 h).2⟩
            · exact ⟨((edmOver_iff a _ k.val).1 h).1, .inr ((edmOver_iff a _ k.val).1 h).2⟩
          obtain ⟨⟨hlive, hctl⟩, hwrong⟩ := hall
          rcases hno with h | h | ⟨hsc, hat⟩
          · exact absurd (hlive.symm.trans h) (by decide)
          · exact absurd (hctl.symm.trans h) (by decide)
          · exact hwrong.elim hsc hat
        rw [exec_edmFault, doEdmFault_of_unseen dt hseen]
  · intro bad
    refine ⟨fun hidle => ⟨?_, ?_⟩, fun hlive hsound => ?_, fun hlive hagreed hwrong => ⟨?_, ?_⟩, fun hlive hsound => ?_, fun hlive hagreed hwrong => ?_⟩
    · rw [exec_attarCrcCheck, doAttarCrc_of_idle crc hidle]
    · rw [exec_scImageCheck, doScImage_of_sound (.inl hidle)]
    · rw [exec_attarCrcCheck, doAttarCrc_of_live crc hlive, if_neg (by rcases hsound with h | h <;> simp [h]), withAttarCrc]
    · rw [exec_attarCrcCheck, doAttarCrc_of_live crc hlive, if_pos (by simp [hagreed, hwrong]), imageMismatch_withAttarCrc]
      rfl
    · exact soDark_imageWrong s crc
    · rw [exec_scImageCheck, doScImage_of_sound (.inr hsound)]
    · rw [exec_scImageCheck, hwrong, doScImage_of_wrong hlive hagreed, imageMismatch_eq]
      rfl

end Sys2Proof.Machine

end

section
/-! Proofs about the safe messages (16): a copy in a channel, the age and the window of a message, lost ports and the degraded timer. -/

namespace Sys2Proof.Machine

open Sys2Proof

/-! ### A copy in a channel (16 R464, R465) -/

/-- A message without its waiting copy. -/
def waitCleared (x : MsgCh) : MsgCh := { x with waitPort := none, waitBytes := [] }

theorem windowOver_waitCleared (b : List Byte) (t : Nat) (x : MsgCh) : windowOver b t (waitCleared x) = false := rfl

section
variable {b : List Byte} {single : Bool} {t p : Nat} {ide : Bool} {id : Nat} {fdf : Bool} {data : List Byte} {x : MsgCh}

/-- Where the window of the waiting copy has passed, the copy comes upon a message without one, and one more is discarded. -/
theorem copyStep_of_over (h : windowOver b t x = true) : copyStep b single t p ide id fdf data x =
    ((copyStep b single t p ide id fdf data (waitCleared x)).1, (copyStep b single t p ide id fdf data (waitCleared x)).2 + 1) := by
  unfold copyStep
  simp only [h, if_true, windowOver_waitCleared, Bool.false_eq_true, if_false]
  unfold waitCleared
  split
  · rfl
  · split <;> rfl

theorem copyStep_of_invalid (h : windowOver b t x = false) (hv : copyValid b x ide id fdf data = false) :
    copyStep b single t p ide id fdf data x = (x, 1) := by
  simp [copyStep, h, hv, b2n]

theorem copyStep_of_single (h : windowOver b t x = false) (hv : copyValid b x ide id fdf data = true) :
    copyStep b true t p ide id fdf data x = (acceptMsg t data x, 0) := by
  simp [copyStep, h, hv, b2n]

/-- The first copy, and one more of the same port, wait for their partner. -/
theorem copyStep_of_waiting (h : windowOver b t x = false) (hv : copyValid b x ide id fdf data = true)
    (hwait : x.waitPort = none ∨ x.waitPort = some p) :
    copyStep b false t p ide id fdf data x = ({ x with waitPort := some p, waitBytes := data.take 12, waitAt := t }, 0) := by
  rcases hwait with hw | hw
  · simp [copyStep, h, hv, hw, b2n]
  · simp [copyStep, h, hv, hw, b2n]

/-- The partner on the other port decides over both copies. -/
theorem copyStep_of_partner {q : Nat} (h : windowOver b t x = false) (hv : copyValid b x ide id fdf data = true)
    (hw : x.waitPort = some q) (hq : q ≠ p) : copyStep b false t p ide id fdf data x =
      if x.waitBytes = data.take 12 then (acceptMsg t data x, 0) else (waitCleared x, 1) := by
  simp [copyStep, h, hv, hw, hq, b2n, waitCleared]

end

/-! ### The age and the window of a message (16 R465, R466) -/

theorem setMsg_eq (s : State) (attar : Bool) (m : Nat) (y : MsgCh) : setMsg s attar m y = { s with sf := { s.sf with
    msgs := if attar = true then s.sf.msgs else Tab.set s.sf.msgs MsgCh.init m y
    msgsAt := if attar = true then Tab.set s.sf.msgsAt MsgCh.init m y else s.sf.msgsAt } } := by
  cases attar <;> rfl

theorem msgOld_iff (b : List Byte) (t : Nat) (x : MsgCh) : msgOld b t x = true ↔ x.valid = true ∧ x.acceptedAt + u16 b 16 * 100000 ≤ t := by
  simp [msgOld]

theorem windowOver_iff (b : List Byte) (t : Nat) (x : MsgCh) :
    windowOver b t x = true ↔ x.waitPort ≠ none ∧ x.waitAt + u16 b 14 * 100000 < t := by
  simp [windowOver, Option.isSome_iff_ne_none]

theorem exec_safeMsgMaxAge (m : Nat) (attar : Bool) (dt : Nat) (s : State) :
    exec (.safeMsgMaxAge m attar dt) s = .next (settle s (ageMsg (advance s dt) attar m)) := rfl

theorem exec_discWindowExpiry (m : Nat) (attar : Bool) (dt : Nat) (s : State) :
    exec (.discWindowExpiry m attar dt) s = .next (settle s (windowMsg (advance s dt) attar m)) := rfl

theorem ageMsg_of_old {s : State} {attar : Bool} {m : Nat} (h : msgOld (msgBody s m) s.fr.t10 (msgOf s attar m) = true) :
    ageMsg s attar m = sfEvent (setMsg s attar m (failMsg (msgBody s m) (msgOf s attar m))) 4 := if_pos h

theorem ageMsg_of_young {s : State} {attar : Bool} {m : Nat} (h : ¬msgOld (msgBody s m) s.fr.t10 (msgOf s attar m) = true) :
    ageMsg s attar m = s := if_neg h

theorem windowMsg_of_over {s : State} {attar : Bool} {m : Nat} (h : windowOver (msgBody s m) s.fr.t10 (msgOf s attar m) = true) :
    windowMsg s attar m = if attar = true then setMsg s attar m (waitCleared (msgOf s attar m))
      else countRejects (setMsg s attar m (waitCleared (msgOf s attar m))) 1 := if_pos h

theorem windowMsg_of_within {s : State} {attar : Bool} {m : Nat} (h : ¬windowOver (msgBody s m) s.fr.t10 (msgOf s attar m) = true) :
    windowMsg s attar m = s := if_neg h

/-! ### Lost ports (16 R467) -/

theorem portSilent_iff (s : State) (t p : Nat) : portSilent s t p = true ↔
    pairRx s (p / 2) ≠ [] ∧ (lastCopy s p).getD s.sf.loadAt + netTimeout s (p / 2) ≤ t ∧
      ∃ c, lastCopy s (p ^^^ 1) = some c ∧ t < c + netTimeout s (p / 2) := by
  unfold portSilent
  cases lastCopy s (p ^^^ 1) <;> simp [and_assoc]

theorem losePort_eq (s : State) (p : Nat) : losePort s p =
    if s.sf.lost.getLsbD p = true then s else { s with sf := { s.sf with lost := bset s.sf.lost p, event := bset s.sf.event 5 } } := rfl

/-- The loss of a port leaves the messages of its pair. -/
theorem pairRx_losePort (s : State) (p q : Nat) : pairRx (losePort s p) q = pairRx s q := by
  rw [losePort_eq]
  split <;> rfl

theorem pairLost_iff {s : State} {q : Nat} (h : pairRx s q ≠ []) :
    pairLost s q = true ↔ s.sf.lost.getLsbD (2 * q) = true ∧ s.sf.lost.getLsbD (2 * q + 1) = true := by
  have hne : (pairRx s q).isEmpty = false := by simpa using h
  rw [pairLost, hne, testBit_getLsbD, testBit_getLsbD]
  simp

theorem exec_safeNetTimeout (p : Fin 4) (dt : Nat) (s : State) :
    exec (.safeNetTimeout p dt) s = .next (settle s (doNetTimeout s p.val dt)) := rfl

/-- Port p is lost, and SAFE_HOLD is asked for where its pair is. -/
def portGone (s : State) (p : Nat) : State := if pairLost (losePort s p) (p / 2) then pendCause (losePort s p) 0x06 else losePort s p

theorem portGone_eq {s : State} {p : Nat} (h : pairRx s (p / 2) ≠ []) : portGone s p =
    if (losePort s p).sf.lost.getLsbD (2 * (p / 2)) = true ∧ (losePort s p).sf.lost.getLsbD (2 * (p / 2) + 1) = true
      then pendCause (losePort s p) 0x06 else losePort s p :=
  if_congr (pairLost_iff (by rwa [pairRx_losePort])) rfl rfl

theorem doNetTimeout_of_silent {s : State} {p : Nat} (dt : Nat) (hlive : safetyLive s = true)
    (h : portSilent (advance s dt) (advance s dt).fr.t10 p = true) : doNetTimeout s p dt = portGone (advance s dt) p :=
  if_pos ((Bool.and_eq_true ..).mpr ⟨hlive, h⟩)

theorem doNetTimeout_of_heard {s : State} {p : Nat} (dt : Nat)
    (h : ¬(safetyLive s = true ∧ portSilent (advance s dt) (advance s dt).fr.t10 p = true)) : doNetTimeout s p dt = advance s dt :=
  if_neg fun hand => h ((Bool.and_eq_true ..).mp hand)

/-! ### The degraded timer (16 R470) -/

theorem degOver_iff (s : State) : degOver s = true ↔
    (degCause s = true ∧ s.md.mode.allPhases = true) ∧ ∃ f, s.sf.degFrom = some f ∧ f + tDeg s ≤ s.fr.t10 := by
  unfold degOver
  cases s.sf.degFrom <;> simp

theorem exec_degradedTimerExpiry (dt : Nat) (s : State) : exec (.degradedTimerExpiry dt) s = .next (settle s (doDegExpiry s dt)) := rfl

theorem doDegExpiry_of_over {s : State} (dt : Nat) (h : degOver (advance s dt) = true) : doDegExpiry s dt = pendCause (advance s dt) 0x04 :=
  if_pos h

theorem doDegExpiry_of_not_over {s : State} (dt : Nat) (h : ¬degOver (advance s dt) = true) : doDegExpiry s dt = advance s dt := if_neg h

/-- Settles O54: the step of a copy in each of its cases, and each row that watches a message, a port or the degraded timer where its
time has run out and where it has not. -/
theorem safeMessagesNeedTwoEqualCopies : Obligations.SafeMessagesNeedTwoEqualCopies := by
  unfold Obligations.SafeMessagesNeedTwoEqualCopies
  refine ⟨fun b single t p ide id fdf data x => ?_, fun m attar dt s => ?_, fun p dt s => ?_⟩
  · intro r
    refine ⟨copyStep_of_over, fun hin => ⟨copyStep_of_invalid hin, fun hv => ⟨?_, ?_, ?_⟩⟩⟩
    · rintro rfl
      exact copyStep_of_single hin hv
    · rintro rfl hwait
      exact copyStep_of_waiting hin hv hwait
    · rintro rfl q hw hq
      exact copyStep_of_partner hin hv hw hq
  · intro a b x old past put
    have hold : msgOld b a.fr.t10 (msgOf a attar m) = true ↔ old := msgOld_iff b a.fr.t10 x
    have hpast : windowOver b a.fr.t10 (msgOf a attar m) = true ↔ past := windowOver_iff b a.fr.t10 x
    refine ⟨fun h => ?_, fun h => ?_, fun h => ?_, fun h => ?_⟩
    · rw [exec_safeMsgMaxAge, ageMsg_of_old (s := a) (hold.2 h), setMsg_eq]
      rfl
    · rw [exec_safeMsgMaxAge, ageMsg_of_young (s := a) (fun ho => h (hold.1 ho))]
    · rw [exec_discWindowExpiry, windowMsg_of_over (s := a) (hpast.2 h), setMsg_eq]
      rfl
    · rw [exec_discWindowExpiry, windowMsg_of_within (s := a) (fun ho => h (hpast.1 ho))]
  · intro a nt silent gone
    have hsilent : (safetyLive s = true ∧ portSilent a a.fr.t10 p.val = true) ↔ silent := and_congr_right' (portSilent_iff a a.fr.t10 p.val)
    refine ⟨fun h => ?_, fun h => ?_, fun f hcause hmode hfrom hle => ?_, fun hno => ?_⟩
    · have hs := hsilent.2 h
      obtain ⟨hlive, hrx, -⟩ := h
      rw [exec_safeNetTimeout, doNetTimeout_of_silent dt hlive hs.2, portGone_eq (s := a) hrx]
      rfl
    · rw [exec_safeNetTimeout, doNetTimeout_of_heard dt (fun ho => h (hsilent.1 ho))]
    · rw [exec_degradedTimerExpiry, doDegExpiry_of_over dt ((degOver_iff a).2 ⟨⟨hcause, hmode⟩, f, hfrom, hle⟩)]
    · have hover : ¬degOver a = true := by
        intro h
        obtain ⟨⟨hcause, hmode⟩, f, hfrom, hle⟩ := (degOver_iff a).1 h
        rcases hno with h | h | h | ⟨f', h, hlt⟩
        · exact absurd (hcause.symm.trans h) (by decide)
        · exact absurd (hmode.symm.trans h) (by decide)
        · exact absurd (hfrom.symm.trans h) (by simp)
        · have hff : f = f' := Option.some.inj (hfrom.symm.trans h)
          exact absurd hle (by rw [hff]; exact Nat.not_le.2 hlt)
      rw [exec_degradedTimerExpiry, doDegExpiry_of_not_over dt hover]

end Sys2Proof.Machine

end

section
/-! Proofs about Attar's cycle, its timers and the SC blocks (16). -/

namespace Sys2Proof.Machine

open Sys2Proof

/-! ### The term table (16 R452, R454) -/

/-- All literals of a term hold. -/
def termHolds (s : State) (si : BitVec 32) (msg : Nat → MsgCh) (b : List Byte) : Bool :=
  (List.range (u8 b 1)).all fun j => attarLit s si msg (u16 b (4 + 2 * j))

theorem termHolds_iff (s : State) (si : BitVec 32) (msg : Nat → MsgCh) (b : List Byte) :
    termHolds s si msg b = true ↔ ∀ j, j < u8 b 1 → attarLit s si msg (u16 b (4 + 2 * j)) = true := by
  simp only [termHolds, List.all_eq_true, List.mem_range]

/-- A word to which the chosen elements add one bit each. -/
theorem testBit_foldl_or {α : Type} (p : α → Bool) (f : α → Nat) (l : List α) (w o : Nat) :
    (l.foldl (fun w e => if p e then w ||| 2 ^ f e else w) w).testBit o = true ↔ w.testBit o = true ∨ ∃ e ∈ l, f e = o ∧ p e = true := by
  induction l generalizing w with
  | nil => simp
  | cons e l ih =>
    rw [List.foldl_cons, ih, List.exists_mem_cons_iff, ← or_assoc]
    refine or_congr_left ?_
    cases he : p e
    · simp
    · simp [Nat.testBit_or, Nat.testBit_two_pow]

/-- An output or flag is the OR of the ANDs of its terms' literals. -/
theorem testBit_attarEval (s : State) (si : BitVec 32) (msg : Nat → MsgCh) (o : Nat) : (attarEval s si msg).testBit o = true ↔
    ∃ e ∈ elemsOf s.sf.table 0x0803 24, u8 e.2.2 0 = o ∧ ∀ j, j < u8 e.2.2 1 → attarLit s si msg (u16 e.2.2 (4 + 2 * j)) = true := by
  refine (testBit_foldl_or (fun e : Rec × Nat × List Byte => termHolds s si msg e.2.2) (fun e => u8 e.2.2 0) _ 0 o).trans ?_
  simp only [Nat.zero_testBit, Bool.false_eq_true, false_or, termHolds_iff]

/-! ### Timers (16 R455) -/

/-- Timer k at a cycle's end in a table of timers. -/
def timerEnd (m : State) (flags : Nat) (acc : Tab AtTimer) (k : Nat) : Tab AtTimer :=
  match findRec m.sf.table 0x0804 k with
  | none => acc
  | some r => Tab.upd acc AtTimer.init k (timStep r.body m.fr.t10 (flags.testBit (timFlag r.body)))

theorem timerEnd_of_none {m : State} {k : Nat} (h : findRec m.sf.table 0x0804 k = none) (flags : Nat) (acc : Tab AtTimer) :
    timerEnd m flags acc k = acc := by
  unfold timerEnd
  rw [h]

theorem timerEnd_of_some {m : State} {k : Nat} {r : Rec} (h : findRec m.sf.table 0x0804 k = some r) (flags : Nat) (acc : Tab AtTimer) :
    timerEnd m flags acc k = Tab.upd acc AtTimer.init k (timStep r.body m.fr.t10 (flags.testBit (timFlag r.body))) := by
  unfold timerEnd
  rw [h]

theorem get_timerEnd_other (m : State) (flags : Nat) (acc : Tab AtTimer) {k i : Nat} (hi : i ≠ k) :
    Tab.get (timerEnd m flags acc k) AtTimer.init i = Tab.get acc AtTimer.init i := by
  cases h : findRec m.sf.table 0x0804 k with
  | none => rw [timerEnd_of_none h]
  | some r => rw [timerEnd_of_some h, Tab.get_upd, if_neg hi]

/-- A timer that no step of the walk concerns stays. -/
theorem get_foldl_timerEnd_other (m : State) (flags : Nat) {l : List Nat} {i : Nat}
    (h : i ∉ l ∨ findRec m.sf.table 0x0804 i = none) (t : Tab AtTimer) :
    Tab.get (l.foldl (timerEnd m flags) t) AtTimer.init i = Tab.get t AtTimer.init i := by
  refine List.foldlRecOn l (timerEnd m flags) (motive := fun acc => Tab.get acc AtTimer.init i = Tab.get t AtTimer.init i) rfl ?_
  intro acc hacc k hk
  rcases h with h | h
  · rw [get_timerEnd_other m flags acc (fun hik => h (by rwa [hik])), hacc]
  · by_cases hik : i = k
    · rw [timerEnd_of_none (hik ▸ h), hacc]
    · rw [get_timerEnd_other m flags acc hik, hacc]

theorem get_foldl_timerEnd {m : State} {i : Nat} {r : Rec} (h : findRec m.sf.table 0x0804 i = some r) (flags : Nat) {l : List Nat}
    (hl : l.Nodup) (hi : i ∈ l) (t : Tab AtTimer) : Tab.get (l.foldl (timerEnd m flags) t) AtTimer.init i =
      timStep r.body m.fr.t10 (flags.testBit (timFlag r.body)) (Tab.get t AtTimer.init i) := by
  induction l generalizing t with
  | nil => simp at hi
  | cons k l ih =>
    obtain ⟨hk, hl⟩ := List.nodup_cons.1 hl
    rw [List.foldl_cons]
    by_cases hik : i = k
    · subst hik
      rw [get_foldl_timerEnd_other m flags (.inl hk), timerEnd_of_some h, Tab.get_upd, if_pos rfl]
    · rw [ih hl ((List.mem_cons.1 hi).resolve_left hik), get_timerEnd_other m flags t hik]

theorem timRuns_iff (b : List Byte) (x : AtTimer) : timRuns b x = true ↔
    if timOff b = true then x.input = false ∧ x.out = true else x.input = true ∧ x.out = false := by
  unfold timRuns
  split <;> simp

theorem timMay_iff (b : List Byte) (el : Nat) : timMay b el = true ↔ timTime b * 999 ≤ (el + 1000) * 1000 := decide_eq_true_iff

theorem exec_attarTimerExpiry (k : Fin 16) (dt : Nat) (s : State) :
    exec (.attarTimerExpiry k dt) s = .next (settle s (doTimerExpiry s k.val dt)) := rfl

theorem doTimerExpiry_of_none {s : State} {k : Nat} (dt : Nat) (h : findRec s.sf.table 0x0804 k = none) :
    doTimerExpiry s k dt = advance s dt := by
  simp only [doTimerExpiry, advance_sf, h]

theorem doTimerExpiry_of_some {s : State} {k : Nat} {r : Rec} (dt : Nat) (h : findRec s.sf.table 0x0804 k = some r) :
    doTimerExpiry s k dt =
      if timRuns r.body (Tab.get s.sf.timers AtTimer.init k) && timMay r.body ((advance s dt).fr.t10 - (Tab.get s.sf.timers AtTimer.init k).since)
      then { advance s dt with sf := { s.sf with
        timers := Tab.set s.sf.timers AtTimer.init k { Tab.get s.sf.timers AtTimer.init k with out := !timOff r.body } } }
      else advance s dt := by
  simp only [doTimerExpiry, advance_sf, h]
  rfl

/-- ON_DELAY falls with its flag, OFF_DELAY rises with it. -/
theorem timStep_of_offDelay {b : List Byte} {x : AtTimer} (t : Nat) (hoff : timOff b = true) (hin : x.input = false) :
    timStep b t true x = { x with input := true, since := t, out := true } := by
  simp [timStep, timRuns, hoff, hin]

theorem timStep_of_onDelay {b : List Byte} {x : AtTimer} (t : Nat) (hoff : timOff b = false) (hin : x.input = true) :
    timStep b t false x = { x with input := false, since := t, out := false } := by
  simp [timStep, timRuns, hoff, hin]

/-! ### The cycle (16 R454) -/

/-- The results that a cycle computes: bits 0 to 7 the outputs, 8 to 15 the flags. -/
def cycleWord (m : State) : Nat := attarEval m (siAttar m) (msgAt m)

/-- A cycle's results and timers in Attar's memory. -/
def cycleResults (m : State) : State := { m with sf := { m.sf with
  latLive := BitVec.ofNat 8 (cycleWord m % 256) &&& BitVec.ofNat 8 (soUsed m)
  flags := BitVec.ofNat 8 (cycleWord m / 256)
  timers := (List.range 16).foldl (timerEnd m (cycleWord m / 256)) m.sf.timers } }

/-- The low-side commands are sent and the feedbacks looked at. -/
def cycleSent (m : State) : State := { cycleResults m with sf := { (cycleResults m).sf with
  low := ofBits 8 (lowCmd (cycleResults m)), edmAt := edmWatch (cycleResults m) (siAttar (cycleResults m)) (cycleResults m).sf.edmAt } }

/-- The EDM faults that Attar sees in SO k. -/
def cycleEdm (s : State) (k : Nat) : State := if edmOver s s.sf.edmAt k then edmFaultAt s k else s

/-- The end of a cycle from the messages taken. -/
def cycleEnd (m : State) : State := (List.range 8).foldl cycleEdm (cycleSent m)

theorem exec_attarCycle (dt : Nat) (s : State) : exec (.attarCycle dt) s = .next (settle s (doCycle s dt)) := rfl

theorem doCycle_of_unconfigured {s : State} (dt : Nat) (h : hasCfg s = false) : doCycle s dt = advance s dt :=
  if_pos (show (!hasCfg s) = true by rw [h]; rfl)

theorem doCycle_of_configured {s : State} (dt : Nat) (h : hasCfg s = true) :
    doCycle s dt = cycleEnd (attarMsgs (cycleSnapshot (advance s dt))) := by
  refine (if_neg (show ¬(!hasCfg s) = true by rw [h]; decide)).trans ?_
  dsimp only
  generalize attarMsgs (cycleSnapshot (advance s dt)) = m
  rfl

/-- EDM faults leave the flags and the timers. -/
theorem cycleEdm_results (s : State) (k : Nat) : (cycleEdm s k).sf.flags = s.sf.flags ∧ (cycleEdm s k).sf.timers = s.sf.timers := by
  unfold cycleEdm
  split <;> exact ⟨rfl, rfl⟩

theorem foldl_cycleEdm_results (l : List Nat) (s : State) :
    (l.foldl cycleEdm s).sf.flags = s.sf.flags ∧ (l.foldl cycleEdm s).sf.timers = s.sf.timers := by
  induction l generalizing s with
  | nil => exact ⟨rfl, rfl⟩
  | cons k l ih =>
    obtain ⟨hflags, htimers⟩ := cycleEdm_results s k
    obtain ⟨ihflags, ihtimers⟩ := ih (cycleEdm s k)
    exact ⟨ihflags.trans hflags, ihtimers.trans htimers⟩

theorem cycleSent_flags (m : State) : (cycleSent m).sf.flags = (cycleResults m).sf.flags := by rw [cycleSent]
theorem cycleSent_timers (m : State) : (cycleSent m).sf.timers = (cycleResults m).sf.timers := by rw [cycleSent]

theorem cycleEnd_results (m : State) :
    (cycleEnd m).sf.flags = (cycleResults m).sf.flags ∧ (cycleEnd m).sf.timers = (cycleResults m).sf.timers := by
  rw [cycleEnd, ← cycleSent_flags, ← cycleSent_timers]
  exact foldl_cycleEdm_results _ _

/-- Bit k of a byte of the results. -/
theorem getLsbD_flags_cycleResults (m : State) {k : Nat} (hk : k < 8) :
    (cycleResults m).sf.flags.getLsbD k = (cycleWord m / 256).testBit k := by
  show (BitVec.ofNat 8 (cycleWord m / 256)).getLsbD k = _
  rw [BitVec.getLsbD_ofNat, decide_eq_true hk, Bool.true_and]

theorem testBit_div_256 (w k : Nat) : (w / 256).testBit k = w.testBit (8 + k) := by
  rw [show (256 : Nat) = 2 ^ 8 from rfl, Nat.testBit_div_two_pow, Nat.add_comm]

theorem getLsbD_latLive_cycleResults (m : State) {k : Nat} (hk : k < 8) :
    (cycleResults m).sf.latLive.getLsbD k = ((cycleWord m).testBit k && soIn m k) := by
  show (BitVec.ofNat 8 (cycleWord m % 256) &&& BitVec.ofNat 8 (soUsed m)).getLsbD k = _
  rw [BitVec.getLsbD_and, BitVec.getLsbD_ofNat, BitVec.getLsbD_ofNat, decide_eq_true hk, Bool.true_and, Bool.true_and,
    show (256 : Nat) = 2 ^ 8 from rfl, Nat.testBit_mod_two_pow, decide_eq_true hk, Bool.true_and, soIn]

theorem get_foldl_set_none (l : List Nat) (t : Tab (Option Nat)) (k : Nat) :
    Tab.get (l.foldl (fun acc k => Tab.set acc none k none) t) none k = if k ∈ l then none else Tab.get t none k := by
  induction l generalizing t with
  | nil => rfl
  | cons i l ih =>
    rw [List.foldl_cons, ih, Tab.get_set]
    by_cases hl : k ∈ l <;> by_cases hi : k = i <;> simp [hl, hi]

/-- Without EDM records no feedback counts as wrong. -/
theorem edmWatch_of_none {s : State} (h : ∀ k, sfRec s 0x0805 k = none) (si : BitVec 32) (t : Tab (Option Nat)) {k : Nat} (hk : k < 8) :
    Tab.get (edmWatch s si t) none k = none := by
  simp only [edmWatch, h]
  rw [get_foldl_set_none, if_pos (List.mem_range.2 hk)]

theorem cycleEdm_of_unset {s : State} {k : Nat} (h : Tab.get s.sf.edmAt none k = none) : cycleEdm s k = s :=
  if_neg (by simp [edmOver, h])

theorem cycleEnd_of_none {m : State} (h : ∀ k, sfRec m 0x0805 k = none) : cycleEnd m = cycleSent m := by
  refine List.foldlRecOn _ cycleEdm (motive := fun s => s = cycleSent m) rfl ?_
  rintro s rfl k hk
  exact cycleEdm_of_unset (edmWatch_of_none (s := cycleResults m) h _ _ (List.mem_range.1 hk))

/-- Settles O55: the cycle is its results, the commands sent and the feedbacks; the results come from the term table and the walk over
the timers, and without EDM records the walk over the feedbacks changes nothing. -/
theorem attarAndScComputeTheirResults : Obligations.AttarAndScComputeTheirResults := by
  unfold Obligations.AttarAndScComputeTheirResults
  refine ⟨fun dt s => ?_, fun k dt s => ?_, fun b t x => ⟨fun hoff hin => ?_, fun hoff hin => ?_⟩, fun s n b => ?_⟩
  · intro a m lits fires
    refine ⟨fun hno => by rw [exec_attarCycle, doCycle_of_unconfigured dt hno], fun hcfg => ?_⟩
    refine ⟨cycleEnd m, by rw [exec_attarCycle, doCycle_of_configured dt hcfg], ?_, ?_, ?_⟩
    · intro k hk
      rw [(cycleEnd_results m).1, getLsbD_flags_cycleResults m hk, testBit_div_256]
      exact testBit_attarEval m (siAttar m) (msgAt m) (8 + k)
    · intro k
      rw [(cycleEnd_results m).2]
      refine ⟨fun hk r hr hflag => ?_, fun hno => ?_⟩
      · rw [(cycleEnd_results m).1, getLsbD_flags_cycleResults m hflag]
        exact get_foldl_timerEnd hr _ List.nodup_range (List.mem_range.2 hk) _
      · exact get_foldl_timerEnd_other m _ (hno.imp_left fun h hk => Nat.not_lt.2 h (List.mem_range.1 hk)) _
    · intro hnone
      rw [cycleEnd_of_none hnone]
      refine ⟨rfl, fun k hk => ⟨?_, ?_⟩⟩
      · refine (Bool.eq_iff_iff.1 (getLsbD_latLive_cycleResults m hk)).trans ?_
        rw [Bool.and_eq_true, and_comm]
        exact and_congr_right' (testBit_attarEval m (siAttar m) (msgAt m) k)
      · refine (getLsbD_ofBits 8 _ k).trans ?_
        rw [decide_eq_true hk, Bool.true_and]
        rfl
  · intro a x
    refine ⟨fun r hr => ?_, fun hno => by rw [exec_attarTimerExpiry, doTimerExpiry_of_none dt hno]⟩
    intro waits
    rw [exec_attarTimerExpiry, doTimerExpiry_of_some dt hr]
    refine ⟨fun hwaits htime => ?_, fun hno => ?_⟩
    · rw [if_pos ((Bool.and_eq_true ..).mpr ⟨(timRuns_iff r.body x).2 hwaits, (timMay_iff ..).2 htime⟩)]
    · rw [if_neg]
      intro hand
      obtain ⟨hruns, hmay⟩ := (Bool.and_eq_true ..).mp hand
      exact hno.elim (fun h => h ((timRuns_iff r.body x).1 hruns)) (fun h => absurd ((timMay_iff ..).1 hmay) (Nat.not_le.2 h))
  · rw [timStep_of_offDelay t hoff hin]
    exact ⟨rfl, rfl⟩
  · rw [timStep_of_onDelay t hoff hin]
    exact ⟨rfl, rfl⟩
  · intro ins
    refine ⟨fun h => ?_, fun h => ?_, fun h => ?_⟩
    · exact if_pos h
    · exact (if_neg (by rw [h]; decide)).trans (if_pos h)
    · exact (if_neg (by rw [h]; decide)).trans ((if_neg (by rw [h]; decide)).trans ((if_neg (by rw [h]; decide)).trans (if_pos h)))

end Sys2Proof.Machine

end

section
/-! Proofs about the sync ring (17): a section received, the copies of the tracked state, the dwell and the tracking deadline. -/

namespace Sys2Proof.Machine

open Sys2Proof

/-! ### A section of a peer (17 R500-R502) -/

/-- Of `s` the timebase, the comparison with the master, the target and the holder's part may have changed in `v`. -/
structure RingOnly (s v : State) : Prop where
  frame : v = { s with gr := v.gr, fr := v.fr }
  peers : v.gr.peers = s.gr.peers
  latch : v.gr.latch = s.gr.latch
  gate : v.gr.gate = s.gr.gate
  reach0 : v.gr.reach0 = s.gr.reach0
  reach1 : v.gr.reach1 = s.gr.reach1
  event : v.gr.event = s.gr.event

theorem RingOnly.refl (s : State) : RingOnly s s := ⟨rfl, rfl, rfl, rfl, rfl, rfl, rfl⟩

theorem RingOnly.trans {s v w : State} (h : RingOnly s v) (h' : RingOnly v w) : RingOnly s w where
  frame := h'.frame.trans (by rw [h.frame])
  peers := h'.peers.trans h.peers
  latch := h'.latch.trans h.latch
  gate := h'.gate.trans h.gate
  reach0 := h'.reach0.trans h.reach0
  reach1 := h'.reach1.trans h.reach1
  event := h'.event.trans h.event

theorem unlock_ringOnly (s : State) : RingOnly s (unlock s) := ⟨rfl, rfl, rfl, rfl, rfl, rfl, rfl⟩

theorem dropTarget_ringOnly (s : State) : RingOnly s (dropTarget s) := ⟨rfl, rfl, rfl, rfl, rfl, rfl, rfl⟩

theorem compareMaster_ringOnly (s : State) (x : Section) : RingOnly s (compareMaster s x) := by
  unfold compareMaster
  extract_lets same nxt srcFr srcGr s1
  have h1 : RingOnly s s1 := ⟨rfl, rfl, rfl, rfl, rfl, rfl, rfl⟩
  split
  · exact h1
  · split
    · split
      · exact h1
      · exact ⟨rfl, rfl, rfl, rfl, rfl, rfl, rfl⟩
    · split
      · exact h1.trans (unlock_ringOnly s1)
      · exact h1

/-- A LOCKOUT that a section announces sets this unit's latch. -/
def lockedOut (b : Bool) (s : State) : State :=
  { s with mram := { s.mram with lockout := s.mram.lockout || b }, md := { s.md with pendEdm := s.md.pendEdm || b } }

theorem RingOnly.lockedOut {s v : State} (h : RingOnly s v) (b : Bool) : RingOnly (lockedOut b s) (lockedOut b v) where
  frame := by
    unfold Machine.lockedOut
    rw [h.frame]
  peers := h.peers
  latch := h.latch
  gate := h.gate
  reach0 := h.reach0
  reach1 := h.reach1
  event := h.event

/-- What a section says of its unit, received on a port. -/
def sectionNoted (s : State) (u port : Nat) (x : Section) : State :=
  let s2 := notePeer (if (peer s u).present then s else grEvent s 3) u x
  if port = 0 then { s2 with gr := { s2.gr with reach0 := bset s2.gr.reach0 u } } else { s2 with gr := { s2.gr with reach1 := bset s2.gr.reach1 u } }

/-- The peer that a section describes. -/
def sectionPeer (x : Section) : Peer :=
  { present := true, missed := 0, lostSeen := false, mode := x.mode, claim := x.claim % 65536, score := x.score, synced := x.synced
    staged := x.staged, capped := x.capped, programId := x.programId, agreeCrc := x.agreeCrc, proto := x.proto, dwell := x.dwell }

/-- The group once a section of unit u has been taken on a port. -/
def sectionGr (g : GroupSt) (u port : Nat) (x : Section) (present : Bool) : GroupSt :=
  { g with
    peers := Tab.set g.peers Peer.init u (sectionPeer x)
    reach0 := if port = 0 then bset g.reach0 u else g.reach0
    reach1 := if port = 0 then g.reach1 else bset g.reach1 u
    event := if present then g.event else bset g.event 3 }

theorem sectionNoted_eq (s : State) (u port : Nat) (x : Section) :
    sectionNoted s u port x = { s with gr := sectionGr s.gr u port x (peer s u).present } := by
  unfold sectionNoted sectionGr
  cases (peer s u).present <;> by_cases h : port = 0 <;> simp only [h, if_true, if_false] <;> rfl

/-- The tick comparison where the sender is this unit's time master. -/
def sectionTimed (s s3 : State) (u : Nat) (x : Section) : State :=
  if fromMaster s u x && !timeMaster s then compareMaster s3 x
  else if !groupKnown s && fromMaster s u x then compareMaster s3 x else s3

theorem sectionTimed_ringOnly (s s3 : State) (u : Nat) (x : Section) : RingOnly s3 (sectionTimed s s3 u x) := by
  unfold sectionTimed
  split
  · exact compareMaster_ringOnly s3 x
  · split
    · exact compareMaster_ringOnly s3 x
    · exact .refl s3

/-- The latch where the section announces LOCKOUT. -/
def sectionLocked (s s4 : State) (x : Section) : State :=
  if x.lockout && grouped s then { s4 with mram := { s4.mram with lockout := true }, md := { s4.md with pendEdm := true } } else s4

theorem sectionLocked_eq (s s4 : State) (x : Section) : sectionLocked s s4 x = lockedOut (x.lockout && grouped s) s4 := by
  unfold sectionLocked lockedOut
  cases (x.lockout && grouped s)
  · simp
  · simp

/-- The target that the holder announces, or no longer does. -/
def sectionTarget (s5 : State) (u : Nat) (x : Section) (holds : Bool) : State :=
  if !holds then s5
  else match x.announce with
    | some t => { s5 with gr := { s5.gr with target := some t } }
    | none => match s5.gr.target with
      | some t => if t.1 = u then s5 else dropTarget s5
      | none => s5

theorem sectionTarget_ringOnly (s5 : State) (u : Nat) (x : Section) (holds : Bool) : RingOnly s5 (sectionTarget s5 u x holds) := by
  unfold sectionTarget
  split
  · exact .refl s5
  · split
    · exact ⟨rfl, rfl, rfl, rfl, rfl, rfl, rfl⟩
    · split
      · split
        · exact .refl s5
        · exact dropTarget_ringOnly s5
      · exact .refl s5

/-- The announced target has taken over. -/
def sectionTaken (s6 : State) (u : Nat) (x : Section) : State :=
  match s6.gr.target with
  | some t => if t.1 = u ∧ x.mode = 5 then dropTarget s6 else s6
  | none => s6

theorem sectionTaken_ringOnly (s6 : State) (u : Nat) (x : Section) : RingOnly s6 (sectionTaken s6 u x) := by
  unfold sectionTaken
  split
  · split
    · exact dropTarget_ringOnly s6
    · exact .refl s6
  · exact .refl s6

/-- The tick part of the holder. -/
def sectionPart (s7 : State) (x : Section) (holds : Bool) : State :=
  if holds && s7.gr.tracking && decide (x.frame = s7.fr.frame) then { s7 with gr := { s7.gr with part := x.part.or s7.gr.part } } else s7

theorem sectionPart_ringOnly (s7 : State) (x : Section) (holds : Bool) : RingOnly s7 (sectionPart s7 x holds) := by
  unfold sectionPart
  split
  · exact ⟨rfl, rfl, rfl, rfl, rfl, rfl, rfl⟩
  · exact .refl s7

/-- What a valid section does once it is noted. -/
def sectionActed (s s3 : State) (u : Nat) (x : Section) : State :=
  let holds := decide (s.gr.holder = some u)
  sectionPart (sectionTaken (sectionTarget (sectionLocked s (sectionTimed s s3 u x) x) u x holds) u x) x holds

theorem sectionActed_ringOnly (s s3 : State) (u : Nat) (x : Section) :
    RingOnly (lockedOut (x.lockout && grouped s) s3) (sectionActed s s3 u x) := by
  unfold sectionActed
  rw [sectionLocked_eq]
  exact ((((sectionTimed_ringOnly s s3 u x).lockedOut _).trans (sectionTarget_ringOnly ..)).trans (sectionTaken_ringOnly ..)).trans
    (sectionPart_ringOnly ..)

/-- A unit hears a section of unit u. -/
def hears (s : State) (u : Nat) : Prop :=
  s.md.mode ≠ .reset ∧ u ≠ unitId s ∧ (groupKnown s = false ∨ (grouped s = true ∧ (peerUnits s).contains u = true))

theorem hears_iff (s : State) (u : Nat) :
    hears s u ↔ ¬(s.md.mode = .reset || u = unitId s || (groupKnown s && !(grouped s && (peerUnits s).contains u))) = true := by
  unfold hears
  cases groupKnown s <;> simp [not_or, and_assoc]

theorem exec_syncSectionReceived (unit : Fin 4) (port : Fin 2) (crcOk : Bool) (x : Section) (s : State) :
    exec (.syncSectionReceived unit port crcOk x) s = .next (settle s (doSection s unit.val port.val crcOk x)) := rfl

theorem doSection_of_unheard {s : State} {u : Nat} (port : Nat) (crcOk : Bool) (x : Section) (h : ¬hears s u) :
    doSection s u port crcOk x = s := if_pos (not_not.1 (mt (hears_iff s u).2 h))

theorem doSection_of_discarded {s : State} {u : Nat} (port : Nat) (x : Section) (h : hears s u) :
    doSection s u port false x = syncDiscard s := (if_neg ((hears_iff s u).1 h)).trans (if_pos rfl)

theorem doSection_of_valid {s : State} {u : Nat} (port : Nat) (x : Section) (h : hears s u) :
    doSection s u port true x = sectionActed s (sectionNoted s u port x) u x :=
  (if_neg ((hears_iff s u).1 h)).trans ((if_neg (by decide)).trans rfl)

/-- A valid section notes its unit and may set the latch; beside that it touches the timebase and the handover alone. -/
theorem doSection_frame {s : State} {u : Nat} (port : Nat) (x : Section) (h : hears s u) {v : State} (hv : v = doSection s u port true x) :
    v = { s with
      gr := v.gr, fr := v.fr
      mram := { s.mram with lockout := s.mram.lockout || (x.lockout && grouped s) }
      md := { s.md with pendEdm := s.md.pendEdm || (x.lockout && grouped s) } } ∧
    v.gr.peers = Tab.set s.gr.peers Peer.init u (sectionPeer x) ∧ v.gr.latch = s.gr.latch ∧ v.gr.gate = s.gr.gate ∧
    v.gr.reach0 = (if port = 0 then bset s.gr.reach0 u else s.gr.reach0) ∧ v.gr.reach1 = (if port = 0 then s.gr.reach1 else bset s.gr.reach1 u) ∧
    v.gr.event = if (peer s u).present = true then s.gr.event else bset s.gr.event 3 := by
  have hring : RingOnly (lockedOut (x.lockout && grouped s) (sectionNoted s u port x)) v := by
    rw [hv, doSection_of_valid port x h]
    exact sectionActed_ringOnly s (sectionNoted s u port x) u x
  rw [sectionNoted_eq] at hring
  exact ⟨hring.frame, hring.peers, hring.latch, hring.gate, hring.reach0, hring.reach1, hring.event⟩

/-! ### Events, ports and peers (17 R499, R502, R503, R520) -/

theorem exec_syncEventReceived (ev : SyncEvent) (s : State) : exec (.syncEventReceived ev) s = .next (settle s (doSyncEvent s ev)) := rfl

theorem doSyncEvent_of_idle {s : State} (ev : SyncEvent) (h : grouped s = false ∨ s.gr.tracking = false) : doSyncEvent s ev = s :=
  if_pos (by rcases h with h | h <;> simp [h])

theorem doSyncEvent_of_fifo {s : State} (hg : grouped s = true) (ht : s.gr.tracking = true) (ch : Fin 8) (e : FifoEntry) :
    doSyncEvent s (.fifo ch e) = { s with gr := { s.gr with fifo := Tab.upd s.gr.fifo [] ch.val (fun l => l ++ [e]) } } :=
  if_neg (by rw [hg, ht]; decide)

/-- A frame that the holder has received, stored at its time. -/
def holderFrameStored (s : State) (p t : Nat) (ide : Bool) (id : Nat) (fdf : Bool) (data : List Byte) : State :=
  let r := lookupFrame { s with fr := { s.fr with t10 := t } } p ide id fdf data
  { r with fr := { r.fr with t10 := s.fr.t10 } }

theorem doSyncEvent_of_rxFrame {s : State} (hg : grouped s = true) (ht : s.gr.tracking = true) (p : Fin 4) (t : Nat) (ide : Bool) (id : Nat)
    (fdf : Bool) (data : List Byte) : doSyncEvent s (.rxFrame p t ide id fdf data) = holderFrameStored s p.val t ide id fdf data :=
  if_neg (by rw [hg, ht]; decide)

theorem exec_syncPortDown (port : Fin 2) (s : State) : exec (.syncPortDown port) s = .next (settle s (doPortDown s port.val)) := rfl

theorem doPortDown_of_down {s : State} {port : Nat} (h : s.gr.slUp.getLsbD port = false) : doPortDown s port = s :=
  if_pos (show (!s.gr.slUp.getLsbD port) = true by rw [h]; rfl)

theorem doPortDown_of_up {s : State} {port : Nat} (h : s.gr.slUp.getLsbD port = true) : doPortDown s port = { s with gr := { s.gr with
    slUp := bclr s.gr.slUp port, event := if grouped s = true then bset s.gr.event 4 else s.gr.event } } := by
  refine (if_neg (show ¬(!s.gr.slUp.getLsbD port) = true by rw [h]; decide)).trans ?_
  cases hg : grouped s
  · rfl
  · rfl

theorem exec_peerLost (unit : Fin 4) (s : State) : exec (.peerLost unit) s = .next (settle s (doPeerLost s unit.val)) := rfl

theorem lostNow_iff (s : State) (u : Nat) :
    lostNow s u = true ↔ 8 ≤ (peer s u).missed ∧ (peer s u).lostSeen = false ∧ (peerUnits s).contains u = true := by
  simp only [lostNow, Bool.and_eq_true, decide_eq_true_eq, Bool.not_eq_true', and_assoc]

theorem exec_timeMasterFallback (s : State) : exec .timeMasterFallback s = .next (settle s (doFallback s)) := rfl

/-- Eight frames have passed without a comparison from the master. -/
def masterSilent (s : State) : Prop := grouped s = true ∧ tbLocked s = true ∧ timeMaster s = false ∧ 8 ≤ s.gr.masterMiss

theorem masterSilent_iff (s : State) :
    masterSilent s ↔ (grouped s && tbLocked s && !timeMaster s && decide (8 ≤ s.gr.masterMiss)) = true := by
  simp only [masterSilent, Bool.and_eq_true, decide_eq_true_eq, Bool.not_eq_true', and_assoc]

theorem doFallback_of_silent {s : State} (h : masterSilent s) : doFallback s = unlock s := if_pos ((masterSilent_iff s).1 h)
theorem doFallback_of_heard {s : State} (h : ¬masterSilent s) : doFallback s = s := if_neg (mt (masterSilent_iff s).2 h)

/-! ### The copies of the tracked state (17 R503-R505, R508) -/

/-- The join copy has been asked for. -/
def joinAsked (s : State) : Prop := s.gr.joining = true ∧ s.gr.joined = false ∧ s.gr.tracking = false

theorem joinAsked_iff (s : State) : joinAsked s ↔ ¬(!(s.gr.joining && !s.gr.joined && !s.gr.tracking)) = true := by
  simp [joinAsked, and_assoc]

theorem exec_joinCopyDone (ok : Bool) (mib all : Nat) (c : Tracked) (s : State) :
    exec (.joinCopyDone ok mib all c) s = .next (settle s (doJoinCopy s ok mib all c)) := rfl

theorem doJoinCopy_of_unasked {s : State} (ok : Bool) (mib all : Nat) (c : Tracked) (h : ¬joinAsked s) : doJoinCopy s ok mib all c = s :=
  if_pos (not_not.1 (mt (joinAsked_iff s).2 h))

theorem doJoinCopy_of_failed {s : State} (mib all : Nat) (c : Tracked) (h : joinAsked s) : doJoinCopy s false mib all c =
    { s with gr := { s.gr with joining := false, joinMib := mib, joinAll := all } } :=
  (if_neg ((joinAsked_iff s).1 h)).trans (if_pos rfl)

theorem doJoinCopy_of_copied {s : State} (mib all : Nat) (c : Tracked) (h : joinAsked s) : doJoinCopy s true mib all c =
    { loadTracked s c with gr := { s.gr with joined := true, bgDone := false, joinMib := mib, joinAll := all } } :=
  (if_neg ((joinAsked_iff s).1 h)).trans (if_neg (by decide))

/-- A number that is no key of a table has the default. -/
theorem Tab.get_of_not_mem {α : Type} {t : Tab α} {k : Nat} (h : k ∉ t.map (·.1)) (d : α) : Tab.get t d k = d := by
  induction t with
  | nil => rfl
  | cons x r ih =>
    obtain ⟨hx, hr⟩ := not_or.1 (fun hor => h (List.mem_cons.2 hor))
    exact (if_neg (Ne.symm hx)).trans (ih hr)

/-- Where a second change adds nothing to the first, an item may be listed more than once. -/
theorem Tab.get_updMany_of_idem {α : Type} [DecidableEq α] (d : α) {f : Nat → α → α} (hf : ∀ k x, f k (f k x) = f k x) (ks : List Nat)
    (t : Tab α) (k : Nat) : Tab.get (Tab.updMany t d ks f) d k = if k ∈ ks then f k (Tab.get t d k) else Tab.get t d k := by
  induction ks generalizing t with
  | nil => rfl
  | cons i r ih =>
    refine (ih (Tab.set t d i (f i (Tab.get t d i)))).trans ?_
    rw [Tab.get_set]
    by_cases hi : k = i
    · subst hi
      simp [hf]
    · simp [hi]

/-- A task of the copy keeps this unit's own peak. -/
theorem get_ownPeaks (mine theirs : Tab TaskSt) (t : Nat) :
    Tab.get (ownPeaks mine theirs) TaskSt.init t = { Tab.get theirs TaskSt.init t with peak := (Tab.get mine TaskSt.init t).peak } := by
  unfold ownPeaks
  rw [Tab.get_updMany_of_idem TaskSt.init (f := fun t x => { x with peak := (Tab.get mine TaskSt.init t).peak }) (fun _ _ => rfl)]
  split
  · rfl
  · next h =>
    rw [List.map_append, List.mem_append, not_or] at h
    rw [Tab.get_of_not_mem h.1, Tab.get_of_not_mem h.2]

theorem exec_backgroundCopyDone (mib : Nat) (c : TrackedBg) (s : State) :
    exec (.backgroundCopyDone mib c) s = .next (settle s (doBackground s mib c)) := rfl

theorem doBackground_of_idle {s : State} (mib : Nat) (c : TrackedBg) (h : s.gr.tracking = false ∨ s.gr.bgDone = true) :
    doBackground s mib c = s := if_pos (by rcases h with h | h <;> simp [h])

theorem doBackground_of_tracking {s : State} (mib : Nat) (c : TrackedBg) (ht : s.gr.tracking = true) (hb : s.gr.bgDone = false) :
    doBackground s mib c = { s with
      pt := { s.pt with recs := c.recs, rings := c.rings, journal := c.journal }
      gr := { s.gr with bgDone := true, joining := false, joinMib := mib, dwellFrom := some s.fr.t10 } } :=
  if_neg (by rw [ht, hb]; decide)

theorem dwellOver_iff (s : State) : dwellOver s = true ↔ s.gr.tracking = true ∧ s.gr.bgDone = true ∧ s.gr.dwellDone = false ∧
    ∃ f, s.gr.dwellFrom = some f ∧ f + u16 (cfgBody s 0x0901 0) 2 * 100000000 ≤ s.fr.t10 := by
  unfold dwellOver dwellS
  cases s.gr.dwellFrom <;> simp [and_assoc]

theorem exec_dwellEnd (dt : Nat) (s : State) : exec (.dwellEnd dt) s = .next (settle s (doDwellEnd s dt)) := rfl

theorem doDwellEnd_of_over {s : State} (dt : Nat) (h : dwellOver (advance s dt) = true) (hm : s.md.mode = .standby) :
    doDwellEnd s dt = { advance s dt with gr := { s.gr with
      dwellDone := true, synced := true, event := if s.gr.synced = true then s.gr.event else bset s.gr.event 7 } } := by
  refine (if_pos ((Bool.and_eq_true ..).mpr ⟨h, decide_eq_true hm⟩)).trans ?_
  unfold becomeSynced
  cases hs : s.gr.synced
  · exact if_neg (show ¬s.gr.synced = true by rw [hs]; decide)
  · refine (if_pos (show s.gr.synced = true from hs)).trans ?_
    rw [if_pos rfl, ← hs]
    rfl

theorem doDwellEnd_of_not_over {s : State} (dt : Nat) (h : ¬(dwellOver (advance s dt) = true ∧ s.md.mode = .standby)) :
    doDwellEnd s dt = advance s dt :=
  if_neg fun hand => h (((Bool.and_eq_true ..).mp hand).imp_right of_decide_eq_true)

/-! ### The end of a handover request (17 R513, R514) -/

theorem abandonNow_iff (s : State) : abandonNow s = true ↔
    ∃ j r, s.gr.reqFrame = some j ∧ s.gr.round = some r ∧ s.gr.latch ≠ 2 ∧ j + 8 ≤ r := by
  unfold abandonNow
  cases s.gr.reqFrame <;> cases s.gr.round <;> simp

theorem exec_handoverAbandon (s : State) : exec .handoverAbandon s = .next (settle s (doAbandon s)) := rfl

theorem exec_diagGroupCapClr {s : State} (v : Word) (h : hostUp s = true) : exec (.diagGroupCapClr v) s = .next (settle s (doCapClr s v)) :=
  done_hostAccess_of_up h

/-! ### The tracking deadline (17 R504) -/

theorem exec_trackingDeadline (digest : Nat) (s : State) :
    exec (.trackingDeadline digest) s = .next (settle s (doDeadline s (some digest))) := rfl

theorem doDeadline_of_idle {s : State} (d : Option Nat) (h : s.gr.waiting = false) : doDeadline s d = s := if_pos (by rw [h]; rfl)

/-- The frame at the deadline, whose part no longer waits. -/
def deadlineReached (s : State) : State :=
  let a := advanceTo s (s.fr.tick + 380)
  { a with gr := { s.gr with waiting := false, tickIn := none } }

section
variable {s : State} {i : TickIn} {digest : Nat} (hw : s.gr.waiting = true) (hi : s.gr.tickIn = some i)
include hw hi

theorem doDeadline_of_equal {p : TickPart} (hp : s.gr.part = some p) (hd : p.digest = digest) :
    doDeadline s (some digest) = runTracked p i (deadlineReached s) := by
  simp only [doDeadline, deadlineReached, hw, hi, advanceTo_gr, hp, hd, Bool.not_true, Bool.false_eq_true, if_false, if_true, Option.getD_some]

theorem doDeadline_of_silent (hp : s.gr.part = none) : doDeadline s (some digest) = runUntracked 4 i (deadlineReached s) := by
  simp only [doDeadline, deadlineReached, hw, hi, advanceTo_gr, hp, Bool.not_true, Bool.false_eq_true, if_false, Option.getD_some]

theorem doDeadline_of_different {p : TickPart} (hp : s.gr.part = some p) (hd : p.digest ≠ digest) : doDeadline s (some digest) =
    runUntracked 6 i { deadlineReached s with gr := { (deadlineReached s).gr with diffs := satInc32 s.gr.diffs } } := by
  simp only [doDeadline, deadlineReached, hw, hi, advanceTo_gr, hp, hd, Bool.not_true, Bool.false_eq_true, if_false, Option.getD_some]

end

/-- Settles O57: each row of the ring by the lemmas of its cases. -/
theorem theSyncRingKeepsAStandby : Obligations.TheSyncRingKeepsAStandby := by
  unfold Obligations.TheSyncRingKeepsAStandby
  refine ⟨fun unit port crcOk x s => ?_, fun ev s => ⟨fun h => ?_, fun hg ht => ⟨?_, ?_⟩⟩, fun port s => ⟨rfl, fun h => ?_, fun h => ?_⟩,
    fun unit s => ?_, fun s => ?_, fun ok mib all c s => ?_, get_ownPeaks, fun mib c s => ⟨fun h => ?_, fun ht hb => ?_⟩, fun dt s => ?_,
    fun s => ?_, fun v s hup => ?_, fun digest s => ?_⟩
  · intro u heard
    refine ⟨fun h => ?_, fun h hcrc => ?_, fun h hcrc => ?_⟩
    · rw [exec_syncSectionReceived, doSection_of_unheard (u := unit.val) port.val crcOk x h]
    · rw [exec_syncSectionReceived, hcrc, doSection_of_discarded (u := unit.val) port.val x h]
      rfl
    · obtain ⟨v, hv⟩ : ∃ v, v = doSection s unit.val port.val true x := ⟨_, rfl⟩
      obtain ⟨hframe, hpeers, hlatch, hgate, hr0, hr1, hevent⟩ := doSection_frame port.val x h hv
      have hpeer (i : Nat) : peer v i = if i = u then sectionPeer x else peer s i := by
        rw [peer, hpeers, Tab.get_set]
        rfl
      exact ⟨v, by rw [exec_syncSectionReceived, hcrc, hv], hframe, (hpeer u).trans (if_pos rfl), fun i hi => (hpeer i).trans (if_neg hi),
        hlatch, hgate, hr0, hr1, hevent⟩
  · rw [exec_syncEventReceived, doSyncEvent_of_idle ev h]
  · rintro ch e rfl
    rw [exec_syncEventReceived, doSyncEvent_of_fifo hg ht]
  · rintro p t ide id fdf data rfl
    rw [exec_syncEventReceived, doSyncEvent_of_rxFrame hg ht, holderFrameStored]
  · rw [exec_syncPortDown, doPortDown_of_down h]
  · rw [exec_syncPortDown, doPortDown_of_up h]
  · intro silent
    have hlost : lostNow s unit.val = true ↔ silent := lostNow_iff s unit.val
    refine ⟨fun h => ?_, fun h => ?_⟩
    · rw [exec_peerLost, doPeerLost, if_pos (hlost.2 h)]
    · rw [exec_peerLost, doPeerLost, if_neg (mt hlost.1 h)]
  · intro late
    refine ⟨fun h => ?_, fun h => ?_⟩
    · rw [exec_timeMasterFallback, doFallback_of_silent h]
      rfl
    · rw [exec_timeMasterFallback, doFallback_of_heard h]
  · intro asked
    refine ⟨fun h => ?_, fun h hok => ?_, fun h hok => ?_⟩
    · rw [exec_joinCopyDone, doJoinCopy_of_unasked ok mib all c h]
    · rw [exec_joinCopyDone, hok, doJoinCopy_of_failed mib all c h]
    · rw [exec_joinCopyDone, hok, doJoinCopy_of_copied mib all c h]
      rfl
  · rw [exec_backgroundCopyDone, doBackground_of_idle mib c h]
  · rw [exec_backgroundCopyDone, doBackground_of_tracking mib c ht hb]
  · intro a ended
    refine ⟨fun h => ?_, fun h => ?_⟩
    · obtain ⟨ht, hb, hd, hm, hf⟩ := h
      rw [exec_dwellEnd, doDwellEnd_of_over dt ((dwellOver_iff a).2 ⟨ht, hb, hd, hf⟩) hm]
    · rw [exec_dwellEnd, doDwellEnd_of_not_over dt]
      rintro ⟨hover, hm⟩
      obtain ⟨ht, hb, hd, hf⟩ := (dwellOver_iff a).1 hover
      exact h ⟨ht, hb, hd, hm, hf⟩
  · intro fails
    refine ⟨fun h => ?_, fun h => ?_⟩
    · rw [exec_handoverAbandon, doAbandon, if_pos ((abandonNow_iff s).2 h)]
      rfl
    · rw [exec_handoverAbandon, doAbandon, if_neg (mt (abandonNow_iff s).1 h)]
  · rw [exec_diagGroupCapClr v hup, doCapClr, testBit_getLsbD]
  · intro a w
    refine ⟨fun h => by rw [exec_trackingDeadline, doDeadline_of_idle _ h], fun i hw hi => ⟨fun p hp hd => ?_, fun hp => ?_, fun p hp hd => ?_⟩⟩
    · rw [exec_trackingDeadline, doDeadline_of_equal hw hi hp hd]
      rfl
    · rw [exec_trackingDeadline, doDeadline_of_silent hw hi hp]
      rfl
    · rw [exec_trackingDeadline, doDeadline_of_different hw hi hp hd]
      rfl

end Sys2Proof.Machine

end
